-- ==== Sys2Proof/Word.lean ====
section
/-!
DEFINITION. The word that software reads and writes whole (R8), and the plainest arithmetic on it.
Everything else of the model that the manual treats as a count, a size or an index is a Nat.
-/

namespace Sys2Proof

/-- A register as software sees it: 32 bits (R8). -/
abbrev Word := BitVec 32

end Sys2Proof
end

