-- ==== Sys2Proof/Syntax.lean ====
section
/-!
DEFINITION. The commands of the NP32: one constructor per row of spec/opcode_table.json, and the types of their operands.
A command is a happening at the block's edge (a register access, a packet, a pin, the end of a drive command) or an
instant that the spec names (the end of an interval, a step of a sequence). What a command carries is what its sender,
or the world outside, decides; everything else is read from the state.
-/

namespace Sys2Proof

/-- The access paths of R66. -/
inductive Path where
  | window | ring | cox | pldm
deriving DecidableEq, Repr

/-- The straps as they stand at the pins when they are sampled (R43, R522). -/
structure Straps where
  settle : Nat
  bayMaster : Bool
  twinPrsnt : Bool
deriving DecidableEq, Repr

/-- The outcomes of the two cryptographic checks of R55 on a copy, and the SHA3-512 of its PUBKEY: results of published
algorithms over the bytes of the copy. -/
structure CopyFacts where
  pubkeyDigest : Nat
  signatureVerifies : Bool
  digestMatches : Bool
deriving DecidableEq, Repr

/-- A 64 B inbound ring entry (R407): the fields of its layout; `inline` holds the bytes from offset 24. -/
structure Entry where
  opcode : Nat
  count : Nat
  code : Nat
  dlen : Nat
  item : Nat
  daddr : Nat
  inline : List Nat
deriving DecidableEq, Repr

/-- A configuration request of the steward host (R422 to R424), by what it reaches. -/
inductive CfgReq where
  /-- Read of a doubleword of the type 0 header or of another register. -/
  | read (offset : Nat)
  /-- Write of Memory Space Enable and Bus Master Enable (R435). -/
  | enables (memSpace busMaster : Bool)
  /-- Write of the two doublewords of BAR0–BAR1. -/
  | bar0 (value : Nat)
  /-- Write of the Expansion ROM BAR: address, and its enable bit (R427). -/
  | romBar (value : Nat) (enable : Bool)
  /-- Return of the function to D0. -/
  | powerD0
  /-- Write of IDO Request Enable and IDO Completion Enable (R425). -/
  | ido (request completion : Bool)
  /-- Masking of one MSI-X vector, or of the function (R433). -/
  | msixMask (vector : Option Nat)
  /-- Write and read of a doubleword of the MSI-X table and pending bit array in BAR0, at an offset from 0x01_0000 (R426, R433). -/
  | msixWrite (offset value : Nat)
  | msixRead (offset : Nat)
  /-- Write of a register that the table of R422 does not list (R423). -/
  | other (offset value : Nat)
deriving DecidableEq, Repr

/-- The proof that a signed vendor command carries (R455): its challenge, key slot, the SHA3-512 of its PUBKEY and
whether its signature verifies. -/
structure SigBlock where
  challenge : Nat
  endpoint : Nat
  keyslot : Nat
  pubkeyDigest : Nat
  verifies : Bool
deriving DecidableEq, Repr

/-- What a received frame carries (R344 to R348). -/
inductive FrameBody where
  /-- A Skiff packet: source IP address, UDP source port, process tag, DSCP, and whether it carries an ECT codepoint. -/
  | skiff (ip port ptag dscp : Nat) (ect : Bool)
  /-- An ARP request for an IPv4 address. -/
  | arp (target : Nat)
  /-- A neighbour solicitation for an IPv6 address. -/
  | neighbour (target : Nat)
  | ptp
  /-- A PAUSE or priority flow control frame. -/
  | pause
  | other
deriving DecidableEq, Repr

/-- The GCM envelope of a packet with ENC set (R319), as its check sees it: key slot, bit 95 of the nonce, and whether the
tag verifies under the slot's key, which is a result of AES-256-GCM. -/
structure Envelope where
  slot : Nat
  nonceTop : Bool
  tagOk : Bool
deriving DecidableEq, Repr

/-- The encapsulation and base header of a Skiff packet as it arrives (R97, R100). `dport` is the UDP destination port; `ipPlain` says
that an IPv4 header has no options, or an IPv6 header no extension headers; `csumZero` and `csumOk` say what the UDP checksum is.
`flag…` are bits of VER_FLAGS, `ce` a CE mark, `udpLen` the bytes of the UDP payload after base header and extension. -/
structure SkHdr where
  dport : Nat
  ipPlain : Bool
  fragment : Bool
  csumZero : Bool
  csumOk : Bool
  ip : Nat
  port : Nat
  ptag : Nat
  v6 : Bool
  lport : Nat
  mac : Nat
  vlan : Option Nat
  dscp : Nat
  ce : Bool
  version : Nat
  opcode : Nat
  payLen : Nat
  udpLen : Nat
  gen : Nat
  seq : Nat
  flagAck : Bool
  ackseq : Nat
  flagEce : Bool
  flagAr : Bool
  flagShv : Bool
  dstShelf : Nat
  srcShelf : Nat
  tsval : Nat
  tsecr : Nat
  enc : Option Envelope
deriving DecidableEq, Repr

/-- The extension of a MSG (R101), the bytes of the part, and, for a command capsule, its CNTLID, QID and CID. -/
structure MsgPart where
  msgid : Nat
  offset : Nat
  mtype : Nat
  msglen : Nat
  trig : Nat
  bytes : Nat
  cap : Option (Nat × Nat × Nat)
deriving DecidableEq, Repr

/-- What a packet from a peer carries: a part of a message; fetched data of `len` bytes as one little-endian number; an
acknowledgement alone; or a NAK. -/
inductive PktBody where
  | msg (p : MsgPart)
  | fdata (ftag offset len data : Nat)
  | ack
  | nak (code nseq : Nat)
deriving DecidableEq, Repr

/-- What an on-die SRAM array holds (R506). -/
inductive ArrayUse where
  | flowRecords
  | contexts
  | cells
  | other
deriving DecidableEq, Repr

/-- An entry of a chain (R126). `body` is the 64 B submission queue entry of a SUBMIT, as one little-endian number. -/
inductive ChainEntry where
  | submit (cntlid qid cid msgid body : Nat)
  | placeImm (addr value : Nat)
deriving DecidableEq, Repr

/-- The flow on which a capsule or message arrived: address, UDP source port, process tag. -/
structure FlowRef where
  ip : Nat
  port : Nat
  ptag : Nat
deriving DecidableEq, Repr

/-- The frame and the common part of a command capsule (R137): where it came from, its identifiers, KEYHI, and whether a
reserved field is not zero or a value lies outside its range (R149). -/
structure Capsule where
  flow : FlowRef
  cntlid : Nat
  qid : Nat
  cid : Nat
  msgid : Nat
  keyhi : Nat
  /-- The GCM slot under which the capsule arrived, if it had ENC set (R325). -/
  enc : Option Nat
  bad : Bool
  /-- The capsule carries an opcode that the tables of R149 and R151 do not list, in the place of the row's own. -/
  alien : Bool
deriving DecidableEq, Repr

/-- The data descriptor of a command (R153): keyed descriptors with address, length and 4 B key, or in-capsule data as
one little-endian number of `len` bytes. -/
inductive Sgl where
  | keyed (blocks : List (Nat × Nat × Nat))
  | inCapsule (len data : Nat)
  | unsupported
deriving DecidableEq, Repr

/-- The fields of a read, write, compare or write zeroes (R149). `nlb` is zero-based. -/
structure IoReq where
  nsid : Nat
  slba : Nat
  nlb : Nat
  pract : Bool
  prchk : Nat
  lbat : Nat
  lbatm : Nat
  reftag : Nat
  deac : Bool
  sgl : Sgl
deriving DecidableEq, Repr

/-- A command of the target with the fields it uses (R149, R151, R152). -/
inductive Req where
  | flush (nsid : Nat)
  | write (io : IoReq)
  | read (io : IoReq)
  | compare (io : IoReq)
  | writeZeroes (io : IoReq)
  /-- `nr` is zero-based. The ranges, as first LBA and number, and the keys of the reservation commands are data that a FETCH brings
  (R155): empty and 0 until then. -/
  | dsm (nsid nr : Nat) (ad : Bool) (sgl : Sgl) (ranges : List (Nat × Nat))
  | rsvRegister (nsid action : Nat) (ignoreKey : Bool) (cptpl : Nat) (sgl : Sgl) (curKey newKey : Nat)
  | rsvReport (nsid numd : Nat) (eds : Bool) (sgl : Sgl)
  | rsvAcquire (nsid action rtype : Nat) (ignoreKey : Bool) (sgl : Sgl) (curKey preKey : Nat)
  | rsvRelease (nsid action rtype : Nat) (ignoreKey : Bool) (sgl : Sgl) (curKey : Nat)
  | getLog (lid nsid offset numd : Nat) (sgl : Sgl)
  | identify (cns nsid cntid csi : Nat) (sgl : Sgl)
  | abort (sqid cid : Nat)
  | setFeatures (fid nsid value : Nat)
  | getFeatures (fid nsid : Nat) (sgl : Sgl)
  | aer
  | keepAlive
  | connect (qid sqsize kato hostid dataCntlid : Nat) (nqnMatches : Bool)
  | propertySet (offset value : Nat)
  | propertyGet (offset : Nat)
  | disconnect
  /-- A mirrored write, write of zeros or deallocation of a federation primary (R287), which takes a context too (R145). -/
  | mirrored (vol slba nlb : Nat) (zero dealloc : Bool) (data : Nat)
deriving DecidableEq, Repr

/-- A seat label (R210): crew, seat, fingerprint, generation, K, the codes of chunk and journal area, ROWS, the state of each seat,
and S of R207. -/
structure Label where
  crew : Nat
  seat : Nat
  print : Nat
  gen : Nat
  k : Nat
  chunk : Nat
  jarea : Nat
  rows : Nat
  states : List Nat
  smin : Nat
deriving DecidableEq, Repr

/-- A range of a torn table (R243) as it is read: number, volume, cause, first LBA, zero-based number of LBAs, heat. -/
structure TornRange where
  num : Nat
  vol : Nat
  cause : Nat
  slba : Nat
  nlb : Nat
  heat : Nat
deriving DecidableEq, Repr

/-- A journal record as replay reads it (R236): `last` and `set` are its flags, `len` counts payload bytes. -/
structure FoundRec where
  kind : Nat
  last : Bool
  set : Bool
  vol : Nat
  group : Nat
  addr : Nat
  aux : Nat
  count : Nat
  len : Nat
  payload : List Nat
deriving DecidableEq, Repr

/-- A block of a journal area that checks (R235, R241): its seat and slot; KIND, START, HEAT, INDEX, USED, RSEQ, CHAIN and CRC of its
header; the records that begin in it, or its intent entries; and of a checkpoint the fields of R239: record count, block count,
CLEAN, START and HEAT of LIVE, and the CHAIN of the last journal block. -/
structure FoundBlock where
  seat : Nat
  slot : Nat
  kind : Nat
  start : Nat
  heat : Nat
  index : Nat
  used : Nat
  rseq : Nat
  chain : Nat
  crc : Nat
  recs : List FoundRec
  entries : List Nat
deriving DecidableEq, Repr

/-- A copy of the map of a privileged volume (R228, R229): which of the two, the fields of its header and whether its CRC is right, and
its entries that are not unmapped, by grain. -/
structure MapCopy where
  vol : Nat
  copy : Nat
  pass : Nat
  heat : Nat
  cap : Nat
  crcOk : Bool
  entries : List (Nat × Nat)
deriving DecidableEq, Repr

/-- What the media of a crew hold, as assembly reads it: torn table, map copies, and every block of the journal areas that checks. -/
structure CrewMedia where
  torn : List TornRange
  maps : List MapCopy
  blocks : List FoundBlock
deriving DecidableEq, Repr

/-- A frame of the twin link as it arrives (R274): SEQ, ACKSEQ, and whether its CRC is good. -/
structure TwHdr where
  seq : Nat
  ackseq : Nat
  crcOk : Bool
deriving DecidableEq, Repr

/-- A block image of a crew (R273), with START, HEAT, KIND, INDEX and USED of its header. -/
structure BlockRec where
  crew : Nat
  start : Nat
  kind : Nat
  heat : Nat
  index : Nat
  used : Nat
  recs : List FoundRec
  entries : List Nat
deriving DecidableEq, Repr

/-- A command record (R273): identifiers, flow, KEYHI, GCM slot, submission queue entry, delivery time and answer point. -/
structure CmdRec where
  cntlid : Nat
  qid : Nat
  cid : Nat
  msgid : Nat
  flow : FlowRef
  keyhi : Nat
  enc : Option Nat
  req : Req
  deliveredAt : Nat
  answerAt : Nat
deriving DecidableEq, Repr

/-- The state of a command (R273): 0 not committed, 1 committed, 2 answered, 3 released; SCT, SC, DNR and DW0 of its answer;
and its journal group as crew, heat and number. -/
structure StateRec where
  cntlid : Nat
  qid : Nat
  cid : Nat
  msgid : Nat
  state : Nat
  answer : Option (Nat × Nat × Bool × Nat)
  group : Option (Nat × Nat × Nat)
deriving DecidableEq, Repr

/-- An association record (R273), with the encapsulation of its host's last packet. `gone` says that it has ended, `served`
that the sender serves it for its home. -/
structure AssocRec where
  cntlid : Nat
  hostid : Nat
  sub : Nat
  flow : FlowRef
  mac : Nat
  vlan : Option Nat
  dscp : Nat
  lport : Nat
  kato : Nat
  cc : Nat
  queues : List (Nat × Nat)
  sqhd : List (Nat × Nat)
  ioQueues : Nat
  gone : Bool
  served : Bool
deriving DecidableEq, Repr

/-- Seats of a crew (R273): their states and bays, the rebuild frontier, and what the labels hold besides (R210). -/
structure CrewRec where
  crew : Nat
  states : List Nat
  bays : List Nat
  frontier : Nat
  print : Nat
  gen : Nat
  smin : Nat
deriving DecidableEq, Repr

/-- What a CREW frame carries: seats, or the start or end of a sanitize of a bay (R471). -/
inductive CrewNews where
  | seats (r : CrewRec)
  | sanitize (bay : Nat) (running : Bool)
deriving DecidableEq, Repr

/-- What a SYNC frame carries (R284). A reservation is its NSID, generation, registrants, type, holder and PTPL. -/
inductive SyncPart where
  | assoc (r : AssocRec)
  | cmd (r : CmdRec)
  | state (r : StateRec)
  | block (r : BlockRec)
  | crew (r : CrewRec)
  | map (vol : Nat) (entries : List (Nat × Nat))
  | reservation (nsid gen : Nat) (regs : List (Nat × Nat)) (rtype : Nat) (holder : Option Nat) (ptpl : Bool)
  | done
deriving DecidableEq, Repr

/-- The three parts of a resync (R289): the primary sends a dirty unit, whose content it has read; a secondary receives a
RESYNC message; the primary receives its ACK. -/
inductive ResyncStep where
  | send (pairing unit : Nat) (zero : Bool) (data : Nat)
  | arrive (flow : FlowRef) (msgid vol token heat slba nlb : Nat) (zero : Bool) (data : Nat)
  | acked (flow : FlowRef) (msgid token : Nat)
deriving DecidableEq, Repr

/-- How a drive command ends: with success and, for a read, the sector's content; with a media error; with another error; or
with a drive path error (R253). An error carries the NVMe status of the drive, 16 bits as R413 gives it to the host. -/
inductive DriveEnd where
  | ok (value : Nat)
  | media (status : Nat)
  | other (status : Nat)
  | path
deriving DecidableEq, Repr

/-- What the world outside decides of a turn: its length in ns, whether the partner acknowledged the mirrored checkpoint by step 7
(R189), and whether the digest of new cox firmware, checked at phase 5 of R464, matches. -/
structure TurnFacts where
  len : Nat
  acked : Bool
  digestOk : Bool
deriving DecidableEq, Repr


/-- The commands: one constructor per row of spec/opcode_table.json. -/
inductive Instr where
  /-- REGISTER_WRITE (R11). -/
  | registerWrite (path : Path) (addr width value : Nat)
  /-- RC_READ (R10). -/
  | rcRead (path : Path) (addr : Nat)
  /-- COLD_START (R38). -/
  | coldStart (straps : Straps) (norAnswers : Bool) (norCap : Nat) (fault : Option Nat)
  /-- SETTLE_DELAY_END (R47). -/
  | settleDelayEnd (fault : Option Nat)
  /-- REFERENCE_CHECK (R48). -/
  | referenceCheck (aState bState : Nat) (fault : Option Nat)
  /-- REFERENCE_CHECK_RETRY (R49). -/
  | referenceCheckRetry (aState bState : Nat) (fault : Option Nat)
  /-- COPY_CHECK_COMPLETE (R56). -/
  | copyCheckComplete (facts : CopyFacts) (fault : Option Nat)
  /-- IMAGE_APPLY (R64). -/
  | imageApply (fault : Option Nat) (logFails : List Nat)
  /-- LINK_TRAINING_END (R38). -/
  | linkTrainingEnd (fault : Option Nat)
  /-- PWR_FAIL_BEFORE_READY (R41). -/
  | pwrFailBeforeReady
  /-- START_RESUME (R41). -/
  | startResume
  /-- RECOVERY_STATUS (R60). Of the recovery commands: an operand on the console; by the endpoint there is none, since BAR0 holds it. -/
  | recoveryStatus (ep : Bool)
  /-- RECOVERY_ERASE (R60). -/
  | recoveryErase (offset : Option Nat)
  /-- RECOVERY_WRITE (R60). -/
  | recoveryWrite (data : Option (Nat × List Nat))
  /-- RECOVERY_CHECK (R60). -/
  | recoveryCheck (copy : Option Nat) (facts : CopyFacts)
  /-- RECOVERY_RESTART (R60). -/
  | recoveryRestart (ep : Bool) (straps : Straps)
  /-- SYS_RST_N (R67). -/
  | sysRstN
  /-- SYS_RESET_SYSTEM (R67). -/
  | sysResetSystem (value : Word) (straps : Straps)
  /-- SYS_RESET_COX (R69). -/
  | sysResetCox (value : Word) (digestOk : Bool)
  /-- COX_WATCHDOG_EXPIRY (R442). -/
  | coxWatchdogExpiry (core : Nat) (digestOk : Bool)
  /-- ENDPOINT_RESET (R70). -/
  | endpointReset (perst : Bool)
  /-- FALLBACK_POINT (R29). -/
  | fallbackPoint (tag : Nat)
  /-- ENDPOINT_LINK_DOWN (R31). -/
  | endpointLinkDown
  /-- ENDPOINT_LINK_UP (R435). -/
  | endpointLinkUp (speed width : Nat) (hostRef : Option Nat)
  /-- PACE_CONTROL_TICK (R75). -/
  | paceControlTick (readings : List (List Nat))
  /-- PACE_THERMAL_STEP (R78). -/
  | paceThermalStep (highest : Int)
  /-- REFERENCE_STOPPED (R82). -/
  | referenceStopped (ref : Nat)
  /-- GROSS_WINDOW (R82). -/
  | grossWindow (ref : Nat) (ppmOff : Nat)
  /-- PPM_WINDOW (R82). -/
  | ppmWindow (ppb : Int) (offA offB : Nat)
  /-- REFERENCE_RETURN_GOOD (R83). -/
  | referenceReturnGood (ref : Nat)
  /-- HOLDOVER_EXPIRY (R88). -/
  | holdoverExpiry
  /-- WATCH_MODE_RESTART (R89). -/
  | watchModeRestart (straps : Straps)
  /-- CLK_MUX_GLITCH_FREE_SWITCH (R96). -/
  | clkMuxGlitchFreeSwitch (value : Word)
  /-- CLK_MUX_HARD_CUT (R91). -/
  | clkMuxHardCut (value : Word)
  /-- MUX_SWITCH_COMPLETE (R90). -/
  | muxSwitchComplete (dom : Nat)
  /-- MUX_HANG_BREAK (R90). -/
  | muxHangBreak (dom : Nat)
  /-- PLL_RELOCK (R91). -/
  | pllRelock (dom : Nat)
  /-- GATE_IDLE_CLOSE (R92). -/
  | gateIdleClose (unit : Nat)
  /-- GATE_REOPEN (R92). -/
  | gateReopen (unit : Nat)
  /-- CLK_GATE_FORCE (R94): accesses pending at a unit, as unit, path, address, whether it writes, and the ring of a register entry. -/
  | clkGateForce (bay : Bool) (value : Word) (accessPending : List (Nat × Path × Nat × Bool × Nat))
  /-- FORCED_GATE_TIMEOUT (R94). -/
  | forcedGateTimeout (unit : Nat)
  /-- FRAME_RECEIVE (R344). -/
  | frameReceive (lport len : Nat) (fcsOk : Bool) (mac : Nat) (vlan : Option Nat) (body : FrameBody)
  /-- MSG_RECEIVE (R110). -/
  | msgReceive (h : SkHdr) (part : MsgPart)
  /-- FDATA_RECEIVE (R123). -/
  | fdataReceive (h : SkHdr) (ftag offset data : Nat)
  /-- ACK_RECEIVE (R114). -/
  | ackReceive (h : SkHdr)
  /-- NAK_SEQ (R112). -/
  | nakSeq (h : SkHdr) (nseq : Nat)
  /-- NAK_GEN (R112). -/
  | nakGen (h : SkHdr) (nseq : Nat)
  /-- NAK_PENDING (R112). -/
  | nakPending (h : SkHdr) (nseq : Nat)
  /-- NAK_REFUSED (R112). -/
  | nakRefused (h : SkHdr) (nseq : Nat)
  /-- NAK_SHELF (R112). -/
  | nakShelf (h : SkHdr) (nseq : Nat)
  /-- NAK_KEYFULL (R112). -/
  | nakKeyfull (h : SkHdr) (nseq : Nat)
  /-- NAK_CHAINFULL (R112). -/
  | nakChainfull (h : SkHdr) (nseq : Nat)
  /-- KEYREG (R120). -/
  | keyreg (flow : FlowRef) (msgid key : Nat)
  /-- KEYREVOKE (R120). -/
  | keyrevoke (flow : FlowRef) (msgid : Nat)
  /-- CHAINPOST (R128). -/
  | chainpost (flow : FlowRef) (msgid kind chainId : Nat) (trigger : Nat × Nat × Nat) (entries : List ChainEntry) (enc : Option Nat)
  /-- CHAINCANCEL (R127). -/
  | chaincancel (flow : FlowRef) (msgid chainId : Nat)
  /-- ACK_DELAY_EXPIRY (R111). -/
  | ackDelayExpiry (flow : FlowRef)
  /-- RETRANSMISSION_TIMEOUT (R115). -/
  | retransmissionTimeout (flow : FlowRef)
  /-- FLOW_IDLE_DROP (R108). -/
  | flowIdleDrop (flow : FlowRef)
  /-- RECORD_RESTORE (R118). -/
  | recordRestore (flow : FlowRef)
  /-- REACH_KEY_RELEASE (R120). -/
  | reachKeyRelease (ip ptag : Nat)
  /-- CONNECT (R139). -/
  | connect (c : Capsule) (qid sqsize kato hostid dataCntlid : Nat) (nqnMatches : Bool)
  /-- PROPERTY_SET (R152). -/
  | propertySet (c : Capsule) (offset value : Nat)
  /-- PROPERTY_GET (R152). -/
  | propertyGet (c : Capsule) (offset : Nat)
  /-- DISCONNECT (R144). -/
  | disconnect (c : Capsule)
  /-- FLUSH (R150). -/
  | flush (c : Capsule) (nsid : Nat)
  /-- WRITE (R162). -/
  | write (c : Capsule) (io : IoReq)
  /-- READ (R160). -/
  | read (c : Capsule) (io : IoReq)
  /-- COMPARE (R149). -/
  | compare (c : Capsule) (io : IoReq)
  /-- WRITE_ZEROES (R149). -/
  | writeZeroes (c : Capsule) (io : IoReq)
  /-- DATASET_MANAGEMENT (R150). -/
  | datasetManagement (c : Capsule) (nsid nr : Nat) (ad : Bool) (sgl : Sgl)
  /-- RESERVATION_REGISTER (R173). -/
  | reservationRegister (c : Capsule) (nsid action : Nat) (ignoreKey : Bool) (cptpl : Nat) (sgl : Sgl)
  /-- RESERVATION_REPORT (R149). -/
  | reservationReport (c : Capsule) (nsid numd : Nat) (eds : Bool) (sgl : Sgl)
  /-- RESERVATION_ACQUIRE (R174). -/
  | reservationAcquire (c : Capsule) (nsid action rtype : Nat) (ignoreKey : Bool) (sgl : Sgl)
  /-- RESERVATION_RELEASE (R172). -/
  | reservationRelease (c : Capsule) (nsid action rtype : Nat) (ignoreKey : Bool) (sgl : Sgl)
  /-- GET_LOG_PAGE (R151). -/
  | getLogPage (c : Capsule) (lid nsid offset numd : Nat) (sgl : Sgl)
  /-- IDENTIFY (R156). -/
  | identify (c : Capsule) (cns nsid cntid csi : Nat) (sgl : Sgl)
  /-- ABORT (R171). -/
  | abort (c : Capsule) (sqid cid : Nat)
  /-- SET_FEATURES (R151). -/
  | setFeatures (c : Capsule) (fid nsid value : Nat)
  /-- GET_FEATURES (R151). -/
  | getFeatures (c : Capsule) (fid nsid : Nat) (sgl : Sgl)
  /-- ASYNCHRONOUS_EVENT_REQUEST (R151). -/
  | asynchronousEventRequest (c : Capsule)
  /-- KEEP_ALIVE (R143). -/
  | keepAlive (c : Capsule)
  /-- CONTEXT_ASSIGN (R146). -/
  | contextAssign
  /-- KEEP_ALIVE_EXPIRY (R144). -/
  | keepAliveExpiry (cntlid : Nat)
  /-- CUT_POINT (R176). -/
  | cutPoint (cntlid qid cid msgid : Nat)
  /-- COMMIT_POINT (R237). -/
  | commitPoint (cntlid qid cid msgid : Nat)
  /-- TURN (R188). -/
  | turn (t : TurnFacts)
  /-- TURN_MARK (R192). -/
  | turnMark (h : TwHdr) (heat lenCode : Nat) (bayMaster : Bool) (pref late : Nat) (t : TurnFacts)
  /-- POWER_FAIL_DRAIN (R195). -/
  | powerFailDrain (partnerHigh : Bool) (t : TurnFacts)
  /-- DRAIN_MEDIA_WRITES_END (R195). -/
  | drainMediaWritesEnd
  /-- DRAIN_FLUSH_COMPLETE (R195). -/
  | drainFlushComplete
  /-- DRAIN_CLEAN_MARK_COMPLETE (R195). -/
  | drainCleanMarkComplete
  /-- PWR_FAIL_N_RISE (R198). -/
  | pwrFailNRise
  /-- ADMISSION_RESUME (R198). -/
  | admissionResume (t : TurnFacts)
  /-- PLANNED_HANDOVER (R283). -/
  | plannedHandover
  /-- HAMPER_BUFFER_GRANT (R185). -/
  | hamperBufferGrant (hamper : Nat)
  /-- CREW_ASSEMBLY (R211). -/
  | crewAssembly (crew : Nat) (media : CrewMedia)
  /-- ASSEMBLY_WAIT_EXPIRY (R211). -/
  | assemblyWaitExpiry (crew : Nat) (media : CrewMedia)
  /-- REPLAY_CLEAN_MARK (R241). -/
  | replayCleanMark (crew : Nat)
  /-- ROW_LOCK_GRANT (R219). -/
  | rowLockGrant (crew row : Nat)
  /-- DRIVE_COMMAND_COMPLETION (R253). -/
  | driveCommandCompletion (io : Nat) (result : DriveEnd) (latency : Nat)
  /-- HOLD_EXPIRY (R222). -/
  | holdExpiry (vol grain : Nat)
  /-- JOURNAL_BLOCK_FLUSH (R235). -/
  | journalBlockFlush (crew : Nat)
  /-- JOURNAL_BLOCK_WRITTEN (R235). -/
  | journalBlockWritten (io status : Nat)
  /-- SEGMENT_FREE (R240). -/
  | segmentFree (crew heat : Nat)
  /-- MAP_PASS (R228). -/
  | mapPass (vol : Nat)
  /-- MAP_PASS_COMPLETE (R228). -/
  | mapPassComplete (vol : Nat)
  /-- GC_ROUND (R231). -/
  | gcRound (vol : Nat)
  /-- PATROL_ROW (R245). -/
  | patrolRow (crew : Nat)
  /-- DRIVE_COMMAND_TIMEOUT (R253). -/
  | driveCommandTimeout (io : Nat)
  /-- DRIVE_PATH_ERROR_WAIT_END (R253). -/
  | drivePathErrorWaitEnd (io : Nat)
  /-- READ_HEDGE (R254). -/
  | readHedge (io : Nat)
  /-- RECOVERY_LADDER_STEP (R255). -/
  | recoveryLadderStep (crew seat : Nat) (success : Bool)
  /-- LAGGARD_CHECK (R258). -/
  | laggardCheck (crew : Nat)
  /-- CATCH_UP_WRITE (R259). -/
  | catchUpWrite (crew seat : Nat)
  /-- EASY_CLEAR (R260). -/
  | easyClear (crew seat : Nat)
  /-- EASY_LIMIT_EXPIRY (R260). -/
  | easyLimitExpiry (crew seat : Nat)
  /-- CATCH_UP_FULL_EXPIRY (R260). -/
  | catchUpFullExpiry (crew seat : Nat)
  /-- REBUILD_ROW (R266). -/
  | rebuildRow (crew : Nat)
  /-- TWIN_LINK_LOCK_LOSS (R277). -/
  | twinLinkLockLoss
  /-- TWIN_DEAD_TIMEOUT (R277). -/
  | twinDeadTimeout
  /-- TAKEOVER_DEFER_EXPIRY (R278). -/
  | takeoverDeferExpiry
  /-- ACQUIRE_COMPLETE (R279). -/
  | acquireComplete (conflict : Bool) (late : List Nat) (torn : List (Nat × List TornRange)) (straps : Straps) (t : TurnFacts)
  /-- HEARTBEAT_SEND (R274). -/
  | heartbeatSend
  /-- HEARTBEAT (R274). -/
  | heartbeat (h : TwHdr)
  /-- BLOCK (R273). -/
  | block (h : TwHdr) (r : BlockRec)
  /-- CMD (R273). -/
  | cmd (h : TwHdr) (r : CmdRec)
  /-- CMDSTATE (R273). -/
  | cmdstate (h : TwHdr) (r : StateRec)
  /-- ASSOC (R273). -/
  | assoc (h : TwHdr) (r : AssocRec)
  /-- CREW (R273). -/
  | crew (h : TwHdr) (r : CrewNews)
  /-- RELEASE (R274). -/
  | release (h : TwHdr) (crew heat : Nat)
  /-- HANDOVER (R283). -/
  | handover (h : TwHdr) (crews : List Nat) (back : Bool)
  /-- FATAL (R277). -/
  | fatal (h : TwHdr)
  /-- SYNC (R284). -/
  | sync (h : TwHdr) (part : SyncPart)
  /-- TWN_CMD_HANDOVER (R283). -/
  | twnCmdHandover (value : Word)
  /-- TWN_CMD_TAKEOVER (R282). -/
  | twnCmdTakeover (value : Word)
  /-- TWN_CMD_GIVEBACK (R284). -/
  | twnCmdGiveback (value : Word)
  /-- ANNOUNCE_REPEAT (R347). -/
  | announceRepeat (entry : Nat)
  /-- MIRRORED_WRITE (R287). -/
  | mirroredWrite (flow : FlowRef) (msgid vol token heat slba nlb : Nat) (zero dealloc : Bool) (data : Nat)
  /-- MIRROR_ACK (R288). -/
  | mirrorAck (flow : FlowRef) (msgid token : Nat)
  /-- RESYNC (R289). -/
  | resync (step : ResyncStep)
  /-- MIRROR_SPLIT (R288). -/
  | mirrorSplit (pairing : Nat)
  /-- STREAM_IDLE_END (R298). -/
  | streamIdleEnd (vol cntlid : Nat)
  /-- LOAD (R331). -/
  | load (value : Word)
  /-- CLEAR (R331). -/
  | clear (value : Word)
  /-- PREPARE (R331). -/
  | prepare (value : Word)
  /-- UNWRAP (R333). -/
  | unwrap (slot : Nat) (tagOk : Bool) (material : Nat)
  /-- LINK_STATE_CHANGE (R351). -/
  | linkStateChange (lport : Nat) (up : Bool)
  /-- PORT_TRANSMIT (R357). -/
  | portTransmit (lport ns : Nat)
  /-- RESIDUE_TIMEOUT (R355). -/
  | residueTimeout (lport : Nat)
  /-- BANK_REPLACE (R349). -/
  | bankReplace (bank : Nat)
  /-- ARP_REQUEST (R346). -/
  | arpRequest (lport : Nat) (vlan : Option Nat) (target : Nat)
  /-- NEIGHBOUR_SOLICITATION (R346). -/
  | neighbourSolicitation (lport : Nat) (vlan : Option Nat) (target : Nat)
  /-- GATE_INTERVAL_END (R361). -/
  | gateIntervalEnd (lport ns : Nat)
  /-- GATE_LIST_CHANGE (R363). -/
  | gateListChange (lport : Nat)
  /-- GATE_LIST_TAKEOVER (R363). -/
  | gateListTakeover (lport ns : Nat)
  /-- ANNOUNCE (R364). -/
  | announce (lport ident rank domain : Nat)
  /-- PTP_SYNC (R365). -/
  | ptpSync (lport ident domain origin : Nat) (twoStep : Bool) (ns : Nat)
  /-- FOLLOW_UP (R364). -/
  | followUp (lport ident domain origin : Nat)
  /-- DELAY_RESP (R364). -/
  | delayResp (lport ident domain sent received : Nat)
  /-- PTP_SYNC_TIMEOUT (R365). -/
  | ptpSyncTimeout
  /-- PRESENCE_SAMPLE (R377). -/
  | presenceSample (prsS prsL : Word) (feedA feedB : Nat) (meas : List (Nat × Nat × Nat))
  /-- DRIVE_SEATED (R377). -/
  | driveSeated (bay : Nat)
  /-- DRIVE_LOST (R377). -/
  | driveLost (bay : Nat)
  /-- BAY_RAMP_START (R378). -/
  | bayRampStart (bay feedA feedB period : Nat)
  /-- RAMP_END (R378). -/
  | rampEnd (bay : Nat)
  /-- RAMP_TIMEOUT (R382). -/
  | rampTimeout (bay : Nat)
  /-- POWER_GOOD_ASSERT (R379). -/
  | powerGoodAssert (bay : Nat)
  /-- POWER_GOOD_WITHDRAW (R379). -/
  | powerGoodWithdraw (bay : Nat)
  /-- PERST_RELEASE (R380). -/
  | perstRelease (bay : Nat)
  /-- FAULT_TIMER_EXPIRY (R381). -/
  | faultTimerExpiry (bay : Nat)
  /-- OVERCURRENT_TRIP (R382). -/
  | overcurrentTrip (bay : Nat)
  /-- RETRY_PERIOD_END (R383). -/
  | retryPeriodEnd (bay : Nat)
  /-- RETRY_COUNT_CLEAR (R383). -/
  | retryCountClear (bay : Nat)
  /-- FET_MODEL_UPDATE (R385). -/
  | fetModelUpdate
  /-- DIODE_READ (R386). -/
  | diodeRead (bay : Nat) (celsius : Int)
  /-- CHANGEOVER (R387). -/
  | changeover (bay feedA feedB : Nat)
  /-- CHANGEOVER_BREAK_END (R387). -/
  | changeoverBreakEnd (bay : Nat)
  /-- FEED_RETURN (R387). -/
  | feedReturn (bay : Nat)
  /-- LINK_TRAINING_TIMEOUT (R375). -/
  | linkTrainingTimeout (bay : Nat)
  /-- DRIVE_READY (R375). -/
  | driveReady (bay lbas : Nat) (meta16 cache : Bool) (labelA labelB : Nat)
  /-- BAY_LINK_DOWN (R376). -/
  | bayLinkDown (bay : Nat)
  /-- SLOT_POWER_OFF (R390). -/
  | slotPowerOff (bay : Nat)
  /-- SLOT_POWER_ON (R390). -/
  | slotPowerOn (bay : Nat)
  /-- SHUTDOWN_COMPLETE (R390). -/
  | shutdownComplete (bay : Nat)
  /-- ATTENTION_BUTTON_PRESS (R392). -/
  | attentionButtonPress (bay : Nat)
  /-- BUTTON_STOP (R392). -/
  | buttonStop (bay : Nat)
  /-- POWER_CYCLE_END (R393). -/
  | powerCycleEnd (bay : Nat)
  /-- GIVEBACK_GATE_RELEASE (R389). -/
  | givebackGateRelease
  /-- DOORBELL (R403). -/
  | doorbell (cox : Bool) (ring pi : Nat)
  /-- CI_WRITE (R400). -/
  | ciWrite (cox : Bool) (ring ci : Nat)
  /-- ENTRY_FETCH (R403). -/
  | entryFetch (ring piRead : Nat) (copies : List (Option Entry))
  /-- NOP (R407). -/
  | nop (ring : Nat)
  /-- REG_READ (R408). -/
  | regRead (ring : Nat)
  /-- REG_WRITE (R408). -/
  | regWrite (ring : Nat)
  /-- ANSWER_ADMIT (R129). -/
  | answerAdmit (ring : Nat)
  /-- ANSWER_REFUSE (R129). -/
  | answerRefuse (ring : Nat)
  /-- ANSWER_MATCH (R130). -/
  | answerMatch (ring : Nat)
  /-- ANSWER_MISMATCH (R130). -/
  | answerMismatch (ring : Nat)
  /-- ANSWER_MAP_ENTRY (R227). -/
  | answerMapEntry (ring : Nat)
  /-- ANSWER_VICTIMS (R232). -/
  | answerVictims (ring : Nat) (data : Option (List Nat))
  /-- ANSWER_REBUILD_PLAN (R268). -/
  | answerRebuildPlan (ring : Nat) (data : Option (List Nat))
  /-- ANSWER_PATROL_WINDOWS (R246). -/
  | answerPatrolWindows (ring : Nat) (data : Option (List Nat))
  /-- ANSWER_EASY (R261). -/
  | answerEasy (ring : Nat)
  /-- ANSWER_KEEP (R261). -/
  | answerKeep (ring : Nat)
  /-- ANSWER_FAIL (R261). -/
  | answerFail (ring : Nat)
  /-- ANSWER_KEY_MATERIAL (R335). -/
  | answerKeyMaterial (ring : Nat) (data : Option (List Nat))
  /-- ANSWER_UNWRAP_REFUSE (R335). -/
  | answerUnwrapRefuse (ring : Nat)
  /-- ANSWER_STATIC (R302). -/
  | answerStatic (ring : Nat)
  /-- ANSWER_DYNAMIC_BY_RULE (R302). -/
  | answerDynamicByRule (ring : Nat)
  /-- ANSWER_DYNAMIC_ALWAYS (R302). -/
  | answerDynamicAlways (ring : Nat)
  /-- ANSWER_HOST_TABLES (R302). -/
  | answerHostTables (ring : Nat) (data : Option (List Nat))
  /-- ANSWER_TAKE_STEP (R256). -/
  | answerTakeStep (ring : Nat)
  /-- ANSWER_RESUME (R256). -/
  | answerResume (ring : Nat)
  /-- ANSWER_CLOCK_KEEP (R86). -/
  | answerClockKeep (ring : Nat)
  /-- ANSWER_CLOCK_SWITCH (R86). -/
  | answerClockSwitch (ring : Nat)
  /-- ANSWER_TAKE_OVER (R282). -/
  | answerTakeOver (ring : Nat)
  /-- ANSWER_DECLINE (R282). -/
  | answerDecline (ring : Nat) (t : TurnFacts)
  /-- RING_ENABLE (R400). -/
  | ringEnable (ring : Nat) (w0 : Word)
  /-- RING_SHUTDOWN (R416). -/
  | ringShutdown (ring : Nat) (w0 : Word)
  /-- COALESCE_EXPIRY (R402). -/
  | coalesceExpiry (ring : Nat)
  /-- CONFIGURATION_REQUEST (R422). -/
  | configurationRequest (req : CfgReq)
  /-- WINDOW_ACCESS (R430). -/
  | windowAccess (offset width : Nat) (write : Option Nat)
  /-- EPT_IRQ_PEND_CLEAR (R431). -/
  | eptIrqPendClear (hi : Bool) (value : Word)
  /-- MSIX_ENABLE_CHANGE (R434). -/
  | msixEnableChange (enable : Bool)
  /-- MSIX_MASK_CLEAR (R433). -/
  | msixMaskClear (vector : Option Nat)
  /-- INTERRUPT_DISABLE_CHANGE (R439). -/
  | interruptDisableChange (disable : Bool)
  /-- D3HOT_ENTRY (R438). -/
  | d3hotEntry
  /-- GET_CHALLENGE (R456). -/
  | getChallenge (endpoint : Nat)
  /-- LOG_READ (R455). -/
  | logRead (first count : Nat)
  /-- SLOT_FILL (R458). -/
  | slotFill (sig : SigBlock) (slot digest : Nat)
  /-- SLOT_REVOKE (R458). -/
  | slotRevoke (sig : SigBlock) (slot : Nat)
  /-- KEK_LOAD (R460). -/
  | kekLoad (sig : SigBlock) (kekid nonce wrapped : Nat) (tagOk : Bool) (kek : Nat)
  /-- KEK_CLEAR (R460). -/
  | kekClear (sig : SigBlock) (kekid : Nat)
  /-- SANITIZE (R471). -/
  | sanitize (sig : SigBlock) (crewScope : Bool) (crew : Nat) (bays : List Nat) (action owpass oipbp pattern : Nat) (lacks : List Nat)
  /-- SANITIZE_STATUS (R455). -/
  | sanitizeStatus
  /-- KTK_PROVISION (R459). -/
  | ktkProvision (sig : SigBlock) (console : Bool) (ktk : Nat)
  /-- ROLL_CANCEL (R465). -/
  | rollCancel (sig : SigBlock) (digestOk : Bool)
  /-- SANITIZE_POLL (R471). -/
  | sanitizePoll (bay : Nat) (progress : Nat) (ended : Option Bool)
  /-- SET_ENDPOINT_ID (R444). -/
  | setEndpointId (eid : Nat)
  /-- READ_NVME_MI_DATA_STRUCTURE (R447). -/
  | readNvmeMiDataStructure (dtyp : Nat)
  /-- NVM_SUBSYSTEM_HEALTH_STATUS_POLL (R447). -/
  | nvmSubsystemHealthStatusPoll
  /-- CONTROLLER_HEALTH_STATUS_POLL (R447). -/
  | controllerHealthStatusPoll (controller : Nat)
  /-- CONFIGURATION_GET (R447). -/
  | configurationGet (id : Nat)
  /-- CONFIGURATION_SET (R447). -/
  | configurationSet (id value : Nat)
  /-- MI_TUNNELED_ADMIN_COMMAND (R447). -/
  | miTunneledAdminCommand (opcode arg : Nat)
  /-- SET_NUMERIC_EFFECTER_VALUE (R448). -/
  | setNumericEffecterValue (effecter value : Nat)
  /-- SET_EVENT_RECEIVER (R449). -/
  | setEventReceiver (receiver : Nat)
  /-- REQUEST_UPDATE (R474). -/
  | requestUpdate (agent : Nat)
  /-- UPDATE_COMPONENT (R461). -/
  | updateComponent (agent stamp size : Nat)
  /-- TRANSFER_COMPLETE (R461). -/
  | transferComplete (image : List (Nat × Nat))
  /-- VERIFY_COMPLETE (R462). -/
  | verifyComplete (facts : CopyFacts)
  /-- APPLY_COMPLETE (R462). -/
  | applyComplete (readBack : CopyFacts)
  /-- ACTIVATE_FIRMWARE (R463). -/
  | activateFirmware (selfContained : Bool) (partnerTwinA partnerTwinB : Nat)
  /-- ENGINE_SWAP_COMPLETE (R464). -/
  | engineSwapComplete (checked : Bool)
  /-- PROBATION_END (R464). -/
  | probationEnd
  /-- GET_VERSION (R467). -/
  | getVersion (requester : Nat)
  /-- GET_CAPABILITIES (R467). -/
  | getCapabilities (requester : Nat)
  /-- NEGOTIATE_ALGORITHMS (R467). -/
  | negotiateAlgorithms (requester : Nat)
  /-- GET_DIGESTS (R467). -/
  | getDigests (requester : Nat)
  /-- GET_CERTIFICATE (R468). -/
  | getCertificate (requester slot : Nat)
  /-- CHALLENGE (R467). -/
  | challenge (requester slot nonce : Nat)
  /-- GET_MEASUREMENTS (R469). -/
  | getMeasurements (requester index : Nat) (signed : Bool) (nonce : Nat)
  /-- DIE_TEMPERATURE_TRIP (R451). -/
  | dieTemperatureTrip (sensor : Nat) (celsius : Int)
  /-- SENSOR_READ (R450). -/
  | sensorRead (die : List Int) (hbm0 hbm1 : Nat)
  /-- EVT_FQ_DONE (R489). -/
  | evtFqDone (tag : Nat)
  /-- HANDLING_TIMEOUT (R489). -/
  | handlingTimeout
  /-- PMU_FREEZE (R492). -/
  | pmuFreeze (freeze : Bool)
  /-- PMU_CLEAR (R493). -/
  | pmuClear
  /-- ENGINE_WEAR_CHECK (R499). -/
  | engineWearCheck (readings : List (Nat × Nat))
  /-- SPARE_SELF_CHECK (R499). -/
  | spareSelfCheck (engine : Nat) (passes : Bool)
  /-- ENGINE_FAULT (R500). -/
  | engineFault (engine : Nat) (digestOk : Bool)
  /-- PHASE_FAULT (R502). -/
  | phaseFault (phase domain : Nat)
  /-- SRAM_SOFT_REPAIR (R505). -/
  | sramSoftRepair (array row : Nat) (isRow : Bool) (use : ArrayUse) (buffers : Nat) (coxCore : Option Nat) (uncorrectable many : Bool)
    (digestOk : Bool)
  /-- HBM_ROW_REPAIR (R507). -/
  | hbmRowRepair (stack bank row mib : Nat) (bankHasResource : Bool)
  /-- LIFE_UPDATE (R508). -/
  | lifeUpdate (caseTenths elapsedMs : Nat)
  /-- VIN12_UNDERVOLTAGE (R513). -/
  | vin12Undervoltage
  /-- VIN12_OVERVOLTAGE (R513). -/
  | vin12Overvoltage
  /-- VIN12_EXCURSION (R513). -/
  | vin12Excursion (domain : Option Nat)
  /-- IDCODE (R529). -/
  | idcode
  /-- BYPASS (R529). -/
  | bypass
  /-- SAMPLE_PRELOAD (R529). -/
  | samplePreload
  /-- EXTEST (R529). -/
  | extest
  /-- CLAMP (R529). -/
  | clamp
  /-- TWIN_LINK_TRAINED (R192). -/
  | twinLinkTrained (heat lenCode : Nat) (bayMaster : Bool) (pref : Nat) (running : Bool)
  /-- BAY_LINK_UP (R374). -/
  | bayLinkUp (bay speed width : Nat)
  /-- SYS_RST_N_RELEASE (R528). -/
  | sysRstNRelease (straps : Straps)
  /-- PERST_N_RELEASE (R528). -/
  | perstNRelease
  /-- FAULT_TIMER_START (R381). -/
  | faultTimerStart (bay : Nat)
  /-- FAULT_TIMER_CLEAR (R381). -/
  | faultTimerClear (bay : Nat)
  /-- ATTENTION_BLINK_END (R391). -/
  | attentionBlinkEnd (bay : Nat)
  /-- ECHO_REQUEST (R445). -/
  | echoRequest (seq : Nat)
deriving DecidableEq, Repr

end Sys2Proof
end

