-- ==== Sys2Proof/Decode.lean ====
section
/-!
DEFINITION. Decoding of command words. No row of spec/opcode_table.json gives its command any bits: the commands of this block
are happenings, not words, so that no word spells one.
-/

namespace Sys2Proof

/-- The command that a word spells by the table's bits: none. -/
def decodeTableWord (_nbits _w : Nat) : Option Instr := none

end Sys2Proof
end

