-- ==== Sys2Proof/Config.lean ====
section
/-!
DEFINITION. What one device fixes (fuses written at manufacture) and the values that the spec leaves open.
A constant with no body is a free value: nothing can evaluate it, so a claim holds whatever it is.
-/

namespace Sys2Proof.Config

/-- Whether the device is an NP32-X; otherwise it is an NP32-C (R5's table: SYS_REV.GRADE is fused). -/
opaque gradeX : Bool

/-- SYS_REV.GRADE: 0x58 on an NP32-X, 0x43 on an NP32-C. -/
def gradeLetter : Nat := if gradeX then 0x58 else 0x43

/-- The fused MAC address, word 0 (SWC_MAC_LO) and word 1 (SWC_MAC_HI). Written at manufacture: free. -/
opaque macFuse : Nat → BitVec 32

/-- A word of the fused MAC address; the high word holds 16 bits. -/
def macWord (w : Nat) : Nat := if w = 0 then (macFuse 0).toNat else (macFuse w).toNat % 65536

/-- Default hamper sizes in MiB (R182). -/
def poolDefault (n : Nat) : Nat :=
  [256, 1024, 4096, 4096, 4096, 4096, 1024, 1024, 2048, 1024, 2048, 512, 6144, 256, 512, 256].getD n 0

/-- The value by which the digest of Quarel's public signing key is open: the spec gives no key. -/
opaque quarelKeyValue : Nat

/-- The SHA3-512 digest of Quarel's public signing key, in slot 0 at shipment (R54): 64 bytes, and never all zero, which is an
empty slot. -/
def quarelKey : Nat := 1 + quarelKeyValue % (2 ^ 512 - 1)

/-- A fresh free value: random bits and results that the spec leaves open, one for each reading of the state's counter.
Used for generations, fingerprints, challenges, keys and tags whose values the spec does not fix. -/
opaque freeValue : Nat → Nat

/-- Records that may wait for room in a host ring beyond the first (R481 does not say how many may wait). -/
opaque hostWaitDepth : Nat

/-- The offset, within its range of R490, of an occurrence whose exact select number the spec does not give. -/
opaque pmuOffset : Nat → Nat

/-- AES-256-GCM, AES-256-XTS, SHA3-512 and ML-DSA-87 are published algorithms that the spec names and does not define.
Each is a function of its inputs: kind of operation, key, nonce or tweak, and text. -/
opaque cryptoValue : Nat → Nat → Nat → Nat → Nat

/-- The hash of three bytes that chooses an entry of a compressor's head table (R296 gives no function). -/
opaque matchHash : Nat → Nat → Nat → Nat

/-- Which Huffman code limited to 15 bits a compressor builds from counts, among those of equal size (R300 does not say). -/
opaque codeLengths : List Nat → List Nat

/-- The form in which a compressor writes code tables into a block header: RFC 1951 allows several (R300 does not say which). -/
opaque tableForm : List Nat → List Nat → List Bool

/-- The size in bytes that is predicted for a grain under code lengths, header included; under fixed codes where there are none (R299 gives
no method). -/
opaque predictedSize : List Nat → List Nat → Nat

/-- What an upset in a unit adds to the outcome of one operation, 0 where there is none, by the state's counter of free values: the spec
says what the checks of R301, R303, R338 and EV0453 do, and not when they fail. -/
opaque unitError : Nat → Nat

/-- The hash of source IP address, UDP source port and PTAG by which the switch chooses an internal port (R348 gives no function). -/
opaque flowHash : Nat → Nat → Nat → Nat

/-- The fused unique identifier: 12 bytes, little-endian (R156). Written at manufacture: free. -/
opaque uniqueId : Nat

/-- The NQN of the subsystem, 256 bytes (R136): the spec names the image entry that gives it and no register that holds it. -/
opaque subsystemNqn : Nat

/-- Available spare of the SMART page as a function of SPR_STATUS (R151 names no formula). -/
opaque smartSpare : Nat → Nat

/-- The stroke engine that serves a command, by its place in the order of admission (the spec gives no rule by which one is chosen). -/
opaque engineOf : Nat → Nat

/-- Seat and LBA of the header sector of a map copy, by volume and copy (R228 gives it no place). -/
opaque mapHeaderAt : Nat → Nat → Nat × Nat

/-- SRTT after a sample so far below it that the sum of R114's pseudocode is negative: the spec states no result there. By the sample
and the SRTT before. -/
opaque srttBelow : Nat → Nat → Nat

end Sys2Proof.Config
end

