-- ==== Sys2Proof/Machine/Field.lean ====
section
/-!
DEFINITION. What a register field is (spec/00_scope.md, "Registers" and "Field classes"), and the sparse store that
holds the values of fields. A field is identified by its bit address: 32 times the internal address of its register
plus its lowest bit. The store lists only the fields that differ from their reset value, in rising order of bit
address, so equal register contents are equal data.
-/

namespace Sys2Proof.Machine

/-- The field types of spec/00_scope.md, "Table: field types". -/
inductive Kind where
  | ro | rw | rwh | rwb | w1c | wo | rc
deriving DecidableEq, Repr

/-- The Reset column of a register table: a number, a number per index, a multiple of the index, or a fused value. -/
inductive ResetVal where
  | const (n : Nat)
  | list (ns : List Nat)
  | mul (m : Nat)
  /-- HMP_POOL_n.SIZE: the default of hamper n in R182. -/
  | pool
  /-- SYS_REV.GRADE: fused (R5's table). -/
  | grade
  /-- SWC_MAC_LO and SWC_MAC_HI: fused. -/
  | mac (word : Nat)
deriving DecidableEq, Repr

/-- How a value outside the stated range acts (R535, or the field's own handling). -/
inductive Range where
  | any
  /-- Held at the nearer limit of the range (R535). -/
  | clamp (lo hi : Nat)
  /-- A value outside lo to hi acts as d. -/
  | elseAs (lo hi d : Nat)
deriving DecidableEq, Repr

/-- One field of a register table, with the indices under which the register is repeated. -/
structure Field where
  base : Nat
  n1 : Nat
  s1 : Nat
  n2 : Nat
  s2 : Nat
  lo : Nat
  width : Nat
  kind : Kind
  reset : ResetVal
  range : Range
deriving DecidableEq, Repr

/-- The internal address of copy (i, j) of the field's register. -/
def Field.addr (f : Field) (i j : Nat) : Nat := f.base + f.s1 * i + f.s2 * j

/-- The bit address of copy (i, j) of a field: the key under which its value is stored. -/
def Field.key (f : Field) (i j : Nat) : Nat := f.addr i j * 32 + f.lo

/-- Default hamper sizes in MiB units of HMP_POOL_n.SIZE are given by R182's table (see Config.poolDefault). -/
def ResetVal.value (r : ResetVal) (i j : Nat) : Nat :=
  match r with
  | .const n => n
  | .list ns => ns.getD i 0
  | .mul m => m * (i + j)
  | .pool => Config.poolDefault i
  | .grade => Config.gradeLetter
  | .mac w => Config.macWord w

/-- The index pair under which an address is a copy of the field's register, if it is one. -/
def Field.index (f : Field) (addr : Nat) : Option (Nat × Nat) :=
  if addr < f.base then none
  else
    let off := addr - f.base
    let i := off / f.s1
    let r := off % f.s1
    let j := r / f.s2
    if i < f.n1 && j < f.n2 && r % f.s2 == 0 then some (i, j) else none

/-- What a value written to a field acts as (R535). -/
def Range.hold (r : Range) (v : Nat) : Nat :=
  match r with
  | .any => v
  | .clamp lo hi => if v < lo then lo else if hi < v then hi else v
  | .elseAs lo hi d => if v < lo || hi < v then d else v

/-- A sparse store of field values, keyed by bit address. -/
abbrev Cells := List (Nat × Nat)

/-- The listed value of a key, if it is listed. -/
def Cells.get (c : Cells) (k : Nat) : Option Nat :=
  match c with
  | [] => none
  | (k', v) :: rest => if k' = k then some v else if k < k' then none else Cells.get rest k

/-- Remove a key. -/
def Cells.del (c : Cells) (k : Nat) : Cells :=
  match c with
  | [] => []
  | (k', v) :: rest => if k' = k then rest else if k < k' then (k', v) :: rest else (k', v) :: Cells.del rest k

/-- List a key with a value, in place. -/
def Cells.ins (c : Cells) (k v : Nat) : Cells :=
  match c with
  | [] => [(k, v)]
  | (k', v') :: rest =>
    if k' = k then (k, v) :: rest
    else if k < k' then (k, v) :: (k', v') :: rest
    else (k', v') :: Cells.ins rest k v

/-- Write a value: a value equal to what the unlisted key reads as is not listed. -/
def Cells.put (c : Cells) (dflt k v : Nat) : Cells :=
  if v = dflt then c.del k else c.ins k v

/-- Keys above a bound, strictly rising. -/
def Cells.risingFrom (b : Nat) (c : Cells) : Bool :=
  match c with
  | [] => true
  | (k, _) :: rest => decide (b ≤ k) && Cells.risingFrom (k + 1) rest

end Sys2Proof.Machine
end

