-- ==== Sys2Proof/Machine/RegTable.lean ====
section
/-!
DEFINITION. Every field of every register table of the spec, one constant per field, named REGISTER_FIELD.
The columns of a constant are: internal address of its first copy, count and stride of the first index, count and
stride of the second index, lowest bit, width, type, reset value (R10's table), and the handling of values outside the
stated range (R535). The base addresses are those of R18. Reserved bits have no field: they read 0 and drop writes (R10).
-/

namespace Sys2Proof.Machine.F

-- SYS_ID (spec/00_scope.md, registers section)
def SYS_ID_FAMILY : Field := ⟨0x0, 1, 0x1000000, 1, 0x1000000, 16, 16, .ro, .const 0x4E50, .any⟩
def SYS_ID_PART : Field := ⟨0x0, 1, 0x1000000, 1, 0x1000000, 0, 16, .ro, .const 0x32, .any⟩

-- SYS_REV (spec/00_scope.md, registers section)
def SYS_REV_GRADE : Field := ⟨0x4, 1, 0x1000000, 1, 0x1000000, 16, 8, .ro, .grade, .any⟩
def SYS_REV_STEPPING : Field := ⟨0x4, 1, 0x1000000, 1, 0x1000000, 8, 8, .ro, .const 0x42, .any⟩
def SYS_REV_METAL : Field := ⟨0x4, 1, 0x1000000, 1, 0x1000000, 0, 8, .ro, .const 0x1, .any⟩

-- SYS_FUNC_MODE (spec/01_architecture.md, registers section)
def SYS_FUNC_MODE_TAKEOVER : Field := ⟨0x40, 1, 0x1000000, 1, 0x1000000, 11, 1, .rwh, .const 0x0, .any⟩
def SYS_FUNC_MODE_CLKFAIL : Field := ⟨0x40, 1, 0x1000000, 1, 0x1000000, 10, 1, .rwh, .const 0x0, .any⟩
def SYS_FUNC_MODE_DRVERR : Field := ⟨0x40, 1, 0x1000000, 1, 0x1000000, 9, 1, .rwh, .const 0x0, .any⟩
def SYS_FUNC_MODE_CTABLE : Field := ⟨0x40, 1, 0x1000000, 1, 0x1000000, 8, 1, .rwh, .const 0x0, .any⟩
def SYS_FUNC_MODE_UNWRAP : Field := ⟨0x40, 1, 0x1000000, 1, 0x1000000, 7, 1, .rwh, .const 0x0, .any⟩
def SYS_FUNC_MODE_LAGGARD : Field := ⟨0x40, 1, 0x1000000, 1, 0x1000000, 6, 1, .rwh, .const 0x0, .any⟩
def SYS_FUNC_MODE_PATROL : Field := ⟨0x40, 1, 0x1000000, 1, 0x1000000, 5, 1, .rwh, .const 0x0, .any⟩
def SYS_FUNC_MODE_REBUILD : Field := ⟨0x40, 1, 0x1000000, 1, 0x1000000, 4, 1, .rwh, .const 0x0, .any⟩
def SYS_FUNC_MODE_GC : Field := ⟨0x40, 1, 0x1000000, 1, 0x1000000, 3, 1, .rwh, .const 0x0, .any⟩
def SYS_FUNC_MODE_MAPMISS : Field := ⟨0x40, 1, 0x1000000, 1, 0x1000000, 2, 1, .rwh, .const 0x0, .any⟩
def SYS_FUNC_MODE_REACH : Field := ⟨0x40, 1, 0x1000000, 1, 0x1000000, 1, 1, .rwh, .const 0x0, .any⟩
def SYS_FUNC_MODE_ADMIT : Field := ⟨0x40, 1, 0x1000000, 1, 0x1000000, 0, 1, .rwh, .const 0x0, .any⟩

-- SYS_FUNC_EFF (spec/01_architecture.md, registers section)
def SYS_FUNC_EFF_ROUTE : Field := ⟨0x44, 1, 0x1000000, 1, 0x1000000, 12, 1, .ro, .const 0x0, .any⟩
def SYS_FUNC_EFF_MODE : Field := ⟨0x44, 1, 0x1000000, 1, 0x1000000, 0, 12, .ro, .const 0x0, .any⟩

-- SYS_STATUS (spec/02_startup_and_boot_image.md, registers section)
def SYS_STATUS_CAUSE : Field := ⟨0x8, 1, 0x1000000, 1, 0x1000000, 4, 4, .ro, .const 0x0, .any⟩
def SYS_STATUS_STAGE : Field := ⟨0x8, 1, 0x1000000, 1, 0x1000000, 0, 4, .ro, .const 0x0, .any⟩

-- SYS_STRAP (spec/02_startup_and_boot_image.md, registers section)
def SYS_STRAP_TWIN_PRSNT : Field := ⟨0xC, 1, 0x1000000, 1, 0x1000000, 4, 1, .ro, .const 0, .any⟩
def SYS_STRAP_BAY_MASTER : Field := ⟨0xC, 1, 0x1000000, 1, 0x1000000, 3, 1, .ro, .const 0, .any⟩
def SYS_STRAP_SETTLE : Field := ⟨0xC, 1, 0x1000000, 1, 0x1000000, 0, 3, .ro, .const 0, .any⟩

-- SYS_RESET (spec/02_startup_and_boot_image.md, registers section)
def SYS_RESET_KEY : Field := ⟨0x10, 1, 0x1000000, 1, 0x1000000, 16, 16, .wo, .const 0x0, .any⟩
def SYS_RESET_COX : Field := ⟨0x10, 1, 0x1000000, 1, 0x1000000, 1, 1, .wo, .const 0x0, .any⟩
def SYS_RESET_SYSTEM : Field := ⟨0x10, 1, 0x1000000, 1, 0x1000000, 0, 1, .wo, .const 0x0, .any⟩

-- BOOT_STATUS (spec/02_startup_and_boot_image.md, registers section)
def BOOT_STATUS_SETTLE_MS : Field := ⟨0x10000, 1, 0x1000000, 1, 0x1000000, 16, 10, .ro, .const 0x0, .any⟩
def BOOT_STATUS_SETTLE_SRC : Field := ⟨0x10000, 1, 0x1000000, 1, 0x1000000, 14, 2, .ro, .const 0x3, .any⟩
def BOOT_STATUS_FAIL_B : Field := ⟨0x10000, 1, 0x1000000, 1, 0x1000000, 8, 4, .ro, .const 0xF, .any⟩
def BOOT_STATUS_FAIL_A : Field := ⟨0x10000, 1, 0x1000000, 1, 0x1000000, 4, 4, .ro, .const 0xF, .any⟩
def BOOT_STATUS_ACTIVE : Field := ⟨0x10000, 1, 0x1000000, 1, 0x1000000, 0, 2, .ro, .const 0x0, .any⟩

-- BOOT_SEQ_A_LO (spec/02_startup_and_boot_image.md, registers section)
def BOOT_SEQ_A_LO_SEQ : Field := ⟨0x10008, 1, 0x1000000, 1, 0x1000000, 0, 32, .ro, .const 0x0, .any⟩

-- BOOT_SEQ_A_HI (spec/02_startup_and_boot_image.md, registers section)
def BOOT_SEQ_A_HI_SEQ : Field := ⟨0x1000C, 1, 0x1000000, 1, 0x1000000, 0, 32, .ro, .const 0x0, .any⟩

-- BOOT_SEQ_B_LO (spec/02_startup_and_boot_image.md, registers section)
def BOOT_SEQ_B_LO_SEQ : Field := ⟨0x10010, 1, 0x1000000, 1, 0x1000000, 0, 32, .ro, .const 0x0, .any⟩

-- BOOT_SEQ_B_HI (spec/02_startup_and_boot_image.md, registers section)
def BOOT_SEQ_B_HI_SEQ : Field := ⟨0x10014, 1, 0x1000000, 1, 0x1000000, 0, 32, .ro, .const 0x0, .any⟩

-- BOOT_REFUSE (spec/02_startup_and_boot_image.md, registers section)
def BOOT_REFUSE_SOURCE : Field := ⟨0x10020, 1, 0x1000000, 1, 0x1000000, 28, 4, .rc, .const 0x0, .any⟩
def BOOT_REFUSE_COUNT : Field := ⟨0x10020, 1, 0x1000000, 1, 0x1000000, 24, 4, .rc, .const 0x0, .any⟩
def BOOT_REFUSE_ADDR : Field := ⟨0x10020, 1, 0x1000000, 1, 0x1000000, 0, 24, .rc, .const 0x0, .any⟩

-- CLK_CTRL (spec/03_self_timed_core_and_clocks.md, registers section)
def CLK_CTRL_HOLDOVER_MS : Field := ⟨0x20000, 1, 0x1000000, 1, 0x1000000, 8, 8, .rwb, .const 0x5, .clamp 1 10⟩
def CLK_CTRL_AUTO_RESTART : Field := ⟨0x20000, 1, 0x1000000, 1, 0x1000000, 1, 1, .rwb, .const 0x1, .any⟩
def CLK_CTRL_HANG_BREAK : Field := ⟨0x20000, 1, 0x1000000, 1, 0x1000000, 0, 1, .rw, .const 0x1, .any⟩

-- CLK_STATUS (spec/03_self_timed_core_and_clocks.md, registers section)
def CLK_STATUS_WATCH : Field := ⟨0x20004, 1, 0x1000000, 1, 0x1000000, 13, 1, .ro, .const 0x0, .any⟩
def CLK_STATUS_HOLD : Field := ⟨0x20004, 1, 0x1000000, 1, 0x1000000, 12, 1, .ro, .const 0x0, .any⟩
def CLK_STATUS_B_STATE : Field := ⟨0x20004, 1, 0x1000000, 1, 0x1000000, 8, 2, .ro, .const 0x0, .any⟩
def CLK_STATUS_A_STATE : Field := ⟨0x20004, 1, 0x1000000, 1, 0x1000000, 4, 2, .ro, .const 0x0, .any⟩
def CLK_STATUS_ACTIVE : Field := ⟨0x20004, 1, 0x1000000, 1, 0x1000000, 0, 2, .ro, .const 0x0, .any⟩

-- CLK_MON_LIMIT (spec/03_self_timed_core_and_clocks.md, registers section)
def CLK_MON_LIMIT_GROSS : Field := ⟨0x20008, 1, 0x1000000, 1, 0x1000000, 16, 4, .rwh, .const 0x6, .clamp 4 10⟩
def CLK_MON_LIMIT_PPM : Field := ⟨0x20008, 1, 0x1000000, 1, 0x1000000, 0, 10, .rwh, .const 0xFA, .clamp 50 1000⟩

-- CLK_DIFF (spec/03_self_timed_core_and_clocks.md, registers section)
def CLK_DIFF_PPB : Field := ⟨0x2000C, 1, 0x1000000, 1, 0x1000000, 0, 32, .ro, .const 0x0, .any⟩

-- CLK_MUX_CMD (spec/03_self_timed_core_and_clocks.md, registers section)
def CLK_MUX_CMD_KEY : Field := ⟨0x20010, 1, 0x1000000, 1, 0x1000000, 16, 16, .wo, .const 0x0, .any⟩
def CLK_MUX_CMD_HARD : Field := ⟨0x20010, 1, 0x1000000, 1, 0x1000000, 4, 1, .wo, .const 0x0, .any⟩
def CLK_MUX_CMD_SEL : Field := ⟨0x20010, 1, 0x1000000, 1, 0x1000000, 0, 2, .wo, .const 0x0, .any⟩

-- CLK_DOM_STATUS (spec/03_self_timed_core_and_clocks.md, registers section)
def CLK_DOM_STATUS_DOM : Field := ⟨0x20014, 1, 0x1000000, 1, 0x1000000, 0, 28, .ro, .const 0x0, .any⟩

-- CLK_DECIDE (spec/03_self_timed_core_and_clocks.md, registers section)
def CLK_DECIDE_LIMIT_MS : Field := ⟨0x20018, 1, 0x1000000, 1, 0x1000000, 0, 10, .rwh, .const 0x32, .clamp 1 1000⟩

-- CLK_GATE_CFG (spec/03_self_timed_core_and_clocks.md, registers section)
def CLK_GATE_CFG_IDLE : Field := ⟨0x20020, 1, 0x1000000, 1, 0x1000000, 0, 11, .rw, .const 0x40, .clamp 16 1024⟩

-- CLK_GATE_FORCE (spec/03_self_timed_core_and_clocks.md, registers section)
def CLK_GATE_FORCE_XSP : Field := ⟨0x20024, 1, 0x1000000, 1, 0x1000000, 10, 1, .rw, .const 0x0, .any⟩
def CLK_GATE_FORCE_EPT : Field := ⟨0x20024, 1, 0x1000000, 1, 0x1000000, 9, 1, .rw, .const 0x0, .any⟩
def CLK_GATE_FORCE_TWN : Field := ⟨0x20024, 1, 0x1000000, 1, 0x1000000, 8, 1, .rw, .const 0x0, .any⟩
def CLK_GATE_FORCE_NET : Field := ⟨0x20024, 1, 0x1000000, 1, 0x1000000, 0, 8, .rw, .const 0x0, .any⟩

-- CLK_GATE_FORCE_BAY (spec/03_self_timed_core_and_clocks.md, registers section)
def CLK_GATE_FORCE_BAY_BAY : Field := ⟨0x20028, 1, 0x1000000, 1, 0x1000000, 0, 32, .rw, .const 0x0, .any⟩

-- CLK_GATE_STATUS (spec/03_self_timed_core_and_clocks.md, registers section)
def CLK_GATE_STATUS_CLOSED : Field := ⟨0x2002C, 1, 0x1000000, 1, 0x1000000, 0, 32, .ro, .const 0x0, .any⟩

-- CLK_GATE_STATUS_BAY (spec/03_self_timed_core_and_clocks.md, registers section)
def CLK_GATE_STATUS_BAY_CLOSED : Field := ⟨0x20030, 1, 0x1000000, 1, 0x1000000, 0, 32, .ro, .const 0x0, .any⟩

-- PACE_TARGET (spec/03_self_timed_core_and_clocks.md, registers section)
def PACE_TARGET_RATE : Field := ⟨0x30000, 1, 0x1000000, 1, 0x1000000, 0, 12, .rwh, .const 0xCD0, .clamp 2000 3840⟩

-- PACE_LIMIT (spec/03_self_timed_core_and_clocks.md, registers section)
def PACE_LIMIT_TLIMIT : Field := ⟨0x30004, 1, 0x1000000, 1, 0x1000000, 16, 8, .rwh, .const 0x69, .clamp 70 105⟩
def PACE_LIMIT_VCEIL : Field := ⟨0x30004, 1, 0x1000000, 1, 0x1000000, 0, 7, .rwb, .const 0x3C, .clamp 20 60⟩

-- PACE_STATUS (spec/03_self_timed_core_and_clocks.md, registers section)
def PACE_STATUS_TLIM : Field := ⟨0x30008, 1, 0x1000000, 1, 0x1000000, 17, 1, .ro, .const 0x0, .any⟩
def PACE_STATUS_CEIL : Field := ⟨0x30008, 1, 0x1000000, 1, 0x1000000, 16, 1, .ro, .const 0x0, .any⟩
def PACE_STATUS_RATE : Field := ⟨0x30008, 1, 0x1000000, 1, 0x1000000, 0, 12, .ro, .const 0x0, .any⟩

-- PACE_DOM (spec/03_self_timed_core_and_clocks.md, registers section)
def PACE_DOM_EXCL : Field := ⟨0x30010, 7, 0x4, 1, 0x1000000, 24, 4, .ro, .const 0x0, .any⟩
def PACE_DOM_CYCLE : Field := ⟨0x30010, 7, 0x4, 1, 0x1000000, 12, 12, .ro, .const 0x0, .any⟩
def PACE_DOM_VOLT : Field := ⟨0x30010, 7, 0x4, 1, 0x1000000, 0, 7, .ro, .const 0x32, .any⟩

-- SKF_CFG (spec/04_skiff_transport.md, registers section)
def SKF_CFG_V6 : Field := ⟨0x100000, 1, 0x1000000, 1, 0x1000000, 23, 1, .rwb, .const 0x1, .any⟩
def SKF_CFG_V4 : Field := ⟨0x100000, 1, 0x1000000, 1, 0x1000000, 22, 1, .rwb, .const 0x1, .any⟩
def SKF_CFG_MTU : Field := ⟨0x100000, 1, 0x1000000, 1, 0x1000000, 20, 2, .rwb, .const 0x2, .any⟩
def SKF_CFG_CSUM4 : Field := ⟨0x100000, 1, 0x1000000, 1, 0x1000000, 16, 1, .rwb, .const 0x1, .any⟩
def SKF_CFG_PORT : Field := ⟨0x100000, 1, 0x1000000, 1, 0x1000000, 0, 16, .rwb, .const 0xBACC, .any⟩

-- SKF_SHELF (spec/04_skiff_transport.md, registers section)
def SKF_SHELF_FED_EN : Field := ⟨0x100004, 1, 0x1000000, 1, 0x1000000, 16, 1, .rwb, .const 0x0, .any⟩
def SKF_SHELF_SHELF_ID : Field := ⟨0x100004, 1, 0x1000000, 1, 0x1000000, 0, 16, .rwb, .const 0x0, .any⟩

-- SKF_IDLE (spec/04_skiff_transport.md, registers section)
def SKF_IDLE_MS : Field := ⟨0x100008, 1, 0x1000000, 1, 0x1000000, 0, 10, .rwh, .const 0x64, .clamp 1 1000⟩

-- SKF_RTO (spec/04_skiff_transport.md, registers section)
def SKF_RTO_LIMIT : Field := ⟨0x10000C, 1, 0x1000000, 1, 0x1000000, 20, 4, .rwh, .const 0x8, .clamp 2 15⟩
def SKF_RTO_CAP : Field := ⟨0x10000C, 1, 0x1000000, 1, 0x1000000, 10, 10, .rwh, .const 0x140, .any⟩
def SKF_RTO_BASE : Field := ⟨0x10000C, 1, 0x1000000, 1, 0x1000000, 0, 10, .rwh, .const 0x28, .clamp 10 1000⟩

-- SKF_CC (spec/04_skiff_transport.md, registers section)
def SKF_CC_RTT_TARGET : Field := ⟨0x100010, 1, 0x1000000, 1, 0x1000000, 24, 8, .rwh, .const 0x14, .clamp 1 255⟩
def SKF_CC_CWND_MAX : Field := ⟨0x100010, 1, 0x1000000, 1, 0x1000000, 8, 9, .rwh, .const 0x100, .clamp 1 256⟩
def SKF_CC_CWND_INIT : Field := ⟨0x100010, 1, 0x1000000, 1, 0x1000000, 0, 8, .rwh, .const 0x10, .clamp 1 255⟩

-- SKF_FLOWS_DIE (spec/04_skiff_transport.md, registers section)
def SKF_FLOWS_DIE_COUNT : Field := ⟨0x100014, 1, 0x1000000, 1, 0x1000000, 0, 15, .ro, .const 0x0, .any⟩

-- SKF_FLOWS_HBM (spec/04_skiff_transport.md, registers section)
def SKF_FLOWS_HBM_COUNT : Field := ⟨0x100018, 1, 0x1000000, 1, 0x1000000, 0, 21, .ro, .const 0x0, .any⟩

-- SKF_PARK (spec/04_skiff_transport.md, registers section)
def SKF_PARK_PARKED : Field := ⟨0x10001C, 1, 0x1000000, 1, 0x1000000, 0, 15, .ro, .const 0x0, .any⟩

-- SKF_GEN (spec/04_skiff_transport.md, registers section)
def SKF_GEN_NEXT : Field := ⟨0x100020, 1, 0x1000000, 1, 0x1000000, 0, 32, .ro, .const 0x1, .any⟩

-- SKF_DROP (spec/04_skiff_transport.md, registers section)
def SKF_DROP_MALFORMED : Field := ⟨0x100024, 1, 0x1000000, 1, 0x1000000, 24, 8, .rc, .const 0x0, .any⟩
def SKF_DROP_WINDOW : Field := ⟨0x100024, 1, 0x1000000, 1, 0x1000000, 16, 8, .rc, .const 0x0, .any⟩
def SKF_DROP_NEW_REFUSED : Field := ⟨0x100024, 1, 0x1000000, 1, 0x1000000, 8, 8, .rc, .const 0x0, .any⟩
def SKF_DROP_PARK_FULL : Field := ⟨0x100024, 1, 0x1000000, 1, 0x1000000, 0, 8, .rc, .const 0x0, .any⟩

-- SKF_FED (spec/04_skiff_transport.md, registers section)
def SKF_FED_VALID : Field := ⟨0x101000, 256, 0x20, 1, 0x1000000, 31, 1, .rwh, .const 0x0, .any⟩
def SKF_FED_IPV6 : Field := ⟨0x101000, 256, 0x20, 1, 0x1000000, 30, 1, .rwh, .const 0x0, .any⟩
def SKF_FED_LPORT : Field := ⟨0x101000, 256, 0x20, 1, 0x1000000, 16, 5, .rwh, .const 0x0, .any⟩
def SKF_FED_SHELF_ID : Field := ⟨0x101000, 256, 0x20, 1, 0x1000000, 0, 16, .rwh, .const 0x0, .any⟩
def SKF_FED_TAGGED : Field := ⟨0x101004, 256, 0x20, 1, 0x1000000, 12, 1, .rwh, .const 0x0, .any⟩
def SKF_FED_VID : Field := ⟨0x101004, 256, 0x20, 1, 0x1000000, 0, 12, .rwh, .const 0x0, .any⟩
def SKF_FED_MAC_LO : Field := ⟨0x101008, 256, 0x20, 1, 0x1000000, 0, 32, .rwh, .const 0x0, .any⟩
def SKF_FED_MAC_HI : Field := ⟨0x10100C, 256, 0x20, 1, 0x1000000, 0, 16, .rwh, .const 0x0, .any⟩
def SKF_FED_ADDR : Field := ⟨0x101010, 256, 0x20, 4, 0x4, 0, 32, .rwh, .const 0x0, .any⟩

-- NVT_DEADLINE (spec/05_nvme_target.md, registers section)
def NVT_DEADLINE_US : Field := ⟨0x200000, 1, 0x1000000, 1, 0x1000000, 0, 15, .rwh, .const 0x7D0, .clamp 500 20000⟩

-- NVT_CTX (spec/05_nvme_target.md, registers section)
def NVT_CTX_RSV : Field := ⟨0x200004, 1, 0x1000000, 1, 0x1000000, 16, 5, .rwh, .const 0x4, .clamp 0 16⟩
def NVT_CTX_CAP : Field := ⟨0x200004, 1, 0x1000000, 1, 0x1000000, 0, 16, .rwh, .const 0x2000, .any⟩

-- NVT_CTX_USED (spec/05_nvme_target.md, registers section)
def NVT_CTX_USED_USED : Field := ⟨0x200008, 1, 0x1000000, 1, 0x1000000, 0, 17, .ro, .const 0x0, .any⟩

-- NVT_ASSOC (spec/05_nvme_target.md, registers section)
def NVT_ASSOC_COUNT : Field := ⟨0x20000C, 1, 0x1000000, 1, 0x1000000, 0, 14, .ro, .const 0x0, .any⟩

-- NVT_KATO (spec/05_nvme_target.md, registers section)
def NVT_KATO_MAX : Field := ⟨0x200010, 1, 0x1000000, 1, 0x1000000, 8, 8, .rwh, .const 0x78, .clamp 1 255⟩
def NVT_KATO_MIN : Field := ⟨0x200010, 1, 0x1000000, 1, 0x1000000, 0, 8, .rwh, .const 0xA, .clamp 1 255⟩

-- NVT_STATUS (spec/05_nvme_target.md, registers section)
def NVT_STATUS_HALT : Field := ⟨0x200014, 1, 0x1000000, 1, 0x1000000, 0, 1, .ro, .const 0x0, .any⟩

-- NVT_IDENT (spec/05_nvme_target.md, registers section)
def NVT_IDENT_SSVID : Field := ⟨0x200018, 1, 0x1000000, 1, 0x1000000, 16, 16, .rwb, .const 0x0, .any⟩
def NVT_IDENT_VID : Field := ⟨0x200018, 1, 0x1000000, 1, 0x1000000, 0, 16, .rwb, .const 0x0, .any⟩

-- NVT_OUI (spec/05_nvme_target.md, registers section)
def NVT_OUI_OUI : Field := ⟨0x20001C, 1, 0x1000000, 1, 0x1000000, 0, 24, .rwb, .const 0x0, .any⟩

-- NVT_NS (spec/05_nvme_target.md, registers section)
def NVT_NS_VALID : Field := ⟨0x201000, 4096, 0x8, 1, 0x1000000, 31, 1, .rwh, .const 0x0, .any⟩
def NVT_NS_SUB : Field := ⟨0x201000, 4096, 0x8, 1, 0x1000000, 0, 12, .rwh, .const 0x0, .any⟩
def NVT_NS_ERRMODE : Field := ⟨0x201004, 4096, 0x8, 1, 0x1000000, 3, 1, .rwb, .const 0x0, .any⟩
def NVT_NS_PITYPE : Field := ⟨0x201004, 4096, 0x8, 1, 0x1000000, 1, 2, .rwb, .const 0x0, .any⟩
def NVT_NS_FMT : Field := ⟨0x201004, 4096, 0x8, 1, 0x1000000, 0, 1, .rwb, .const 0x0, .any⟩

-- NVT_HOST (spec/05_nvme_target.md, registers section)
def NVT_HOST_VALID : Field := ⟨0x209000, 4096, 0x20, 1, 0x1000000, 31, 1, .rwh, .const 0x0, .any⟩
def NVT_HOST_SUB : Field := ⟨0x209000, 4096, 0x20, 1, 0x1000000, 0, 12, .rwh, .const 0x0, .any⟩
def NVT_HOST_HOSTID : Field := ⟨0x209004, 4096, 0x20, 4, 0x4, 0, 32, .rwh, .const 0x0, .any⟩

-- HMP_HEAT (spec/06_hampers_and_heats.md, registers section)
def HMP_HEAT_LEN : Field := ⟨0x300000, 1, 0x1000000, 1, 0x1000000, 0, 3, .rwb, .const 0x3, .clamp 0 6⟩

-- HMP_HEAT_NUM_LO (spec/06_hampers_and_heats.md, registers section)
def HMP_HEAT_NUM_LO_NUM : Field := ⟨0x300004, 1, 0x1000000, 1, 0x1000000, 0, 32, .ro, .const 0x0, .any⟩

-- HMP_HEAT_NUM_HI (spec/06_hampers_and_heats.md, registers section)
def HMP_HEAT_NUM_HI_NUM : Field := ⟨0x300008, 1, 0x1000000, 1, 0x1000000, 0, 32, .ro, .const 0x0, .any⟩

-- HMP_TURN (spec/06_hampers_and_heats.md, registers section)
def HMP_TURN_LONGEST : Field := ⟨0x30000C, 1, 0x1000000, 1, 0x1000000, 16, 16, .rc, .const 0x0, .any⟩
def HMP_TURN_LAST : Field := ⟨0x30000C, 1, 0x1000000, 1, 0x1000000, 0, 16, .ro, .const 0x0, .any⟩

-- HMP_ALIGN (spec/06_hampers_and_heats.md, registers section)
def HMP_ALIGN_TOL : Field := ⟨0x300010, 1, 0x1000000, 1, 0x1000000, 8, 12, .rwh, .const 0x14, .clamp 1 4095⟩
def HMP_ALIGN_PTP : Field := ⟨0x300010, 1, 0x1000000, 1, 0x1000000, 0, 1, .rwb, .const 0x0, .any⟩

-- HMP_ALIGN_STAT (spec/06_hampers_and_heats.md, registers section)
def HMP_ALIGN_STAT_ALIGNED : Field := ⟨0x300014, 1, 0x1000000, 1, 0x1000000, 31, 1, .ro, .const 0x1, .any⟩
def HMP_ALIGN_STAT_LEAD : Field := ⟨0x300014, 1, 0x1000000, 1, 0x1000000, 30, 1, .ro, .const 0x1, .any⟩
def HMP_ALIGN_STAT_OFFSET : Field := ⟨0x300014, 1, 0x1000000, 1, 0x1000000, 0, 24, .ro, .const 0x0, .any⟩

-- HMP_MAP (spec/06_hampers_and_heats.md, registers section)
def HMP_MAP_GIB : Field := ⟨0x300018, 1, 0x1000000, 1, 0x1000000, 0, 5, .rwb, .const 0x4, .clamp 0 16⟩

-- HMP_PFAIL (spec/06_hampers_and_heats.md, registers section)
def HMP_PFAIL_DRAIN : Field := ⟨0x30001C, 1, 0x1000000, 1, 0x1000000, 16, 16, .ro, .const 0x0, .any⟩
def HMP_PFAIL_STATE : Field := ⟨0x30001C, 1, 0x1000000, 1, 0x1000000, 0, 2, .ro, .const 0x0, .any⟩

-- HMP_EXHAUST (spec/06_hampers_and_heats.md, registers section)
def HMP_EXHAUST_HN : Field := ⟨0x300020, 1, 0x1000000, 1, 0x1000000, 0, 16, .w1c, .const 0x0, .any⟩

-- HMP_DROP (spec/06_hampers_and_heats.md, registers section)
def HMP_DROP_FED : Field := ⟨0x300024, 1, 0x1000000, 1, 0x1000000, 8, 8, .rc, .const 0x0, .any⟩
def HMP_DROP_CAPSULE : Field := ⟨0x300024, 1, 0x1000000, 1, 0x1000000, 0, 8, .rc, .const 0x0, .any⟩

-- HMP_POOL (spec/06_hampers_and_heats.md, registers section)
def HMP_POOL_SIZE : Field := ⟨0x300100, 16, 0x4, 1, 0x1000000, 0, 16, .rwb, .pool, .any⟩

-- HMP_USE (spec/06_hampers_and_heats.md, registers section)
def HMP_USE_PEAK : Field := ⟨0x300140, 16, 0x4, 1, 0x1000000, 16, 8, .rc, .const 0x0, .any⟩
def HMP_USE_NOW : Field := ⟨0x300140, 16, 0x4, 1, 0x1000000, 0, 8, .ro, .const 0x0, .any⟩

-- CRW_CREW (spec/07_crews_and_parity.md, registers section)
def CRW_CREW_VALID : Field := ⟨0x400000, 8, 0x40, 1, 0x1000000, 31, 1, .rwb, .const 0x0, .any⟩
def CRW_CREW_INIT : Field := ⟨0x400000, 8, 0x40, 1, 0x1000000, 30, 1, .rwb, .const 0x0, .any⟩
def CRW_CREW_K : Field := ⟨0x400000, 8, 0x40, 1, 0x1000000, 16, 5, .rwb, .const 0x0, .any⟩
def CRW_CREW_CHUNK : Field := ⟨0x400000, 8, 0x40, 1, 0x1000000, 8, 3, .rwb, .const 0x2, .any⟩
def CRW_CREW_JAREA : Field := ⟨0x400000, 8, 0x40, 1, 0x1000000, 0, 7, .rwb, .const 0x4, .clamp 1 64⟩
def CRW_CREW_SEAT : Field := ⟨0x400004, 8, 0x40, 8, 0x4, 0, 32, .rwb, .const 0x3F3F3F3F, .any⟩
def CRW_CREW_ROWS : Field := ⟨0x400024, 8, 0x40, 1, 0x1000000, 0, 32, .ro, .const 0x0, .any⟩
def CRW_CREW_STATE : Field := ⟨0x400028, 8, 0x40, 1, 0x1000000, 29, 3, .ro, .const 0x0, .any⟩
def CRW_CREW_JSEAT : Field := ⟨0x40002C, 8, 0x40, 1, 0x1000000, 0, 32, .ro, .const 0x0, .any⟩
def CRW_CREW_ISEAT : Field := ⟨0x400030, 8, 0x40, 1, 0x1000000, 0, 32, .ro, .const 0x0, .any⟩
def CRW_CREW_PATROL_ROW : Field := ⟨0x400034, 8, 0x40, 1, 0x1000000, 0, 32, .ro, .const 0x0, .any⟩

-- CRW_VOL (spec/07_crews_and_parity.md, registers section)
def CRW_VOL_VALID : Field := ⟨0x401000, 4096, 0x10, 1, 0x1000000, 31, 1, .rwh, .const 0x0, .any⟩
def CRW_VOL_PRIV : Field := ⟨0x401000, 4096, 0x10, 1, 0x1000000, 30, 1, .rwh, .const 0x0, .any⟩
def CRW_VOL_COMP : Field := ⟨0x401000, 4096, 0x10, 1, 0x1000000, 29, 1, .rwh, .const 0x0, .any⟩
def CRW_VOL_KEYSLOT : Field := ⟨0x401000, 4096, 0x10, 1, 0x1000000, 16, 13, .rwh, .const 0x0, .any⟩
def CRW_VOL_CREW : Field := ⟨0x401000, 4096, 0x10, 1, 0x1000000, 0, 3, .rwh, .const 0x0, .any⟩
def CRW_VOL_BASE_ROW : Field := ⟨0x401004, 4096, 0x10, 1, 0x1000000, 0, 32, .rwh, .const 0x0, .any⟩
def CRW_VOL_ROWS : Field := ⟨0x401008, 4096, 0x10, 1, 0x1000000, 0, 32, .rwh, .const 0x0, .any⟩
def CRW_VOL_CAP : Field := ⟨0x40100C, 4096, 0x10, 1, 0x1000000, 0, 32, .rwh, .const 0x0, .any⟩

-- CRW_PVOL (spec/07_crews_and_parity.md, registers section)
def CRW_PVOL_VALID : Field := ⟨0x400400, 16, 0x10, 1, 0x1000000, 31, 1, .ro, .const 0x0, .any⟩
def CRW_PVOL_VOL : Field := ⟨0x400400, 16, 0x10, 1, 0x1000000, 0, 12, .ro, .const 0x0, .any⟩
def CRW_PVOL_FREE : Field := ⟨0x400404, 16, 0x10, 1, 0x1000000, 0, 32, .ro, .const 0x0, .any⟩
def CRW_PVOL_PASS : Field := ⟨0x400408, 16, 0x10, 1, 0x1000000, 0, 32, .ro, .const 0x0, .any⟩

-- CRW_LS (spec/07_crews_and_parity.md, registers section)
def CRW_LS_HOLD : Field := ⟨0x400200, 1, 0x1000000, 1, 0x1000000, 0, 10, .rwh, .const 0x64, .clamp 10 1000⟩

-- CRW_GC (spec/07_crews_and_parity.md, registers section)
def CRW_GC_ROUND : Field := ⟨0x400204, 1, 0x1000000, 1, 0x1000000, 24, 5, .rwh, .const 0x8, .clamp 1 16⟩
def CRW_GC_HIGH : Field := ⟨0x400204, 1, 0x1000000, 1, 0x1000000, 8, 8, .rwh, .const 0xA, .any⟩
def CRW_GC_LOW : Field := ⟨0x400204, 1, 0x1000000, 1, 0x1000000, 0, 8, .rwh, .const 0x5, .clamp 1 49⟩

-- CRW_MAP (spec/07_crews_and_parity.md, registers section)
def CRW_MAP_SWEEP_MS : Field := ⟨0x400208, 1, 0x1000000, 1, 0x1000000, 0, 16, .rwh, .const 0x3E8, .clamp 100 10000⟩

-- CRW_PATROL (spec/07_crews_and_parity.md, registers section)
def CRW_PATROL_EN : Field := ⟨0x40020C, 1, 0x1000000, 1, 0x1000000, 31, 1, .rwh, .const 0x1, .any⟩
def CRW_PATROL_DAYS : Field := ⟨0x40020C, 1, 0x1000000, 1, 0x1000000, 0, 8, .rwh, .const 0xE, .clamp 1 255⟩

-- CRW_JRNL (spec/07_crews_and_parity.md, registers section)
def CRW_JRNL_FLUSH_US : Field := ⟨0x400210, 1, 0x1000000, 1, 0x1000000, 0, 8, .rwh, .const 0x2, .clamp 1 50⟩

-- CRW_ASM (spec/07_crews_and_parity.md, registers section)
def CRW_ASM_WAIT_S : Field := ⟨0x400214, 1, 0x1000000, 1, 0x1000000, 0, 8, .rwb, .const 0x14, .clamp 1 255⟩

-- CRW_TORN (spec/07_crews_and_parity.md, registers section)
def CRW_TORN_COUNT : Field := ⟨0x400218, 1, 0x1000000, 1, 0x1000000, 0, 11, .ro, .const 0x0, .any⟩

-- CRW_FAIL (spec/08_degradation_rebuild_takeover.md, registers section)
def CRW_FAIL_MEDIA_MAX : Field := ⟨0x400220, 1, 0x1000000, 1, 0x1000000, 24, 8, .rwh, .const 0x40, .clamp 1 255⟩
def CRW_FAIL_CMD_MS : Field := ⟨0x400220, 1, 0x1000000, 1, 0x1000000, 16, 8, .rwh, .const 0x14, .clamp 5 255⟩
def CRW_FAIL_HEDGE_US : Field := ⟨0x400220, 1, 0x1000000, 1, 0x1000000, 0, 10, .rwh, .const 0xC8, .clamp 50 1000⟩

-- CRW_EASY (spec/08_degradation_rebuild_takeover.md, registers section)
def CRW_EASY_EN : Field := ⟨0x400224, 1, 0x1000000, 1, 0x1000000, 31, 1, .rwh, .const 0x1, .any⟩
def CRW_EASY_FACTOR : Field := ⟨0x400224, 1, 0x1000000, 1, 0x1000000, 28, 3, .rwh, .const 0x4, .clamp 2 7⟩
def CRW_EASY_HOLD_MS : Field := ⟨0x400224, 1, 0x1000000, 1, 0x1000000, 20, 8, .rwh, .const 0x32, .clamp 10 255⟩
def CRW_EASY_CLEAR : Field := ⟨0x400224, 1, 0x1000000, 1, 0x1000000, 14, 6, .rwh, .const 0x5, .clamp 1 63⟩
def CRW_EASY_LIMIT : Field := ⟨0x400224, 1, 0x1000000, 1, 0x1000000, 8, 6, .rwh, .const 0xA, .clamp 1 63⟩
def CRW_EASY_FULL : Field := ⟨0x400224, 1, 0x1000000, 1, 0x1000000, 0, 8, .rwh, .const 0x14, .clamp 5 100⟩

-- CRW_RBLD (spec/08_degradation_rebuild_takeover.md, registers section)
def CRW_RBLD_FLOOR : Field := ⟨0x400228, 1, 0x1000000, 1, 0x1000000, 8, 8, .rwh, .const 0x19, .clamp 0 100⟩
def CRW_RBLD_RATE : Field := ⟨0x400228, 1, 0x1000000, 1, 0x1000000, 0, 8, .rwh, .const 0x14, .clamp 1 150⟩

-- CRW_SPARE (spec/08_degradation_rebuild_takeover.md, registers section)
def CRW_SPARE_BAY : Field := ⟨0x40022C, 1, 0x1000000, 1, 0x1000000, 0, 32, .rwh, .const 0xFFFFFFFF, .any⟩

-- CRW_SEATST (spec/08_degradation_rebuild_takeover.md, registers section)
def CRW_SEATST_STATE : Field := ⟨0x400300, 8, 0x20, 4, 0x4, 0, 32, .ro, .const 0x77777777, .any⟩
def CRW_SEATST_FRONTIER : Field := ⟨0x400310, 8, 0x20, 1, 0x1000000, 0, 32, .ro, .const 0xFFFFFFFF, .any⟩

-- TWN_CFG (spec/08_degradation_rebuild_takeover.md, registers section)
def TWN_CFG_GIVEBACK : Field := ⟨0xF00000, 1, 0x1000000, 1, 0x1000000, 31, 1, .rwh, .const 0x1, .any⟩
def TWN_CFG_XM_WAIT : Field := ⟨0xF00000, 1, 0x1000000, 1, 0x1000000, 16, 10, .rwh, .const 0x12C, .clamp 100 1000⟩
def TWN_CFG_DEFER : Field := ⟨0xF00000, 1, 0x1000000, 1, 0x1000000, 8, 8, .rwb, .const 0x28, .clamp 10 40⟩
def TWN_CFG_DEAD_US : Field := ⟨0xF00000, 1, 0x1000000, 1, 0x1000000, 0, 8, .rwb, .const 0x14, .clamp 5 100⟩

-- TWN_OWN (spec/08_degradation_rebuild_takeover.md, registers section)
def TWN_OWN_OWN : Field := ⟨0xF00004, 1, 0x1000000, 1, 0x1000000, 8, 8, .ro, .const 0x0, .any⟩
def TWN_OWN_PREF : Field := ⟨0xF00004, 1, 0x1000000, 1, 0x1000000, 0, 8, .rwb, .const 0xF0, .any⟩

-- TWN_STATUS (spec/08_degradation_rebuild_takeover.md, registers section)
def TWN_STATUS_STATE : Field := ⟨0xF00008, 1, 0x1000000, 1, 0x1000000, 29, 3, .ro, .const 0x0, .any⟩
def TWN_STATUS_LINK : Field := ⟨0xF00008, 1, 0x1000000, 1, 0x1000000, 28, 1, .ro, .const 0x0, .any⟩
def TWN_STATUS_LAST_US : Field := ⟨0xF00008, 1, 0x1000000, 1, 0x1000000, 0, 16, .ro, .const 0x0, .any⟩

-- TWN_CMD (spec/08_degradation_rebuild_takeover.md, registers section)
def TWN_CMD_KEY : Field := ⟨0xF0000C, 1, 0x1000000, 1, 0x1000000, 16, 16, .wo, .const 0x0, .any⟩
def TWN_CMD_GIVEBACK : Field := ⟨0xF0000C, 1, 0x1000000, 1, 0x1000000, 2, 1, .wo, .const 0x0, .any⟩
def TWN_CMD_TAKEOVER : Field := ⟨0xF0000C, 1, 0x1000000, 1, 0x1000000, 1, 1, .wo, .const 0x0, .any⟩
def TWN_CMD_HANDOVER : Field := ⟨0xF0000C, 1, 0x1000000, 1, 0x1000000, 0, 1, .wo, .const 0x0, .any⟩

-- TWN_XM (spec/08_degradation_rebuild_takeover.md, registers section)
def TWN_XM_VALID : Field := ⟨0xF01000, 256, 0x8, 1, 0x1000000, 31, 1, .rwh, .const 0x0, .any⟩
def TWN_XM_ROLE : Field := ⟨0xF01000, 256, 0x8, 1, 0x1000000, 30, 1, .rwh, .const 0x0, .any⟩
def TWN_XM_VOL : Field := ⟨0xF01000, 256, 0x8, 1, 0x1000000, 16, 12, .rwh, .const 0x0, .any⟩
def TWN_XM_PEER_SHELF : Field := ⟨0xF01000, 256, 0x8, 1, 0x1000000, 0, 16, .rwh, .const 0x0, .any⟩
def TWN_XM_SPLIT : Field := ⟨0xF01004, 256, 0x8, 1, 0x1000000, 31, 1, .ro, .const 0x0, .any⟩
def TWN_XM_PEER_VOL : Field := ⟨0xF01004, 256, 0x8, 1, 0x1000000, 0, 12, .rwh, .const 0x0, .any⟩

-- CMP_CFG (spec/09_inline_compression.md, registers section)
def CMP_CFG_MARGIN : Field := ⟨0x500000, 1, 0x1000000, 1, 0x1000000, 28, 4, .rwh, .const 0x3, .any⟩
def CMP_CFG_REBUILD : Field := ⟨0x500000, 1, 0x1000000, 1, 0x1000000, 16, 8, .rwh, .const 0x10, .clamp 1 255⟩
def CMP_CFG_TABLE : Field := ⟨0x500000, 1, 0x1000000, 1, 0x1000000, 12, 2, .rwh, .const 0x1, .elseAs 0 2 1⟩
def CMP_CFG_LAZY : Field := ⟨0x500000, 1, 0x1000000, 1, 0x1000000, 8, 1, .rwh, .const 0x1, .any⟩
def CMP_CFG_DEPTH : Field := ⟨0x500000, 1, 0x1000000, 1, 0x1000000, 0, 6, .rwh, .const 0x8, .clamp 1 63⟩

-- CMP_LIMIT (spec/09_inline_compression.md, registers section)
def CMP_LIMIT_IDLE_MS : Field := ⟨0x500004, 1, 0x1000000, 1, 0x1000000, 0, 16, .rwh, .const 0x3E8, .clamp 10 60000⟩

-- CMP_STATUS (spec/09_inline_compression.md, registers section)
def CMP_STATUS_STREAMS : Field := ⟨0x500008, 1, 0x1000000, 1, 0x1000000, 16, 13, .ro, .const 0x0, .any⟩
def CMP_STATUS_DUNITS : Field := ⟨0x500008, 1, 0x1000000, 1, 0x1000000, 8, 6, .ro, .const 0x20, .any⟩
def CMP_STATUS_CUNITS : Field := ⟨0x500008, 1, 0x1000000, 1, 0x1000000, 0, 5, .ro, .const 0x10, .any⟩

-- CMP_RAW (spec/09_inline_compression.md, registers section)
def CMP_RAW_COUNT : Field := ⟨0x50000C, 1, 0x1000000, 1, 0x1000000, 0, 32, .rc, .const 0x0, .any⟩

-- CMP_ERR (spec/09_inline_compression.md, registers section)
def CMP_ERR_READ : Field := ⟨0x500010, 1, 0x1000000, 1, 0x1000000, 16, 16, .rc, .const 0x0, .any⟩
def CMP_ERR_VERIFY : Field := ⟨0x500010, 1, 0x1000000, 1, 0x1000000, 0, 16, .rc, .const 0x0, .any⟩

-- CMP_UNITS_C (spec/09_inline_compression.md, registers section)
def CMP_UNITS_C_INSVC : Field := ⟨0x500014, 1, 0x1000000, 1, 0x1000000, 0, 32, .ro, .const 0xFFFF, .any⟩

-- CMP_UNITS_D (spec/09_inline_compression.md, registers section)
def CMP_UNITS_D_INSVC : Field := ⟨0x500018, 1, 0x1000000, 1, 0x1000000, 0, 32, .ro, .const 0xFFFFFFFF, .any⟩

-- CMP_VOLSTAT (spec/09_inline_compression.md, registers section)
def CMP_VOLSTAT_GRAINS : Field := ⟨0x500100, 16, 0x10, 1, 0x1000000, 0, 32, .ro, .const 0x0, .any⟩
def CMP_VOLSTAT_SECT : Field := ⟨0x500104, 16, 0x10, 1, 0x1000000, 0, 32, .ro, .const 0x0, .any⟩
def CMP_VOLSTAT_RAW : Field := ⟨0x500108, 16, 0x10, 1, 0x1000000, 0, 32, .ro, .const 0x0, .any⟩

-- CIP_CFG (spec/10_inline_cipher.md, registers section)
def CIP_CFG_REQUIRE : Field := ⟨0x600000, 1, 0x1000000, 1, 0x1000000, 0, 1, .rwh, .const 0x0, .any⟩

-- CIP_KLOAD_CMD (spec/10_inline_cipher.md, registers section)
def CIP_KLOAD_CMD_KEY : Field := ⟨0x600004, 1, 0x1000000, 1, 0x1000000, 16, 16, .wo, .const 0x0, .any⟩
def CIP_KLOAD_CMD_OP : Field := ⟨0x600004, 1, 0x1000000, 1, 0x1000000, 14, 2, .wo, .const 0x0, .any⟩
def CIP_KLOAD_CMD_SLOT : Field := ⟨0x600004, 1, 0x1000000, 1, 0x1000000, 0, 13, .wo, .const 0x0, .any⟩

-- CIP_KLOAD_STAT (spec/10_inline_cipher.md, registers section)
def CIP_KLOAD_STAT_BUSY : Field := ⟨0x600008, 1, 0x1000000, 1, 0x1000000, 31, 1, .ro, .const 0x0, .any⟩
def CIP_KLOAD_STAT_SLOT : Field := ⟨0x600008, 1, 0x1000000, 1, 0x1000000, 16, 13, .ro, .const 0x0, .any⟩
def CIP_KLOAD_STAT_RESULT : Field := ⟨0x600008, 1, 0x1000000, 1, 0x1000000, 0, 8, .ro, .const 0x0, .any⟩

-- CIP_KLOAD_DATA (spec/10_inline_cipher.md, registers section)
def CIP_KLOAD_DATA_DATA : Field := ⟨0x600100, 28, 0x4, 1, 0x1000000, 0, 32, .wo, .const 0x0, .any⟩

-- CIP_KEK_STAT (spec/10_inline_cipher.md, registers section)
def CIP_KEK_STAT_LOADED : Field := ⟨0x60000C, 1, 0x1000000, 1, 0x1000000, 0, 4, .ro, .const 0x0, .any⟩

-- CIP_NONCE (spec/10_inline_cipher.md, registers section)
def CIP_NONCE_VALID : Field := ⟨0x600010, 1, 0x1000000, 1, 0x1000000, 31, 1, .ro, .const 0x0, .any⟩
def CIP_NONCE_START : Field := ⟨0x600010, 1, 0x1000000, 1, 0x1000000, 0, 30, .ro, .const 0x0, .any⟩

-- CIP_ERR (spec/10_inline_cipher.md, registers section)
def CIP_ERR_TAG : Field := ⟨0x600014, 1, 0x1000000, 1, 0x1000000, 16, 16, .rc, .const 0x0, .any⟩
def CIP_ERR_CHECK : Field := ⟨0x600014, 1, 0x1000000, 1, 0x1000000, 0, 16, .rc, .const 0x0, .any⟩

-- CIP_UNITS (spec/10_inline_cipher.md, registers section)
def CIP_UNITS_GCM : Field := ⟨0x600018, 1, 0x1000000, 1, 0x1000000, 16, 5, .ro, .const 0x10, .any⟩
def CIP_UNITS_XTS : Field := ⟨0x600018, 1, 0x1000000, 1, 0x1000000, 0, 5, .ro, .const 0x14, .any⟩

-- CIP_FEDKEY (spec/10_inline_cipher.md, registers section)
def CIP_FEDKEY_EN : Field := ⟨0x601000, 256, 0x4, 1, 0x1000000, 15, 1, .rwh, .const 0x0, .any⟩
def CIP_FEDKEY_SLOT : Field := ⟨0x601000, 256, 0x4, 1, 0x1000000, 0, 13, .rwh, .const 0x0, .any⟩

-- CIP_SLOT (spec/10_inline_cipher.md, registers section)
def CIP_SLOT_STATE : Field := ⟨0x602000, 8192, 0x4, 1, 0x1000000, 30, 2, .ro, .const 0x0, .any⟩
def CIP_SLOT_TYPE : Field := ⟨0x602000, 8192, 0x4, 1, 0x1000000, 28, 2, .ro, .const 0x0, .any⟩
def CIP_SLOT_KEKID : Field := ⟨0x602000, 8192, 0x4, 1, 0x1000000, 26, 2, .ro, .const 0x0, .any⟩
def CIP_SLOT_ANYPTAG : Field := ⟨0x602000, 8192, 0x4, 1, 0x1000000, 25, 1, .ro, .const 0x0, .any⟩
def CIP_SLOT_PTAG : Field := ⟨0x602000, 8192, 0x4, 1, 0x1000000, 0, 16, .ro, .const 0x0, .any⟩

-- SWC_PORT (spec/11_switch_and_scheduling.md, registers section)
def SWC_PORT_AN : Field := ⟨0x700000, 8, 0x4, 1, 0x1000000, 4, 1, .rwb, .const 0x1, .any⟩
def SWC_PORT_MODE : Field := ⟨0x700000, 8, 0x4, 1, 0x1000000, 0, 2, .rwb, .const 0x0, .any⟩

-- SWC_LINK (spec/11_switch_and_scheduling.md, registers section)
def SWC_LINK_UP : Field := ⟨0x700020, 1, 0x1000000, 1, 0x1000000, 0, 32, .ro, .const 0x0, .any⟩

-- SWC_MAC_LO (spec/11_switch_and_scheduling.md, registers section)
def SWC_MAC_LO_MAC : Field := ⟨0x700024, 1, 0x1000000, 1, 0x1000000, 0, 32, .rwb, .mac 0, .any⟩

-- SWC_MAC_HI (spec/11_switch_and_scheduling.md, registers section)
def SWC_MAC_HI_MAC : Field := ⟨0x700028, 1, 0x1000000, 1, 0x1000000, 0, 16, .rwb, .mac 1, .any⟩

-- SWC_BUF (spec/11_switch_and_scheduling.md, registers section)
def SWC_BUF_LEAFMAX : Field := ⟨0x700030, 1, 0x1000000, 1, 0x1000000, 0, 16, .rwh, .const 0x1000, .clamp 64 65535⟩

-- SWC_BUF_STAT (spec/11_switch_and_scheduling.md, registers section)
def SWC_BUF_STAT_BANKS : Field := ⟨0x700034, 1, 0x1000000, 1, 0x1000000, 24, 6, .ro, .const 0x20, .any⟩
def SWC_BUF_STAT_FREE : Field := ⟨0x700034, 1, 0x1000000, 1, 0x1000000, 0, 18, .ro, .const 0x0, .any⟩

-- SWC_RESID (spec/11_switch_and_scheduling.md, registers section)
def SWC_RESID_COUNT : Field := ⟨0x700040, 1, 0x1000000, 1, 0x1000000, 16, 11, .ro, .const 0x0, .any⟩
def SWC_RESID_LIMIT_US : Field := ⟨0x700040, 1, 0x1000000, 1, 0x1000000, 0, 10, .rwh, .const 0xC8, .clamp 10 1000⟩

-- SWC_DROP (spec/11_switch_and_scheduling.md, registers section)
def SWC_DROP_ADMIT : Field := ⟨0x700044, 1, 0x1000000, 1, 0x1000000, 26, 6, .rc, .const 0x0, .any⟩
def SWC_DROP_RESID : Field := ⟨0x700044, 1, 0x1000000, 1, 0x1000000, 20, 6, .rc, .const 0x0, .any⟩
def SWC_DROP_GATE : Field := ⟨0x700044, 1, 0x1000000, 1, 0x1000000, 14, 6, .rc, .const 0x0, .any⟩
def SWC_DROP_OTHER : Field := ⟨0x700044, 1, 0x1000000, 1, 0x1000000, 7, 7, .rc, .const 0x0, .any⟩
def SWC_DROP_ERR : Field := ⟨0x700044, 1, 0x1000000, 1, 0x1000000, 0, 7, .rc, .const 0x0, .any⟩

-- SWC_QCFG (spec/11_switch_and_scheduling.md, registers section)
def SWC_QCFG_ALPHA : Field := ⟨0x700100, 8, 0x4, 1, 0x1000000, 29, 3, .rwb, .const 0x3, .clamp 0 6⟩
def SWC_QCFG_MIN_MC : Field := ⟨0x700100, 8, 0x4, 1, 0x1000000, 20, 9, .rwb, .const 0x80, .any⟩
def SWC_QCFG_MIN_INT : Field := ⟨0x700100, 8, 0x4, 1, 0x1000000, 10, 10, .rwb, .const 0x100, .any⟩
def SWC_QCFG_MIN_EXT : Field := ⟨0x700100, 8, 0x4, 1, 0x1000000, 0, 10, .rwb, .const 0x40, .any⟩

-- SWC_ECN (spec/11_switch_and_scheduling.md, registers section)
def SWC_ECN_PMAX : Field := ⟨0x700120, 8, 0x4, 1, 0x1000000, 25, 7, .rwh, .const 0xA, .clamp 1 100⟩
def SWC_ECN_EN : Field := ⟨0x700120, 8, 0x4, 1, 0x1000000, 24, 1, .rwh, .const 0x1, .any⟩
def SWC_ECN_KMAX : Field := ⟨0x700120, 8, 0x4, 1, 0x1000000, 12, 12, .rwh, .const 0x100, .any⟩
def SWC_ECN_KMIN : Field := ⟨0x700120, 8, 0x4, 1, 0x1000000, 0, 12, .rwh, .const 0x40, .any⟩

-- SWC_ADDR (spec/11_switch_and_scheduling.md, registers section)
def SWC_ADDR_VALID : Field := ⟨0x701000, 64, 0x20, 1, 0x1000000, 31, 1, .rwh, .const 0x0, .any⟩
def SWC_ADDR_IPV6 : Field := ⟨0x701000, 64, 0x20, 1, 0x1000000, 30, 1, .rwh, .const 0x0, .any⟩
def SWC_ADDR_PARTNER : Field := ⟨0x701000, 64, 0x20, 1, 0x1000000, 29, 1, .rwh, .const 0x0, .any⟩
def SWC_ADDR_ACTIVE : Field := ⟨0x701000, 64, 0x20, 1, 0x1000000, 28, 1, .ro, .const 0x0, .any⟩
def SWC_ADDR_LPORT : Field := ⟨0x701000, 64, 0x20, 1, 0x1000000, 16, 5, .rwh, .const 0x0, .any⟩
def SWC_ADDR_TAGGED : Field := ⟨0x701004, 64, 0x20, 1, 0x1000000, 12, 1, .rwh, .const 0x0, .any⟩
def SWC_ADDR_VID : Field := ⟨0x701004, 64, 0x20, 1, 0x1000000, 0, 12, .rwh, .const 0x0, .any⟩
def SWC_ADDR_MAC_LO : Field := ⟨0x701008, 64, 0x20, 1, 0x1000000, 0, 32, .rwh, .const 0x0, .any⟩
def SWC_ADDR_MAC_HI : Field := ⟨0x70100C, 64, 0x20, 1, 0x1000000, 0, 16, .rwh, .const 0x0, .any⟩
def SWC_ADDR_ADDR : Field := ⟨0x701010, 64, 0x20, 4, 0x4, 0, 32, .rwh, .const 0x0, .any⟩

-- SCH_CFG (spec/11_switch_and_scheduling.md, registers section)
def SCH_CFG_CTRLSVC : Field := ⟨0x780000, 1, 0x1000000, 1, 0x1000000, 28, 3, .rwh, .const 0x7, .any⟩
def SCH_CFG_FEDSUB : Field := ⟨0x780000, 1, 0x1000000, 1, 0x1000000, 16, 12, .rwh, .const 0x0, .any⟩
def SCH_CFG_DEFSUB : Field := ⟨0x780000, 1, 0x1000000, 1, 0x1000000, 0, 12, .rwh, .const 0x0, .any⟩

-- SCH_DSCP (spec/11_switch_and_scheduling.md, registers section)
def SCH_DSCP_SVC0 : Field := ⟨0x780004, 8, 0x4, 1, 0x1000000, 0, 3, .rwh, .mul 1, .any⟩
def SCH_DSCP_SVC1 : Field := ⟨0x780004, 8, 0x4, 1, 0x1000000, 4, 3, .rwh, .mul 1, .any⟩
def SCH_DSCP_SVC2 : Field := ⟨0x780004, 8, 0x4, 1, 0x1000000, 8, 3, .rwh, .mul 1, .any⟩
def SCH_DSCP_SVC3 : Field := ⟨0x780004, 8, 0x4, 1, 0x1000000, 12, 3, .rwh, .mul 1, .any⟩
def SCH_DSCP_SVC4 : Field := ⟨0x780004, 8, 0x4, 1, 0x1000000, 16, 3, .rwh, .mul 1, .any⟩
def SCH_DSCP_SVC5 : Field := ⟨0x780004, 8, 0x4, 1, 0x1000000, 20, 3, .rwh, .mul 1, .any⟩
def SCH_DSCP_SVC6 : Field := ⟨0x780004, 8, 0x4, 1, 0x1000000, 24, 3, .rwh, .mul 1, .any⟩
def SCH_DSCP_SVC7 : Field := ⟨0x780004, 8, 0x4, 1, 0x1000000, 28, 3, .rwh, .mul 1, .any⟩

-- SCH_SVC (spec/11_switch_and_scheduling.md, registers section)
def SCH_SVC_SP : Field := ⟨0x780040, 8, 0x4, 1, 0x1000000, 31, 1, .rwh, .const 0x0, .any⟩
def SCH_SVC_WEIGHT : Field := ⟨0x780040, 8, 0x4, 1, 0x1000000, 0, 8, .rwh, .const 0x1, .clamp 1 255⟩

-- SCH_PTP_CFG (spec/11_switch_and_scheduling.md, registers section)
def SCH_PTP_CFG_EN : Field := ⟨0x780060, 1, 0x1000000, 1, 0x1000000, 31, 1, .rwb, .const 0x0, .any⟩
def SCH_PTP_CFG_ALTPORT : Field := ⟨0x780060, 1, 0x1000000, 1, 0x1000000, 24, 5, .rwb, .const 0x0, .any⟩
def SCH_PTP_CFG_LPORT : Field := ⟨0x780060, 1, 0x1000000, 1, 0x1000000, 16, 5, .rwb, .const 0x0, .any⟩
def SCH_PTP_CFG_TRANSPORT : Field := ⟨0x780060, 1, 0x1000000, 1, 0x1000000, 8, 2, .rwb, .const 0x0, .elseAs 0 2 0⟩
def SCH_PTP_CFG_DOMAIN : Field := ⟨0x780060, 1, 0x1000000, 1, 0x1000000, 0, 8, .rwb, .const 0x0, .any⟩

-- SCH_PTP_STAT (spec/11_switch_and_scheduling.md, registers section)
def SCH_PTP_STAT_LOCKED : Field := ⟨0x780064, 1, 0x1000000, 1, 0x1000000, 31, 1, .ro, .const 0x0, .any⟩
def SCH_PTP_STAT_PORT : Field := ⟨0x780064, 1, 0x1000000, 1, 0x1000000, 24, 5, .ro, .const 0x0, .any⟩
def SCH_PTP_STAT_OFFSET : Field := ⟨0x780064, 1, 0x1000000, 1, 0x1000000, 0, 24, .ro, .const 0x0, .any⟩

-- SCH_TOD_NS (spec/11_switch_and_scheduling.md, registers section)
def SCH_TOD_NS_TOD : Field := ⟨0x78006C, 1, 0x1000000, 1, 0x1000000, 0, 32, .ro, .const 0x0, .any⟩

-- SCH_TOD_SEC_LO (spec/11_switch_and_scheduling.md, registers section)
def SCH_TOD_SEC_LO_TOD : Field := ⟨0x780070, 1, 0x1000000, 1, 0x1000000, 0, 32, .ro, .const 0x0, .any⟩

-- SCH_TOD_SEC_HI (spec/11_switch_and_scheduling.md, registers section)
def SCH_TOD_SEC_HI_TOD : Field := ⟨0x780074, 1, 0x1000000, 1, 0x1000000, 0, 32, .ro, .const 0x0, .any⟩

-- SCH_PORT (spec/11_switch_and_scheduling.md, registers section)
def SCH_PORT_OVH : Field := ⟨0x780100, 32, 0x4, 1, 0x1000000, 24, 8, .rwh, .const 0x14, .any⟩
def SCH_PORT_RATE : Field := ⟨0x780100, 32, 0x4, 1, 0x1000000, 0, 16, .rwh, .const 0x0, .any⟩

-- SCH_GCL (spec/11_switch_and_scheduling.md, registers section)
def SCH_GCL_EN : Field := ⟨0x780200, 32, 0x20, 1, 0x1000000, 31, 1, .rw, .const 0x0, .any⟩
def SCH_GCL_PENDING : Field := ⟨0x780200, 32, 0x20, 1, 0x1000000, 1, 1, .ro, .const 0x0, .any⟩
def SCH_GCL_OPER : Field := ⟨0x780200, 32, 0x20, 1, 0x1000000, 0, 1, .ro, .const 0x0, .any⟩
def SCH_GCL_CYCLE : Field := ⟨0x780204, 32, 0x20, 1, 0x1000000, 0, 32, .rw, .const 0xF4240, .any⟩
def SCH_GCL_BASE_NS : Field := ⟨0x780208, 32, 0x20, 1, 0x1000000, 0, 32, .rw, .const 0x0, .any⟩
def SCH_GCL_BASE_SEC_LO : Field := ⟨0x78020C, 32, 0x20, 1, 0x1000000, 0, 32, .rw, .const 0x0, .any⟩
def SCH_GCL_BASE_SEC_HI : Field := ⟨0x780210, 32, 0x20, 1, 0x1000000, 0, 16, .rw, .const 0x0, .any⟩
def SCH_GCL_GUARD : Field := ⟨0x780214, 32, 0x20, 1, 0x1000000, 0, 16, .rw, .const 0x0, .any⟩
def SCH_GCL_CHANGE : Field := ⟨0x780218, 32, 0x20, 1, 0x1000000, 0, 1, .wo, .const 0x0, .any⟩

-- SCH_GCE (spec/11_switch_and_scheduling.md, registers section)
def SCH_GCE_GATES : Field := ⟨0x790000, 64, 0x400, 256, 0x4, 24, 8, .rw, .const 0xFF, .any⟩
def SCH_GCE_INTERVAL : Field := ⟨0x790000, 64, 0x400, 256, 0x4, 0, 24, .rw, .const 0x0, .any⟩

-- SCH_SUB (spec/11_switch_and_scheduling.md, registers section)
def SCH_SUB_WEIGHT : Field := ⟨0x781000, 4096, 0x8, 1, 0x1000000, 24, 8, .rwh, .const 0x1, .clamp 1 255⟩
def SCH_SUB_BURST : Field := ⟨0x781000, 4096, 0x8, 1, 0x1000000, 16, 8, .rwh, .const 0x10, .clamp 1 255⟩
def SCH_SUB_RATE : Field := ⟨0x781000, 4096, 0x8, 1, 0x1000000, 0, 16, .rwh, .const 0x0, .any⟩

-- BAY_CFG (spec/12_drive_bays_and_power.md, registers section)
def BAY_CFG_AUTOIND : Field := ⟨0x800000, 1, 0x1000000, 1, 0x1000000, 2, 1, .rwb, .const 0x1, .any⟩
def BAY_CFG_BTNACT : Field := ⟨0x800000, 1, 0x1000000, 1, 0x1000000, 0, 2, .rwh, .const 0x1, .elseAs 0 1 0⟩

-- BAY_RETRY (spec/12_drive_bays_and_power.md, registers section)
def BAY_RETRY_RESTART_C : Field := ⟨0x800004, 1, 0x1000000, 1, 0x1000000, 16, 8, .rwh, .const 0x55, .clamp 40 125⟩
def BAY_RETRY_TRIP_C : Field := ⟨0x800004, 1, 0x1000000, 1, 0x1000000, 8, 8, .rwh, .const 0x96, .clamp 100 175⟩
def BAY_RETRY_MAX : Field := ⟨0x800004, 1, 0x1000000, 1, 0x1000000, 0, 4, .rwh, .const 0x8, .any⟩

-- BAY_FEED (spec/12_drive_bays_and_power.md, registers section)
def BAY_FEED_UV : Field := ⟨0x800008, 1, 0x1000000, 1, 0x1000000, 24, 8, .rwh, .const 0x6C, .clamp 100 115⟩
def BAY_FEED_VGOOD : Field := ⟨0x800008, 1, 0x1000000, 1, 0x1000000, 16, 8, .rwh, .const 0x69, .clamp 100 115⟩
def BAY_FEED_VFAIL : Field := ⟨0x800008, 1, 0x1000000, 1, 0x1000000, 8, 8, .rwh, .const 0x60, .clamp 80 105⟩

-- BAY_FEED_RET (spec/12_drive_bays_and_power.md, registers section)
def BAY_FEED_RET_MS : Field := ⟨0x80000C, 1, 0x1000000, 1, 0x1000000, 0, 16, .rwh, .const 0x3E8, .clamp 10 60000⟩

-- BAY_FEED_STAT (spec/12_drive_bays_and_power.md, registers section)
def BAY_FEED_STAT_B_GOOD : Field := ⟨0x800010, 1, 0x1000000, 1, 0x1000000, 31, 1, .ro, .const 0x0, .any⟩
def BAY_FEED_STAT_B_V : Field := ⟨0x800010, 1, 0x1000000, 1, 0x1000000, 16, 15, .ro, .const 0x0, .any⟩
def BAY_FEED_STAT_A_GOOD : Field := ⟨0x800010, 1, 0x1000000, 1, 0x1000000, 15, 1, .ro, .const 0x0, .any⟩
def BAY_FEED_STAT_A_V : Field := ⟨0x800010, 1, 0x1000000, 1, 0x1000000, 0, 15, .ro, .const 0x0, .any⟩

-- BAY_THM (spec/12_drive_bays_and_power.md, registers section)
def BAY_THM_TAMB : Field := ⟨0x800014, 1, 0x1000000, 1, 0x1000000, 24, 8, .rwb, .const 0x46, .clamp 0 125⟩
def BAY_THM_RTH : Field := ⟨0x800014, 1, 0x1000000, 1, 0x1000000, 16, 8, .rwb, .const 0x19, .clamp 1 255⟩
def BAY_THM_CTH : Field := ⟨0x800014, 1, 0x1000000, 1, 0x1000000, 8, 8, .rwb, .const 0x28, .clamp 1 255⟩
def BAY_THM_RDS : Field := ⟨0x800014, 1, 0x1000000, 1, 0x1000000, 0, 8, .rwb, .const 0xA, .clamp 1 255⟩

-- BAY_PWR (spec/12_drive_bays_and_power.md, registers section)
def BAY_PWR_GROUP : Field := ⟨0x800018, 1, 0x1000000, 1, 0x1000000, 24, 8, .rwb, .const 0x4, .clamp 1 32⟩
def BAY_PWR_RAMP_MS : Field := ⟨0x800018, 1, 0x1000000, 1, 0x1000000, 16, 8, .rwh, .const 0x14, .clamp 1 100⟩
def BAY_PWR_CYCLE_MS : Field := ⟨0x800018, 1, 0x1000000, 1, 0x1000000, 0, 16, .rwh, .const 0x1F4, .clamp 10 10000⟩

-- BAY_TIME (spec/12_drive_bays_and_power.md, registers section)
def BAY_TIME_SHUT_MS : Field := ⟨0x80001C, 1, 0x1000000, 1, 0x1000000, 16, 16, .rwh, .const 0x3E8, .clamp 10 10000⟩
def BAY_TIME_PERST_MS : Field := ⟨0x80001C, 1, 0x1000000, 1, 0x1000000, 8, 8, .rwh, .const 0x5A, .any⟩
def BAY_TIME_TRAIN : Field := ⟨0x80001C, 1, 0x1000000, 1, 0x1000000, 0, 8, .rwh, .const 0x14, .clamp 5 200⟩

-- BAY_SLTCAP (spec/12_drive_bays_and_power.md, registers section)
def BAY_SLTCAP_PSN : Field := ⟨0x801000, 32, 0x20, 1, 0x1000000, 19, 13, .ro, .mul 1, .any⟩
def BAY_SLTCAP_NCCS : Field := ⟨0x801000, 32, 0x20, 1, 0x1000000, 18, 1, .ro, .const 0x1, .any⟩
def BAY_SLTCAP_EIP : Field := ⟨0x801000, 32, 0x20, 1, 0x1000000, 17, 1, .ro, .const 0x0, .any⟩
def BAY_SLTCAP_SPLS : Field := ⟨0x801000, 32, 0x20, 1, 0x1000000, 15, 2, .ro, .const 0x0, .any⟩
def BAY_SLTCAP_SPLV : Field := ⟨0x801000, 32, 0x20, 1, 0x1000000, 7, 8, .ro, .const 0x60, .any⟩
def BAY_SLTCAP_HPC : Field := ⟨0x801000, 32, 0x20, 1, 0x1000000, 6, 1, .ro, .const 0x1, .any⟩
def BAY_SLTCAP_HPS : Field := ⟨0x801000, 32, 0x20, 1, 0x1000000, 5, 1, .ro, .const 0x1, .any⟩
def BAY_SLTCAP_PIP : Field := ⟨0x801000, 32, 0x20, 1, 0x1000000, 4, 1, .ro, .const 0x1, .any⟩
def BAY_SLTCAP_AIP : Field := ⟨0x801000, 32, 0x20, 1, 0x1000000, 3, 1, .ro, .const 0x1, .any⟩
def BAY_SLTCAP_MRLSP : Field := ⟨0x801000, 32, 0x20, 1, 0x1000000, 2, 1, .ro, .const 0x0, .any⟩
def BAY_SLTCAP_PCP : Field := ⟨0x801000, 32, 0x20, 1, 0x1000000, 1, 1, .ro, .const 0x1, .any⟩
def BAY_SLTCAP_ABP : Field := ⟨0x801000, 32, 0x20, 1, 0x1000000, 0, 1, .ro, .const 0x1, .any⟩

-- BAY_SLTCTL (spec/12_drive_bays_and_power.md, registers section)
def BAY_SLTCTL_DLLSC : Field := ⟨0x801004, 32, 0x20, 1, 0x1000000, 24, 1, .w1c, .const 0x0, .any⟩
def BAY_SLTCTL_PDS : Field := ⟨0x801004, 32, 0x20, 1, 0x1000000, 22, 1, .ro, .const 0x0, .any⟩
def BAY_SLTCTL_PDC : Field := ⟨0x801004, 32, 0x20, 1, 0x1000000, 19, 1, .w1c, .const 0x0, .any⟩
def BAY_SLTCTL_PFD : Field := ⟨0x801004, 32, 0x20, 1, 0x1000000, 17, 1, .w1c, .const 0x0, .any⟩
def BAY_SLTCTL_ABP : Field := ⟨0x801004, 32, 0x20, 1, 0x1000000, 16, 1, .w1c, .const 0x0, .any⟩
def BAY_SLTCTL_DLLSCE : Field := ⟨0x801004, 32, 0x20, 1, 0x1000000, 12, 1, .rw, .const 0x1, .any⟩
def BAY_SLTCTL_PCC : Field := ⟨0x801004, 32, 0x20, 1, 0x1000000, 10, 1, .rw, .const 0x0, .any⟩
def BAY_SLTCTL_PIC : Field := ⟨0x801004, 32, 0x20, 1, 0x1000000, 8, 2, .rw, .const 0x3, .any⟩
def BAY_SLTCTL_AIC : Field := ⟨0x801004, 32, 0x20, 1, 0x1000000, 6, 2, .rw, .const 0x3, .any⟩
def BAY_SLTCTL_HPIE : Field := ⟨0x801004, 32, 0x20, 1, 0x1000000, 5, 1, .rw, .const 0x1, .any⟩
def BAY_SLTCTL_PDCE : Field := ⟨0x801004, 32, 0x20, 1, 0x1000000, 3, 1, .rw, .const 0x1, .any⟩
def BAY_SLTCTL_PFDE : Field := ⟨0x801004, 32, 0x20, 1, 0x1000000, 1, 1, .rw, .const 0x1, .any⟩
def BAY_SLTCTL_ABPE : Field := ⟨0x801004, 32, 0x20, 1, 0x1000000, 0, 1, .rw, .const 0x1, .any⟩

-- BAY_PCFG (spec/12_drive_bays_and_power.md, registers section)
def BAY_PCFG_EN : Field := ⟨0x801008, 32, 0x20, 1, 0x1000000, 31, 1, .rwh, .const 0x1, .any⟩
def BAY_PCFG_PRIO : Field := ⟨0x801008, 32, 0x20, 1, 0x1000000, 30, 1, .rwh, .const 0x0, .any⟩
def BAY_PCFG_TSRC : Field := ⟨0x801008, 32, 0x20, 1, 0x1000000, 29, 1, .rwb, .const 0x0, .any⟩
def BAY_PCFG_TIMER_MS : Field := ⟨0x801008, 32, 0x20, 1, 0x1000000, 16, 7, .rwh, .const 0xA, .clamp 1 100⟩
def BAY_PCFG_LIMIT : Field := ⟨0x801008, 32, 0x20, 1, 0x1000000, 0, 5, .rwh, .const 0x8, .clamp 1 20⟩

-- BAY_PSTAT (spec/12_drive_bays_and_power.md, registers section)
def BAY_PSTAT_STATE : Field := ⟨0x80100C, 32, 0x20, 1, 0x1000000, 28, 4, .ro, .const 0x0, .any⟩
def BAY_PSTAT_PG : Field := ⟨0x80100C, 32, 0x20, 1, 0x1000000, 27, 1, .ro, .const 0x0, .any⟩
def BAY_PSTAT_FEED : Field := ⟨0x80100C, 32, 0x20, 1, 0x1000000, 26, 1, .ro, .const 0x0, .any⟩
def BAY_PSTAT_OWNER : Field := ⟨0x80100C, 32, 0x20, 1, 0x1000000, 25, 1, .ro, .const 0x0, .any⟩
def BAY_PSTAT_TIMER : Field := ⟨0x80100C, 32, 0x20, 1, 0x1000000, 24, 1, .ro, .const 0x0, .any⟩
def BAY_PSTAT_RETRY : Field := ⟨0x80100C, 32, 0x20, 1, 0x1000000, 20, 4, .ro, .const 0x0, .any⟩
def BAY_PSTAT_LAST : Field := ⟨0x80100C, 32, 0x20, 1, 0x1000000, 16, 4, .ro, .const 0x0, .any⟩
def BAY_PSTAT_REMAIN : Field := ⟨0x80100C, 32, 0x20, 1, 0x1000000, 0, 16, .ro, .const 0x0, .any⟩

-- BAY_MEAS (spec/12_drive_bays_and_power.md, registers section)
def BAY_MEAS_CURRENT : Field := ⟨0x801010, 32, 0x20, 1, 0x1000000, 16, 16, .ro, .const 0x0, .any⟩
def BAY_MEAS_VBAY : Field := ⟨0x801010, 32, 0x20, 1, 0x1000000, 0, 16, .ro, .const 0x0, .any⟩

-- BAY_THERM (spec/12_drive_bays_and_power.md, registers section)
def BAY_THERM_DIODE_BAD : Field := ⟨0x801014, 32, 0x20, 1, 0x1000000, 16, 1, .ro, .const 0x0, .any⟩
def BAY_THERM_TB : Field := ⟨0x801014, 32, 0x20, 1, 0x1000000, 8, 8, .ro, .const 0x0, .any⟩
def BAY_THERM_TA : Field := ⟨0x801014, 32, 0x20, 1, 0x1000000, 0, 8, .ro, .const 0x0, .any⟩

-- BAY_LINKST (spec/12_drive_bays_and_power.md, registers section)
def BAY_LINKST_FAIL : Field := ⟨0x801018, 32, 0x20, 1, 0x1000000, 11, 1, .ro, .const 0x0, .any⟩
def BAY_LINKST_DLLLA : Field := ⟨0x801018, 32, 0x20, 1, 0x1000000, 10, 1, .ro, .const 0x0, .any⟩
def BAY_LINKST_WIDTH : Field := ⟨0x801018, 32, 0x20, 1, 0x1000000, 4, 6, .ro, .const 0x0, .any⟩
def BAY_LINKST_SPEED : Field := ⟨0x801018, 32, 0x20, 1, 0x1000000, 0, 4, .ro, .const 0x0, .any⟩

-- WRG_MODE (spec/13_work_rings.md, registers section)
def WRG_MODE_COMPAT : Field := ⟨0x900000, 1, 0x1000000, 1, 0x1000000, 0, 1, .rwb, .const 0x0, .any⟩

-- WRG_FUNC (spec/13_work_rings.md, registers section)
def WRG_FUNC_EN : Field := ⟨0x900040, 12, 0x4, 1, 0x1000000, 31, 1, .rwh, .const 0x0, .any⟩
def WRG_FUNC_RING : Field := ⟨0x900040, 12, 0x4, 1, 0x1000000, 0, 10, .rwh, .const 0x0, .clamp 0 1007⟩

-- WRG_RING (spec/13_work_rings.md, registers section)
def WRG_RING_EN : Field := ⟨0x901000, 1024, 0x20, 1, 0x1000000, 31, 1, .rw, .const 0x0, .any⟩
def WRG_RING_KIND : Field := ⟨0x901000, 1024, 0x20, 1, 0x1000000, 29, 2, .rw, .const 0x0, .any⟩
def WRG_RING_LOG2SIZE : Field := ⟨0x901000, 1024, 0x20, 1, 0x1000000, 24, 5, .rw, .const 0x6, .elseAs 6 16 6⟩
def WRG_RING_WEIGHT : Field := ⟨0x901000, 1024, 0x20, 1, 0x1000000, 16, 8, .rw, .const 0x1, .clamp 1 255⟩
def WRG_RING_BURST : Field := ⟨0x901000, 1024, 0x20, 1, 0x1000000, 10, 6, .rw, .const 0x0, .any⟩
def WRG_RING_CQ : Field := ⟨0x901000, 1024, 0x20, 1, 0x1000000, 0, 10, .rw, .const 0x0, .any⟩
def WRG_RING_BASE : Field := ⟨0x901004, 1024, 0x20, 2, 0x4, 0, 32, .rw, .const 0x0, .any⟩
def WRG_RING_SHADOW : Field := ⟨0x90100C, 1024, 0x20, 2, 0x4, 0, 32, .rw, .const 0x0, .any⟩
def WRG_RING_IEN : Field := ⟨0x901014, 1024, 0x20, 1, 0x1000000, 31, 1, .rw, .const 0x0, .any⟩
def WRG_RING_IVEC : Field := ⟨0x901014, 1024, 0x20, 1, 0x1000000, 24, 6, .rw, .const 0x0, .any⟩
def WRG_RING_COAL : Field := ⟨0x901014, 1024, 0x20, 1, 0x1000000, 16, 8, .rw, .const 0x0, .any⟩
def WRG_RING_SLOT : Field := ⟨0x901014, 1024, 0x20, 1, 0x1000000, 0, 3, .rw, .const 0x0, .elseAs 0 3 0⟩
def WRG_RING_DATA : Field := ⟨0x901018, 1024, 0x20, 2, 0x4, 0, 32, .rw, .const 0x0, .any⟩

-- WRG_IDX (spec/13_work_rings.md, registers section)
def WRG_IDX_PI : Field := ⟨0x909000, 1024, 0x10, 1, 0x1000000, 0, 32, .rw, .const 0x0, .any⟩
def WRG_IDX_CI : Field := ⟨0x909004, 1024, 0x10, 1, 0x1000000, 0, 32, .rw, .const 0x0, .any⟩
def WRG_IDX_STATE : Field := ⟨0x909008, 1024, 0x10, 1, 0x1000000, 30, 2, .ro, .const 0x0, .any⟩
def WRG_IDX_LOST : Field := ⟨0x909008, 1024, 0x10, 1, 0x1000000, 0, 16, .ro, .const 0x0, .any⟩

-- EPT_ID (spec/14_steward_endpoint.md, registers section)
def EPT_ID_DEVICE : Field := ⟨0xA00000, 1, 0x1000000, 1, 0x1000000, 16, 16, .rwb, .const 0x0, .any⟩
def EPT_ID_VENDOR : Field := ⟨0xA00000, 1, 0x1000000, 1, 0x1000000, 0, 16, .rwb, .const 0x0, .any⟩

-- EPT_SUBID (spec/14_steward_endpoint.md, registers section)
def EPT_SUBID_SUBSYS : Field := ⟨0xA00004, 1, 0x1000000, 1, 0x1000000, 16, 16, .rwb, .const 0x0, .any⟩
def EPT_SUBID_SUBVEN : Field := ⟨0xA00004, 1, 0x1000000, 1, 0x1000000, 0, 16, .rwb, .const 0x0, .any⟩

-- EPT_CLASS (spec/14_steward_endpoint.md, registers section)
def EPT_CLASS_CLASS : Field := ⟨0xA00008, 1, 0x1000000, 1, 0x1000000, 0, 24, .rwb, .const 0x18000, .any⟩

-- EPT_ROM (spec/14_steward_endpoint.md, registers section)
def EPT_ROM_WINDOW : Field := ⟨0xA0000C, 1, 0x1000000, 1, 0x1000000, 1, 1, .rwb, .const 0x1, .any⟩
def EPT_ROM_OPTROM : Field := ⟨0xA0000C, 1, 0x1000000, 1, 0x1000000, 0, 1, .rwb, .const 0x1, .any⟩

-- EPT_WIN_PAGE (spec/14_steward_endpoint.md, registers section)
def EPT_WIN_PAGE_PAGE : Field := ⟨0xA00010, 1, 0x1000000, 1, 0x1000000, 0, 4, .rw, .const 0x0, .any⟩

-- EPT_IRQ_PEND_LO (spec/14_steward_endpoint.md, registers section)
def EPT_IRQ_PEND_LO_PEND : Field := ⟨0xA00020, 1, 0x1000000, 1, 0x1000000, 0, 32, .w1c, .const 0x0, .any⟩

-- EPT_IRQ_PEND_HI (spec/14_steward_endpoint.md, registers section)
def EPT_IRQ_PEND_HI_PEND : Field := ⟨0xA00024, 1, 0x1000000, 1, 0x1000000, 0, 32, .w1c, .const 0x0, .any⟩

-- EPT_IRQ_MASK_LO (spec/14_steward_endpoint.md, registers section)
def EPT_IRQ_MASK_LO_MASK : Field := ⟨0xA00028, 1, 0x1000000, 1, 0x1000000, 0, 32, .rw, .const 0x0, .any⟩

-- EPT_IRQ_MASK_HI (spec/14_steward_endpoint.md, registers section)
def EPT_IRQ_MASK_HI_MASK : Field := ⟨0xA0002C, 1, 0x1000000, 1, 0x1000000, 0, 32, .rw, .const 0x0, .any⟩

-- EPT_STATUS (spec/14_steward_endpoint.md, registers section)
def EPT_STATUS_MSIX : Field := ⟨0xA00030, 1, 0x1000000, 1, 0x1000000, 11, 1, .ro, .const 0x0, .any⟩
def EPT_STATUS_INTA : Field := ⟨0xA00030, 1, 0x1000000, 1, 0x1000000, 10, 1, .ro, .const 0x0, .any⟩
def EPT_STATUS_UP : Field := ⟨0xA00030, 1, 0x1000000, 1, 0x1000000, 9, 1, .ro, .const 0x0, .any⟩
def EPT_STATUS_CCLK : Field := ⟨0xA00030, 1, 0x1000000, 1, 0x1000000, 8, 1, .ro, .const 0x0, .any⟩
def EPT_STATUS_WIDTH : Field := ⟨0xA00030, 1, 0x1000000, 1, 0x1000000, 4, 4, .ro, .const 0x0, .any⟩
def EPT_STATUS_SPEED : Field := ⟨0xA00030, 1, 0x1000000, 1, 0x1000000, 0, 4, .ro, .const 0x0, .any⟩

-- EPT_ERR (spec/14_steward_endpoint.md, registers section)
def EPT_ERR_READ : Field := ⟨0xA00034, 1, 0x1000000, 1, 0x1000000, 16, 16, .rc, .const 0x0, .any⟩
def EPT_ERR_ABORT : Field := ⟨0xA00034, 1, 0x1000000, 1, 0x1000000, 0, 16, .rc, .const 0x0, .any⟩

-- COX_STATUS (spec/15_cox_management.md, registers section)
def COX_STATUS_FWVER : Field := ⟨0xB00000, 1, 0x1000000, 1, 0x1000000, 8, 24, .ro, .const 0x0, .any⟩
def COX_STATUS_CORES : Field := ⟨0xB00000, 1, 0x1000000, 1, 0x1000000, 0, 4, .ro, .const 0xF, .any⟩

-- COX_WDT (spec/15_cox_management.md, registers section)
def COX_WDT_MS : Field := ⟨0xB00004, 1, 0x1000000, 1, 0x1000000, 0, 16, .rwb, .const 0x3E8, .clamp 100 10000⟩

-- COX_THERM (spec/15_cox_management.md, registers section)
def COX_THERM_TRIP : Field := ⟨0xB00008, 1, 0x1000000, 1, 0x1000000, 8, 8, .rwb, .const 0x6E, .clamp 106 120⟩
def COX_THERM_WARN : Field := ⟨0xB00008, 1, 0x1000000, 1, 0x1000000, 0, 8, .rwh, .const 0x64, .clamp 70 105⟩

-- COX_TEMP (spec/15_cox_management.md, registers section)
def COX_TEMP_T : Field := ⟨0xB00010, 12, 0x4, 1, 0x1000000, 0, 32, .ro, .const 0x0, .any⟩

-- COX_HBMT (spec/15_cox_management.md, registers section)
def COX_HBMT_HB1 : Field := ⟨0xB00040, 1, 0x1000000, 1, 0x1000000, 8, 8, .ro, .const 0x0, .any⟩
def COX_HBMT_HB0 : Field := ⟨0xB00040, 1, 0x1000000, 1, 0x1000000, 0, 8, .ro, .const 0x0, .any⟩

-- COX_MCTP (spec/15_cox_management.md, registers section)
def COX_MCTP_EID : Field := ⟨0xB00044, 1, 0x1000000, 1, 0x1000000, 24, 8, .rwb, .const 0x8, .any⟩
def COX_MCTP_BUS : Field := ⟨0xB00044, 1, 0x1000000, 1, 0x1000000, 16, 1, .rwb, .const 0x0, .any⟩
def COX_MCTP_SMBADDR : Field := ⟨0xB00044, 1, 0x1000000, 1, 0x1000000, 0, 7, .rwb, .const 0x1D, .any⟩

-- COX_OOB_CFG (spec/15_cox_management.md, registers section)
def COX_OOB_CFG_EN : Field := ⟨0xB00048, 1, 0x1000000, 1, 0x1000000, 31, 1, .rwb, .const 0x0, .any⟩
def COX_OOB_CFG_IPV6 : Field := ⟨0xB00048, 1, 0x1000000, 1, 0x1000000, 30, 1, .rwb, .const 0x0, .any⟩
def COX_OOB_CFG_PORT : Field := ⟨0xB00048, 1, 0x1000000, 1, 0x1000000, 0, 16, .rwb, .const 0xBACD, .any⟩

-- COX_OOB_IP (spec/15_cox_management.md, registers section)
def COX_OOB_IP_ADDR : Field := ⟨0xB00050, 4, 0x4, 1, 0x1000000, 0, 32, .rwb, .const 0x0, .any⟩

-- COX_UPD (spec/15_cox_management.md, registers section)
def COX_UPD_STATE : Field := ⟨0xB00060, 1, 0x1000000, 1, 0x1000000, 28, 4, .ro, .const 0x0, .any⟩
def COX_UPD_PEND : Field := ⟨0xB00060, 1, 0x1000000, 1, 0x1000000, 27, 1, .ro, .const 0x0, .any⟩
def COX_UPD_RUNCOPY : Field := ⟨0xB00060, 1, 0x1000000, 1, 0x1000000, 25, 2, .ro, .const 0x0, .any⟩
def COX_UPD_SWAPPED : Field := ⟨0xB00060, 1, 0x1000000, 1, 0x1000000, 0, 7, .ro, .const 0x0, .any⟩

-- COX_LOG (spec/15_cox_management.md, registers section)
def COX_LOG_BLOCKS : Field := ⟨0xB00064, 1, 0x1000000, 1, 0x1000000, 24, 8, .ro, .const 0x80, .any⟩
def COX_LOG_HEAD : Field := ⟨0xB00064, 1, 0x1000000, 1, 0x1000000, 0, 24, .ro, .const 0x0, .any⟩

-- EVT_CFG (spec/16_events_faults_counters.md, registers section)
def EVT_CFG_HANDLE_MS : Field := ⟨0xC00000, 1, 0x1000000, 1, 0x1000000, 0, 16, .rwh, .const 0xA, .clamp 1 1000⟩

-- EVT_NMI (spec/16_events_faults_counters.md, registers section)
def EVT_NMI_COUNT : Field := ⟨0xC00004, 1, 0x1000000, 1, 0x1000000, 16, 16, .rc, .const 0x0, .any⟩
def EVT_NMI_UNIT : Field := ⟨0xC00004, 1, 0x1000000, 1, 0x1000000, 0, 16, .ro, .const 0x0, .any⟩

-- EVT_FQ_STAT (spec/16_events_faults_counters.md, registers section)
def EVT_FQ_STAT_NMI_EV : Field := ⟨0xC00008, 1, 0x1000000, 1, 0x1000000, 30, 2, .ro, .const 0x0, .any⟩
def EVT_FQ_STAT_LOST : Field := ⟨0xC00008, 1, 0x1000000, 1, 0x1000000, 24, 6, .rc, .const 0x0, .any⟩
def EVT_FQ_STAT_LEVEL : Field := ⟨0xC00008, 1, 0x1000000, 1, 0x1000000, 16, 2, .ro, .const 0x0, .any⟩
def EVT_FQ_STAT_QUEUED : Field := ⟨0xC00008, 1, 0x1000000, 1, 0x1000000, 0, 7, .ro, .const 0x0, .any⟩

-- EVT_FQ_CUR0 (spec/16_events_faults_counters.md, registers section)
def EVT_FQ_CUR0_TAG : Field := ⟨0xC0000C, 1, 0x1000000, 1, 0x1000000, 16, 16, .ro, .const 0x0, .any⟩
def EVT_FQ_CUR0_SEV : Field := ⟨0xC0000C, 1, 0x1000000, 1, 0x1000000, 14, 2, .ro, .const 0x0, .any⟩
def EVT_FQ_CUR0_EV : Field := ⟨0xC0000C, 1, 0x1000000, 1, 0x1000000, 0, 10, .ro, .const 0x0, .any⟩

-- EVT_FQ_CUR1 (spec/16_events_faults_counters.md, registers section)
def EVT_FQ_CUR1_COUNT : Field := ⟨0xC00010, 1, 0x1000000, 1, 0x1000000, 16, 16, .ro, .const 0x0, .any⟩
def EVT_FQ_CUR1_UNIT : Field := ⟨0xC00010, 1, 0x1000000, 1, 0x1000000, 0, 16, .ro, .const 0x0, .any⟩

-- EVT_FQ_DONE (spec/16_events_faults_counters.md, registers section)
def EVT_FQ_DONE_TAG : Field := ⟨0xC00014, 1, 0x1000000, 1, 0x1000000, 0, 16, .wo, .const 0x0, .any⟩

-- EVT_HOST (spec/16_events_faults_counters.md, registers section)
def EVT_HOST_EN : Field := ⟨0xC00020, 1, 0x1000000, 1, 0x1000000, 31, 1, .rw, .const 0x0, .any⟩
def EVT_HOST_LOG2SIZE : Field := ⟨0xC00020, 1, 0x1000000, 1, 0x1000000, 24, 5, .rw, .const 0x6, .elseAs 6 16 6⟩
def EVT_HOST_IVEC : Field := ⟨0xC00020, 1, 0x1000000, 1, 0x1000000, 16, 6, .rw, .const 0x0, .any⟩
def EVT_HOST_NMIVEC : Field := ⟨0xC00020, 1, 0x1000000, 1, 0x1000000, 8, 6, .rw, .const 0x1, .any⟩
def EVT_HOST_BASE : Field := ⟨0xC00024, 1, 0x1000000, 2, 0x4, 0, 32, .rw, .const 0x0, .any⟩
def EVT_HOST_PI : Field := ⟨0xC0002C, 1, 0x1000000, 1, 0x1000000, 0, 32, .ro, .const 0x0, .any⟩
def EVT_HOST_CI : Field := ⟨0xC00030, 1, 0x1000000, 1, 0x1000000, 0, 32, .rw, .const 0x0, .any⟩
def EVT_HOST_LOST : Field := ⟨0xC00034, 1, 0x1000000, 1, 0x1000000, 0, 16, .ro, .const 0x0, .any⟩

-- EVT_MASK (spec/16_events_faults_counters.md, registers section)
def EVT_MASK_MASK : Field := ⟨0xC00100, 32, 0x4, 1, 0x1000000, 0, 32, .rw, .const 0x0, .any⟩

-- EVT_SEV (spec/16_events_faults_counters.md, registers section)
def EVT_SEV_SEV : Field := ⟨0xC00200, 64, 0x4, 1, 0x1000000, 0, 32, .ro, .const 0, .any⟩

-- PMU_CTRL (spec/16_events_faults_counters.md, registers section)
def PMU_CTRL_FREEZE : Field := ⟨0xD00000, 1, 0x1000000, 1, 0x1000000, 31, 1, .rw, .const 0x0, .any⟩
def PMU_CTRL_FREEZE_EN : Field := ⟨0xD00000, 1, 0x1000000, 1, 0x1000000, 30, 1, .rw, .const 0x0, .any⟩
def PMU_CTRL_CLEAR : Field := ⟨0xD00000, 1, 0x1000000, 1, 0x1000000, 29, 1, .wo, .const 0x0, .any⟩
def PMU_CTRL_FREEZE_EV : Field := ⟨0xD00000, 1, 0x1000000, 1, 0x1000000, 0, 10, .rw, .const 0x0, .any⟩

-- PMU_SNAP_HEAT_LO (spec/16_events_faults_counters.md, registers section)
def PMU_SNAP_HEAT_LO_HEAT : Field := ⟨0xD00004, 1, 0x1000000, 1, 0x1000000, 0, 32, .ro, .const 0x0, .any⟩

-- PMU_SNAP_HEAT_HI (spec/16_events_faults_counters.md, registers section)
def PMU_SNAP_HEAT_HI_HEAT : Field := ⟨0xD00008, 1, 0x1000000, 1, 0x1000000, 0, 32, .ro, .const 0x0, .any⟩

-- PMU_SAMP (spec/16_events_faults_counters.md, registers section)
def PMU_SAMP_EN : Field := ⟨0xD00010, 4, 0x8, 1, 0x1000000, 31, 1, .rw, .const 0x0, .any⟩
def PMU_SAMP_PERIOD : Field := ⟨0xD00010, 4, 0x8, 1, 0x1000000, 16, 5, .rw, .const 0x10, .any⟩
def PMU_SAMP_SEL : Field := ⟨0xD00010, 4, 0x8, 1, 0x1000000, 0, 12, .rw, .const 0x0, .any⟩
def PMU_SAMP_FILTER : Field := ⟨0xD00014, 4, 0x8, 1, 0x1000000, 0, 16, .rw, .const 0xFFFF, .any⟩

-- PMU_SBUF (spec/16_events_faults_counters.md, registers section)
def PMU_SBUF_EN : Field := ⟨0xD00040, 1, 0x1000000, 1, 0x1000000, 31, 1, .rw, .const 0x0, .any⟩
def PMU_SBUF_LOG2SIZE : Field := ⟨0xD00040, 1, 0x1000000, 1, 0x1000000, 24, 5, .rw, .const 0x6, .elseAs 6 16 6⟩
def PMU_SBUF_IVEC : Field := ⟨0xD00040, 1, 0x1000000, 1, 0x1000000, 16, 6, .rw, .const 0x0, .any⟩
def PMU_SBUF_BASE : Field := ⟨0xD00044, 1, 0x1000000, 2, 0x4, 0, 32, .rw, .const 0x0, .any⟩
def PMU_SBUF_PI : Field := ⟨0xD0004C, 1, 0x1000000, 1, 0x1000000, 0, 32, .ro, .const 0x0, .any⟩
def PMU_SBUF_CI : Field := ⟨0xD00050, 1, 0x1000000, 1, 0x1000000, 0, 32, .rw, .const 0x0, .any⟩
def PMU_SBUF_LOST : Field := ⟨0xD00054, 1, 0x1000000, 1, 0x1000000, 0, 16, .ro, .const 0x0, .any⟩

-- PMU_SEL (spec/16_events_faults_counters.md, registers section)
def PMU_SEL_OVF : Field := ⟨0xD01000, 512, 0x4, 1, 0x1000000, 31, 1, .w1c, .const 0x0, .any⟩
def PMU_SEL_FILTER : Field := ⟨0xD01000, 512, 0x4, 1, 0x1000000, 12, 16, .rwh, .const 0xFFFF, .any⟩
def PMU_SEL_SEL : Field := ⟨0xD01000, 512, 0x4, 1, 0x1000000, 0, 12, .rwh, .const 0x0, .any⟩

-- PMU_CNT (spec/16_events_faults_counters.md, registers section)
def PMU_CNT_VALUE : Field := ⟨0xD02000, 512, 0x8, 2, 0x4, 0, 32, .ro, .const 0x0, .any⟩

-- PMU_SNAP (spec/16_events_faults_counters.md, registers section)
def PMU_SNAP_VALUE : Field := ⟨0xD03000, 512, 0x8, 2, 0x4, 0, 32, .ro, .const 0x0, .any⟩

-- SPR_STATUS (spec/17_spares_and_service_life.md, registers section)
def SPR_STATUS_COX : Field := ⟨0xE00000, 1, 0x1000000, 1, 0x1000000, 20, 4, .ro, .const 0x4, .any⟩
def SPR_STATUS_BANKS : Field := ⟨0xE00000, 1, 0x1000000, 1, 0x1000000, 16, 2, .ro, .const 0x2, .any⟩
def SPR_STATUS_PHASES : Field := ⟨0xE00000, 1, 0x1000000, 1, 0x1000000, 8, 3, .ro, .const 0x4, .any⟩
def SPR_STATUS_ENGINES : Field := ⟨0xE00000, 1, 0x1000000, 1, 0x1000000, 0, 7, .ro, .const 0x58, .any⟩

-- SPR_CFG (spec/17_spares_and_service_life.md, registers section)
def SPR_CFG_WARN : Field := ⟨0xE00004, 1, 0x1000000, 1, 0x1000000, 8, 4, .rwh, .const 0x2, .clamp 0 8⟩
def SPR_CFG_WORN : Field := ⟨0xE00004, 1, 0x1000000, 1, 0x1000000, 0, 8, .rwh, .const 0x8, .clamp 2 50⟩

-- SPR_LIFE (spec/17_spares_and_service_life.md, registers section)
def SPR_LIFE_USED : Field := ⟨0xE00008, 1, 0x1000000, 1, 0x1000000, 0, 14, .ro, .const 0, .any⟩

-- SPR_ENG_INSVC (spec/17_spares_and_service_life.md, registers section)
def SPR_ENG_INSVC_ENG : Field := ⟨0xE00010, 3, 0x4, 1, 0x1000000, 0, 32, .ro, .list [0xFFFFFFFF, 0xFFFFFFFF, 0xFFFFFF], .any⟩

-- SPR_ENG_SPARE (spec/17_spares_and_service_life.md, registers section)
def SPR_ENG_SPARE_ENG : Field := ⟨0xE00020, 3, 0x4, 1, 0x1000000, 0, 32, .ro, .list [0, 0, 0xFF000000], .any⟩

-- SPR_PHASE_LO (spec/17_spares_and_service_life.md, registers section)
def SPR_PHASE_LO_FAULT : Field := ⟨0xE00030, 1, 0x1000000, 1, 0x1000000, 0, 32, .ro, .const 0x0, .any⟩

-- SPR_PHASE_HI (spec/17_spares_and_service_life.md, registers section)
def SPR_PHASE_HI_FAULT : Field := ⟨0xE00034, 1, 0x1000000, 1, 0x1000000, 0, 32, .ro, .const 0x0, .any⟩

-- SPR_REPAIR (spec/17_spares_and_service_life.md, registers section)
def SPR_REPAIR_HBM_FREE : Field := ⟨0xE00038, 1, 0x1000000, 1, 0x1000000, 24, 8, .ro, .const 0x40, .any⟩
def SPR_REPAIR_SRAM : Field := ⟨0xE00038, 1, 0x1000000, 1, 0x1000000, 0, 16, .ro, .const 0x0, .any⟩

/-- The fields of the 1 MiB region 0 of R18. -/
def sysBlock : List Field :=
  [SYS_ID_FAMILY, SYS_ID_PART, SYS_REV_GRADE, SYS_REV_STEPPING, SYS_REV_METAL, SYS_FUNC_MODE_TAKEOVER, SYS_FUNC_MODE_CLKFAIL, SYS_FUNC_MODE_DRVERR, SYS_FUNC_MODE_CTABLE, SYS_FUNC_MODE_UNWRAP, SYS_FUNC_MODE_LAGGARD, SYS_FUNC_MODE_PATROL] ++
  [SYS_FUNC_MODE_REBUILD, SYS_FUNC_MODE_GC, SYS_FUNC_MODE_MAPMISS, SYS_FUNC_MODE_REACH, SYS_FUNC_MODE_ADMIT, SYS_FUNC_EFF_ROUTE, SYS_FUNC_EFF_MODE, SYS_STATUS_CAUSE, SYS_STATUS_STAGE, SYS_STRAP_TWIN_PRSNT, SYS_STRAP_BAY_MASTER, SYS_STRAP_SETTLE] ++
  [SYS_RESET_KEY, SYS_RESET_COX, SYS_RESET_SYSTEM, BOOT_STATUS_SETTLE_MS, BOOT_STATUS_SETTLE_SRC, BOOT_STATUS_FAIL_B, BOOT_STATUS_FAIL_A, BOOT_STATUS_ACTIVE, BOOT_SEQ_A_LO_SEQ, BOOT_SEQ_A_HI_SEQ, BOOT_SEQ_B_LO_SEQ, BOOT_SEQ_B_HI_SEQ] ++
  [BOOT_REFUSE_SOURCE, BOOT_REFUSE_COUNT, BOOT_REFUSE_ADDR, CLK_CTRL_HOLDOVER_MS, CLK_CTRL_AUTO_RESTART, CLK_CTRL_HANG_BREAK, CLK_STATUS_WATCH, CLK_STATUS_HOLD, CLK_STATUS_B_STATE, CLK_STATUS_A_STATE, CLK_STATUS_ACTIVE, CLK_MON_LIMIT_GROSS] ++
  [CLK_MON_LIMIT_PPM, CLK_DIFF_PPB, CLK_MUX_CMD_KEY, CLK_MUX_CMD_HARD, CLK_MUX_CMD_SEL, CLK_DOM_STATUS_DOM, CLK_DECIDE_LIMIT_MS, CLK_GATE_CFG_IDLE, CLK_GATE_FORCE_XSP, CLK_GATE_FORCE_EPT, CLK_GATE_FORCE_TWN, CLK_GATE_FORCE_NET] ++
  [CLK_GATE_FORCE_BAY_BAY, CLK_GATE_STATUS_CLOSED, CLK_GATE_STATUS_BAY_CLOSED, PACE_TARGET_RATE, PACE_LIMIT_TLIMIT, PACE_LIMIT_VCEIL, PACE_STATUS_TLIM, PACE_STATUS_CEIL, PACE_STATUS_RATE, PACE_DOM_EXCL, PACE_DOM_CYCLE, PACE_DOM_VOLT]

/-- The fields of the 1 MiB region 1 of R18. -/
def skfBlock : List Field :=
  [SKF_CFG_V6, SKF_CFG_V4, SKF_CFG_MTU, SKF_CFG_CSUM4, SKF_CFG_PORT, SKF_SHELF_FED_EN, SKF_SHELF_SHELF_ID, SKF_IDLE_MS, SKF_RTO_LIMIT, SKF_RTO_CAP, SKF_RTO_BASE, SKF_CC_RTT_TARGET] ++
  [SKF_CC_CWND_MAX, SKF_CC_CWND_INIT, SKF_FLOWS_DIE_COUNT, SKF_FLOWS_HBM_COUNT, SKF_PARK_PARKED, SKF_GEN_NEXT, SKF_DROP_MALFORMED, SKF_DROP_WINDOW, SKF_DROP_NEW_REFUSED, SKF_DROP_PARK_FULL, SKF_FED_VALID, SKF_FED_IPV6] ++
  [SKF_FED_LPORT, SKF_FED_SHELF_ID, SKF_FED_TAGGED, SKF_FED_VID, SKF_FED_MAC_LO, SKF_FED_MAC_HI, SKF_FED_ADDR]

/-- The fields of the 1 MiB region 2 of R18. -/
def nvtBlock : List Field :=
  [NVT_DEADLINE_US, NVT_CTX_RSV, NVT_CTX_CAP, NVT_CTX_USED_USED, NVT_ASSOC_COUNT, NVT_KATO_MAX, NVT_KATO_MIN, NVT_STATUS_HALT, NVT_IDENT_SSVID, NVT_IDENT_VID, NVT_OUI_OUI, NVT_NS_VALID] ++
  [NVT_NS_SUB, NVT_NS_ERRMODE, NVT_NS_PITYPE, NVT_NS_FMT, NVT_HOST_VALID, NVT_HOST_SUB, NVT_HOST_HOSTID]

/-- The fields of the 1 MiB region 3 of R18. -/
def hmpBlock : List Field :=
  [HMP_HEAT_LEN, HMP_HEAT_NUM_LO_NUM, HMP_HEAT_NUM_HI_NUM, HMP_TURN_LONGEST, HMP_TURN_LAST, HMP_ALIGN_TOL, HMP_ALIGN_PTP, HMP_ALIGN_STAT_ALIGNED, HMP_ALIGN_STAT_LEAD, HMP_ALIGN_STAT_OFFSET, HMP_MAP_GIB, HMP_PFAIL_DRAIN] ++
  [HMP_PFAIL_STATE, HMP_EXHAUST_HN, HMP_DROP_FED, HMP_DROP_CAPSULE, HMP_POOL_SIZE, HMP_USE_PEAK, HMP_USE_NOW]

/-- The fields of the 1 MiB region 4 of R18. -/
def crwBlock : List Field :=
  [CRW_CREW_VALID, CRW_CREW_INIT, CRW_CREW_K, CRW_CREW_CHUNK, CRW_CREW_JAREA, CRW_CREW_SEAT, CRW_CREW_ROWS, CRW_CREW_STATE, CRW_CREW_JSEAT, CRW_CREW_ISEAT, CRW_CREW_PATROL_ROW, CRW_VOL_VALID] ++
  [CRW_VOL_PRIV, CRW_VOL_COMP, CRW_VOL_KEYSLOT, CRW_VOL_CREW, CRW_VOL_BASE_ROW, CRW_VOL_ROWS, CRW_VOL_CAP, CRW_PVOL_VALID, CRW_PVOL_VOL, CRW_PVOL_FREE, CRW_PVOL_PASS, CRW_LS_HOLD] ++
  [CRW_GC_ROUND, CRW_GC_HIGH, CRW_GC_LOW, CRW_MAP_SWEEP_MS, CRW_PATROL_EN, CRW_PATROL_DAYS, CRW_JRNL_FLUSH_US, CRW_ASM_WAIT_S, CRW_TORN_COUNT, CRW_FAIL_MEDIA_MAX, CRW_FAIL_CMD_MS, CRW_FAIL_HEDGE_US] ++
  [CRW_EASY_EN, CRW_EASY_FACTOR, CRW_EASY_HOLD_MS, CRW_EASY_CLEAR, CRW_EASY_LIMIT, CRW_EASY_FULL, CRW_RBLD_FLOOR, CRW_RBLD_RATE, CRW_SPARE_BAY, CRW_SEATST_STATE, CRW_SEATST_FRONTIER]

/-- The fields of the 1 MiB region 5 of R18. -/
def cmpBlock : List Field :=
  [CMP_CFG_MARGIN, CMP_CFG_REBUILD, CMP_CFG_TABLE, CMP_CFG_LAZY, CMP_CFG_DEPTH, CMP_LIMIT_IDLE_MS, CMP_STATUS_STREAMS, CMP_STATUS_DUNITS, CMP_STATUS_CUNITS, CMP_RAW_COUNT, CMP_ERR_READ, CMP_ERR_VERIFY] ++
  [CMP_UNITS_C_INSVC, CMP_UNITS_D_INSVC, CMP_VOLSTAT_GRAINS, CMP_VOLSTAT_SECT, CMP_VOLSTAT_RAW]

/-- The fields of the 1 MiB region 6 of R18. -/
def cipBlock : List Field :=
  [CIP_CFG_REQUIRE, CIP_KLOAD_CMD_KEY, CIP_KLOAD_CMD_OP, CIP_KLOAD_CMD_SLOT, CIP_KLOAD_STAT_BUSY, CIP_KLOAD_STAT_SLOT, CIP_KLOAD_STAT_RESULT, CIP_KLOAD_DATA_DATA, CIP_KEK_STAT_LOADED, CIP_NONCE_VALID, CIP_NONCE_START, CIP_ERR_TAG] ++
  [CIP_ERR_CHECK, CIP_UNITS_GCM, CIP_UNITS_XTS, CIP_FEDKEY_EN, CIP_FEDKEY_SLOT, CIP_SLOT_STATE, CIP_SLOT_TYPE, CIP_SLOT_KEKID, CIP_SLOT_ANYPTAG, CIP_SLOT_PTAG]

/-- The fields of the 1 MiB region 7 of R18. -/
def swcBlock : List Field :=
  [SWC_PORT_AN, SWC_PORT_MODE, SWC_LINK_UP, SWC_MAC_LO_MAC, SWC_MAC_HI_MAC, SWC_BUF_LEAFMAX, SWC_BUF_STAT_BANKS, SWC_BUF_STAT_FREE, SWC_RESID_COUNT, SWC_RESID_LIMIT_US, SWC_DROP_ADMIT, SWC_DROP_RESID] ++
  [SWC_DROP_GATE, SWC_DROP_OTHER, SWC_DROP_ERR, SWC_QCFG_ALPHA, SWC_QCFG_MIN_MC, SWC_QCFG_MIN_INT, SWC_QCFG_MIN_EXT, SWC_ECN_PMAX, SWC_ECN_EN, SWC_ECN_KMAX, SWC_ECN_KMIN, SWC_ADDR_VALID] ++
  [SWC_ADDR_IPV6, SWC_ADDR_PARTNER, SWC_ADDR_ACTIVE, SWC_ADDR_LPORT, SWC_ADDR_TAGGED, SWC_ADDR_VID, SWC_ADDR_MAC_LO, SWC_ADDR_MAC_HI, SWC_ADDR_ADDR, SCH_CFG_CTRLSVC, SCH_CFG_FEDSUB, SCH_CFG_DEFSUB] ++
  [SCH_DSCP_SVC0, SCH_DSCP_SVC1, SCH_DSCP_SVC2, SCH_DSCP_SVC3, SCH_DSCP_SVC4, SCH_DSCP_SVC5, SCH_DSCP_SVC6, SCH_DSCP_SVC7, SCH_SVC_SP, SCH_SVC_WEIGHT, SCH_PTP_CFG_EN, SCH_PTP_CFG_ALTPORT, SCH_PTP_CFG_LPORT, SCH_PTP_CFG_TRANSPORT, SCH_PTP_CFG_DOMAIN, SCH_PTP_STAT_LOCKED, SCH_PTP_STAT_PORT, SCH_PTP_STAT_OFFSET, SCH_TOD_NS_TOD] ++
  [SCH_TOD_SEC_LO_TOD, SCH_TOD_SEC_HI_TOD, SCH_PORT_OVH, SCH_PORT_RATE, SCH_GCL_EN, SCH_GCL_PENDING, SCH_GCL_OPER, SCH_GCL_CYCLE, SCH_GCL_BASE_NS, SCH_GCL_BASE_SEC_LO, SCH_GCL_BASE_SEC_HI, SCH_GCL_GUARD] ++
  [SCH_GCL_CHANGE, SCH_GCE_GATES, SCH_GCE_INTERVAL, SCH_SUB_WEIGHT, SCH_SUB_BURST, SCH_SUB_RATE]

/-- The fields of the 1 MiB region 8 of R18. -/
def bayBlock : List Field :=
  [BAY_CFG_AUTOIND, BAY_CFG_BTNACT, BAY_RETRY_RESTART_C, BAY_RETRY_TRIP_C, BAY_RETRY_MAX, BAY_FEED_UV, BAY_FEED_VGOOD, BAY_FEED_VFAIL, BAY_FEED_RET_MS, BAY_FEED_STAT_B_GOOD, BAY_FEED_STAT_B_V, BAY_FEED_STAT_A_GOOD] ++
  [BAY_FEED_STAT_A_V, BAY_THM_TAMB, BAY_THM_RTH, BAY_THM_CTH, BAY_THM_RDS, BAY_PWR_GROUP, BAY_PWR_RAMP_MS, BAY_PWR_CYCLE_MS, BAY_TIME_SHUT_MS, BAY_TIME_PERST_MS, BAY_TIME_TRAIN, BAY_SLTCAP_PSN] ++
  [BAY_SLTCAP_NCCS, BAY_SLTCAP_EIP, BAY_SLTCAP_SPLS, BAY_SLTCAP_SPLV, BAY_SLTCAP_HPC, BAY_SLTCAP_HPS, BAY_SLTCAP_PIP, BAY_SLTCAP_AIP, BAY_SLTCAP_MRLSP, BAY_SLTCAP_PCP, BAY_SLTCAP_ABP, BAY_SLTCTL_DLLSC] ++
  [BAY_SLTCTL_PDS, BAY_SLTCTL_PDC, BAY_SLTCTL_PFD, BAY_SLTCTL_ABP, BAY_SLTCTL_DLLSCE, BAY_SLTCTL_PCC, BAY_SLTCTL_PIC, BAY_SLTCTL_AIC, BAY_SLTCTL_HPIE, BAY_SLTCTL_PDCE, BAY_SLTCTL_PFDE, BAY_SLTCTL_ABPE] ++
  [BAY_PCFG_EN, BAY_PCFG_PRIO, BAY_PCFG_TSRC, BAY_PCFG_TIMER_MS, BAY_PCFG_LIMIT, BAY_PSTAT_STATE, BAY_PSTAT_PG, BAY_PSTAT_FEED, BAY_PSTAT_OWNER, BAY_PSTAT_TIMER, BAY_PSTAT_RETRY, BAY_PSTAT_LAST] ++
  [BAY_PSTAT_REMAIN, BAY_MEAS_CURRENT, BAY_MEAS_VBAY, BAY_THERM_DIODE_BAD, BAY_THERM_TB, BAY_THERM_TA, BAY_LINKST_FAIL, BAY_LINKST_DLLLA, BAY_LINKST_WIDTH, BAY_LINKST_SPEED]

/-- The fields of the 1 MiB region 9 of R18. -/
def wrgBlock : List Field :=
  [WRG_MODE_COMPAT, WRG_FUNC_EN, WRG_FUNC_RING, WRG_RING_EN, WRG_RING_KIND, WRG_RING_LOG2SIZE, WRG_RING_WEIGHT, WRG_RING_BURST, WRG_RING_CQ, WRG_RING_BASE, WRG_RING_SHADOW, WRG_RING_IEN] ++
  [WRG_RING_IVEC, WRG_RING_COAL, WRG_RING_SLOT, WRG_RING_DATA, WRG_IDX_PI, WRG_IDX_CI, WRG_IDX_STATE, WRG_IDX_LOST]

/-- The fields of the 1 MiB region 10 of R18. -/
def eptBlock : List Field :=
  [EPT_ID_DEVICE, EPT_ID_VENDOR, EPT_SUBID_SUBSYS, EPT_SUBID_SUBVEN, EPT_CLASS_CLASS, EPT_ROM_WINDOW, EPT_ROM_OPTROM, EPT_WIN_PAGE_PAGE, EPT_IRQ_PEND_LO_PEND, EPT_IRQ_PEND_HI_PEND, EPT_IRQ_MASK_LO_MASK, EPT_IRQ_MASK_HI_MASK] ++
  [EPT_STATUS_MSIX, EPT_STATUS_INTA, EPT_STATUS_UP, EPT_STATUS_CCLK, EPT_STATUS_WIDTH, EPT_STATUS_SPEED, EPT_ERR_READ, EPT_ERR_ABORT]

/-- The fields of the 1 MiB region 11 of R18. -/
def coxBlock : List Field :=
  [COX_STATUS_FWVER, COX_STATUS_CORES, COX_WDT_MS, COX_THERM_TRIP, COX_THERM_WARN, COX_TEMP_T, COX_HBMT_HB1, COX_HBMT_HB0, COX_MCTP_EID, COX_MCTP_BUS, COX_MCTP_SMBADDR, COX_OOB_CFG_EN] ++
  [COX_OOB_CFG_IPV6, COX_OOB_CFG_PORT, COX_OOB_IP_ADDR, COX_UPD_STATE, COX_UPD_PEND, COX_UPD_RUNCOPY, COX_UPD_SWAPPED, COX_LOG_BLOCKS, COX_LOG_HEAD]

/-- The fields of the 1 MiB region 12 of R18. -/
def evtBlock : List Field :=
  [EVT_CFG_HANDLE_MS, EVT_NMI_COUNT, EVT_NMI_UNIT, EVT_FQ_STAT_NMI_EV, EVT_FQ_STAT_LOST, EVT_FQ_STAT_LEVEL, EVT_FQ_STAT_QUEUED, EVT_FQ_CUR0_TAG, EVT_FQ_CUR0_SEV, EVT_FQ_CUR0_EV, EVT_FQ_CUR1_COUNT, EVT_FQ_CUR1_UNIT] ++
  [EVT_FQ_DONE_TAG, EVT_HOST_EN, EVT_HOST_LOG2SIZE, EVT_HOST_IVEC, EVT_HOST_NMIVEC, EVT_HOST_BASE, EVT_HOST_PI, EVT_HOST_CI, EVT_HOST_LOST, EVT_MASK_MASK, EVT_SEV_SEV]

/-- The fields of the 1 MiB region 13 of R18. -/
def pmuBlock : List Field :=
  [PMU_CTRL_FREEZE, PMU_CTRL_FREEZE_EN, PMU_CTRL_CLEAR, PMU_CTRL_FREEZE_EV, PMU_SNAP_HEAT_LO_HEAT, PMU_SNAP_HEAT_HI_HEAT, PMU_SAMP_EN, PMU_SAMP_PERIOD, PMU_SAMP_SEL, PMU_SAMP_FILTER, PMU_SBUF_EN, PMU_SBUF_LOG2SIZE] ++
  [PMU_SBUF_IVEC, PMU_SBUF_BASE, PMU_SBUF_PI, PMU_SBUF_CI, PMU_SBUF_LOST, PMU_SEL_OVF, PMU_SEL_FILTER, PMU_SEL_SEL, PMU_CNT_VALUE, PMU_SNAP_VALUE]

/-- The fields of the 1 MiB region 14 of R18. -/
def sprBlock : List Field :=
  [SPR_STATUS_COX, SPR_STATUS_BANKS, SPR_STATUS_PHASES, SPR_STATUS_ENGINES, SPR_CFG_WARN, SPR_CFG_WORN, SPR_LIFE_USED, SPR_ENG_INSVC_ENG, SPR_ENG_SPARE_ENG, SPR_PHASE_LO_FAULT, SPR_PHASE_HI_FAULT, SPR_REPAIR_HBM_FREE] ++
  [SPR_REPAIR_SRAM]

/-- The fields of the 1 MiB region 15 of R18. -/
def twnBlock : List Field :=
  [TWN_CFG_GIVEBACK, TWN_CFG_XM_WAIT, TWN_CFG_DEFER, TWN_CFG_DEAD_US, TWN_OWN_OWN, TWN_OWN_PREF, TWN_STATUS_STATE, TWN_STATUS_LINK, TWN_STATUS_LAST_US, TWN_CMD_KEY, TWN_CMD_GIVEBACK, TWN_CMD_TAKEOVER] ++
  [TWN_CMD_HANDOVER, TWN_XM_VALID, TWN_XM_ROLE, TWN_XM_VOL, TWN_XM_PEER_SHELF, TWN_XM_SPLIT, TWN_XM_PEER_VOL]

/-- The fields of each 1 MiB region, by the region's number (R18); above it no register exists (R19). -/
def block (n : Nat) : List Field :=
  match n with
  | 0 => sysBlock
  | 1 => skfBlock
  | 2 => nvtBlock
  | 3 => hmpBlock
  | 4 => crwBlock
  | 5 => cmpBlock
  | 6 => cipBlock
  | 7 => swcBlock
  | 8 => bayBlock
  | 9 => wrgBlock
  | 10 => eptBlock
  | 11 => coxBlock
  | 12 => evtBlock
  | 13 => pmuBlock
  | 14 => sprBlock
  | 15 => twnBlock
  | _ => []

end Sys2Proof.Machine.F
end

