-- ==== Sys2Proof/Machine/State.lean ====
section
/-!
DEFINITION. The state of the NP32 as plain data: every register field (sparse stores keyed by bit address), every
record, list and mode that the spec gives the block, the queue of waiting commands, and what the block has sent.
A register field lives in `regs`; an H-class field has its shadow there and its value in effect in `eff` (R12, R13).
-/

namespace Sys2Proof.Machine

/-- An event record (R479). `ev` 0 to 1,023; `sev` 0 notice, 1 degraded, 2 critical, 3 fatal. -/
structure EvRec where
  ev : Nat
  sev : Nat
  flags : Nat
  unit : Nat
  count : Nat
  heat : Nat
  time : Nat
  detail : Nat
deriving DecidableEq, Repr

/-- An entry of the fault queue (R485): queued, or under handling. `limit` is the HANDLE_MS that its handling keeps. -/
structure FqEntry where
  tag : Nat
  ev : Nat
  sev : Nat
  unit : Nat
  count : Nat
  limit : Nat
deriving DecidableEq, Repr

/-- A sample record (R494), as far as the block's own state fixes it. -/
structure Sample where
  sampler : Nat
  sel : Nat
  unit : Nat
  heat : Nat
  time : Nat
  ctx : Nat
  cntlid : Nat
  qid : Nat
  cid : Nat
  nsid : Nat
  /-- ENGINE, CLASS, STEP and LAT: values of the self-timed core that the spec leaves open (a free value). -/
  engineView : Nat
deriving DecidableEq, Repr

/-- Events, the fault queue, the counters and the samplers (spec/16_events_faults_counters.md). -/
structure EvState where
  /-- cox's HBM event buffer, newest first (R480). -/
  buf : List EvRec
  /-- Records waiting for room in the steward host's event ring, oldest first (R481). -/
  wait : List EvRec
  /-- Handlings in progress, the entry in hand first (R486). -/
  hand : List FqEntry
  /-- Queued entries in order of severity, then of raise (R485). -/
  queue : List FqEntry
  nextTag : Nat
  /-- Events raised already in this heat under a once-per-heat limit: event and key. -/
  once : List (Nat × Nat)
  /-- Occurrences counted by each sampler since it was started or since its last record (R494). -/
  sampCount : List Nat
  /-- The HBM sampling buffer, newest first (R494). -/
  samples : List Sample
  /-- Sample records that wait for the endpoint link, oldest first (R496). -/
  sampleWait : List Sample
  /-- A sample record has been lost and EV0060 is due (R494). -/
  sampleLost : Bool
  /-- cox firmware runs (it is restarted after a cox reset; queued entries wait until then, R489). -/
  coxRuns : Bool
deriving DecidableEq, Repr

/-- A logbook record (R453). -/
structure LogRec where
  seq : Nat
  time : Nat
  start : Nat
  kind : Nat
  sev : Nat
  flags : Nat
  heat : Nat
  payload : List Nat
deriving DecidableEq, Repr

/-- The registers of BAR0 in recovery mode (R60): command word, NOR offset, length, status word, and the 64 KiB data buffer, whose
unlisted bytes read 0. -/
structure RecBar where
  cmd : Nat
  offset : Nat
  length : Nat
  status : Nat
  buf : Cells
deriving DecidableEq, Repr

/-- The start sequencer, the straps' pins and the boot NOR (spec/02_startup_and_boot_image.md). -/
structure BootState where
  /-- The NOR answers and describes a capacity that R50 allows. -/
  norOk : Bool
  /-- Capacity in MiB. -/
  norCap : Nat
  /-- Contents below the logbook, by byte address; an unlisted byte reads 0xFF (erased). -/
  nor : Cells
  /-- The copy under check: 0 Copy A, 1 Copy B (R56). -/
  checking : Option Nat
  /-- A reference check has failed during this start (R49). -/
  refFailed : Bool
  /-- PWR_FAIL_N before ready: 0 not asserted, 1 the current step still runs, 2 stopped, 3 stopped
  before step 10 (R41). -/
  hold : Nat
  /-- A reference has passed the reference check of this start (R59). -/
  refPassed : Bool
  /-- SYS_RST_N is held low. -/
  rstLow : Bool
  /-- PERST_N is held low. -/
  perstLow : Bool
  /-- The start number of this start, when it has been issued (R454). -/
  startNumber : Option Nat
  /-- The levels at the strap pins, as a row last named them; a start samples them (R43). -/
  pins : Straps
  /-- The NOR works in 8D-8D-8D mode; otherwise in 1S-1S-1S (R51, R527). -/
  norOctal : Bool
  /-- BAR0 in recovery mode. -/
  bar : RecBar
deriving DecidableEq, Repr

/-- The fuses that rules of the spec write or read (R54, R454, R459, R505, R507). -/
structure Fuses where
  /-- Digests of key slots 0 to 3; 0 is an empty slot (R458). -/
  slots : List Nat
  revoked : List Bool
  /-- The key transport key, once written (R459). -/
  ktk : Option Nat
  /-- Blown bits of the 63-bit epoch field (R454). -/
  epoch : Nat
  /-- SRAM repairs held in fuses: array, row or column, and whether it is a row (R505). -/
  sramRepairs : List (Nat × Nat × Bool)
  /-- The hard-repair table for HBM rows, at most 64 entries: stack, bank and row (R507). -/
  hbmRepairs : List (Nat × Nat × Nat)
deriving DecidableEq, Repr

/-- The monitor's checks that apply to one reference (R82). -/
structure RefChecks where
  stopped : Bool
  gross : Bool
  suspect : Bool
deriving DecidableEq, Repr

/-- An access that is pending at a unit whose gate is being forced (R94): its path, address, whether it writes, and the inbound
ring of a register entry. -/
structure GateAccess where
  path : Path
  addr : Nat
  write : Bool
  ring : Nat
deriving DecidableEq, Repr

/-- A unit whose forced gate waits up to 256 cycles for pending accesses (R94): the unit (0–7 N0–N7, 8 TWN, 9 EPT, 10 XSP,
32 + nn bays), the number of the write that set the gate, 0 once EV0041 has been raised for that write, and the accesses. -/
structure GateWait where
  unit_ : Nat
  num : Nat
  accesses : List GateAccess
deriving DecidableEq, Repr

/-- The clock monitor, the edge multiplexers, the gates and the pace controller (spec/03_self_timed_core_and_clocks.md). -/
structure ClkState where
  /-- The source to which busy multiplexers are switching (CLK_STATUS.ACTIVE encoding). -/
  target : Nat
  /-- A failover is in progress: its glitch-free switches have not all completed (R96). -/
  failover : Bool
  /-- A commanded switch that waits for a failover to end: target and whether hard (R96). -/
  waiting : Option (Nat × Bool)
  /-- Excluded canaries: pace domain and index (R77). -/
  excluded : List (Nat × Nat)
  /-- Ticks of 10 µs since the last step up of each pace domain (R75). -/
  sinceUp : List Nat
  /-- Taken off the target for heat (R78), in 1/50 slot per µs: a step of 2 % is PACE_TARGET.RATE of these units. -/
  thermCut : Nat
  /-- Pace domains below target (R76). -/
  below : List Nat
  /-- 50 mV reductions of each pace domain's ceiling (R503). -/
  ceilCut : List Nat
  /-- Units whose forced gate waits for pending accesses (R94). -/
  gateWaiting : List GateWait
  /-- The checks that apply to REFCLKA and REFCLKB (R82). -/
  checks : RefChecks × RefChecks
  /-- Distances of REFCLKA and REFCLKB from the rate measured against PTP time, in the last 10 ms window (R84). -/
  offs : Nat × Nat
  /-- The HBM runs at 5.6 Gb/s per pin (R88). -/
  hbmSlow : Bool
deriving DecidableEq, Repr

/-- An inbound ring entry that has been taken in and has not taken effect (R404). -/
structure Taken where
  ring : Nat
  idx : Nat
  entry : Entry
deriving DecidableEq, Repr

/-- An item of host-assisted work (R27, R413). `arg` and `arg2` hold what the item is about, by function:
0 flow number; 1 command context; 2 command context or volume, and grain; 3 volume; 4 crew and seat; 5 crew;
6 crew and seat; 7 key slot; 8 stream number; 9 bay, and the ladder step fixed next; 10 reference; 11 cause. -/
structure Item where
  tag : Nat
  fn : Nat
  cox : Bool
  ring : Nat
  arg : Nat
  arg2 : Nat
  /-- Elapsed time of its fallback point, in ns (R28, R33, R86, R177). -/
  fallAt : Nat
deriving DecidableEq, Repr

/-- Work rings beyond their registers (spec/13_work_rings.md). -/
structure WrgState where
  /-- Entries taken in, oldest first. -/
  taken : List Taken
  /-- Rings whose COAL gap runs, and whether an index advanced during the gap (R402). -/
  gaps : List (Nat × Bool)
  /-- Credits left in the current arbitration round, for the steward host's and cox's rings (R414). -/
  credit : List (Nat × Nat)
  /-- The ring visited last, for each host (R414): the next visit goes to a higher ring number, wrapping. -/
  last : Nat
  lastCox : Nat
  nextItem : Nat
  items : List Item
  /-- Items that have fallen back, kept for the statuses late and unknown (R409): tag, whether cox held it, and elapsed time. -/
  fallen : List (Nat × Bool × Nat)
  /-- Where each function's host-assisted work goes in this heat: 0 steward host, 1 cox, 2 hardware for the rest (R25, R31). -/
  route : List Nat
  /-- Rings that have completed with a missing completion ring: EV0775 is raised once (R419). -/
  noCq : List Nat
deriving DecidableEq, Repr

/-- The endpoint's configuration space and interrupt state beyond its registers (spec/14_steward_endpoint.md). -/
structure EptState where
  /-- The data link layer is active. -/
  dlActive : Bool
  d3hot : Bool
  memSpace : Bool
  busMaster : Bool
  romEnable : Bool
  intDisable : Bool
  fnMask : Bool
  /-- Masked vectors of the MSI-X table; every vector is masked after reset. -/
  msixMasked : List Nat
  /-- Addresses and data of the MSI-X table: doubleword 4 × vector + w, w = 0 to 2, where it is not 0 (R426). -/
  msixTable : List (Nat × Nat)
  /-- The MSI-X pending bit array. -/
  pba : List Nat
  /-- The last INTx message sent was Assert_INTA. -/
  intaSent : Bool
  idoReq : Bool
  idoCpl : Bool
  /-- The reference input that carries the clock of the endpoint's host, if one does (R80). -/
  hostRef : Option Nat
  /-- Programmed addresses of BAR0–BAR1 and of the Expansion ROM BAR, multiples of 16 MiB. -/
  bar0 : Nat
  romBar : Nat
deriving DecidableEq, Repr

/-- An activation in progress (R464). -/
structure Roll where
  /-- The copy being rolled in: 0 A, 1 B. -/
  copy : Nat
  /-- Engines that run the new microcode. -/
  newEngines : List Nat
  /-- The old engine that is leaving in the current swap, if one is unfinished. -/
  leaving : Option Nat
  /-- Whether the roll is being undone (R465). -/
  back : Bool
deriving DecidableEq, Repr

/-- cox: logbook, signed commands, update, attestation and sanitize (spec/15_cox_management.md). -/
structure CoxState where
  /-- Logbook records, newest first (R452). -/
  log : List LogRec
  /-- Challenges held, oldest first: value, MCTP endpoint and the time of issue (R456). -/
  challenges : List (Nat × Nat × Nat)
  /-- Key encryption keys KEK0 to KEK7 as loaded: identifier and key (R334, R460). -/
  keks : List (Nat × Nat)
  /-- cox is halted: the digest of its HBM copy differed (R69). -/
  halted : Bool
  /-- Last watchdog expiry of each core and its elapsed time (R504). -/
  expired : List (Nat × Nat)
  /-- MCTP endpoint identifier assigned on SMBus or I3C (R444). -/
  eid : Nat
  /-- The PLDM event receiver (R449). -/
  receiver : Option Nat
  /-- The SMBus frequency and MCTP transmission unit set by NVMe-MI (R447). -/
  smbFreq : Nat
  mtu : Nat
  /-- Instants of the PLDM event messages sent within the last second, and how many events have found 64 of them (R449). -/
  pldmSent : List Nat
  pldmMissed : Nat
  /-- The instant at which EV0912 was last raised (R451). -/
  warned : Option Nat
  /-- Section versions of the running cox firmware and microcode (R461, R463). -/
  fwVersion : Nat
  ucVersion : Nat
  /-- The update agent, and the staged image (R461). -/
  agent : Option Nat
  staged : Cells
  stagedOk : Bool
  roll : Option Roll
  /-- The digest of the configuration section in effect since the last start (R469), and the option-ROM section that the endpoint's page
  shows: its length and its bytes that are not 0xFF (R466). -/
  startConfig : Nat
  optRom : Option (Nat × Cells)
  /-- Key encryption keys whose KEK_CLEAR waits for unwraps that run under them (R474). -/
  kekClears : List Nat
  /-- SPDM requesters and the last request served to each, as a state of the exchange (R467). -/
  spdm : List (Nat × Nat)
  /-- Bays under sanitize and their progress (R471), bays whose last sanitize failed, and the action of each bay under sanitize. -/
  sanitizing : List (Nat × Nat)
  sanFailed : List Nat
  sanActions : List (Nat × Nat)
deriving DecidableEq, Repr

/-- Spares beyond their registers (spec/17_spares_and_service_life.md). -/
structure SprState where
  /-- Engines found worn that wait for a swap at a turn (R500). -/
  worn : List Nat
  /-- Phases that serve each regulator domain beyond their own, as spare phase and domain (R502). -/
  joined : List (Nat × Nat)
  /-- Domains that run one phase short (R503). -/
  short : List Nat
  /-- SRAM repairs whose fuse is not yet blown: array, row or column, and whether it is a row (R505, R509). -/
  soft : List (Nat × Nat × Bool)
  /-- MiB retired from hampers (R507), one member for each. -/
  retired : List Nat
  /-- Buffers retired with rows and columns of on-die arrays that no spare could replace (R506): array, what it held, and how many. -/
  lost : List (Nat × ArrayUse × Nat)
  /-- The part of SPR_LIFE.USED below 0.01 %, in 10^-12 of that unit. -/
  lifeRest : Nat
deriving DecidableEq, Repr

/-- The JTAG port (R529). -/
inductive Jtag where
  | idcode | bypass | samplePreload | extest | clamp
deriving DecidableEq, Repr


/-- An exact fraction, kept in lowest terms. -/
structure Frac where
  num : Nat
  den : Nat
deriving DecidableEq, Repr

/-- A drive bay beyond its registers (spec/12_drive_bays_and_power.md). -/
structure Bay where
  /-- The verdict of R377, which runs on through a system reset; Slot Status PDS shows it. -/
  seated : Bool
  /-- The gate of the feed in use is driven on. -/
  gate : Bool
  /-- BAYnn_PERST_N is asserted. -/
  perst : Bool
  /-- The 10 ms period after step 8 in which the bay may first leave COOLING (R388). -/
  slot : Nat
  /-- LIMIT in A and TIMER_MS with which the running fault timer started (R395). -/
  limit : Nat
  timerMs : Nat
  /-- Elapsed time in ns at which RAMP began, and the time spent in it once it has ended (R383). -/
  rampAt : Nat
  rampTime : Nat
  /-- Elapsed time at which the running fault timer started, and the time of the runs before it in this attempt. -/
  timerAt : Nat
  timerTime : Nat
  /-- Elapsed time at which the retry period ends. -/
  retryEnd : Nat
  /-- ΔT of FET A and FET B in °C (R385). -/
  dtA : Frac
  dtB : Frac
  /-- The last valid reading of the diode in °C (R386). -/
  diode : Option Int
  /-- The 5 s blink of the attention indicator after a refused stop (R391). -/
  refusedBlink : Bool
  /-- The 5 s after a press of the button on a bay that is ON (R392). -/
  buttonBlink : Bool
  /-- A stop was requested during CHANGEOVER (R395). -/
  stopWanted : Bool
  /-- Training attempts since the last release of PERST under R380; 0 while none is made, 3 once both have failed (R375). -/
  trains : Nat
  /-- CC.EN has been set and the controller has shown CSTS.RDY = 1 (R375). -/
  ready : Bool
  /-- Power-good has stayed asserted since the start of a system reset (R68). -/
  kept : Bool
deriving DecidableEq, Repr

/-- The bays and the bay-power die. -/
structure BayState where
  bays : List Bay
  /-- Step 8 has let bays leave COOLING (R388). -/
  released : Bool
  /-- Changes of presence wait for step 8 to be reported (R377). -/
  defer : Bool
  /-- After the turn of a giveback this NP32 still drives the gates for 100 µs (R389). -/
  releasing : Bool
deriving DecidableEq, Repr


/-- A frame, or one copy of a multicast frame, that waits in the packet buffer (R349 to R356). `dst` is the logical port
0 to 31, or 32 + h for internal port h. `sub` is the subscriber of a leaf, 4,096 for the control queue. -/
structure Held where
  id : Nat
  dst : Nat
  sub : Nat
  svc : Nat
  len : Nat
  cells : Nat
  /-- Source address, UDP source port and PTAG of a Skiff frame toward the engines. -/
  flow : Nat × Nat × Nat
  /-- CE was set on entry (R353). -/
  ce : Bool
  /-- The multicast frame whose payload the copy shares (R354). -/
  shared : Option Nat
  /-- The frame was waiting when the current cycle of the port's gate list began (R362). -/
  waited : Bool
deriving DecidableEq, Repr

/-- The payload of a multicast frame: its class, its cells, and the copies not yet sent or dropped (R354). -/
structure Payload where
  id : Nat
  svc : Nat
  cells : Nat
  copies : Nat
deriving DecidableEq, Repr

/-- The operational gate list of a port beyond its entries, and a change that waits (R361, R363): cycle and base in ns. -/
structure GateList where
  cycle : Nat
  base : Nat
  /-- The pending change: cycle, base and the instant at which it takes over. -/
  next : Option (Nat × Nat × Nat)
deriving DecidableEq, Repr

/-- A token bucket: tokens in units of 1/800 B, and the elapsed time in ns at which they were counted (R359). -/
structure Bucket where
  tokens : Int
  at_ : Nat
deriving DecidableEq, Repr

/-- The packet switch and the scheduler (spec/11_switch_and_scheduling.md). -/
structure SwState where
  nextId : Nat
  /-- Frames and copies in the buffer, oldest first. -/
  held : List Held
  payloads : List Payload
  /-- The residue queue, oldest first; each copy keeps the LIMIT_US in effect at its entry (R355). -/
  residue : List (Held × Nat)
  /-- Banks that have left service (R349, R352). -/
  banksOut : List Nat
  /-- Deficits of subscribers on a port, and of service classes within them: (port, subscriber), and (port, subscriber, class). -/
  defSub : List ((Nat × Nat) × Int)
  defSvc : List ((Nat × Nat × Nat) × Int)
  /-- The subscriber served last by each port, and the class served last within a subscriber of a port. -/
  lastSub : List (Nat × Nat)
  lastSvc : List ((Nat × Nat) × Nat)
  /-- Shapers of subscribers and of ports that have sent a frame; any other bucket is full (R359, R360). -/
  subBucket : List (Nat × Bucket)
  portBucket : List (Nat × Bucket)
  gates : List GateList
  /-- The partner's entries are active: a takeover has reached step 4 (R347). -/
  partnerOn : Bool
  /-- A joining NP32 leaves its own entries inactive until the turn of the handback (R347). -/
  ownOff : Bool
  /-- Announcements made of each entry since it became active: one member for each. -/
  announced : List Nat
deriving DecidableEq, Repr

/-- A PTP master as announced: the data set by which the best master clock algorithm ranks it (the smallest is best), its
identity and its logical port. -/
structure Master where
  rank : Nat
  ident : Nat
  lport : Nat
deriving DecidableEq, Repr

/-- The PTP clock (R364, R365). -/
structure PtpState where
  masters : List Master
  chosen : Option Master
  /-- A two-step Sync that waits for its Follow_Up: its arrival on the counter. -/
  awaiting : Option Nat
  /-- Origin and arrival of the last complete Sync, in ns. -/
  sync : Option (Nat × Nat)
  /-- The mean path delay in ns. -/
  delay : Int
  /-- Consecutive Sync messages with an offset of at most 100 ns, and of more than 1 µs. -/
  near : Nat
  far : Nat
  /-- What the counter is still to be slewed by, in ns (R365). -/
  slew : Int
deriving DecidableEq, Repr

/-- A command as the target holds it under R125: controller, queue, command identifier and MSGID. A Connect to the admin queue names no
controller: its number stands above 0xFFFF, made of its flow's address and process tag, and CNTLID on the wire is its low 16 bits. -/
structure CmdId where
  cntlid : Nat
  qid : Nat
  cid : Nat
  msgid : Nat
deriving DecidableEq, Repr

/-- A completion status (R170): SCT, SC and DNR. -/
structure Status where
  sct : Nat
  sc : Nat
  dnr : Bool
deriving DecidableEq, Repr

/-- A mirrored-write message between NP32s of a federation (R287). KIND 1 WRITE, 2 ACK, 3 RESYNC. -/
structure FedMsg where
  kind : Nat
  zero : Bool
  dealloc : Bool
  vol : Nat
  token : Nat
  heat : Nat
  slba : Nat
  nlb : Nat
  data : Nat
deriving DecidableEq, Repr

/-- What a sequenced packet of the NP32 carries (R101, R102). Data is one little-endian number of `len` bytes. -/
inductive SentBody where
  | place (cmd : CmdId) (addr key len data : Nat) (enc : Option Nat)
  /-- A PLACE_IMM of a chain (R127). -/
  | placeImm (addr key value : Nat) (enc : Option Nat)
  | fetch (cmd : CmdId) (addr key len ftag : Nat)
  /-- A response capsule with its completion queue entry: MSGID, status, DW0, SQHD. -/
  | response (cmd : CmdId) (msgid : Nat) (status : Status) (dw0 sqhd : Nat) (enc : Option Nat)
  /-- Part `part` of `parts` of an MTYPE 0x06 message; `enc` is the GCM slot under which it is sent with ENC set (R286). -/
  | fed (msgid : Nat) (msg : FedMsg) (enc : Option Nat) (part parts : Nat)
deriving DecidableEq, Repr

/-- A packet in the waiting hamper (R118). -/
structure Parked where
  hdr : SkHdr
  body : PktBody
deriving DecidableEq, Repr

/-- A message whose first parts have been delivered in order (R102, R113). -/
structure OpenMsg where
  part : MsgPart
  enc : Option Nat
  got : Nat
  nextSeq : Nat
deriving DecidableEq, Repr

/-- A flow record (R105) and what the NP32 holds for the flow beside it. -/
structure Flow where
  ip : Nat
  port : Nat
  ptag : Nat
  v6 : Bool
  /-- 1 new, 2 confirmed, 3 admission pending. -/
  state : Nat
  gen : Nat
  rcvBase : Nat
  bitmap : Nat
  sndNxt : Nat
  sndUna : Nat
  cwnd : Nat
  srtt : Nat
  cutSeq : Nat
  timeouts : Nat
  ce : Bool
  /-- Elapsed time of the last activity in ns; IDLE shows it in units of 100 µs. -/
  idleAt : Nat
  /-- On die, or in HBM (R117). -/
  onDie : Bool
  /-- Packets sent and not acknowledged, with their sequence numbers, oldest first. -/
  sent : List (Nat × SentBody)
  /-- Packets that wait for the window, oldest first (R114). -/
  queue : List SentBody
  /-- Sequenced packets received and not yet taken in order. -/
  early : List (Nat × PktBody × Option Nat)
  openMsg : Option OpenMsg
  /-- Sequenced packets that arrived since the last acknowledgement (R111). -/
  ackDue : Nat
  /-- TSVAL of the packet that the next acknowledgement echoes. -/
  tsecr : Nat
  /-- Holes for which NAK SEQ has been sent, and when (R110). -/
  holes : List (Nat × Nat)
  parked : List Parked
  /-- The admission item (R129). -/
  item : Option Nat
  /-- A sequenced packet has set RCV_BASE; not yet so on a flow that this NP32 has opened (R106, R133). -/
  rcvSet : Bool
  /-- Of a packet that is not acknowledged and whose timer runs: its sequence number, when it was sent last, and the BASE and CAP of its
  timeout, in µs (R115, R122, R134). -/
  times : List (Nat × Nat × Nat × Nat)
deriving DecidableEq, Repr

/-- An entry of the address table (R99). -/
structure Peer where
  ip : Nat
  mac : Nat
  vlan : Option Nat
  dscp : Nat
  lport : Nat
deriving DecidableEq, Repr

/-- An armed chain (R126, R128). -/
structure Chain where
  ip : Nat
  port : Nat
  ptag : Nat
  kind : Nat
  chainId : Nat
  /-- TAG for kind 1; CNTLID, QID and CID for kinds 2 and 3. -/
  trigger : Nat × Nat × Nat
  entries : List ChainEntry
  /-- GCM slot of the CHAINPOST that armed it, if that had ENC (R325). -/
  enc : Option Nat
deriving DecidableEq, Repr

/-- A message that has been delivered and whose own command has not acted yet (R113). -/
structure Delivered where
  ip : Nat
  port : Nat
  ptag : Nat
  seq : Nat
  mtype : Nat
  msgid : Nat
  cap : Option (Nat × Nat × Nat)
  at_ : Nat
  /-- GCM slot of its first packet, if that had ENC (R325). -/
  enc : Option Nat
  /-- Submission queue entry of a capsule that a chain has submitted (R127). -/
  sqe : Option Nat
  /-- Elapsed time of its answer point: the answer deadline in effect at delivery, counted from it (R175). -/
  point : Nat
deriving DecidableEq, Repr

/-- Skiff (spec/04_skiff_transport.md). Flows are listed from the least to the most recently active. -/
structure SkfState where
  flows : List Flow
  peers : List Peer
  /-- Reach keys by address and process tag (R120). -/
  keys : List (Nat × Nat × Nat)
  chains : List Chain
  delivered : List Delivered
  /-- Capsules of ended associations that were discarded before their own command acted (R179). -/
  discarded : List Delivered
  /-- PLACE and response packets of lost flows, by address and process tag, in their order (R116). -/
  lost : List (Nat × Nat × SentBody)
  /-- Records created: elapsed time and number (R107). -/
  created : List (Nat × Nat)
  /-- MSGID of the next message to a peer address and tag (R102). -/
  msgids : List (Nat × Nat × Nat)
  nextFtag : Nat
  /-- Chains whose trigger has occurred and whose entries are not yet carried out (R127). -/
  firing : List Chain
  /-- SUBMITs of fired chains that wait for a flow of their address and process tag (R134). -/
  submits : List (Nat × Nat × ChainEntry × Option Nat)
deriving DecidableEq, Repr

/-- Encapsulation of a Skiff packet that the NP32 sends (R98). `ecn` is the ECN codepoint, 2 for ECT(0); `csum` says that a UDP
checksum is sent. -/
structure Encap where
  lport : Nat
  mac : Nat
  vlan : Option Nat
  dscp : Nat
  v6 : Bool
  ip : Nat
  srcPort : Nat
  dstPort : Nat
  hopLimit : Nat
  ecn : Nat
  csum : Bool
deriving DecidableEq, Repr

/-- Base header of a Skiff packet that the NP32 sends (R100): the fields of VER_FLAGS, and the rest in their order. -/
structure BaseHdr where
  version : Nat
  shv : Bool
  ackv : Bool
  ece : Bool
  ar : Bool
  enc : Bool
  opcode : Nat
  payLen : Nat
  gen : Nat
  seq : Nat
  ackseq : Nat
  ptag : Nat
  dstShelf : Nat
  srcShelf : Nat
  tsval : Nat
  tsecr : Nat
deriving DecidableEq, Repr


/-- The cipher beyond its registers (spec/10_inline_cipher.md). -/
structure CipState where
  /-- Wrapped keys held, by slot, 112 B as one little-endian number (R329, R330). -/
  wrapped : List (Nat × Nat)
  /-- Key material of ready slots, 64 B as one little-endian number. -/
  material : List (Nat × Nat)
  /-- Send counters of slots (R321). -/
  counters : List (Nat × Nat)
  /-- Unwraps that run: slot, and the item that carries it in host-assisted mode (R333, R335). -/
  unwraps : List (Nat × Option Nat)
  /-- Slot of a PREPARE that waits for its unwrap. -/
  preparing : Option Nat
  /-- Packets that wait for the unwrap of their slot (R324). -/
  waiting : List (Nat × SkHdr × PktBody)
  /-- Key operations of the image that did not end with 0x00: entry tag, result and slot (R332). -/
  imageFails : List (Nat × Nat × Nat)
deriving DecidableEq, Repr

/-- A stream record (R301). -/
structure Stream where
  vol : Nat
  cntlid : Nat
  /-- 0 static, 1 dynamic by rule, 2 dynamic always, 3 host tables. -/
  mode : Nat
  byHost : Bool
  /-- Its histograms, and the code lengths of its current tables, empty while it has none: literal and length, distance (R300, R301). -/
  llHist : List Nat
  dHist : List Nat
  llLen : List Nat
  dLen : List Nat
  grains : Nat
  inBytes : Nat
  outBytes : Nat
  heat : Nat
  since : Nat
  /-- The item that chooses its mode (R302). -/
  item : Option Nat
deriving DecidableEq, Repr


/-- Units that are checked at work: compressors, decompressors, and cipher pipelines (R303, R313, R339). -/
inductive UnitKind where
  | compressor | decompressor | xts | gcm
deriving DecidableEq, Repr

/-- Checks that have failed, with unit and time of each, and the units withdrawn from service (R303, R313, R339). -/
structure CheckState where
  slips : List (UnitKind × Nat × Nat)
  out : List (UnitKind × Nat)
deriving DecidableEq, Repr

/-- The reservation state of a namespace (R172, R173). -/
structure Reservation where
  nsid : Nat
  gen : Nat
  /-- Registrants: HOSTID and key. -/
  regs : List (Nat × Nat)
  rtype : Nat
  holder : Option Nat
  ptpl : Bool
deriving DecidableEq, Repr

/-- A command that the target holds (R125, R145): waiting for a context, admitted, committed or answered. -/
structure Cmd where
  id : CmdId
  flow : FlowRef
  /-- Reach key bits [63:32] of its descriptors (R137). -/
  keyhi : Nat
  /-- The GCM slot under which its capsule arrived (R325). -/
  enc : Option Nat
  req : Req
  /-- Elapsed time of delivery and of the answer point, in ns (R175). -/
  at_ : Nat
  answerAt : Nat
  /-- Place in the order of delivery, and, once admitted, in the order of admission (R147, R159). -/
  order : Nat
  /-- It holds a command context (R145). -/
  ctx : Bool
  /-- 0 waiting for a context, 1 admitted, 2 past its commit point, 3 answered. -/
  phase : Nat
  /-- What an admitted command waits for: 0 reach-key items, 1 fetched data, 2 its place in the order (R159), its buffers
  and its key, 3 its rows or grains, 4 its commit point, 5 its media writes, 6 nothing more. -/
  step : Nat
  /-- A PLACE has been sent. -/
  placed : Bool
  /-- Status, DW0, and in-capsule data of the answer once given. -/
  answer : Option (Status × Nat)
  sqhd : Nat
  /-- MSGID of its response capsule. -/
  rmsgid : Nat
  /-- Write data as one little-endian number; the bytes still to be fetched, and after that the grains already placed. -/
  buf : Nat
  want : Nat
  /-- Map entries by which its grains are read (R224, R227): grain and entry. -/
  blocks : List (Nat × Nat)
  /-- Its journal group, once placed (R237): crew, heat, group number. -/
  group : Option (Nat × Nat × Nat)
  /-- Mirrored-write tokens whose ACK it waits for (R288). -/
  tokens : List Nat
  /-- Items it waits on (R130, R227). -/
  items : List Nat
  /-- The heat to which its journal group belongs (R188). -/
  heat : Nat
  /-- An error found on its rows. -/
  err : Option Status
  /-- Its association has ended: nothing more is sent for it (R144). -/
  mute : Bool
  /-- Adopted from a lost partner and waiting for the host's copy (R280). -/
  adopted : Bool
  /-- Its response capsule has been acknowledged while its media writes go on (R161). -/
  acked : Bool
  /-- Twin frames of its record and its state, and the answer that waits for them (R273). -/
  recFrame : Option Nat
  gate : Option Nat
  due : Option (Status × Nat × List SentBody)
  /-- Key of each descriptor as it has passed R121. -/
  passed : Bool
  /-- Its checks of admission wait for the effect of a reservation command admitted before it (R172). -/
  unchecked : Bool
  /-- The reservation state before this reservation command took effect, until that is done (R172, R176). -/
  undo : Option Reservation
  /-- Plain blocks of the grains that it has read and decoded (R307). -/
  plain : List (Nat × List Nat)
  /-- A grain that is compressed and encrypted and waits for its place in a stripe: grain, sectors, LEN and RAW (R306). -/
  stored : Option (Nat × List Nat × Nat × Bool)
deriving DecidableEq, Repr

/-- An association (R136 to R144). -/
structure Assoc where
  cntlid : Nat
  hostid : Nat
  sub : Nat
  /-- Flow of its latest capsule; its process tag is that of the admin Connect (R138). -/
  flow : FlowRef
  /-- Keep-alive time in ms. -/
  kato : Nat
  /-- CC as last written (R152). -/
  cc : Nat
  shst : Nat
  /-- Queues with their SQSIZE, the admin queue included; queues deleted while commands run; SQHD of each queue. -/
  queues : List (Nat × Nat)
  closing : List Nat
  sqhd : List (Nat × Nat)
  /-- I/O queues granted by Number of Queues (R151), and whether an I/O Connect has come. -/
  ioQueues : Nat
  ioConnected : Bool
  /-- Outstanding Asynchronous Event Requests (R151), the event configuration, and notices that wait for one. -/
  aers : List CmdId
  aenConfig : Nat
  notices : List Nat
  /-- Reservation notification mask by namespace, and log entries not yet read: count, type, NSID. -/
  rsvMask : List (Nat × Nat)
  rsvLog : List (Nat × Nat × Nat)
  /-- Reservation notifications that have been logged for it (log page 0x80). -/
  rsvCount : Nat
  /-- Changed Namespace List (log page 0x04). -/
  changed : List Nat
  /-- Highest deferred write error reported, by namespace (R168). -/
  reported : List (Nat × Nat)
  /-- Served for a lost partner (R280). -/
  adopted : Bool
deriving DecidableEq, Repr

/-- An entry of log pages 0xC0 and 0xC1 (R169). -/
structure TornEntry where
  num : Nat
  nsid : Nat
  cause : Nat
  slba : Nat
  nlb : Nat
  heat : Nat
deriving DecidableEq, Repr

/-- A FETCH that waits for its data (R123): command, tag, place of its bytes in the transfer, and bytes received. -/
structure Fetch where
  cmd : CmdId
  ftag : Nat
  base : Nat
  len : Nat
  got : Nat
deriving DecidableEq, Repr

/-- The NVMe target (spec/05_nvme_target.md). -/
structure NvtState where
  assocs : List Assoc
  /-- Commands held, in order of delivery. -/
  cmds : List Cmd
  nextOrder : Nat
  nextAdmit : Nat
  /-- CNTLIDs of ended associations and the elapsed time of their end (R140). -/
  freed : List (Nat × Nat)
  reservations : List Reservation
  /-- Deferred write errors, newest first (page 0xC0). -/
  deferred : List TornEntry
  /-- Ranges of grains set torn in privileged volumes, for page 0xC1 (R242, R263). -/
  ptorn : List TornEntry
  /-- The number of the next entry, and the latest number on each page of a namespace (R169). -/
  nextEntry : Nat
  latest : List ((Nat × Nat) × Nat)
  /-- Error Information log (page 0x01): error count of its controller, command, status. Of each controller up to 64, newest first. -/
  errors : List (Nat × CmdId × Status)
  fetches : List Fetch
  /-- Namespaces that existed after the last turn. -/
  existing : List Nat
deriving DecidableEq, Repr


/-- What a drive command does. `lba` counts drive LBAs of namespace 1. -/
inductive DriveOp where
  | read (lba : Nat)
  | write (lba value : Nat) (fua : Bool)
  | flush
  /-- A block of the seat's journal area, with FUA (R235): where it goes, KIND, HEAT and INDEX of its header, and its 64 KiB. -/
  | block (lba kind heat index content : Nat)
  /-- A copy of the seat label, with FUA (R210). -/
  | label (lba sector : Nat)
  /-- A copy of the torn table, with FUA (R243). -/
  | torn (lba table : Nat)
  | abort
  | controllerReset
  | hotReset
  | powerCycle
  | register (key : Nat)
  | acquire (key : Nat) (preempt : Bool)
  | release (key : Nat)
  | sanitize (action owpass oipbp pattern : Nat)
deriving DecidableEq, Repr

/-- An outstanding drive command. -/
structure Io where
  id : Nat
  crew : Nat
  seat : Nat
  bay : Nat
  op : DriveOp
  /-- Heat of the write that it belongs to (R240). -/
  heat : Nat
  /-- The row job to which its result goes. -/
  job : Nat
  /-- The instant at which it was sent (R255 step 2). -/
  since : Nat
  /-- It has been sent again (R255 step 1, R235). -/
  again : Bool
  hedged : Bool
  /-- It ended with a drive path error and waits for the verdict of R253. -/
  path : Bool
deriving DecidableEq, Repr

/-- Work on one row or stripe. -/
structure Job where
  id : Nat
  /-- 0 read for a command, 1 read-modify-write, 2 write of a stripe, 3 patrol, 4 rebuild, 5 map pass, 6 collection,
  7 rewrite of recovered sectors, 8 replayed write, 9 read of a grain, 10 repair of a lost chunk, 11 read of a stripe's summary. -/
  kind : Nat
  crew : Nat
  row : Nat
  vol : Nat
  cmd : Option CmdId
  /-- Sectors that it needs: seat and drive LBA. -/
  want : List (Nat × Nat)
  /-- Sectors that it has, found unreadable, or does not wait for (R254): seat, drive LBA, and content. -/
  got : List ((Nat × Nat) × Nat)
  bad : List (Nat × Nat)
  slow : List (Nat × Nat)
  /-- Sectors that it writes: seat, drive LBA and content. -/
  put : List ((Nat × Nat) × Nat)
  /-- 0 reading or waiting for its lock, 1 read, 2 waiting for its commit point, 3 writing, 4 ended. -/
  phase : Nat
  /-- It holds, or waits for, the lock of its row (R219). -/
  lock : Bool
  lockWait : Bool
  heat : Nat
  /-- Seats on which a write of its row failed (R257). -/
  failed : List Nat
  /-- Data blocks of its write: data chunk, offset in the chunk, new content; of a grain job, the grain. -/
  fresh : List ((Nat × Nat) × Nat)
  arg : Nat
deriving DecidableEq, Repr

/-- An entry of a catch-up log (R259). -/
structure CatchUp where
  lba : Nat
  value : Nat
  heat : Nat
  /-- It is being written to the seat. -/
  busy : Bool
deriving DecidableEq, Repr

/-- A seat of a crew (R250) and what the NP32 keeps for it. -/
structure Seat where
  bay : Option Nat
  /-- As in CRW_SEATST_n: 0 in service, 1 at easy, 2 in recovery, 3 recalled, 4 failed, 5 rebuilding, 6 absent. -/
  st : Nat
  /-- Latency average E in ns (R258). -/
  e : Option Nat
  log : List CatchUp
  /-- Blocks written to its journal area (R235): the RSEQ of the next; and its slots that are not free: slot, and START and HEAT of the
  segment whose block it holds. -/
  rseq : Nat
  slots : List (Nat × Nat × Nat)
  /-- Elapsed times of the unreadable sectors of the last hour (R253). -/
  media : List Nat
  /-- Since when E has been above the trigger, and at or below the level of R260. -/
  above : Option Nat
  below : Option Nat
  /-- It went at easy after a successful ladder (R255). -/
  byLadder : Bool
  /-- Step of the recovery ladder that runs, and the item that chooses the next (R256). -/
  ladder : Option Nat
  ladderItem : Option Nat
  /-- An item of R261 decides about it. -/
  lagItem : Option Nat
  /-- Rebuild (R266): the item that plans it, whether it runs, its row ranges [from, to) still to be done in their order,
  and its rate. The next row is the frontier; a row in no range lies before it. -/
  planItem : Option Nat
  running : Bool
  plan : List (Nat × Nat)
  rate : Nat
  /-- Hundredth of its rows last written to the logbook (R269). -/
  logged : Nat
  /-- NVMe status of the drive's last error (R413). -/
  lastStatus : Nat
deriving DecidableEq, Repr

/-- A journal record (R236). `len` counts payload bytes; the payload's sectors are listed. -/
structure JRec where
  kind : Nat
  last : Bool
  set : Bool
  vol : Nat
  group : Nat
  addr : Nat
  aux : Nat
  count : Nat
  len : Nat
  payload : List Nat
deriving DecidableEq, Repr

/-- Header fields of a block that stands for another segment (R241): START, HEAT, CHAIN, and the CHAIN of that segment's last journal
block. -/
structure OtherSeg where
  start : Nat
  heat : Nat
  chain : Nat
  lastChain : Nat
deriving DecidableEq, Repr

/-- A block of a segment (R235): journal 0, checkpoint 1 or intent 2; 3 is the clean mark that replay writes for another segment
(R241), a checkpoint block. -/
structure JBlock where
  kind : Nat
  index : Nat
  used : Nat
  /-- Records or intent entries that begin in it. -/
  recs : List JRec
  entries : List Nat
  /-- It is full or flushed, and goes to its seats. -/
  closed : Bool
  /-- Seats that hold it, and the RSEQ that it has taken on each seat. -/
  held : List Nat
  rseqs : List (Nat × Nat)
  /-- Twin frame that carries it to the partner (R273). -/
  frame : Option Nat
  /-- The segment that a clean mark of replay stands for. -/
  other : Option OtherSeg
deriving DecidableEq, Repr

/-- A group of a segment (R237): its blocks, its intent entries' blocks, and whether it is cancelled or committed. -/
structure Group where
  num : Nat
  cmd : Option CmdId
  first : Nat
  last : Nat
  intents : List Nat
  cancelled : Bool
  committed : Bool
  /-- Stripes whose writes stand in the place of payloads (R222): volume and stripe. -/
  stripes : List (Nat × Nat)
deriving DecidableEq, Repr

/-- The blocks of one heat of one start (R235). -/
structure Segment where
  start : Nat
  heat : Nat
  jseats : List Nat
  iseats : List Nat
  blocks : List JBlock
  groups : List Group
  nextGroup : Nat
  /-- Its checkpoint has been placed (R239), and the Flushes of R240 have been issued and completed. -/
  sealed : Bool
  flushed : Bool
  /-- Its blocks in H7, and their mirror, have been released (R186). -/
  released : Bool
deriving DecidableEq, Repr

/-- A range of a torn table (R243), in the terms of R169. -/
structure Torn where
  num : Nat
  vol : Nat
  cause : Nat
  slba : Nat
  nlb : Nat
  heat : Nat
deriving DecidableEq, Repr

/-- A crew (R204 to R213). -/
structure Crew where
  print : Nat
  gen : Nat
  /-- S of R207. -/
  smin : Nat
  seats : List Seat
  /-- The segment of the current heat, and earlier ones that are not free (R240), oldest first. -/
  seg : Segment
  old : List Segment
  torn : List Torn
  /-- Ranges that no entry could take (R243). -/
  spill : List Torn
  /-- Replay has written, and its clean mark is due (R241): the block. -/
  replayed : Option JBlock
  /-- The Flushes that follow those writes have been issued (R240). -/
  replayFlushed : Bool
  /-- Segments of earlier starts that are not free, oldest first (R240). -/
  found : List (Nat × Nat)
  /-- Writes of replay have not ended: its namespaces are not available yet (R213). -/
  replaying : Bool
  /-- Patrol: rows passed over in this pass, the windows of R246, its length in days, and its item. -/
  skipped : List Nat
  windows : List (Nat × Nat)
  days : Nat
  patrolItem : Option Nat
  /-- Rows written in the current and in the previous heat (R244). -/
  written : List Nat
  before_ : List Nat
  /-- Seats for which no spare qualified and EV0296 has been raised (R264). -/
  noSpare : List Nat
  /-- Rows and grains that became pending at a takeover (R279 step 5). -/
  pendingRows : List Nat
  /-- Labels of the current generation are to be written, once the partner has the change (R210, R273). -/
  labelDue : Bool
  labelFrame : Option Nat
  /-- Records of no command that wait for room in H7, with the heat of their segment where that is not the current one, and checkpoints
  that do: heat and CLEAN (R185). -/
  owed : List (Option Nat × JRec)
  marks : List (Nat × Bool)
deriving DecidableEq, Repr

/-- A grain placed in a stripe (R221): its first sector, LEN, RAW and stored sectors. -/
structure Placed where
  grain : Nat
  first : Nat
  len : Nat
  raw : Bool
  sectors : List Nat
  cmd : Option CmdId
  /-- 0 not decided, 1 stripe path, 2 journal path (R222); 3 once its record has been placed. -/
  path : Nat
  /-- The entry that a RELOCATE expects (R231). -/
  expected : Option Nat
  at_ : Nat
deriving DecidableEq, Repr

/-- A stripe that is being built or written. -/
structure Stripe where
  num : Nat
  used : Nat
  grains : List Placed
  /-- Its writes have ended (R223). -/
  ended : Bool
deriving DecidableEq, Repr

/-- A configured volume (R214) with its configuration; of a privileged one, its map and its stripes. -/
structure Vol where
  v : Nat
  priv : Bool
  comp : Bool
  slot : Nat
  crew : Nat
  base : Nat
  rows : Nat
  cap : Nat
  /-- Map entries that are not unmapped, by grain (R224, R226). -/
  map : List (Nat × Nat)
  host : Option Stripe
  reloc : Option Stripe
  /-- Stripes whose chunks are being written, and stripes written with the sectors they hold. -/
  closing : List Stripe
  full : List Nat
  /-- The heat in which the last live grain of a stripe went; and the stripes among these that are free once the checkpoint of that heat
  has completed (R230). -/
  emptied : List (Nat × Nat)
  drained : List (Nat × Nat)
  /-- Last completed map pass, the heat in which it began, and the copy that holds it; the pass that runs; and a pass that waits for
  it (R228). -/
  pass : Nat
  passHeat : Nat
  copy : Nat
  passRun : Option (Nat × Nat)
  passDue : Bool
  /-- Collection runs (R230); its victims of the round; and the item of R232. -/
  gc : Bool
  victims : List Nat
  gcItem : Option Nat
deriving DecidableEq, Repr

/-- A drive as its bay knows it once it is ready (R206, R375): capacity, metadata, write cache, and its label. -/
structure Drive where
  bay : Nat
  lbas : Nat
  meta16 : Bool
  cache : Bool
  /-- Its valid label, if it has one (R210, R211). -/
  label : Option Label
deriving DecidableEq, Repr

/-- The crew engine (spec/07_crews_and_parity.md, spec/08_degradation_rebuild_takeover.md). -/
structure CrwState where
  /-- Assembled crews by number. -/
  crews : List (Nat × Crew)
  vols : List Vol
  jobs : List Job
  nextJob : Nat
  ios : List Io
  nextIo : Nat
  drives : List Drive
  /-- Map-miss items: volume, grain, command, and the entry at the handover (R227). -/
  misses : List (Nat × Nat × CmdId × Nat)
  /-- Entries that each stroke engine used last, newest first (R227): engine, volume and grain. -/
  recent : List (Nat × Nat × Nat)
  /-- Maps of privileged volumes that are not configured, as their copies on the seats hold them (R214, R229). -/
  parked : List Vol
deriving DecidableEq, Repr

/-- A frame of the twin link (R274) with what it carries. -/
inductive TwinFrame where
  | heartbeat
  | block (r : BlockRec)
  | cmd (r : CmdRec)
  | cmdState (r : StateRec)
  | assoc (r : AssocRec)
  | crew (r : CrewRec)
  | sanitize (bay : Nat) (running : Bool)
  | release (crew heat : Nat)
  | turn (heat len : Nat) (bayMaster : Bool) (pref : Nat)
  | handover (crews : List Nat) (back : Bool)
  | fatal
  | sync (part : SyncPart)
deriving DecidableEq, Repr

/-- A command record of the partner and the state that it has reached (R273). -/
structure MirrorCmd where
  cmd : CmdRec
  state : StateRec
deriving DecidableEq, Repr

/-- A mirrored write that waits for the secondary's ACK (R288). -/
structure XmWait where
  token : Nat
  pairing : Nat
  cmd : Option CmdId
  /-- The dirty unit that a RESYNC carries (R289). -/
  unit_ : Option Nat
deriving DecidableEq, Repr

/-- The twin pair and cross-shelf mirrors (spec/08_degradation_rebuild_takeover.md). -/
structure TwnState where
  /-- Next frame to send, and next frame expected; frames sent and not acknowledged, oldest first (R274). -/
  txNext : Nat
  rxNext : Nat
  sent : List (Nat × TwinFrame)
  /-- The mirror of the partner's state in H12 (R273): commands, associations, block images, crews, and the maps of its
  privileged volumes without the effects of the blocks held (R276). -/
  cmds : List MirrorCmd
  assocs : List AssocRec
  blocks : List BlockRec
  seats : List CrewRec
  maps : List (Nat × List (Nat × Nat))
  /-- Bays in which the partner runs a sanitize (R471). -/
  sanitizing : List Nat
  /-- The partner is treated as absent for mirroring and takeover because the heat lengths differ (R192). -/
  unlike : Bool
  /-- The frame that ends the state sent to a joining partner, while it is not acknowledged (R284). -/
  syncing : Option Nat
  /-- Elapsed time of the loss (R277), whether DEFER runs, and the item of R282. -/
  lostAt : Option Nat
  deferring : Bool
  item : Option Nat
  /-- Acquires of a takeover or of a handover from the partner are outstanding, and their crews and bays. -/
  taking : Bool
  acquiring : List (Nat × Nat)
  /-- A planned handover waits for the next turn (R283, R284): its crews, whether it gives them back, and the heat of the request. -/
  handing : Option (List Nat × Bool × Nat)
  /-- Crews handed over that the partner has not yet adopted, and whether they are given back. -/
  handed : List Nat
  handBack : Bool
  /-- Nothing more is taken from the network: a handover (R283) or a fatal fault (R277). -/
  stopped : Bool
  /-- Cross-shelf mirrors: dirty units by pairing (R288), waits for ACK, and the next TOKEN. -/
  dirty : List (Nat × Nat)
  waits : List XmWait
  nextToken : Nat
  /-- As a secondary: tokens whose copy has not committed: pairing, token, command. -/
  owed : List (Nat × Nat × CmdId)
  /-- The partner's sampled BAY_MASTER, exchanged when the link trained (R523). -/
  partnerMaster : Option Bool
deriving DecidableEq, Repr


/-- Buffers of a hamper that one owner holds or waits for (R184, R185). The owner is named by three numbers:
a flow and a message, a command, a crew and a job. -/
structure Hold where
  hamper : Nat
  owner : Nat × Nat × Nat
  n : Nat
deriving DecidableEq, Repr

/-- Hampers, heats and the power-fail drain (spec/06_hampers_and_heats.md). -/
structure HmpState where
  holds : List Hold
  /-- Stages that wait for buffers, oldest first. -/
  waits : List Hold
  /-- Step of the drain of R195 that has been reached; 0 while none runs. -/
  drain : Nat
  /-- Elapsed time at which the drain began, in ns. -/
  drainAt : Nat
  /-- PWR_FAIL_N is low. -/
  pfLow : Bool
  /-- The last power-fail drain did not reach step 8 (R197). -/
  drainCut : Bool
deriving DecidableEq, Repr

/-- What the block has sent or answered: its outputs, in the order in which they leave. -/
inductive Out where
  /-- An error response to an access that R9 refuses. -/
  | accessRefused (path : Path) (addr : Nat)
  /-- The response "refused" to a B-class write (R66). -/
  | bClassRefused (path : Path) (addr : Nat)
  /-- The response "gated" (R95). -/
  | gated (path : Path) (addr : Nat)
  | readData (path : Path) (addr value : Nat)
  /-- A record written into the steward host's event ring (R481). -/
  | hostRecord (slot : Nat) (r : EvRec)
  /-- A record written into the steward host's sample ring (R494). -/
  | hostSample (slot : Nat) (r : Sample)
  /-- A PLDM PlatformEventMessage to the receiver, with the events that were only counted before it (R449). -/
  | pldmEvent (receiver missed : Nat) (r : EvRec)
  /-- An outbound ring entry (R410): opcode 0x81 item, 0x82 notice, 0x83 notice lost; its INLINE fields as R413 lists them, and the
  data in its slot (R411). `fallback` is none for all ones. -/
  | ringEntry (ring idx opcode fn dlen tag : Nat) (fallback : Option Nat) (content data : List Nat)
  /-- A completion (R405), in completion ring `cq` at index `idx`. -/
  | completion (cq idx sqidx ring status result : Nat)
  /-- A completion written in place (R405). -/
  | completionInPlace (ring idx status result : Nat)
  /-- The shadow write of a ring's index (R402). -/
  | shadow (ring index : Nat)
  | assertInta
  | deassertInta
  | msix (vector address data : Nat)
  /-- Completions of configuration and window requests (R422, R430). -/
  | requestRetry
  | cfgData (offset value : Nat)
  | windowData (offset value : Nat)
  | completerAbort
  /-- Answer to a recovery command on the console: status of R61 and data. -/
  | recovery (status : Nat) (data : List Nat)
  /-- A command to the boot NOR and its form: 8D-8D-8D, or 1S-1S-1S (R527). -/
  | norCommand (code : Nat) (octal : Bool)
  /-- A management response: MCTP message type, status or completion code, and content. -/
  | mctp (msgType status : Nat) (data : List Nat)
  /-- An SPDM response to a requester: response code and content. -/
  | spdm (requester code : Nat) (data : List Nat)
  | echoReply (seq : Nat)
  /-- What the selected JTAG register reads. -/
  | jtag (value : Nat)
  /-- An item of bit 10 or 11 forwarded by cox as a PLDM event (R473): receiver, events only counted before it, function and tag. -/
  | pldmItem (receiver missed fn tag : Nat)
  /-- Set_Slot_Power_Limit from a bay's root port, in W (R374). -/
  | slotPowerLimit (bay watts : Nat)
  /-- An address announcement: gratuitous ARP or unsolicited neighbour advertisement of an entry, so many ms later (R347). -/
  | announce (entry lport afterMs : Nat)
  /-- An ARP reply or neighbour advertisement (R346). -/
  | addressReply (entry lport : Nat)
  /-- A frame of the buffer begins on the wire of a logical port. -/
  | transmit (lport frame len : Nat)
  /-- A PTP Delay_Req (R364). -/
  | delayReq (lport : Nat)
  /-- A sequenced Skiff packet toward a peer: encapsulation, base header, what it carries, and, with ENC set, the key slot and nonce
  of its envelope (R319, R321). -/
  | skiff (e : Encap) (h : BaseHdr) (body : SentBody) (env : Option (Nat × Nat))
  /-- An ACK (R111) with its SACK bits. -/
  | skiffAck (e : Encap) (h : BaseHdr) (sack : Nat)
  /-- A NAK (R112). -/
  | skiffNak (e : Encap) (h : BaseHdr) (code nseq : Nat)
  /-- A command to the drive in a bay. -/
  | drive (bay id : Nat) (op : DriveOp)
  /-- A frame to the partner: SEQ, ACKSEQ and what it carries (R274). -/
  | twin (seq ackseq : Nat) (frame : TwinFrame)
deriving DecidableEq, Repr

/-- The state of the block. -/
structure State where
  /-- Commands that wait, first in, first out: the model's own queue. -/
  pending : List Instr
  /-- Values of all register fields that differ from reset; an H-class field's shadow (R13). -/
  regs : Cells
  /-- Values in effect of the H-class fields that differ from reset (R12). -/
  eff : Cells
  /-- High words latched by a read of their low word: address and value (HMP_HEAT_NUM, PMU). -/
  latch : List (Nat × Nat)
  /-- The heat number, 64 bits (R187). -/
  heat : Nat
  /-- Time of day in ns since the PTP epoch (R73). -/
  tod : Nat
  /-- Elapsed time in ns (R73), advanced by the presence samples of R377. -/
  now : Nat
  /-- The model's own counter of free values taken. -/
  free : Nat
  /-- What the block has sent, oldest first: the model's own record. -/
  out : List Out
  /-- Events, faults, counters and samplers. -/
  ev : EvState
  /-- Start sequencer and boot NOR. -/
  boot : BootState
  /-- The fuses. -/
  fuses : Fuses
  /-- Clocks and pace. -/
  clk : ClkState
  /-- Work rings. -/
  wrg : WrgState
  /-- Steward endpoint. -/
  ept : EptState
  /-- Management subsystem. -/
  cox : CoxState
  /-- Spares. -/
  spr : SprState
  /-- Drive bays and the bay-power die. -/
  bay : BayState
  /-- The packet switch and the scheduler. -/
  sw : SwState
  /-- The PTP clock. -/
  ptp : PtpState
  /-- Skiff. -/
  skf : SkfState
  /-- The NVMe target. -/
  nvt : NvtState
  /-- Hampers, heats and the power-fail drain. -/
  hmp : HmpState
  /-- The selected JTAG instruction (R529). -/
  jtag : Jtag
  /-- A fault of severity fatal has acted: admission stays stopped until a reset (R178, R487). -/
  fatal : Bool
  /-- The inline cipher. -/
  cip : CipState
  /-- Stream records of the compressors, least recent writer first (R298). -/
  cmp : List Stream
  /-- Compressors, decompressors and cipher pipelines under their checks. -/
  chk : CheckState
  /-- The crew engine. -/
  crw : CrwState
  /-- The twin pair and cross-shelf mirrors. -/
  twn : TwnState
deriving DecidableEq, Repr

/-- The machine right after reset: 12 V has come up and nothing has happened yet. -/
def State.reset : State where
  pending := []
  regs := []
  eff := []
  latch := []
  heat := 0
  tod := 0
  now := 0
  free := 0
  out := []
  ev := ⟨[], [], [], [], 1, [], [0, 0, 0, 0], [], [], false, false⟩
  boot := ⟨true, 64, [], none, false, 0, false, false, false, none, ⟨7, true, true⟩, false, ⟨0, 0, 0, 0, []⟩⟩
  fuses := ⟨[Config.quarelKey, 0, 0, 0], [false, false, false, false], none, 0, [], []⟩
  clk := ⟨0, false, none, [], [10, 10, 10, 10, 10, 10, 10], 0, [], [0, 0, 0, 0, 0, 0, 0], [], (⟨false, false, false⟩, ⟨false, false, false⟩),
    (0, 0), false⟩
  wrg := ⟨[], [], [], 0, 1008, 1, [], [], [0, 0, 0, 0, 0, 0, 0, 0, 0, 0, 0, 0], []⟩
  ept := ⟨false, false, false, false, false, false, false, List.range 64, [], [], false, true, true, none, 0, 0⟩
  cox := ⟨[], [], [], false, [], 0, none, 0, 64, [], 0, none, 0, 0, none, [], false, none, 0, none, [], [], [], [], []⟩
  spr := ⟨[], [], [], [], [], [], 0⟩
  bay := ⟨List.replicate 32 ⟨false, false, true, 0, 0, 0, 0, 0, 0, 0, 0, ⟨0, 1⟩, ⟨0, 1⟩, none, false, false, false, 0, false, false⟩, false, false, false⟩
  sw := ⟨1, [], [], [], [], [], [], [], [], [], [], List.replicate 32 ⟨1000000, 0, none⟩, false, false, []⟩
  ptp := ⟨[], none, none, none, 0, 0, 0, 0⟩
  skf := ⟨[], [], [], [], [], [], [], [], [], 1, [], []⟩
  nvt := ⟨[], [], 1, 1, [], [], [], [], 1, [], [], [], []⟩
  hmp := ⟨[], [], 0, 0, false, false⟩
  jtag := .idcode
  fatal := false
  cip := ⟨[], [], [], [], none, [], []⟩
  cmp := []
  chk := ⟨[], []⟩
  crw := ⟨[], [], [], 1, [], 1, [], [], [], []⟩
  twn := ⟨0, 0, [], [], [], [], [], [], [], false, none, none, false, none, false, [], none, [], false, false, [], [], 1, [], none⟩

/-- Why a step stops with a fault. No rule of the spec stops the block for good, so no meaning raises one. -/
inductive Fault where
  /-- Reserved: raised by no meaning. Safe: it could only stop a run. -/
  | none
deriving DecidableEq, Repr

/-- Why a step is refused. -/
inductive Refusal where
  /-- Raised by the dispatcher for a command whose meaning has not been written. Safe: the run stops. -/
  | notModelled (mnemonic : String)
deriving DecidableEq, Repr

end Sys2Proof.Machine
end

