-- ==== Sys2Proof/Machine/Ops.lean ====
section
/-!
DEFINITION. The named operations over the registers and the small state: reading and writing one field, values in
effect, saturating counters, free values, outputs, the logbook. Every other file goes through them.
-/

namespace Sys2Proof.Machine

/-- The field whose copy has a bit address, with its indices. -/
def fieldAtKey (key : Nat) : Option (Field × Nat × Nat) :=
  let addr := key / 32
  let lo := key % 32
  (F.block (addr / 0x100000)).findSome? fun f =>
    if f.lo = lo then (f.index addr).map fun ij => (f, ij.1, ij.2) else none

/-- What an unlisted bit address reads as: the field's reset value, and 0 where no field is (R10). -/
def resetOf (key : Nat) : Nat :=
  match fieldAtKey key with
  | some (f, i, j) => f.reset.value i j
  | none => 0

/-- The value of a stored cell. -/
def Cells.read (c : Cells) (key : Nat) : Nat := (c.get key).getD (resetOf key)

/-- Write a stored cell in canonical form. -/
def Cells.write (c : Cells) (key v : Nat) : Cells := c.put (resetOf key) key v

/-- The canonical form of a store: bit addresses strictly rising, and no entry equal to what an unlisted one reads as. -/
def Cells.wf (c : Cells) : Bool := c.risingFrom 0 && c.all fun kv => kv.2 != resetOf kv.1

namespace State

/-- The stored value of a field: an H-class field's shadow, any other field's value. -/
def rd (s : State) (f : Field) (i : Nat := 0) (j : Nat := 0) : Nat := s.regs.read (f.key i j)

/-- Store a field's value, cut to its width. -/
def wr (s : State) (f : Field) (v : Nat) (i : Nat := 0) (j : Nat := 0) : State :=
  { s with regs := s.regs.write (f.key i j) (v % 2 ^ f.width) }

/-- The value of a field that is in effect: an H-class field's sampled value, any other's stored value, held to its
range (R12, R535). -/
def ef (s : State) (f : Field) (i : Nat := 0) (j : Nat := 0) : Nat :=
  f.range.hold (if f.kind = .rwh then s.eff.read (f.key i j) else s.rd f i j)

/-- Put a value into effect at once, shadow and all (R64). -/
def wrBoth (s : State) (f : Field) (v : Nat) (i : Nat := 0) (j : Nat := 0) : State :=
  let s1 := s.wr f v i j
  if f.kind = .rwh then { s1 with eff := s1.eff.write (f.key i j) (v % 2 ^ f.width) } else s1

/-- Add to a counter field, which saturates at its width. -/
def bump (s : State) (f : Field) (n : Nat := 1) (i : Nat := 0) (j : Nat := 0) : State :=
  s.wr f (min (s.rd f i j + n) (2 ^ f.width - 1)) i j

/-- Time passes: elapsed time and time of day run on together (R73). -/
def pass (s : State) (ns : Nat) : State :=
  let most := min s.ptp.slew.natAbs (ns * 200 / 1000000)
  if most = 0 then { s with now := s.now + ns, tod := s.tod + ns }
  else
    let part : Int := s.ptp.slew.sign * (Config.freeValue s.free % (most + 1) : Nat)
    { s with now := s.now + ns, tod := ((s.tod : Int) + ns + part).toNat, free := s.free + 1, ptp := { s.ptp with slew := s.ptp.slew - part } }

/-- Whether a one-bit field reads 1. -/
def is (s : State) (f : Field) (i : Nat := 0) (j : Nat := 0) : Bool := s.rd f i j == 1

/-- Write one bit of a field. -/
def wrBit (s : State) (f : Field) (b : Nat) (v : Bool) (i : Nat := 0) (j : Nat := 0) : State :=
  let old := s.rd f i j
  let has := old.testBit b
  if v = has then s else s.wr f (if v then old + 2 ^ b else old - 2 ^ b) i j

/-- A unit's bit of CLK_GATE_STATUS or CLK_GATE_STATUS_BAY: units 0 to 10 as CLK_GATE_FORCE places them, 32 + nn bay nn. -/
def setClosed (s : State) (u : Nat) (v : Bool) : State :=
  if u < 32 then s.wrBit F.CLK_GATE_STATUS_CLOSED u v else s.wrBit F.CLK_GATE_STATUS_BAY_CLOSED (u - 32) v

/-- A unit's gate is closed. -/
def gateClosed (s : State) (u : Nat) : Bool :=
  if u < 32 then (s.rd F.CLK_GATE_STATUS_CLOSED).testBit u else (s.rd F.CLK_GATE_STATUS_BAY_CLOSED).testBit (u - 32)

/-- A unit is under a forced gate (R94). -/
def gateForced (s : State) (u : Nat) : Bool :=
  if u < 8 then (s.rd F.CLK_GATE_FORCE_NET).testBit u
  else if u = 8 then s.is F.CLK_GATE_FORCE_TWN
  else if u = 9 then s.is F.CLK_GATE_FORCE_EPT
  else if u = 10 then s.is F.CLK_GATE_FORCE_XSP
  else 32 ≤ u && (s.rd F.CLK_GATE_FORCE_BAY_BAY).testBit (u - 32)

/-- The units that have a gate (R92's table of edge domains). -/
def gatedUnit (u : Nat) : Bool := u ≤ 10 || (32 ≤ u && u < 64)

/-- Work for a unit, or an access to it, reopens a gate that has closed by itself (R92). -/
def wake (s : State) (u : Nat) : State :=
  if gatedUnit u && s.gateClosed u && !s.gateForced u then s.setClosed u false else s

/-- Send an output. -/
def emit (s : State) (o : Out) : State := { s with out := s.out ++ [o] }

/-- The free value that stands next. -/
def fresh (s : State) : Nat := Config.freeValue s.free

/-- Move on to the next free value. -/
def tick (s : State) : State := { s with free := s.free + 1 }

/-- The start stage (SYS_STATUS.STAGE). -/
def stage (s : State) : Nat := s.rd F.SYS_STATUS_STAGE

/-- The NP32 is ready (R38 step 10). -/
def ready (s : State) : Bool := s.stage == 6

/-- The sampled strap says that the NP32 is one of a twin (R43). -/
def twinShelf (s : State) : Bool := s.is F.SYS_STRAP_TWIN_PRSNT

/-- Mode bit of a movable function in effect in this heat (SYS_FUNC_EFF.MODE, R24). -/
def assisted (s : State) (fn : Nat) : Bool := (s.rd F.SYS_FUNC_EFF_MODE).testBit fn

/-- Buffers of a use that have been retired (R506). -/
def lostBuffers (s : State) (u : ArrayUse) : Nat := ((s.spr.lost.filter fun e => e.2.1 == u).map (·.2.2)).sum

/-- The STAGE field takes a new value. -/
def setStage (s : State) (n : Nat) : State := s.wr F.SYS_STATUS_STAGE n

/-- Write a logbook record; it takes the next SEQ, and the block after the head's is kept erased (R452, R453). Until the reference check the time is the watch
oscillator's, which FLAGS[0] says. -/
def log (s : State) (kind sev : Nat) (payload : List Nat) : State :=
  let seq := match s.cox.log with
    | r :: _ => r.seq + 1
    | [] => 1
  let early := !s.boot.refPassed
  let r : LogRec := ⟨seq, if early then s.now else s.tod, s.boot.startNumber.getD 0, kind, sev, if early then 1 else 0,
    s.heat, payload⟩
  { s with cox := { s.cox with log := (r :: s.cox.log).take (1024 * max 1 (min 127 (s.rd F.COX_LOG_BLOCKS - 1))) } }.wr F.COX_LOG_HEAD seq

/-- A record of a kind that no event goes with: the spec states no severity for it, so that SEV is a free value. -/
def logOpen (s : State) (kind : Nat) (payload : List Nat) : State := s.tick.log kind (s.fresh % 4) payload

/-- Logbook record kinds (R453's table). -/
abbrev kStart := 0x0001
abbrev kHalt := 0x0002
abbrev kRefWait := 0x0003
abbrev kPFail := 0x0004
abbrev kFault := 0x0010
abbrev kFrontier := 0x0020
abbrev kLost := 0x0021
abbrev kPatrolRow := 0x0022
abbrev kGrainFail := 0x0023
abbrev kUpdate := 0x0030
abbrev kActivate := 0x0031
abbrev kFuse := 0x0040
abbrev kSanitize := 0x0050

/-- A FUSE record (R453): command, slot or fuse field, result. -/
def logFuse (s : State) (what field result : Nat) : State := s.logOpen kFuse [what, field, result]

/-- A FUSE record of fuses that no command blows (R454, R505): what it names as the command is open. -/
def logFuseAlone (s : State) (field : Nat) : State := s.tick.logFuse s.fresh field 0

/-- Status codes of a vendor response (R446). The spec numbers busy, refused and denied; 0x00 for success and 0x04 for `invalid` (R470)
are DESIGN CHOICE (log entry 152). -/
abbrev vOk := 0x00
abbrev vBusy := 0x01
abbrev vRefused := 0x03
abbrev vInvalid := 0x04
abbrev vDenied := 0x05

/-- Answer a vendor message (R455). -/
def vendor (s : State) (status : Nat) (data : List Nat := []) : State := s.emit (.mctp 0x7E status data)

end State

/-- Replace element `n` of a list. -/
def setAt {α : Type} (l : List α) (n : Nat) (v : α) : List α := l.set n v

/-- A list of distinct members gains one. -/
def addTo (l : List Nat) (n : Nat) : List Nat := if l.contains n then l else l ++ [n]

/-- Insert by a key, behind those with the same key; a list in order of a key. -/
def insertOn {α : Type} (key : α → Nat) (x : α) : List α → List α
  | [] => [x]
  | y :: rest => if key x < key y then x :: y :: rest else y :: insertOn key x rest
def sortOn {α : Type} (key : α → Nat) (l : List α) : List α := l.foldl (fun a x => insertOn key x a) []

/-- A list of distinct members loses one. -/
def dropFrom (l : List Nat) (n : Nat) : List Nat := l.filter (· != n)

end Sys2Proof.Machine
end

