-- ==== Sys2Proof/Machine/Req.lean ====
section
/-!
DEFINITION. What a request of the NVMe target says of itself (R149, R151, R153 to R155), and the held commands (R138).
-/

namespace Sys2Proof

/-- What the order of a namespace makes of a command (R159): 0 neither, 1 read, 2 write. -/
def Req.access : Req → Nat
  | .read _ | .compare _ => 1
  | .write _ | .writeZeroes _ => 2
  | .dsm _ _ ad .. => if ad then 2 else 0
  | .mirrored .. => 2
  | _ => 0

/-- Whether it is a reservation command. -/
def Req.reserves : Req → Bool
  | .rsvRegister .. | .rsvReport .. | .rsvAcquire .. | .rsvRelease .. => true
  | _ => false

/-- LBA ranges of a command: first and number. -/
def Req.ranges : Req → List (Nat × Nat)
  | .read io | .compare io | .write io | .writeZeroes io => [(io.slba, io.nlb + 1)]
  | .dsm _ _ true _ rs => rs
  | .mirrored _ slba nlb _ _ _ => [(slba, nlb + 1)]
  | _ => []

/-- Namespace of an I/O command. -/
def Req.nsid : Req → Nat
  | .flush n => n
  | .read io | .compare io | .write io | .writeZeroes io => io.nsid
  | .dsm n .. => n
  | .rsvRegister n .. => n
  | .rsvReport n .. => n
  | .rsvAcquire n .. => n
  | .rsvRelease n .. => n
  | .mirrored vol .. => vol + 1
  | _ => 0

/-- The data descriptor of a command. -/
def Req.sgl : Req → Option Sgl
  | .read io | .compare io | .write io => some io.sgl
  | .rsvReport _ _ _ g => some g
  | .getLog _ _ _ _ g => some g
  | .identify _ _ _ _ g => some g
  | .getFeatures 0x81 _ g => some g
  | .dsm _ _ ad g _ => if ad then some g else none
  | .rsvRegister _ _ _ _ g _ _ => some g
  | .rsvAcquire _ _ _ _ g _ _ => some g
  | .rsvRelease _ _ _ _ g _ => some g
  | _ => none

/-- A command whose ranges or keys are data that a FETCH brings before it is executed (R155). -/
def Req.wantsData : Req → Bool
  | .dsm _ _ ad .. => ad
  | .rsvRegister .. | .rsvAcquire .. | .rsvRelease .. => true
  | _ => false

/-- The ranges of a Dataset Management have not come yet. -/
def Req.unknown : Req → Bool
  | .dsm _ _ true _ [] => true
  | _ => false

/-- The command with its fetched data: ranges of 16 B with their length at 4 and their first LBA at 8, or one or two keys of 8 B, as the
NVMe Base Specification lays them out (log entry 132). -/
def Req.withData (r : Req) (buf : Nat) : Req :=
  let u64 (a : Nat) : Nat := buf / 256 ^ a % 2 ^ 64
  match r with
  | .dsm n nr ad g _ => .dsm n nr ad g ((List.range (nr + 1)).map fun i => (u64 (16 * i + 8), u64 (16 * i + 4) % 2 ^ 32))
  | .rsvRegister n act ign cptpl g _ _ => .rsvRegister n act ign cptpl g (u64 0) (u64 8)
  | .rsvAcquire n act t ign g _ _ => .rsvAcquire n act t ign g (u64 0) (u64 8)
  | .rsvRelease n act t ign g _ => .rsvRelease n act t ign g (u64 0)
  | r => r

/-- Commands of the admin queue, and commands of I/O queues; Connect and Disconnect belong to both. -/
def Req.isIo : Req → Bool
  | .flush .. | .write .. | .read .. | .compare .. | .writeZeroes .. | .dsm .. | .rsvRegister .. | .rsvReport ..
  | .rsvAcquire .. | .rsvRelease .. | .mirrored .. => true
  | _ => false

/-- The opcode of a command (R149, R151). -/
def Req.opcode : Req → Nat
  | .flush .. => 0x00
  | .write .. => 0x01
  | .read .. => 0x02
  | .compare .. => 0x05
  | .writeZeroes .. => 0x08
  | .dsm .. => 0x09
  | .rsvRegister .. => 0x0D
  | .rsvReport .. => 0x0E
  | .rsvAcquire .. => 0x11
  | .rsvRelease .. => 0x15
  | .getLog .. => 0x02
  | .identify .. => 0x06
  | .abort .. => 0x08
  | .setFeatures .. => 0x09
  | .getFeatures .. => 0x0A
  | .aer => 0x0C
  | .keepAlive => 0x18
  | .connect .. | .propertySet .. | .propertyGet .. | .disconnect => 0x7F
  | .mirrored .. => 0x00

/-- A mirrored write is acknowledged in its own way and has no response (R287). -/
def Req.silent : Req → Bool
  | .mirrored .. => true
  | _ => false

/-- Commands that take no context (R145). -/
def Req.free : Req → Bool
  | .aer | .keepAlive => true
  | _ => false

end Sys2Proof

namespace Sys2Proof.Machine

/-- Two lists of ranges share an LBA. -/
def overlap (a b : List (Nat × Nat)) : Bool :=
  a.any fun x => b.any fun y => decide (x.1 < y.1 + y.2) && decide (y.1 < x.1 + x.2)

/-- A command that has no more effect to come: later ones need not wait for it (R159, R161). -/
def Cmd.ended (k : Cmd) : Bool := k.step == 6

/-- A command that is held, with nothing done for it yet. -/
def Cmd.fresh (id : CmdId) (flow : FlowRef) (keyhi : Nat) (enc : Option Nat) (req : Req) (at_ answerAt order sqhd heat : Nat) : Cmd :=
  { id := id, flow := flow, keyhi := keyhi, enc := enc, req := req, at_ := at_, answerAt := answerAt, order := order, ctx := false
    phase := 0, step := 0, placed := false, answer := none, sqhd := sqhd, rmsgid := 0, buf := 0, want := 0, blocks := []
    group := none, tokens := [], items := [], heat := heat, err := none, mute := false, adopted := false, acked := false
    recFrame := none, gate := none, due := none, passed := false, unchecked := false, undo := none, plain := [], stored := none }

namespace State

/-- A held command; store a changed one. -/
def cmdOf (s : State) (c : CmdId) : Option Cmd := s.nvt.cmds.find? (·.id == c)
def setCmd (s : State) (k : Cmd) : State :=
  { s with nvt := { s.nvt with cmds := s.nvt.cmds.map fun x => if x.id = k.id then k else x } }
def dropCmd (s : State) (c : CmdId) : State := { s with nvt := { s.nvt with cmds := s.nvt.cmds.filter (·.id != c) } }


end State

end Sys2Proof.Machine
end

