-- ==== Sys2Proof/Machine/Rsv.lean ====
section
/-!
DEFINITION. The statuses of R170 (spec/05_nvme_target.md), and the rules of reservations (R172 to R174) with the actions and types of
the NVMe Base Specification 2.0, which R172 names.
-/

namespace Sys2Proof.Machine

/-- The statuses of R170, and those of the Connect and abort tables (R139, R171). -/
def stOk : Status := ⟨0, 0x00, false⟩
def stInvalidOpcode : Status := ⟨0, 0x01, true⟩
def stInvalidField : Status := ⟨0, 0x02, true⟩
def stAbortRequested : Status := ⟨0, 0x07, true⟩
def stInvalidNs : Status := ⟨0, 0x0B, true⟩
def stSequence : Status := ⟨0, 0x0C, true⟩
def stSglLength : Status := ⟨0, 0x0F, true⟩
def stInterrupted : Status := ⟨0, 0x21, false⟩
def stLbaRange : Status := ⟨0, 0x80, true⟩
def stRsvConflict : Status := ⟨0, 0x83, true⟩
def stWriteFault : Status := ⟨2, 0x80, false⟩
def stReadError : Status := ⟨2, 0x81, true⟩
def stGuard : Status := ⟨2, 0x82, true⟩
def stAppTag : Status := ⟨2, 0x83, true⟩
def stRefTag : Status := ⟨2, 0x84, true⟩
def stCompare : Status := ⟨2, 0x85, true⟩
def stDeferred : Status := ⟨7, 0xC0, false⟩
def stReachKey : Status := ⟨7, 0xC1, true⟩
def stRegFull : Status := ⟨7, 0xC2, true⟩
def stConnectBusy : Status := ⟨1, 0x81, false⟩
def stConnectParams : Status := ⟨1, 0x82, true⟩
def stConnectHost : Status := ⟨1, 0x84, true⟩
def stAbortLimit : Status := ⟨1, 0x03, true⟩

namespace State

/-- Whether a host holds the reservation: registrants hold an all-registrants type together. -/
def holdsRsv (r : Reservation) (host : Nat) : Bool :=
  if r.rtype = 5 || r.rtype = 6 then r.regs.any (·.1 == host) && r.rtype != 0 else r.holder == some host

/-- Reservation Conflict for an I/O command (R172; the access rules of the NVMe Base Specification that R172 names):
types 1 and 2 are write and access exclusive, 3 and 4 their registrants only forms, 5 and 6 all registrants. -/
def rsvDenies (r : Reservation) (host : Nat) (access : Nat) : Bool :=
  let registrant := r.regs.any (·.1 == host)
  match r.rtype with
  | 1 => access == 2 && !holdsRsv r host
  | 2 => access != 0 && !holdsRsv r host
  | 3 | 5 => access == 2 && !registrant
  | 4 | 6 => access != 0 && !registrant
  | _ => false

end State

/-- The outcome of a reservation command: the new state, its status, hosts that lost their registration, and whether the
reservation that stood is gone for its other registrants. -/
structure RsvEnd where
  new : Reservation
  status : Status
  lost : List Nat
  released : Bool
deriving DecidableEq, Repr

/-- No change, with a status. -/
def RsvEnd.refused (r : Reservation) (st : Status) : RsvEnd := ⟨r, st, [], false⟩

/-- The key of a registrant. -/
def rsvKey (r : Reservation) (host : Nat) : Option Nat := r.regs.lookup host

/-- An all-registrants type, and a type that lasts beyond its holder's interest only with registrants. -/
def allTypes (t : Nat) : Bool := t == 5 || t == 6
def registrantTypes (t : Nat) : Bool := decide (3 ≤ t) && decide (t ≤ 6)

/-- Remove registrations; a reservation whose holder goes, or whose last registrant goes, is released. -/
def rsvDrop (r : Reservation) (gone : List Nat) : Reservation :=
  let regs := r.regs.filter fun e => !gone.contains e.1
  let ends := if allTypes r.rtype then regs.isEmpty else match r.holder with | some h => gone.contains h | none => false
  { r with regs := regs, rtype := if ends then 0 else r.rtype, holder := if ends then none else r.holder }

/-- CPTPL of a Register: 2 clears and 3 sets Persist Through Power Loss. -/
def setPtpl (r : Reservation) (cptpl : Nat) : Reservation :=
  match cptpl with | 2 => { r with ptpl := false } | 3 => { r with ptpl := true } | _ => r

/-- Reservation Register: RREGA 0 registers, 1 unregisters, 2 replaces the key. -/
def rsvRegister (r : Reservation) (host action : Nat) (ignoreKey : Bool) (cptpl curKey newKey : Nat) : RsvEnd :=
  let fits := ignoreKey || rsvKey r host == some curKey
  let up (x : Reservation) : Reservation := setPtpl { x with gen := (x.gen + 1) % 2 ^ 32 } cptpl
  let add : RsvEnd :=
    if 64 ≤ r.regs.length then RsvEnd.refused r stRegFull
    else ⟨up { r with regs := r.regs ++ [(host, newKey)] }, stOk, [], false⟩
  if 2 < action || cptpl = 1 then RsvEnd.refused r stInvalidField
  else match action, rsvKey r host with
    | 0, none => add
    | 0, some k => if k = newKey then ⟨up r, stOk, [], false⟩ else RsvEnd.refused r stRsvConflict
    | 1, some _ => if !fits then RsvEnd.refused r stRsvConflict else
        let x := rsvDrop r [host]
        ⟨up x, stOk, [], r.rtype != 0 && x.rtype == 0⟩
    | 2, some _ => if !fits then RsvEnd.refused r stRsvConflict else
        ⟨up { r with regs := r.regs.map fun e => if e.1 = host then (host, newKey) else e }, stOk, [], false⟩
    | 2, none => if ignoreKey then add else RsvEnd.refused r stRsvConflict
    | _, _ => RsvEnd.refused r stRsvConflict

/-- Reservation Acquire: RACQA 0 acquires, 1 preempts, 2 preempts and aborts. -/
def rsvAcquire (r : Reservation) (host action rtype : Nat) (ignoreKey : Bool) (curKey preKey : Nat) : RsvEnd :=
  if ignoreKey || 2 < action || rtype = 0 || 6 < rtype then RsvEnd.refused r stInvalidField
  else if rsvKey r host ≠ some curKey then RsvEnd.refused r stRsvConflict
  else if action = 0 then
    if r.rtype = 0 then ⟨{ r with rtype := rtype, holder := some host }, stOk, [], false⟩
    else if State.holdsRsv r host && r.rtype = rtype then ⟨r, stOk, [], false⟩
    else RsvEnd.refused r stRsvConflict
  else
    let keyed (k : Nat) : List Nat := (r.regs.filter fun e => e.2 == k && e.1 != host).map (·.1)
    let up (x : Reservation) : Reservation := { x with gen := (x.gen + 1) % 2 ^ 32 }
    let take (gone : List Nat) : RsvEnd :=
      let x := rsvDrop r gone
      ⟨up { x with rtype := rtype, holder := some host }, stOk, gone, decide (r.rtype ≠ rtype)⟩
    if allTypes r.rtype then
      if preKey = 0 then take ((r.regs.filter (·.1 != host)).map (·.1))
      else if (keyed preKey).isEmpty then RsvEnd.refused r stRsvConflict
      else ⟨up (rsvDrop r (keyed preKey)), stOk, keyed preKey, false⟩
    else
      let holderKey := r.holder.bind (rsvKey r)
      if r.rtype ≠ 0 && holderKey == some preKey then take (keyed preKey)
      else if preKey = 0 then RsvEnd.refused r stInvalidField
      else if (keyed preKey).isEmpty then RsvEnd.refused r stRsvConflict
      else ⟨up (rsvDrop r (keyed preKey)), stOk, keyed preKey, false⟩

/-- Reservation Release: RRELA 0 releases, 1 clears. -/
def rsvRelease (r : Reservation) (host action rtype : Nat) (ignoreKey : Bool) (curKey : Nat) : RsvEnd :=
  if ignoreKey || 1 < action then RsvEnd.refused r stInvalidField
  else if rsvKey r host ≠ some curKey then RsvEnd.refused r stRsvConflict
  else if action = 0 then
    if r.rtype = 0 || !State.holdsRsv r host then ⟨r, stOk, [], false⟩
    else if r.rtype ≠ rtype then RsvEnd.refused r stInvalidField
    else ⟨{ r with rtype := 0, holder := none }, stOk, [], registrantTypes r.rtype⟩
  else
    ⟨{ r with rtype := 0, holder := none, regs := [], gen := (r.gen + 1) % 2 ^ 32 }, stOk,
      (r.regs.filter (·.1 != host)).map (·.1), false⟩

/-- The reservation state as the payload of a RESERVE record (R236): generation, type, registrants, holder. -/
def rsvPayload (r : Reservation) : List Nat :=
  [r.gen, r.rtype, if r.ptpl then 1 else 0, r.holder.getD 0] ++ r.regs.flatMap fun e => [e.1, e.2]

/-- What a reservation command does to the state of its namespace, for the host that sends it. -/
def rsvEffect (req : Req) (r : Reservation) (host : Nat) : RsvEnd :=
  match req with
  | .rsvRegister _ act ign cptpl _ cur new => rsvRegister r host act ign cptpl cur new
  | .rsvAcquire _ act t ign _ cur pre => rsvAcquire r host act t ign cur pre
  | .rsvRelease _ act t ign _ cur => rsvRelease r host act t ign cur
  | _ => RsvEnd.refused r stInvalidField

/-- A RESERVE record (R236). -/
def rsvRec (vol : Nat) (r : Reservation) : JRec :=
  ⟨0x07, false, false, vol, 0, 0, 0, 1, 8 * (rsvPayload r).length, rsvPayload r⟩

end Sys2Proof.Machine
end

