-- ==== Sys2Proof/Machine/Fatal.lean ====
section
/-!
DEFINITION. What a fault of severity fatal does at once (R487).
-/

namespace Sys2Proof.Machine.State

/-- The fatal action. -/
def fatalAct (s : State) : State := { s with fatal := true }

end Sys2Proof.Machine.State
end

