-- ==== Sys2Proof/Machine/Interrupt.lean ====
section
/-!
DEFINITION. Interrupt requests of the steward endpoint (R431 to R434, R439).
-/

namespace Sys2Proof.Machine.State

/-- The pending vectors of EPT_IRQ_PEND as one 64-bit number. -/
def pend (s : State) : Nat := s.rd F.EPT_IRQ_PEND_LO_PEND + 2 ^ 32 * s.rd F.EPT_IRQ_PEND_HI_PEND

/-- The mask of EPT_IRQ_MASK as one 64-bit number. -/
def irqMask (s : State) : Nat := s.rd F.EPT_IRQ_MASK_LO_MASK + 2 ^ 32 * s.rd F.EPT_IRQ_MASK_HI_MASK

/-- Store the pending vectors. -/
def setPend (s : State) (p : Nat) : State :=
  (s.wr F.EPT_IRQ_PEND_LO_PEND (p % 2 ^ 32)).wr F.EPT_IRQ_PEND_HI_PEND (p / 2 ^ 32)

/-- MSI-X Enable. -/
def msixOn (s : State) : Bool := s.is F.EPT_STATUS_MSIX

/-- Whether the line should be asserted (R431): a pending bit that its mask bit does not stop, Interrupt Disable 0. -/
def lineWanted (s : State) : Bool :=
  !s.msixOn && !s.ept.intDisable && (List.range 64).any fun v => s.pend.testBit v && !s.irqMask.testBit v

/-- Send the INTx message that the line calls for, where the last one sent says otherwise. In D3hot nothing is sent (R438). -/
def sendInta (s : State) : State :=
  let want := s.is F.EPT_STATUS_INTA
  if s.ept.d3hot || want == s.ept.intaSent then s
  else { s with ept := { s.ept with intaSent := want } }.emit (if want then .assertInta else .deassertInta)

/-- Bring the INTx line to where R431 puts it, sending a message at each edge. -/
def settleLine (s : State) : State :=
  let want := s.lineWanted
  let is := s.is F.EPT_STATUS_INTA
  if want == is then s
  else
    (s.wr F.EPT_STATUS_INTA (if want then 1 else 0)).sendInta

/-- Whether vector `v` is masked for MSI-X: its own mask bit, or Function Mask (R433). -/
def msixMaskedAt (s : State) (v : Nat) : Bool := s.ept.fnMask || s.ept.msixMasked.contains v

/-- Doubleword `w` of entry `v` of the MSI-X table: address, upper address, data (R426). -/
def msixWord (s : State) (v w : Nat) : Nat := (s.ept.msixTable.lookup (4 * v + w)).getD 0

/-- Send the MSI-X message of a table entry (R433). -/
def sendMsix (s : State) (v : Nat) : State := s.emit (.msix v (s.msixWord v 0 + 2 ^ 32 * s.msixWord v 1) (s.msixWord v 2))

/-- A unit requests vector `v` (R431, R433). -/
def requestVector (s : State) (v : Nat) : State :=
  let s := s.wake 9
  if s.msixOn then
    if s.msixMaskedAt v || s.ept.d3hot then { s with ept := { s.ept with pba := addTo s.ept.pba v } }
    else s.sendMsix v
  else
    (if s.pend.testBit v then s else s.setPend (s.pend + 2 ^ v)).settleLine

/-- Send the messages of the pending bit array whose masks are clear (R433). -/
def sendPba (s : State) : State :=
  let go := s.ept.pba.filter fun v => !s.msixMaskedAt v
  if s.msixOn && !s.ept.d3hot then
    go.foldl (fun t v => t.sendMsix v) { s with ept := { s.ept with pba := s.ept.pba.filter fun v => s.msixMaskedAt v } }
  else s

end Sys2Proof.Machine.State
end

