-- ==== Sys2Proof/Machine/Raise.lean ====
section
/-!
DEFINITION. Occurrences and events (spec/16_events_faults_counters.md): counting (R490 to R494), raising an event and
delivering its record (R479 to R483), and placing its fault (R484 to R489). One operation, `raise`, for every chapter.
-/

namespace Sys2Proof.Machine.State

/-- Severity of an event (R478, R510): 0 notice, 1 degraded, 2 critical, 3 fatal. -/
def severity (ev : Nat) : Nat :=
  if [2, 17, 57, 934, 939].contains ev then 3
  else if [1, 3, 11, 16, 195, 200, 257, 298, 299, 312, 450, 899, 960, 962, 963, 968, 936].contains ev then 2
  else if [0, 8, 9, 13, 20, 21, 31, 32, 35, 40, 58, 133, 256, 262, 265, 288, 289, 293, 296, 302, 449, 453, 466, 467, 468, 469,
    896, 898, 904, 966, 967, 930, 931, 933, 935, 938, 940].contains ev then 1
  else if 512 ≤ ev && ev < 768 && [1, 2, 6].contains ((ev - 512) % 8) then 1
  else 0

/-- EVT_SEV_n as it reads: two bits for each of 16 events (R478). -/
def sevWord (n : Nat) : Nat := (List.range 16).foldl (fun w j => w + severity (16 * n + j) * 4 ^ j) 0

/-- Whether a unit passes a filter (R491). -/
def filterPasses (filter unit : Nat) : Bool :=
  filter == 0xFFFF || (filter % 0x1000 == 0xFFF && filter / 0x1000 == unit / 0x1000) || filter == unit

/-- The command an occurrence concerns, as a sample record names it (R494): context, CNTLID, queue, CID, NSID. -/
abbrev Concern := Nat × Nat × Nat × Nat × Nat

/-- No command: the values R494 gives for none. -/
def noConcern : Concern := (0xFFFF, 0, 0, 0, 0)

/-- Numbers of the counters whose select in effect is `sel` and not 0x000 (R490). Only listed selects can differ from 0. -/
def countersOf (s : State) (sel : Nat) : List Nat :=
  if sel = 0 then [] else
  (s.eff.filter fun kv =>
    kv.2 == sel && (F.PMU_SEL_SEL.key 0 0 ≤ kv.1 && kv.1 ≤ F.PMU_SEL_SEL.key 511 0) && kv.1 % 32 == 0).map
      fun kv => (kv.1 - F.PMU_SEL_SEL.key 0 0) / 128

/-- Count amount `n` in counter `c`: 64 bits, wrapping to 0 with OVF set (R490). -/
def countIn (s : State) (unit n c : Nat) : State :=
  if filterPasses (s.ef F.PMU_SEL_FILTER c) unit then
    let v := s.rd F.PMU_CNT_VALUE c 0 + 2 ^ 32 * s.rd F.PMU_CNT_VALUE c 1 + n
    let s1 := (s.wr F.PMU_CNT_VALUE v c 0).wr F.PMU_CNT_VALUE (v / 2 ^ 32) c 1
    if v < 2 ^ 64 then s1 else s1.wr F.PMU_SEL_OVF 1 c
  else s

/-- The select of an occurrence in a group of R490 that begins at `base` and has `size` numbers; the spec does not give its place in the
group (log entry 35). -/
def openSel (base size which : Nat) : Nat := base + Config.pmuOffset which % size

/-- The select that counts interrupts (R490). -/
def irqSel : Nat := openSel 0x500 0x100 4

/-- Count an occurrence in the counters, unless they are frozen (R492). -/
def countAll (s : State) (sel unit n : Nat) : State :=
  if s.is F.PMU_CTRL_FREEZE then s else (s.countersOf sel).foldl (fun t k => t.countIn unit n k) s

/-- A sample record goes into the steward host's sample ring, or is lost (R494). Its interrupt is counted and not sampled (DESIGN CHOICE,
log entry 151). -/
def putSample (s : State) (r : Sample) : State :=
  let pi := s.rd F.PMU_SBUF_PI
  let size := 2 ^ s.ef F.PMU_SBUF_LOG2SIZE
  if (pi + 2 ^ 32 - s.rd F.PMU_SBUF_CI) % 2 ^ 32 < size then
    (((s.emit (.hostSample (pi % size) r)).wr F.PMU_SBUF_PI (pi + 1)).requestVector (s.rd F.PMU_SBUF_IVEC)).countAll irqSel 0x9400 1
  else ({ s with ev := { s.ev with sampleLost := true } }).bump F.PMU_SBUF_LOST

/-- Write a sample record of sampler `k` (R494): to the host's sample ring, where it waits while the endpoint link is down (R496), or to
the HBM sampling buffer. -/
def writeSample (s : State) (k sel unit : Nat) (c : Concern) : State :=
  let r : Sample := ⟨k, sel, unit, s.heat, s.tod, c.1, c.2.1, c.2.2.1, c.2.2.2.1, c.2.2.2.2, s.fresh⟩
  let s := s.tick
  if !s.is F.PMU_SBUF_EN then { s with ev := { s.ev with samples := (r :: s.ev.samples).take 262144 } }
  else if s.is F.EPT_STATUS_UP then s.putSample r
  else { s with ev := { s.ev with sampleWait := s.ev.sampleWait ++ [r] } }

/-- Waiting sample records are written as the endpoint link is up again (R496). -/
def drainSamples (s : State) : State :=
  if s.is F.PMU_SBUF_EN && s.is F.EPT_STATUS_UP then
    s.ev.sampleWait.foldl (fun t r => t.putSample r) { s with ev := { s.ev with sampleWait := [] } }
  else s

/-- One occurrence at sampler `k` (R494): every 2^PERIOD-th one is recorded. -/
def sampleAt (s : State) (sel unit : Nat) (c : Concern) (k : Nat) : State :=
  if s.is F.PMU_SAMP_EN k && s.rd F.PMU_SAMP_SEL k == sel && sel != 0 && filterPasses (s.rd F.PMU_SAMP_FILTER k) unit then
    let n := s.ev.sampCount.getD k 0 + 1
    if 2 ^ s.rd F.PMU_SAMP_PERIOD k ≤ n then
      ({ s with ev := { s.ev with sampCount := s.ev.sampCount.set k 0 } }).writeSample k sel unit c
    else { s with ev := { s.ev with sampCount := s.ev.sampCount.set k n } }
  else s

/-- An occurrence of `sel`, `n` times, by `unit`: counters count it unless they are frozen (R492), samplers sample it. -/
def occurN (s : State) (sel unit n : Nat) (c : Concern := noConcern) : State :=
  [0, 1, 2, 3].foldl (fun t k => t.sampleAt sel unit c k) (s.countAll sel unit n)

/-- Whether any counter or sampler can count. -/
def counting (s : State) : Bool := !s.eff.isEmpty || [0, 1, 2, 3].any fun k => s.is F.PMU_SAMP_EN k

/-- A unit requests vector `v` (R431, R433), which is counted (R490). -/
def interrupt (s : State) (v : Nat) : State :=
  let t := s.requestVector v
  if t.counting then t.occurN irqSel 0x9400 1 else t

/-- Whether an event's record is stopped from the host and from PLDM: masked and not non-maskable (R480, R482). -/
def masked (s : State) (ev : Nat) : Bool := 4 ≤ ev && (s.rd F.EVT_MASK_MASK (ev / 32)).testBit (ev % 32)

/-- Free slots of the steward host's event ring (R481). -/
def hostRoom (s : State) : Nat :=
  2 ^ s.ef F.EVT_HOST_LOG2SIZE - (s.rd F.EVT_HOST_PI + 2 ^ 32 - s.rd F.EVT_HOST_CI) % 2 ^ 32

/-- Write one record into the steward host's event ring and request its vector (R481). -/
def writeHost (s : State) (r : EvRec) : State :=
  let pi := s.rd F.EVT_HOST_PI
  let s1 := (s.emit (.hostRecord (pi % 2 ^ s.ef F.EVT_HOST_LOG2SIZE) r)).wr F.EVT_HOST_PI (pi + 1)
  s1.interrupt (s1.rd (if r.ev < 4 then F.EVT_HOST_NMIVEC else F.EVT_HOST_IVEC))

/-- Merge a raise into a waiting record of the same event and unit. -/
def mergeWait (r : EvRec) : List EvRec → Option (List EvRec)
  | [] => none
  | w :: rest =>
    if w.ev = r.ev && w.unit = r.unit then some ({ w with count := min (w.count + 1) 65535 } :: rest)
    else (mergeWait r rest).map (w :: ·)

/-- Deliver a record to the steward host's event ring (R481, R483). The second component says that records were lost
now while none had been lost before. -/
def deliverHost (s : State) (r : EvRec) : State × Bool :=
  if !s.is F.EVT_HOST_EN || s.masked r.ev then (s, false)
  else if !s.is F.EPT_STATUS_UP then
    -- A non-maskable record goes ahead of the others (R483).
    ({ s with ev := { s.ev with
      wait := (mergeWait r s.ev.wait).getD (if r.ev < 4 then r :: s.ev.wait else s.ev.wait ++ [r]) } }, false)
  else if 0 < s.hostRoom && s.ev.wait.isEmpty then (s.writeHost r, false)
  else
    match mergeWait r s.ev.wait with
    | some w => ({ s with ev := { s.ev with wait := w } }, false)
    | none =>
      let lose (t : State) : State × Bool := (t.bump F.EVT_HOST_LOST, t.rd F.EVT_HOST_LOST == 0)
      if r.ev < 4 then
        match s.ev.wait.reverse.find? (fun w => w.ev != r.ev) with
        | some v => lose { s with ev := { s.ev with wait := r :: s.ev.wait.reverse.erase v |>.reverse } }
        | none => ({ s with ev := { s.ev with wait := r :: s.ev.wait } }, false)
      else if s.ev.wait.length < 1 + Config.hostWaitDepth then
        ({ s with ev := { s.ev with wait := s.ev.wait ++ [r] } }, false)
      else lose s

/-- Write waiting records while the ring has room; a LOST record comes first (R481). -/
def drainHost (s : State) : Nat → State
  | 0 => s
  | n + 1 =>
    if s.hostRoom = 0 || !s.is F.EVT_HOST_EN || !s.is F.EPT_STATUS_UP then s
    else if s.rd F.EVT_HOST_LOST ≠ 0 then
      ((s.writeHost ⟨59, 0, 2, 0xF000, s.rd F.EVT_HOST_LOST, s.heat, s.tod, 0⟩).wr F.EVT_HOST_LOST 0).drainHost n
    else match s.ev.wait with
      | [] => s
      | r :: rest =>
        let t := { s with ev := { s.ev with wait := rest } }
        (if t.masked r.ev then t else t.writeHost r).drainHost n

/-- The core that has the roles of core `k` (R441): core `k` itself, or the next core in service, counted upwards and from X3 to X0. -/
def roleCore (s : State) (k : Nat) : Nat :=
  (((List.range 4).map fun j => (k + j) % 4).find? fun c => (s.rd F.COX_STATUS_CORES).testBit c).getD k

/-- The core that runs the handlings: X2's roles are spare decisions and event forwarding (R441). DEDUCED (log entry 33). -/
def handlingCore (s : State) : Nat := s.roleCore 2

/-- A PLDM message of cox's to the event receiver (R449): at most 64 in a second. An event that finds 64 sent is counted, and the next
message carries the count. `what` makes the message from the receiver and that count. -/
def sendPldm (s : State) (what : Nat → Nat → Out) : State :=
  match s.cox.receiver with
  | none => s
  | some dst =>
    let sent := s.cox.pldmSent.filter fun t => decide (s.now < t + 1000000000)
    if !s.ev.coxRuns then s
    else if sent.length < 64 then
      { s with cox := { s.cox with pldmSent := sent ++ [s.now], pldmMissed := 0 } }.emit (what dst s.cox.pldmMissed)
    else { s with cox := { s.cox with pldmSent := sent, pldmMissed := s.cox.pldmMissed + 1 } }

/-- Insert a queued entry in order of severity, then of raise (R485). -/
def queueIn (e : FqEntry) : List FqEntry → List FqEntry
  | [] => [e]
  | q :: rest => if q.sev < e.sev then e :: q :: rest else q :: queueIn e rest

/-- The newest queued entry of a severity lower than `sev` (R488): the greatest tag in raise order. -/
def newestLower (sev : Nat) (q : List FqEntry) : Option FqEntry :=
  (q.filter fun e => e.sev < sev).foldl
    (fun a e => match a with
      | none => some e
      | some b => if b.tag < e.tag then some e else some b) none

/-- Merge a fault into an entry. -/
def FqMerge (e : FqEntry) (sev : Nat) : FqEntry := { e with count := min (e.count + 1) 65535, sev := max e.sev sev }

/-- Begin a handling, which keeps the limit in force at its start (EVT_CFG.HANDLE_MS). -/
def beginHand (s : State) (e : FqEntry) : State :=
  { s with ev := { s.ev with hand := { e with limit := s.ef F.EVT_CFG_HANDLE_MS } :: s.ev.hand } }

/-- What placing a fault leads to, besides the change of the queue. -/
inductive Follow where
  | nothing
  /-- Escalation of a fault: event and unit (R487). -/
  | escalate (ev unit : Nat)
  /-- A queued entry was displaced: EV0056 (R488). -/
  | displaced
deriving DecidableEq, Repr

/-- An entry preempts: one level higher, or an escalation where that would be a fourth level (R486). -/
def preempt (s : State) (e : FqEntry) : State × Follow :=
  if s.ev.hand.length < 3 then (s.beginHand e, .nothing) else (s, .escalate e.ev e.unit)

/-- Merge a fault of the same unit into an entry under handling or queued (R485, R486). -/
def mergeFault (s : State) (sev unit : Nat) : Option (State × Follow) :=
  match s.ev.hand with
  | [] => none
  | top :: below =>
    if top.unit = unit then some ({ s with ev := { s.ev with hand := FqMerge top sev :: below } }, .nothing)
    else match below.find? (·.unit == unit) with
      | some e =>
        let e' := FqMerge e sev
        if top.sev < e'.sev then
          some ({ s with ev := { s.ev with hand := e' :: s.ev.hand.filter (·.unit != unit) } }, .nothing)
        else some ({ s with ev := { s.ev with hand := s.ev.hand.map fun h => if h.unit = unit then e' else h } }, .nothing)
      | none => match s.ev.queue.find? (·.unit == unit) with
        | some e =>
          let e' := FqMerge e sev
          let s' := { s with ev := { s.ev with queue := s.ev.queue.filter (·.unit != unit) } }
          if top.sev < e'.sev then some (s'.preempt e')
          else some ({ s' with ev := { s'.ev with queue := queueIn e' s'.ev.queue } }, .nothing)
        | none => none

/-- Queue a fault (R485), displacing the newest entry of lower severity where the queue is full (R488). -/
def enqueueFault (s : State) (e : FqEntry) : State × Follow :=
  if s.ev.queue.length < 64 then ({ s with ev := { s.ev with queue := queueIn e s.ev.queue } }, .nothing)
  else match newestLower e.sev s.ev.queue with
    | some v =>
      if e.ev = 56 then (s, .nothing)
      else (({ s with ev := { s.ev with queue := queueIn e (s.ev.queue.filter (·.tag != v.tag)) } }).bump
        F.EVT_FQ_STAT_LOST, .displaced)
    | none => if e.sev = 2 then (s, .escalate e.ev e.unit) else (s, .nothing)

/-- Place a new fault that is not fatal (R485's table). -/
def placeFault (s : State) (ev sev unit : Nat) : State × Follow :=
  let own := unit == 0xF000 && ev != 56 && ev != 57 && ev != 58
  if !s.ev.hand.isEmpty && (own || unit == 0x2000 + s.handlingCore) then (s, .escalate ev unit)
  else
    let s1 := { s with ev := { s.ev with nextTag := s.ev.nextTag % 65535 + 1 } }
    let e : FqEntry := ⟨s.ev.nextTag, ev, sev, unit, 1, 0⟩
    match s1.mergeFault sev unit with
    | some r => r
    | none =>
      match s1.ev.hand with
      | [] => if s1.ev.coxRuns && s1.ev.queue.isEmpty then (s1.beginHand e, .nothing) else s1.enqueueFault e
      | top :: _ => if top.sev < sev then s1.preempt e else s1.enqueueFault e

/-- Deliver and place one raise: the record to every destination of R480, EVT_NMI (R483), the freeze of R492 and the
fault queue. The list holds the events that follow: event, unit, DETAIL and FLAGS. -/
def raiseOne (s : State) (ev unit detail flags : Nat) : State × List (Nat × Nat × Nat × Nat) :=
  let sev := severity ev
  let nm := ev < 4
  let r : EvRec := ⟨ev, sev, (if nm then 1 else 0) + flags, unit, 1, s.heat, s.tod, detail⟩
  let s := s.occurN (0xC00 + ev) unit 1
  let s := { s with ev := { s.ev with buf := (r :: s.ev.buf).take 524288 } }
  let s := if nm then
      ((s.bump F.EVT_NMI_COUNT).wr F.EVT_NMI_UNIT unit).wr F.EVT_FQ_STAT_NMI_EV ev
    else s
  let s := if s.masked ev then s else s.sendPldm fun dst missed => .pldmEvent dst missed r
  let s := if 2 ≤ sev then s.log State.kFault sev [ev, unit, 1] else s
  let (s, lost) := s.deliverHost r
  let follow := if lost then [(59, 0xF000, 0, 0)] else []
  let (s, follow) :=
    if s.is F.PMU_CTRL_FREEZE_EN && s.rd F.PMU_CTRL_FREEZE_EV == ev && !s.is F.PMU_CTRL_FREEZE then
      (s.wr F.PMU_CTRL_FREEZE 1, follow ++ [(61, 0xF000, 0, 0)])
    else (s, follow)
  if sev = 3 then (s.fatalAct, follow)
  else
    let (s, f) := s.placeFault ev sev unit
    match f with
    | .nothing => (s, follow)
    | .escalate e u => (s, follow ++ [(57, 0xF000, e * 65536 + u, 4)])
    | .displaced => (s, follow ++ [(56, 0xF000, 0, 0)])

/-- Raise the events of a list and those that follow from them, to a depth. The chains of this chapter are shorter. -/
def raiseAll (s : State) (evs : List (Nat × Nat × Nat × Nat)) : Nat → State
  | 0 => s
  | n + 1 => evs.foldl (fun t e =>
      let (t, more) := t.raiseOne e.1 e.2.1 e.2.2.1 e.2.2.2
      t.raiseAll more n) s

/-- A sample record lost to a full host ring raises EV0060, at most once per heat (R494). -/
def settleSample (s : State) : State :=
  if s.ev.sampleLost then
    let s1 := { s with ev := { s.ev with sampleLost := false } }
    if s1.ev.once.contains (60, 0) then s1
    else ({ s1 with ev := { s1.ev with once := s1.ev.once ++ [(60, 0)] } }).raiseAll [(60, 0xF000, 0, 0)] 5
  else s

/-- Raise an event. -/
def raise (s : State) (ev unit : Nat) (detail : Nat := 0) : State := (s.raiseAll [(ev, unit, detail, 0)] 5).settleSample

/-- An occurrence of `sel`, `n` times. -/
def countN (s : State) (sel unit n : Nat) (c : Concern := noConcern) : State := (s.occurN sel unit n c).settleSample

/-- One occurrence. -/
def count (s : State) (sel unit : Nat) (c : Concern := noConcern) : State := s.countN sel unit 1 c

/-- A unit requests vector `v` (R431, R433), and what it gives rise to is settled. -/
def irq (s : State) (v : Nat) : State := (s.interrupt v).settleSample

/-- How many numbers a group of R490 has that begins at `base`. -/
def groupSize (base : Nat) : Nat :=
  match base with
  | 0x200 => 0x80
  | 0x380 | 0x4C0 => 0x40
  | _ => 0x100

/-- Occurrences, `n` of them, whose select lies in a group of R490 at a place that the spec does not give. -/
def countOpen (s : State) (base which unit : Nat) (n : Nat := 1) : State :=
  if s.counting then s.countN (openSel base (groupSize base) which) unit n else s

/-- A packet or frame is dropped: counted in a field of SKF_DROP or SWC_DROP, and as an occurrence (R490). -/
def dropOne (s : State) (f : Field) (which unit : Nat) : State := (s.bump f).countOpen 0x100 which unit

/-- Raise an event limited to once per heat for a key; an occurrence not raised is still counted (R490). -/
def raiseOnce (s : State) (ev key unit : Nat) (detail : Nat := 0) : State :=
  if s.ev.once.contains (ev, key) then s.count (0xC00 + ev) unit
  else ({ s with ev := { s.ev with once := s.ev.once ++ [(ev, key)] } }).raise ev unit detail

/-- Begin the first queued entry when no handling is in progress (R486). -/
def beginQueued (s : State) : State :=
  match s.ev.hand, s.ev.queue with
  | [], e :: rest => if s.ev.coxRuns then ({ s with ev := { s.ev with queue := rest } }).beginHand e else s
  | _, _ => s

/-- End the handling with a tag (R489): the suspended entry below resumes, or the next queued one begins. -/
def endHandling (s : State) (tag : Nat) : State :=
  if s.ev.hand.any (·.tag == tag) then
    ({ s with ev := { s.ev with hand := s.ev.hand.filter (·.tag != tag) } }).beginQueued
  else s

end Sys2Proof.Machine.State
end

