-- ==== Sys2Proof/Machine/Items.lean ====
section
/-!
DEFINITION. Host-assisted work: routing for a heat (R24, R25), the hand-over of an item (R410, R411), and the end of an
item by its answer or by its fallback (R29, R30).
-/

namespace Sys2Proof.Machine.State

/-- The mode bits of the twelve functions in effect, at the positions of SYS_FUNC_MODE (R24). -/
def modeBits (s : State) : Nat :=
  s.ef F.SYS_FUNC_MODE_ADMIT + 2 * s.ef F.SYS_FUNC_MODE_REACH + 4 * s.ef F.SYS_FUNC_MODE_MAPMISS +
  8 * s.ef F.SYS_FUNC_MODE_GC + 16 * s.ef F.SYS_FUNC_MODE_REBUILD + 32 * s.ef F.SYS_FUNC_MODE_PATROL +
  64 * s.ef F.SYS_FUNC_MODE_LAGGARD + 128 * s.ef F.SYS_FUNC_MODE_UNWRAP + 256 * s.ef F.SYS_FUNC_MODE_CTABLE +
  512 * s.ef F.SYS_FUNC_MODE_DRVERR + 1024 * s.ef F.SYS_FUNC_MODE_CLKFAIL + 2048 * s.ef F.SYS_FUNC_MODE_TAKEOVER

/-- Whether the steward host can take function `fn`'s work: link up, and the assigned ring enabled (R25, WRG_FUNC_f). -/
def stewardTakes (s : State) (fn : Nat) : Bool :=
  s.is F.EPT_STATUS_UP && s.ef F.WRG_FUNC_EN fn == 1 &&
    (let r := s.ef F.WRG_FUNC_RING fn
     s.is F.WRG_RING_EN r && s.rd F.WRG_RING_KIND r == 2 && s.rd F.WRG_IDX_STATE r == 1)

/-- Route the host-assisted work of every function for the heat that opens (R25). -/
def routeFunctions (s : State) : State :=
  let modes := s.modeBits
  let route := (List.range 12).map fun f => if s.stewardTakes f then 0 else 1
  let toCox := (List.range 12).any fun f => modes.testBit f && route.getD f 1 == 1
  let s1 := { s with wrg := { s.wrg with route := route } }
  let s2 := (s1.wr F.SYS_FUNC_EFF_MODE modes).wr F.SYS_FUNC_EFF_ROUTE (if toCox then 1 else 0)
  if toCox then s2.raise 812 0x0000 else s2

/-- Whether a ring belongs to cox (R397). -/
def coxOwned (r : Nat) : Bool := 1008 ≤ r

/-- Bytes of the data slot of an outbound ring (R411). -/
def slotBytes (s : State) (r : Nat) : Nat := [0, 1024, 4096, 8192].getD (s.ef F.WRG_RING_SLOT r) 0

/-- Free entries of an outbound or completion ring: slots outside [CI, PI) (R399, R410). -/
def ringRoom (s : State) (r : Nat) : Nat :=
  2 ^ s.ef F.WRG_RING_LOG2SIZE r - (s.rd F.WRG_IDX_PI r + 2 ^ 32 - s.rd F.WRG_IDX_CI r) % 2 ^ 32

/-- A ring's index has advanced to `n`: the shadow write, then the interrupt, spaced by COAL (R402). What goes to the steward host
reopens the endpoint's gate (R92). -/
def publish (s : State) (r n : Nat) : State :=
  let s := if r < 1008 then s.wake 9 else s
  let s := if s.rd F.WRG_RING_SHADOW r 0 ≠ 0 ∨ s.rd F.WRG_RING_SHADOW r 1 ≠ 0 then s.emit (.shadow r n) else s
  if s.is F.WRG_RING_IEN r then
    let coal := s.rd F.WRG_RING_COAL r
    if coal = 0 then s.irq (s.rd F.WRG_RING_IVEC r)
    else if s.wrg.gaps.any (·.1 == r) then
      { s with wrg := { s.wrg with gaps := s.wrg.gaps.map fun g => if g.1 = r then (r, true) else g } }
    else
      let s1 := s.irq (s.rd F.WRG_RING_IVEC r)
      { s1 with wrg := { s1.wrg with gaps := s1.wrg.gaps ++ [(r, false)] } }
  else s

/-- Write one entry into an outbound ring and publish its PI (R402, R410). `fallback` is the time of day of the fallback point; none
stands for all ones. -/
def putEntry (s : State) (r opcode fn dlen tag : Nat) (fallback : Option Nat) (content data : List Nat) : State :=
  let pi := s.rd F.WRG_IDX_PI r
  ((s.emit
    (.ringEntry r (pi % 2 ^ s.ef F.WRG_RING_LOG2SIZE r) opcode fn dlen tag fallback content data)).wr F.WRG_IDX_PI (pi + 1) r).publish
    r ((pi + 1) % 2 ^ 32)

/-- A NOTICE_LOST that carries the count of lost notices, which is cleared (R412). -/
def noticeLost (s : State) (r : Nat) : State :=
  (s.putEntry r 0x83 2 (s.rd F.WRG_IDX_LOST r) 0 none [] []).wr F.WRG_IDX_LOST 0 r

/-- The event on fallback of a function (R27), with the ring to which its item was handed as unit (R477). -/
def fallbackEvent (s : State) (fn ring : Nat) : State := s.raise (800 + fn) (0x9000 + ring)

/-- The ring on which function `fn`'s items go in this heat (R398, R436). -/
def itemRing (s : State) (fn : Nat) : Nat :=
  if s.wrg.route.getD fn 1 = 0 then s.ef F.WRG_FUNC_RING fn else 1008 + fn

/-- The code of TWN_STATUS.STATE: 0 single, 1 joining, 2 paired, 3 taking over, 4 alone, 5 fenced, 6 declined. -/
def twinState (s : State) : Nat := s.rd F.TWN_STATUS_STATE

/-- The answer deadline in effect in ns (NVT_DEADLINE; at least 1,500 µs in a paired twin, R177). -/
def deadline (s : State) : Nat :=
  let us := s.ef F.NVT_DEADLINE_US
  1000 * (if s.twinState = 2 then max us 1500 else us)

/-- The cut point of a command (R176, R177). -/
def cutPoint (s : State) (k : Cmd) : Nat := k.answerAt - (if s.twinState = 2 then 1200000 else 30000)

/-- The fallback point of an item that a command waits on (R28, R177): 250 µs before its answer point, or, in a paired twin, before
its cut point. Of any other item, but those of functions 10 and 11: one answer deadline after the handover. -/
def itemPoint (s : State) (k : Option Cmd) : Nat :=
  match k with
  | some c => (if s.twinState = 2 then s.cutPoint c else c.answerAt) - 250000
  | none => s.now + s.deadline

/-- Elapsed time moves up to an instant that a rule fixes, when a row says that it has come (R28, R175). -/
def passTo (s : State) (at_ : Nat) : State := s.pass (at_ - s.now)

/-- Hand an item over (R410): its INLINE fields, the data for its slot and their length in bytes, and its fallback point in elapsed
time. The second component is false where it is not handed over: the function is in hardware
mode for the rest of the heat (R31, R417), or the ring has no entry or too small a slot (R411). -/
def handOver (s : State) (fn arg arg2 : Nat) (content data : List Nat) (dlen fallAt : Nat) : State × Bool :=
  if s.wrg.route.getD fn 1 = 2 then (s, false)
  else
    let r := s.itemRing fn
    let cox := s.wrg.route.getD fn 1 == 1
    if s.ringRoom r = 0 || s.slotBytes r < dlen || !s.is F.WRG_RING_EN r || s.rd F.WRG_RING_KIND r ≠ 2 then
      ((s.fallbackEvent fn r).raiseOnce 774 r (0x9000 + r), false)
    else
      let tag := s.wrg.nextItem
      let s1 := { s with wrg := { s.wrg with nextItem := tag + 1, items := s.wrg.items ++ [Item.mk tag fn cox r arg arg2 fallAt] } }
      let s2 := s1.putEntry r 0x81 fn dlen tag (some (s.tod + (fallAt - s.now))) content data
      let s3 := if cox && 10 ≤ fn then s2.sendPldm fun dst missed => .pldmItem dst missed fn tag else s2
      (s3.countOpen 0x500 1 (0x9000 + r), true)

/-- The item with a tag. -/
def itemOf (s : State) (tag : Nat) : Option Item := s.wrg.items.find? (·.tag == tag)

/-- An item ends. -/
def endItem (s : State) (tag : Nat) : State :=
  { s with wrg := { s.wrg with items := s.wrg.items.filter (·.tag != tag) } }

/-- An item falls back: it is kept for the status late, and its event is raised (R29, R409). Hardware mode then
completes it, which is the caller's part. -/
def fallItem (s : State) (it : Item) : State :=
  let s1 := s.endItem it.tag
  ({ s1 with wrg := { s1.wrg with fallen := s1.wrg.fallen ++ [(it.tag, it.cox, s1.now)] } }).fallbackEvent it.fn it.ring

/-- A notice is written to its ring or counted as lost; a NOTICE_LOST precedes it where notices were lost (R412). -/
def notice (s : State) (fn : Nat) (content : List Nat) : State :=
  let r := s.itemRing fn
  let s := if s.rd F.WRG_IDX_LOST r ≠ 0 && 0 < s.ringRoom r then
      s.noticeLost r
    else s
  if 0 < s.ringRoom r && s.is F.WRG_RING_EN r && s.rd F.WRG_RING_KIND r = 2 then s.putEntry r 0x82 fn 0 0 none content []
  else (s.bump F.WRG_IDX_LOST 1 r).raiseOnce 776 r (0x9000 + r)

end Sys2Proof.Machine.State
end

