-- ==== Sys2Proof/Machine/Checked.lean ====
section
/-!
DEFINITION. Units whose work is checked before it is released (R303 of spec/09_inline_compression.md, R338 and R339 of
spec/10_inline_cipher.md, EV0453): which unit does an operation, a check that fails, and the withdrawal of a unit.
-/

namespace Sys2Proof.Machine

/-- Units of each kind (R311, R340). -/
def UnitKind.count : UnitKind → Nat
  | .compressor => 16
  | .decompressor => 32
  | .xts => 20
  | .gcm => 16

/-- UNIT of an event of unit `u` (R477). -/
def UnitKind.unit (k : UnitKind) (u : Nat) : Nat :=
  match k with
  | .compressor => 0x5000 + u
  | .decompressor => 0x5010 + u
  | .xts => 0x6000 + u
  | .gcm => 0x6020 + u

namespace State

/-- Units of a kind in service. -/
def unitsIn (s : State) (k : UnitKind) : List Nat := (List.range k.count).filter fun u => !s.chk.out.contains (k, u)

/-- Show the units in service (CMP_STATUS, CMP_UNITS_C, CMP_UNITS_D, CIP_UNITS). -/
def showUnits (s : State) (k : UnitKind) : State :=
  let l := s.unitsIn k
  let bits := l.foldl (fun n u => n + 2 ^ u) 0
  match k with
  | .compressor => (s.wr F.CMP_STATUS_CUNITS l.length).wr F.CMP_UNITS_C_INSVC bits
  | .decompressor => (s.wr F.CMP_STATUS_DUNITS l.length).wr F.CMP_UNITS_D_INSVC bits
  | .xts => s.wr F.CIP_UNITS_XTS l.length
  | .gcm => s.wr F.CIP_UNITS_GCM l.length

/-- The unit that takes an operation, another than `last` where there is one; which, the spec does not say. -/
def pickUnit (s : State) (k : UnitKind) (last : Option Nat) : Option Nat :=
  let l := s.unitsIn k
  let others := l.filter fun u => some u != last
  let pool := if others.isEmpty then l else others
  pool[s.fresh % pool.length]?

/-- What an upset adds to the operation that begins now; 0 where there is none. -/
def upset (s : State) : Nat := Config.unitError (s.free + 1)

/-- The operation has drawn its unit and its upset. -/
def drawn (s : State) : State := { s with free := s.free + 2 }

/-- Units of a kind report a failed check, and their withdrawal: event numbers. A single failed check of a decompressor raises none. -/
def slipEvents : UnitKind → Option Nat × Nat
  | .compressor => (some 448, 449)
  | .decompressor => (none, 453)
  | .xts | .gcm => (some 465, 466)

/-- A check of a unit's work has failed: it is counted, and with two within 1 s the unit is withdrawn (R303, R339, EV0453). -/
def slip (s : State) (k : UnitKind) (u : Nat) : State :=
  let again := s.chk.slips.any fun e => e.1 == k && e.2.1 == u && decide (s.now ≤ e.2.2 + 1000000000)
  let s1 := match k with
    | .compressor => s.bump F.CMP_ERR_VERIFY
    | .decompressor => s
    | .xts | .gcm => s.bump F.CIP_ERR_CHECK
  let s1 := s1.countOpen 0x380 5 (k.unit u)
  let s2 := match (slipEvents k).1 with | some ev => s1.raise ev (k.unit u) | none => s1
  let rest := s2.chk.slips.filter fun e => !(e.1 == k && e.2.1 == u)
  if again then
    (({ s2 with chk := ⟨rest, s2.chk.out ++ [(k, u)]⟩ }).showUnits k).raise (slipEvents k).2 (k.unit u)
  else { s2 with chk := { s2.chk with slips := rest ++ [(k, u, s2.now)] } }

/-- An operation of the cipher (R338, R339): two computations that agree release it; where they differ the output is withheld, and it runs
again on another pipeline. False where no pipeline is left in service. -/
def cipherRuns (s : State) (k : UnitKind) (last : Option Nat) : Nat → State × Bool
  | 0 => (s, false)
  | n + 1 => match s.pickUnit k last with
    | none => (s, false)
    | some u => if s.upset = 0 then (s.drawn, true) else (s.drawn.slip k u).cipherRuns k (some u) n

/-- Run an operation of the cipher until it is released: two mismatches withdraw a pipeline, so that it ends. -/
def cipherRun (s : State) (k : UnitKind) : State × Bool := s.cipherRuns k none (2 * k.count + 1)

/-- Run an operation over a list, one member after the other, up to the first that gives nothing. -/
def eachOf {α β : Type} (f : State → α → State × Option β) : State → List α → State × Option (List β)
  | s, [] => (s, some [])
  | s, a :: rest => match f s a with
    | (t, none) => (t, none)
    | (t, some b) => match eachOf f t rest with
      | (u, some l) => (u, some (b :: l))
      | (u, none) => (u, none)

end State

end Sys2Proof.Machine
end

