-- ==== Sys2Proof/Machine/Hamper.lean ====
section
/-!
DEFINITION. The layout of HBM and the buffers of the hampers (R181 to R186 of spec/06_hampers_and_heats.md), and the alignment of heats
(R193, R194).
-/

namespace Sys2Proof.Machine

/-- The owner of a command's buffers. -/
def cmdOwner (c : CmdId) : Nat × Nat × Nat := (c.cntlid, c.qid * 65536 + c.cid, c.msgid)

namespace State

/-- The fixed regions of HBM (R181), first MiB and size of each: flow records, chain entries, image copy, event and sampling buffers, and a
reserved one. -/
abbrev hbmFixed : List (Nat × Nat) := [(0, 64), (64, 32), (96, 64), (160, 32), (192, 64)]

/-- The first MiB of the privileged map, and of a hamper (R181): H0 follows the map, and each hamper the one before it. -/
abbrev mapStart : Nat := 256
def hamperStart (s : State) (h : Nat) : Nat :=
  (List.range h).foldl (fun n i => n + s.ef F.HMP_POOL_SIZE i) (mapStart + 1024 * s.ef F.HMP_MAP_GIB)

/-- The hamper in which a MiB of HBM lies (R181). -/
def hamperAt (s : State) (mib : Nat) : Option Nat :=
  (List.range 16).find? fun h => decide (s.hamperStart h ≤ mib) && decide (mib < s.hamperStart (h + 1))

/-- Buffers of hamper `h` (R182, R184): 16 KiB buffers in H0, 4 KiB buffers elsewhere, less 1/256 for chain descriptors, and in H6 less
the 4 MiB of stream records (R301). -/
def buffersOf (s : State) (h : Nat) : Nat :=
  if h = 0 then 64 * s.ef F.HMP_POOL_SIZE 0 else 255 * s.ef F.HMP_POOL_SIZE h - (if h = 6 then 1024 else 0)

/-- Buffers for a number of bytes (R184). -/
def buffersFor (bytes : Nat) : Nat := (bytes + 4095) / 4096

/-- Packets in the waiting hamper (SKF_PARK): each lies in one buffer of H0 (R118, R184). -/
def parkedCount (s : State) : Nat := s.skf.flows.foldl (fun n f => n + f.parked.length) 0

/-- Buffers in use; space retired from a hamper counts as in use (R507). -/
def buffersUsed (s : State) (h : Nat) : Nat :=
  s.hmp.holds.foldl (fun n x => if x.hamper = h then n + x.n else n) (if h = 0 then s.parkedCount else 0) +
    (if h = 0 then 64 else 255) * (s.spr.retired.filter (· == h)).length

/-- Use of a hamper in percent (HMP_USE_n). -/
def percentUsed (s : State) (h : Nat) : Nat :=
  if s.buffersOf h = 0 then 0 else min 255 (100 * s.buffersUsed h / s.buffersOf h)

/-- Publish the use of a hamper. -/
def showUse (s : State) (h : Nat) : State :=
  let p := s.percentUsed h
  let s1 := s.wr F.HMP_USE_NOW p h
  if s1.rd F.HMP_USE_PEAK h < p then s1.wr F.HMP_USE_PEAK p h else s1

/-- Record that a hamper has had no buffer for a request (R185). -/
def exhausted (s : State) (h : Nat) : State := (s.wrBit F.HMP_EXHAUST_HN h true).raiseOnce 30 h 0x0000

/-- An owner holds buffers in another hamper already. -/
def holdsAny (s : State) (h : Nat) (owner : Nat × Nat × Nat) : Bool := s.hmp.holds.any fun x => x.owner == owner && x.hamper != h

/-- Whether a request can be met (R184): 1/64 of H2 to H6 is kept for owners that hold buffers in another hamper. -/
def canHold (s : State) (h : Nat) (owner : Nat × Nat × Nat) (n : Nat) : Bool :=
  let kept := if 2 ≤ h && h ≤ 6 && !s.holdsAny h owner then s.buffersOf h / 64 else 0
  decide (s.buffersUsed h + n + kept ≤ s.buffersOf h)

/-- Another owner has asked for buffers of a hamper before (R185). One that holds buffers elsewhere waits only for others that do
(R184). `l` holds the waits that come first. -/
def waitsBehind (s : State) (h : Nat) (owner : Nat × Nat × Nat) (l : List Hold) : Bool :=
  l.any fun w => w.hamper == h && w.owner != owner && (!s.holdsAny h owner || s.holdsAny h w.owner)

/-- The waits that come before those of an owner: all of them where it does not wait. -/
def waitsBefore (s : State) (h : Nat) (owner : Nat × Nat × Nat) : List Hold :=
  s.hmp.waits.takeWhile fun w => !(w.hamper == h && w.owner == owner)

/-- Take buffers, all or none. -/
def takeBuffers (s : State) (h : Nat) (owner : Nat × Nat × Nat) (n : Nat) : State × Bool :=
  if n = 0 then (s, true)
  else if s.canHold h owner n then
    (({ s with hmp := { s.hmp with holds := s.hmp.holds ++ [Hold.mk h owner n] } }.showUse h).countOpen 0x4C0 h 0x0000 n, true)
  else (s.exhausted h, false)

/-- Release what an owner holds in a hamper. -/
def freeBuffers (s : State) (h : Nat) (owner : Nat × Nat × Nat) : State :=
  { s with hmp := { s.hmp with holds := s.hmp.holds.filter fun x => !(x.hamper == h && x.owner == owner) } }.showUse h

/-- A stage waits for its buffers in order of request (R185). -/
def awaitBuffers (s : State) (h : Nat) (owner : Nat × Nat × Nat) (n : Nat) : State :=
  { s with hmp := { s.hmp with waits := s.hmp.waits ++ [Hold.mk h owner n] } }.countOpen 0x4C0 (16 + h) 0x0000

/-- The owner waits for buffers. -/
def waitsBuffers (s : State) (owner : Nat × Nat × Nat) : Bool := s.hmp.waits.any (·.owner == owner)

/-- An owner no longer waits for buffers of a hamper. -/
def dropWait (s : State) (h : Nat) (owner : Nat × Nat × Nat) : State :=
  { s with hmp := { s.hmp with waits := s.hmp.waits.filter fun x => !(x.hamper == h && x.owner == owner) } }

/-- The oldest wait for a hamper that can be met takes its buffers (R184, R185); the owner is the result. -/
def grantBuffers (s : State) (h : Nat) : State × Option (Nat × Nat × Nat) :=
  match s.hmp.waits.find? fun w => w.hamper == h && !s.waitsBehind h w.owner (s.waitsBefore h w.owner) && s.canHold h w.owner w.n with
  | none => (s, none)
  | some w =>
    (({ s.dropWait h w.owner with hmp := { (s.dropWait h w.owner).hmp with holds := s.hmp.holds ++ [Hold.mk h w.owner w.n] } }.showUse
      h).countOpen 0x4C0 h 0x0000 w.n, some w.owner)

/-- What an owner holds in a hamper becomes `n` buffers; the rest are released. -/
def keepBuffers (s : State) (h : Nat) (owner : Nat × Nat × Nat) (n : Nat) : State :=
  let rest := s.hmp.holds.filter fun x => !(x.hamper == h && x.owner == owner)
  { s with hmp := { s.hmp with holds := if n = 0 then rest else rest ++ [Hold.mk h owner n] } }.showUse h

/-- Buffers in a hamper pass from one owner to another. -/
def passBuffers (s : State) (h : Nat) (owner to_ : Nat × Nat × Nat) : State :=
  { s with hmp := { s.hmp with holds := s.hmp.holds.map fun x => if x.hamper = h && x.owner = owner then { x with owner := to_ } else x } }

/-- Buffers that an owner holds in a hamper. -/
def heldBy (s : State) (h : Nat) (owner : Nat × Nat × Nat) : Nat :=
  s.hmp.holds.foldl (fun n x => if x.hamper = h && x.owner = owner then n + x.n else n) 0

/-- A stage takes what it still lacks of `n` buffers, all at once, or waits for them in order of request (R184, R185). -/
def acquireFor (s : State) (h : Nat) (owner : Nat × Nat × Nat) (n : Nat) : State × Bool :=
  let more := n - s.heldBy h owner
  if more = 0 then (s, true)
  else if s.waitsBehind h owner (s.waitsBefore h owner) then
    (if s.hmp.waits.any fun x => x.hamper == h && x.owner == owner then s else s.awaitBuffers h owner more, false)
  else
    let (t, ok) := s.takeBuffers h owner more
    if ok then (t.dropWait h owner, true)
    else (if t.hmp.waits.any fun x => x.hamper == h && x.owner == owner then t else t.awaitBuffers h owner more, false)

/-- Heat length in ns (HMP_HEAT.LEN). -/
def heatNs (s : State) : Nat := 125000 * 2 ^ s.ef F.HMP_HEAT_LEN

/-- A 24-bit two's complement value, saturating (HMP_ALIGN_STAT.OFFSET). -/
def offsetCode (o : Int) : Nat := (max (-8388608) (min 8388607 o) % 16777216).toNat

/-- ALIGNED takes a value; EV0033 is raised as it becomes 0 (R193, R194). -/
def setAligned (s : State) (ok : Bool) : State :=
  if ok then s.wr F.HMP_ALIGN_STAT_ALIGNED 1
  else if s.is F.HMP_ALIGN_STAT_ALIGNED then (s.wr F.HMP_ALIGN_STAT_ALIGNED 0).raise 33 0x0000
  else s

/-- Turns follow PTP time (R193): PTP at 1 and the servo locked. -/
def byPtp (s : State) : Bool := s.is F.HMP_ALIGN_PTP && s.is F.SCH_PTP_STAT_LOCKED

/-- HMP_ALIGN_STAT.OFFSET as a signed number. -/
def alignOffset (s : State) : Int :=
  let w := s.rd F.HMP_ALIGN_STAT_OFFSET
  if w < 8388608 then (w : Int) else (w : Int) - 16777216

/-- A step of PTP time by `d` ns moves the instant of the last turn with it: OFFSET changes, and ALIGNED becomes 0 where it leaves TOL
(R194). -/
def shiftOffset (s : State) (d : Int) : State :=
  if !s.ready || !s.byPtp || d = 0 then s
  else
    let o := s.alignOffset + d
    let s1 := s.wr F.HMP_ALIGN_STAT_OFFSET (offsetCode o)
    if decide (100 * s.ef F.HMP_ALIGN_TOL < o.natAbs) then s1.setAligned false else s1

end State

end Sys2Proof.Machine
end

