-- ==== Sys2Proof/Machine/Clocks.lean ====
section
/-!
DEFINITION. References, monitor, failover, holdover, multiplexers and automatic gates (R79 to R96 of
spec/03_self_timed_core_and_clocks.md). Edge domains are numbered as CLK_DOM_STATUS places them:
0 NET, 1 TWN, 2 PCI, 3 HB0, 4 HB1, 5 XSP, 6 TOD.
-/

namespace Sys2Proof.Machine

open State

namespace State

/-- The nibble of a domain in CLK_DOM_STATUS. -/
def dom (s : State) (d : Nat) : Nat := s.rd F.CLK_DOM_STATUS_DOM / 16 ^ d % 16

/-- Source, BUSY and holdover of a domain. -/
def domSrc (s : State) (d : Nat) : Nat := s.dom d % 4
def domBusy (s : State) (d : Nat) : Bool := (s.dom d).testBit 2
def domHold (s : State) (d : Nat) : Bool := (s.dom d).testBit 3

/-- Set a domain's nibble; CLK_STATUS.HOLD shows whether a PLL domain is in holdover. -/
def setDom (s : State) (d src : Nat) (busy hold : Bool) : State :=
  let w := s.rd F.CLK_DOM_STATUS_DOM
  let n := src + (if busy then 4 else 0) + (if hold then 8 else 0)
  let s1 := s.wr F.CLK_DOM_STATUS_DOM (w - w / 16 ^ d % 16 * 16 ^ d + n * 16 ^ d)
  s1.wr F.CLK_STATUS_HOLD (if (List.range 6).any s1.domHold then 1 else 0)

/-- The state of a reference: 0 good, 1 suspect, 2 gross, 3 stopped (R82). -/
def refState (s : State) (r : Nat) : Nat := if r = 0 then s.rd F.CLK_STATUS_A_STATE else s.rd F.CLK_STATUS_B_STATE

/-- Set the state of a reference. -/
def setRef (s : State) (r v : Nat) : State := if r = 0 then s.wr F.CLK_STATUS_A_STATE v else s.wr F.CLK_STATUS_B_STATE v

/-- The active source: 0 REFCLKA, 1 REFCLKB, 2 watch oscillator. -/
def activeSrc (s : State) : Nat := s.rd F.CLK_STATUS_ACTIVE

/-- EPT_STATUS.CCLK: the trained endpoint works in common clock while its host's reference is on the active input (R80). -/
def settleCclk (s : State) : State :=
  if s.ept.dlActive then s.wr F.EPT_STATUS_CCLK (if s.ept.hostRef = some s.activeSrc then 1 else 0) else s

/-- The active source becomes `t`. -/
def setActive (s : State) (t : Nat) : State := (s.wr F.CLK_STATUS_ACTIVE t).settleCclk

/-- The TOD domain is held still for less than 100 ns, and is then advanced by the interval measured on the watch oscillator (R73,
R91). The interval itself is open: a free value. -/
def measuredGap (s : State) : State := s.tick.pass (s.fresh % 100)

/-- Hard cut of one domain to source `t` (R91): a PLL domain enters holdover until it relocks. -/
def cutDom (t d : Nat) (s : State) : State :=
  if d = 6 then s.measuredGap.setDom d t false false else s.setDom d t false true

/-- Hard cut of every edge domain. -/
def cutAll (s : State) (t : Nat) : State :=
  let s1 := (List.range 7).foldl (fun u d => u.cutDom t d) s
  { s1 with clk := { s1.clk with target := t, failover := false } }.setActive t

/-- Begin a glitch-free switch of every edge domain that is not on source `t` already (R90). -/
def switchAll (s : State) (t : Nat) (failover : Bool) : State :=
  let s1 := (List.range 7).foldl
    (fun u d => u.setDom d (u.domSrc d) (u.domSrc d != t) (u.domHold d)) s
  { s1 with clk := { s1.clk with target := t, failover := failover } }

/-- A commanded switch (CLK_MUX_CMD): refused with EV0014 where its target is not good; it waits for a failover (R96). -/
def commandSwitch (s : State) (t : Nat) (hard : Bool) : State :=
  if s.clk.failover then { s with clk := { s.clk with waiting := some (t, hard) } }
  else if s.refState t ≠ 0 then s.raise 14 0x0000
  else if hard then s.cutAll t
  else s.switchAll t false

/-- A failover has ended: a command that waited for it is carried out or refused (R96). -/
def runWaiting (s : State) : State :=
  match s.clk.waiting with
  | some (t, hard) => { s with clk := { s.clk with failover := false, waiting := none } }.commandSwitch t hard
  | none => s

/-- After the last busy multiplexer of a switch has moved: the source is active, and a waiting command is carried out. -/
def switchDone (s : State) : State :=
  if (List.range 7).any s.domBusy then s
  else ({ s with clk := { s.clk with failover := false } }.setActive s.clk.target).runWaiting

/-- Both references have left the good state (R87): holdover, the TOD domain on the watch oscillator. A failover in progress ends. -/
def enterHoldover (s : State) : State :=
  let s1 := (List.range 6).foldl (fun u d => u.setDom d (u.domSrc d) false true) s
  let s2 := { s1 with clk := { s1.clk with target := 2, failover := false } }
  (((s2.cutDom 2 6).setActive 2).raise 16 0x0000).runWaiting

/-- The active reference `r` no longer serves (R85): every domain moves to the other one if it is good. -/
def failover (s : State) (r : Nat) : State :=
  let o := 1 - r
  if s.refState o = 0 then
    if s.refState r = 3 then ((s.cutAll o).raise 0 0x0000).runWaiting else (s.switchAll o true).raise 0 0x0000
  else s.enterHoldover

/-- The reference judged in error when the two disagree (R84): with the PTP servo locked, the one whose frequency lies further from
the rate measured against PTP time; otherwise the standby. Of two that lie equally far, the model judges REFCLKA (DESIGN CHOICE,
log entry 104). -/
def wrongRef (s : State) : Nat :=
  if s.is F.SCH_PTP_STAT_LOCKED then (if s.clk.offs.1 < s.clk.offs.2 then 1 else 0)
  else if s.activeSrc = 0 then 1 else 0

/-- The item of a clock failover decision, if one waits (R86). -/
def clockItem (s : State) : Option Item := s.wrg.items.find? (·.fn == 10)

/-- A waiting clock item falls back at once where a reference is stopped or gross (R86). -/
def clockItemFalls (s : State) : State :=
  match s.clockItem with
  | some it => s.fallItem it
  | none => s

/-- A switch that software commanded loses its target: the domains go back to the active reference (DESIGN CHOICE, log entry 105). -/
def turnBack (s : State) : State := s.switchAll s.activeSrc false

/-- A reference takes a worse state `v` (R82, R85 to R87). -/
def refFails (s : State) (r v : Nat) : State :=
  if s.stage < 3 then s
  else
    let was := s.refState r
    let item := s.clockItem
    let s := s.setRef r v
    if s.activeSrc = 2 then
      if s.clk.failover && s.clk.target = r then s.enterHoldover else s
    else
      let s := if r ≠ s.activeSrc && was = 0 then s.raise 13 0x0000 else s
      if 2 ≤ v && item.isSome then s.clockItemFalls.failover s.activeSrc
      else if r = s.activeSrc then
        if v = 1 && s.assisted 10 then
          let (s1, handed) := s.handOver 10 r 0 [r, s.rd F.CLK_DIFF_PPB] [] 0 (s.now + s.ef F.CLK_DECIDE_LIMIT_MS * 1000000)
          if handed then s1 else s1.failover r
        else s.failover r
      else if s.refState s.activeSrc ≠ 0 then s.enterHoldover
      else if (List.range 7).any s.domBusy && s.clk.target = r then s.turnBack
      else s

/-- The checks that apply to a reference. -/
def checksOf (s : State) (r : Nat) : RefChecks := if r = 0 then s.clk.checks.1 else s.clk.checks.2

/-- Set the checks that apply to a reference. -/
def setChecks (s : State) (r : Nat) (c : RefChecks) : State :=
  { s with clk := { s.clk with checks := if r = 0 then (c, s.clk.checks.2) else (s.clk.checks.1, c) } }

/-- The state that the checks give a reference: a check listed lower takes precedence (R82). -/
def checkLevel (c : RefChecks) : Nat := if c.stopped then 3 else if c.gross then 2 else if c.suspect then 1 else 0

/-- The checks of a reference have been made: it takes the state that applies. Where none applies it keeps its last state until it
has returned (R83). -/
def settleRef (s : State) (r : Nat) : State :=
  let v := checkLevel (s.checksOf r)
  if v = 0 then s
  else if s.refState r < v then s.refFails r v
  else if s.stage < 3 then s else s.setRef r v

/-- A unit has work, or an access is pending at it (R92): frames for a network port, twin frames on their way, entries of the steward
host's rings, the reading or writing of the NOR, commands at a drive. -/
def unitBusy (s : State) (u : Nat) : Bool :=
  if u < 8 then s.sw.held.any fun (h : Held) => decide (h.dst < 32) && h.dst / 4 == u
  else if u = 8 then !s.twn.sent.isEmpty
  else if u = 9 then s.wrg.taken.any fun (t : Taken) => decide (t.ring < 1008)
  else if u = 10 then decide (s.stage < 5) || s.rd F.COX_UPD_STATE == 3
  else s.crw.ios.any fun (i : Io) => i.bay + 32 == u

/-- The SEL field of a CLK_MUX_CMD write. -/
def muxSel (w : Word) : Nat := w.toNat % 4

/-- The key of a CLK_MUX_CMD write is right and SEL names a reference (R96's register table). -/
def muxKeyed (w : Word) : Bool := w.toNat / 65536 == 0x3C5A && muxSel w < 2

end State

/-- REFERENCE_STOPPED (R82, R85, R87). -/
def actReferenceStopped (ref : Nat) (s : State) : Host.Outcome State Fault Refusal :=
  .next (if ref < 2 then (s.setChecks ref { s.checksOf ref with stopped := true }).settleRef ref else s)

/-- GROSS_WINDOW (R82): more than GROSS steps of 0.5 % away, counted in parts per million, is gross. A count of no edge at all, a
whole 10^6 parts away, leaves the stopped check as it is; any other shows that the reference runs. -/
def actGrossWindow (ref ppmOff : Nat) (s : State) : Host.Outcome State Fault Refusal :=
  .next (if ref < 2 then
      let c := s.checksOf ref
      (s.setChecks ref { c with
        stopped := c.stopped && ppmOff == 1000000, gross := decide (s.ef F.CLK_MON_LIMIT_GROSS * 5000 < ppmOff) }).settleRef ref
    else s)

/-- PPM_WINDOW (R82, R84): CLK_DIFF takes the difference, and a disagreement makes one reference suspect. `offA` and
`offB` are the references' distances from the rate measured against PTP time. -/
def actPpmWindow (ppb : Int) (offA offB : Nat) (s : State) : Host.Outcome State Fault Refusal :=
  let s0 := { s with clk := { s.clk with offs := (offA, offB) } }
  let s1 := s0.wr F.CLK_DIFF_PPB (ppb % 2 ^ 32).toNat
  let apart := !(s1.checksOf 0).stopped && !(s1.checksOf 1).stopped && decide (s1.ef F.CLK_MON_LIMIT_PPM * 1000 < ppb.natAbs)
  let wrong := s1.wrongRef
  let s2 := (s1.setChecks 0 { s1.checksOf 0 with suspect := apart && wrong == 0 }).setChecks 1
    { s1.checksOf 1 with suspect := apart && wrong == 1 }
  .next ((s2.settleRef 0).settleRef 1)

/-- REFERENCE_RETURN_GOOD (R83, R87): every check has passed long enough, and the reference is good again. In holdover every domain
takes it as in R85: by a hard cut where the source that failed is stopped, else glitch-free. -/
def actReferenceReturnGood (ref : Nat) (s : State) : Host.Outcome State Fault Refusal :=
  if 2 ≤ ref || s.refState ref = 0 then .next s
  else
    let s1 := ((s.setChecks ref ⟨false, false, false⟩).setRef ref 0).raise 15 0x0000
    .next (if s.activeSrc = 2 && !s.is F.CLK_STATUS_WATCH && s.is F.CLK_STATUS_HOLD && !s.clk.failover then
        let old := s1.domSrc 0
        if old < 2 && old ≠ ref && s1.refState old = 3 then (s1.cutAll ref).raise 0 0x0000
        else (s1.switchAll ref true).raise 0 0x0000
      else s1)

/-- CLK_MUX_GLITCH_FREE_SWITCH (R90, R96). -/
def actClkMuxGlitchFreeSwitch (value : Word) (s : State) : Host.Outcome State Fault Refusal :=
  .next (if State.muxKeyed value && !value.getLsbD 4 then s.commandSwitch (State.muxSel value) false else s)

/-- CLK_MUX_HARD_CUT (R91, R96). -/
def actClkMuxHardCut (value : Word) (s : State) : Host.Outcome State Fault Refusal :=
  .next (if State.muxKeyed value && value.getLsbD 4 then s.commandSwitch (State.muxSel value) true else s)

/-- MUX_SWITCH_COMPLETE (R90): both clocks have been low, and the select moves. A stopped old clock never completes. -/
def actMuxSwitchComplete (dom : Nat) (s : State) : Host.Outcome State Fault Refusal :=
  if dom < 7 && s.domBusy dom && !(s.domSrc dom < 2 && s.refState (s.domSrc dom) = 3) then
    .next (s.setDom dom s.clk.target false (s.domHold dom)).switchDone
  else .next s

/-- MUX_HANG_BREAK (R90): BUSY has lasted 64 cycles and HANG_BREAK is 1. -/
def actMuxHangBreak (dom : Nat) (s : State) : Host.Outcome State Fault Refusal :=
  if dom < 7 && s.domBusy dom && s.is F.CLK_CTRL_HANG_BREAK then
    .next ((s.cutDom s.clk.target dom).switchDone.raise 40 0x0000)
  else .next s

/-- PLL_RELOCK (R91): the domain's PLL has locked to its source and leaves holdover. A failed reference gives no lock. -/
def execPllRelock (dom : Nat) (s : State) : Host.Outcome State Fault Refusal :=
  if dom < 6 && s.domHold dom && (s.domSrc dom = 2 || s.refState (s.domSrc dom) = 0) then
    .next (s.setDom dom (s.domSrc dom) (s.domBusy dom) false)
  else .next s

/-- GATE_REOPEN (R92): an access reopens a closed gate, unless the gate is forced (R94). -/
def execGateReopen (unit : Nat) (s : State) : Host.Outcome State Fault Refusal :=
  .next (s.wake unit)

end Sys2Proof.Machine
end

