-- ==== Sys2Proof/Machine/Switch.lean ====
section
/-!
DEFINITION. The shared buffer of the packet switch (R348 to R355), service classes and leaves (R356), the addresses that
the NP32 answers for (R345 to R347), and the loss of a logical port's link (R351). The engines hand frames over with
`sendFrame` and `sendCopies`; PORT_TRANSMIT takes them out (Schedule.lean).
-/

namespace Sys2Proof.Machine

/-- The admission test of R350, as its pseudocode states it: `used` cells of the queue, its minimum, its ALPHA, the cells
of the frame and the free pool. `false` is a refusal. -/
def admits (used min alpha c free : Nat) : Bool :=
  let fromMin := if used < min then Nat.min c (min - used) else 0
  let fromPool := c - fromMin
  if fromPool = 0 then true
  else if free < fromPool then false
  else
    let excess := (if min < used then used - min else 0) + fromPool
    decide (excess * 8 ≤ free * 2 ^ alpha)

/-- Cells of a frame of L bytes (R349). -/
def cellsOf (len : Nat) : Nat := (len + 255) / 256

/-- The accounting queue of a destination and class (R350): 0 to 255 external, 256 to 319 internal. -/
def queueOf (dst svc : Nat) : Nat := dst * 8 + svc

namespace State

/-- The unit number of a logical port, and of a buffer bank (R477). -/
abbrev lportUnit (p : Nat) : Nat := 0x7040 + p
abbrev bankUnit (b : Nat) : Nat := 0x7000 + b

/-- Whether a logical port exists in the mode of its network port (R343). -/
def lportExists (s : State) (p : Nat) : Bool :=
  match s.ef F.SWC_PORT_MODE (p / 4) with
  | 0 => p % 4 == 0
  | 1 => p % 4 < 2
  | 2 => p < 32
  | _ => false

/-- The rate of a logical port in Gb/s (R343). -/
def lportRate (s : State) (p : Nat) : Nat := [400, 200, 100, 100].getD (s.ef F.SWC_PORT_MODE (p / 4)) 100

/-- The link of a logical port is up (SWC_LINK). -/
def lportUp (s : State) (p : Nat) : Bool := p < 32 && (s.rd F.SWC_LINK_UP).testBit p

/-- MIN of an accounting queue, and of a multicast queue (SWC_QCFG_s). -/
def queueMin (s : State) (dst svc : Nat) : Nat :=
  if dst < 32 then s.ef F.SWC_QCFG_MIN_EXT svc else s.ef F.SWC_QCFG_MIN_INT svc
def mcastMin (s : State) (svc : Nat) : Nat := s.ef F.SWC_QCFG_MIN_MC svc

/-- The sum of MIN over the 328 accounting queues. -/
def minSum (s : State) : Nat :=
  (List.range 8).foldl (fun n c => n + 32 * s.ef F.SWC_QCFG_MIN_EXT c + 8 * s.ef F.SWC_QCFG_MIN_INT c + s.mcastMin c) 0

/-- Cells of the banks in service (R349). -/
def totalCells (s : State) : Nat := 4096 * s.rd F.SWC_BUF_STAT_BANKS - s.lostBuffers .cells

/-- Cells used by a queue, and by a multicast queue. -/
def usedCells (s : State) (dst svc : Nat) : Nat :=
  s.sw.held.foldl (fun n h => if h.dst = dst && h.svc = svc then n + h.cells else n) 0
def mcastUsed (s : State) (svc : Nat) : Nat :=
  s.sw.payloads.foldl (fun n p => if p.svc = svc then n + p.cells else n) 0

/-- Queues that hold a frame, each once. -/
def usedQueues (s : State) : List (Nat × Nat) :=
  s.sw.held.foldl (fun l h => if l.contains (h.dst, h.svc) then l else l ++ [(h.dst, h.svc)]) []

/-- Pool cells in use: what every queue uses beyond its minimum (R350). -/
def poolUsed (s : State) : Nat :=
  s.usedQueues.foldl (fun n q => n + (s.usedCells q.1 q.2 - s.queueMin q.1 q.2)) 0 +
    (List.range 8).foldl (fun n c => n + (s.mcastUsed c - s.mcastMin c)) 0

/-- Free pool cells (SWC_BUF_STAT.FREE). -/
def poolFree (s : State) : Nat := s.totalCells - s.minSum - s.poolUsed

/-- Publish FREE and the residue count after a change of the buffer. -/
def showBuffer (s : State) : State :=
  (s.wr F.SWC_BUF_STAT_FREE s.poolFree).wr F.SWC_RESID_COUNT s.sw.residue.length

/-- Cells and bytes of a leaf (R351, R353). -/
def leafCells (s : State) (dst sub svc : Nat) : Nat :=
  s.sw.held.foldl (fun n h => if h.dst = dst && h.sub = sub && h.svc = svc then n + h.cells else n) 0
def leafBytes (s : State) (dst sub svc : Nat) : Nat :=
  s.sw.held.foldl (fun n h => if h.dst = dst && h.sub = sub && h.svc = svc then n + h.len else n) 0

/-- The depth that marking looks at (R353): the leaf of an external port in bytes, or the internal queue. -/
def markDepth (s : State) (dst sub svc : Nat) : Nat :=
  if dst < 32 then s.leafBytes dst sub svc
  else s.sw.held.foldl (fun n h => if h.dst = dst && h.svc = svc then n + h.len else n) 0

/-- Whether an ECT frame is marked CE on entry (R353). Between the thresholds the draw is a free value: any outcome whose
probability is not 0 can happen. -/
def marks (s : State) (dst sub svc : Nat) : State × Bool :=
  if s.ef F.SWC_ECN_EN svc = 0 then (s, false)
  else
    let kmin := 1024 * s.ef F.SWC_ECN_KMIN svc
    let kmax := max (1024 * s.ef F.SWC_ECN_KMAX svc) (kmin + 1024)
    let d := s.markDepth dst sub svc
    if d < kmin then (s, false)
    else if kmax ≤ d then (s, true)
    else if d = kmin then (s, false)
    else
      let draw := s.fresh % (100 * (kmax - kmin))
      (s.tick, decide (draw < s.ef F.SWC_ECN_PMAX svc * (d - kmin)))

/-- A refusal at admission: counted, and its events (R350). -/
def refuseFrame (s : State) (exhausted : Bool) : State :=
  let s1 := s.dropOne F.SWC_DROP_ADMIT 60 0x0000
  let s2 := s1.raiseOnce 128 0 0x0000
  if exhausted then s2.raiseOnce 129 0 0x0000 else s2

/-- Whether a destination can take `c` cells now (R350, R351): 0 yes, 1 refused, 2 refused with an exhausted pool. -/
def canTake (s : State) (dst sub svc c : Nat) : Nat :=
  let leafFull := dst < 32 && (!s.lportUp dst || s.ef F.SWC_BUF_LEAFMAX < s.leafCells dst sub svc + c)
  if leafFull then 1
  else
    let free := s.poolFree
    if admits (s.usedCells dst svc) (s.queueMin dst svc) (s.ef F.SWC_QCFG_ALPHA svc) c free then 0
    else if free = 0 then 2 else 1

/-- Put a frame or copy into the buffer. One for a network port reopens the port's gate (R92). -/
def hold (s : State) (h : Held) : State :=
  let s1 := if h.dst < 32 then s.wake (h.dst / 4) else s
  { s1 with sw := { s1.sw with held := s1.sw.held ++ [h] } }.showBuffer

/-- Admit a frame (R350, R351, R353). The results say whether it was admitted and whether it was marked. -/
def admitFrame (s : State) (dst sub svc len : Nat) (flow : Nat × Nat × Nat) (ect : Bool) : State × Bool × Bool :=
  match s.canTake dst sub svc (cellsOf len) with
  | 0 =>
    let (s1, ce) := if ect then s.marks dst sub svc else (s, false)
    let h : Held := ⟨s1.sw.nextId, dst, sub, svc, len, cellsOf len, flow, ce, none, false⟩
    let s2 := { s1 with sw := { s1.sw with nextId := s1.sw.nextId + 1 } }.hold h
    (if ce then s2.countOpen 0x100 61 0x0000 else s2, true, ce)
  | n => (s.refuseFrame (n == 2), false, false)

/-- The service class of a DSCP value (SCH_DSCP_w). -/
def classOf (s : State) (dscp : Nat) : Nat :=
  s.ef ([F.SCH_DSCP_SVC0, F.SCH_DSCP_SVC1, F.SCH_DSCP_SVC2, F.SCH_DSCP_SVC3, F.SCH_DSCP_SVC4, F.SCH_DSCP_SVC5, F.SCH_DSCP_SVC6,
    F.SCH_DSCP_SVC7].getD (dscp % 8) F.SCH_DSCP_SVC0) (dscp % 64 / 8)

/-- A frame of the engines for a logical port: it waits in the leaf of its subscriber and class (R356). -/
def sendFrame (s : State) (lport sub dscp len : Nat) : State :=
  (s.admitFrame lport sub (s.classOf dscp) len (0, 0, 0) true).1

/-- A frame of the control queue of a logical port (R356). -/
def sendControl (s : State) (lport len : Nat) : State :=
  (s.admitFrame lport 4096 (s.ef F.SCH_CFG_CTRLSVC) len (0, 0, 0) false).1

/-- A copy of a multicast frame ends: its payload's cells are released with the last copy (R354). -/
def endCopy (s : State) (shared : Option Nat) : State :=
  match shared with
  | none => s
  | some id =>
    let ps := s.sw.payloads.filterMap fun p =>
      if p.id = id then (if p.copies ≤ 1 then none else some { p with copies := p.copies - 1 }) else some p
    { s with sw := { s.sw with payloads := ps } }.showBuffer

/-- Take a frame out of the buffer. -/
def unhold (s : State) (h : Held) : State :=
  ({ s with sw := { s.sw with held := s.sw.held.filter (·.id != h.id) } }.showBuffer).endCopy h.shared

/-- Offer a multicast copy to its destination; a destination that cannot take it sends it to the residue queue, and a
full residue queue drops it (R354, R355). -/
def offerCopy (s : State) (h : Held) : State :=
  if s.canTake h.dst h.sub h.svc h.cells = 0 then
    let (s1, ce) := s.marks h.dst h.sub h.svc
    s1.hold { h with ce := ce }
  else if s.sw.residue.length < 1024 then
    { s with sw := { s.sw with residue := s.sw.residue ++ [(h, s.ef F.SWC_RESID_LIMIT_US)] } }.showBuffer
  else ((s.dropOne F.SWC_DROP_RESID 69 0x0000).raiseOnce 131 0 0x0000).endCopy h.shared

/-- Hand over a multicast frame: payload once, a header of one cell for each copy (R354). A copy is given as logical
port, subscriber and length of its frame. Refused as a whole where the multicast queue cannot take the payload. -/
def sendCopies (s : State) (dscp payload : Nat) (copies : List (Nat × Nat × Nat)) : State :=
  let svc := s.classOf dscp
  let c := cellsOf payload
  let free := s.poolFree
  if !admits (s.mcastUsed svc) (s.mcastMin svc) (s.ef F.SWC_QCFG_ALPHA svc) c free then s.refuseFrame (free == 0)
  else
    let id := s.sw.nextId
    let s1 := { s with sw := { s.sw with nextId := id + 1, payloads := s.sw.payloads ++ [Payload.mk id svc c copies.length] } }
    copies.foldl (fun t k =>
      let n := t.sw.nextId
      { t with sw := { t.sw with nextId := n + 1 } }.offerCopy ⟨n, k.1, k.2.1, svc, k.2.2, 1, (0, 0, 0), false, some id, false⟩)
      s1.showBuffer

/-- After cells have been released at a destination, its oldest residue copies are offered before any new frame (R355). -/
def offerResidue (s : State) (dst : Nat) : Nat → State
  | 0 => s
  | n + 1 =>
    match s.sw.residue.find? (·.1.dst == dst) with
    | none => s
    | some (h, _) =>
      if s.canTake h.dst h.sub h.svc h.cells = 0 then
        let s1 := { s with sw := { s.sw with residue := s.sw.residue.filter (·.1.id != h.id) } }
        (s1.offerCopy h).offerResidue dst n
      else s

/-- A Skiff frame that waited toward the engines is taken by them; the result says whether the switch marked it CE. -/
def takeInternal (s : State) (flow : Nat × Nat × Nat) : State × Bool :=
  match s.sw.held.find? fun h => 32 ≤ h.dst && h.flow == flow with
  | some h => (s.unhold h, h.ce)
  | none => (s, false)

/-- Whether an address entry is active (R346, R347). -/
def entryOn (s : State) (a : Nat) : Bool :=
  s.ef F.SWC_ADDR_VALID a == 1 && s.lportUp (s.ef F.SWC_ADDR_LPORT a) &&
    (if s.ef F.SWC_ADDR_PARTNER a = 1 then s.sw.partnerOn else !s.sw.ownOff)

/-- Announce an entry (R347): gratuitous ARP or unsolicited advertisement, at once, 1 ms or 10 ms after it became active. -/
def announceEntry (s : State) (a : Nat) : State :=
  let p := s.ef F.SWC_ADDR_LPORT a
  let ms := [0, 1, 10].getD (s.sw.announced.filter (· == a)).length 10
  ({ s with sw := { s.sw with announced := s.sw.announced ++ [a] } }.emit (.announce a p ms)).sendControl p 64

/-- Bring ACTIVE of every entry up to date. A partner entry that becomes active is announced, and so is an own entry of
an NP32 that takes its crews back (R347). -/
def settleAddrs (s : State) (announceOwn : Bool) : State :=
  (List.range 64).foldl (fun t a =>
    let on := t.entryOn a
    let was := t.is F.SWC_ADDR_ACTIVE a
    let t0 := if on then t else { t with sw := { t.sw with announced := dropFrom t.sw.announced a } }
    let t1 := if on = was then t0 else t0.wr F.SWC_ADDR_ACTIVE (if on then 1 else 0) a
    if on && !was && (t1.ef F.SWC_ADDR_PARTNER a == 1 || announceOwn) then t1.announceEntry a else t1) s

/-- An IP address of an entry: the word of an IPv4 address, or the 128-bit IPv6 address. -/
def entryAddr (s : State) (a : Nat) : Nat :=
  if s.ef F.SWC_ADDR_IPV6 a = 0 then s.ef F.SWC_ADDR_ADDR a 0
  else (List.range 4).foldl (fun n w => n * 2 ^ 32 + s.ef F.SWC_ADDR_ADDR a w) 0

/-- The active entry of a logical port and VLAN that holds an address (R346). `vlan` is none on an untagged frame. -/
def entryFor (s : State) (lport : Nat) (vlan : Option Nat) (v6 : Bool) (addr : Nat) : Option Nat :=
  (List.range 64).find? fun a =>
    s.is F.SWC_ADDR_ACTIVE a && s.ef F.SWC_ADDR_LPORT a == lport && (s.ef F.SWC_ADDR_IPV6 a == 1) == v6 &&
      (if s.ef F.SWC_ADDR_TAGGED a = 1 then vlan == some (s.ef F.SWC_ADDR_VID a) else vlan == none) && s.entryAddr a == addr

/-- The MAC address of logical port `p` (R345). -/
def ownMac (s : State) (p : Nat) : Nat := (s.ef F.SWC_MAC_LO_MAC + 2 ^ 32 * (s.ef F.SWC_MAC_HI_MAC) + p) % 2 ^ 48

/-- The MAC address of a partner entry (R347). -/
def partnerMac (s : State) (a : Nat) : Nat := s.ef F.SWC_ADDR_MAC_LO a + 2 ^ 32 * s.ef F.SWC_ADDR_MAC_HI a

/-- The link of a logical port goes down (R351, R369): waiting frames and residue copies are dropped. -/
def lportDown (s : State) (p : Nat) : State :=
  if !s.lportUp p then s
  else
    let s1 := s.wrBit F.SWC_LINK_UP p false
    let gone := s1.sw.held.filter (·.dst == p)
    let s2 := gone.foldl (fun t h => (t.unhold h).dropOne F.SWC_DROP_ADMIT 60 0x0000) s1
    let late := s2.sw.residue.filter (·.1.dst == p)
    let s3 := late.foldl (fun t e =>
      ({ t with sw := { t.sw with residue := t.sw.residue.filter (·.1.id != e.1.id) } }.dropOne F.SWC_DROP_RESID 69 0x0000).endCopy e.1.shared) s2
    (s3.showBuffer.settleAddrs false).raise 140 (lportUnit p)

end State

end Sys2Proof.Machine
end

