-- ==== Sys2Proof/Machine/TwinLink.lean ====
section
/-!
DEFINITION. Sending over the twin link (R274 of spec/08_degradation_rebuild_takeover.md).
-/

namespace Sys2Proof.Machine.State

/-- The partner is present for mirroring (R192, R273), and while the state of a joining partner is sent (R284). -/
def mirrors (s : State) : Bool := s.twinShelf && !s.twn.unlike && (s.twinState == 2 || s.twn.syncing.isSome)

/-- Send a frame. It is kept until the partner acknowledges it. -/
def sendTwin (s : State) (f : TwinFrame) : State :=
  if !s.is F.TWN_STATUS_LINK then s
  else
    let n := s.twn.txNext
    let s1 := (s.wake 8).emit (.twin n s.twn.rxNext f)
    { s1 with twn := { s1.twn with txNext := (n + 1) % 2 ^ 32, sent := s1.twn.sent ++ [(n, f)] } }

/-- Send a frame to a partner that mirrors (R273); the frame's number, where one was sent. -/
def mirror (s : State) (f : TwinFrame) : State × Option Nat :=
  if s.mirrors then (s.sendTwin f, some s.twn.txNext) else (s, none)

/-- Whether the partner has acknowledged a frame, or mirroring does not ask for it (R273): a twin that is alone does not wait. -/
def mirrored (s : State) (frame : Option Nat) : Bool :=
  match frame with
  | none => true
  | some n => !(s.twinShelf && !s.twn.unlike && s.twinState == 2) || !s.twn.sent.any (·.1 == n)

/-- This NP32 owns a crew (R270): always, outside a twin. -/
def owns (s : State) (n : Nat) : Bool := !s.twinShelf || (s.rd F.TWN_OWN_OWN).testBit n

/-- The preferred owner of a crew is this NP32 (TWN_OWN.PREF). -/
def prefers (s : State) (n : Nat) : Bool :=
  !s.twinShelf || (s.rd F.TWN_OWN_PREF).testBit n != s.is F.SYS_STRAP_BAY_MASTER

/-- The state of a command as its record names it (R273). -/
def stateRec (c : CmdId) (state : Nat) (answer : Option (Status × Nat)) (group : Option (Nat × Nat × Nat)) : StateRec :=
  ⟨c.cntlid, c.qid, c.cid, c.msgid, state, answer.map fun a => (a.1.sct, a.1.sc, a.1.dnr, a.2), group⟩

/-- The record of an association (R273): the encapsulation is that of the address table. -/
def assocRec (s : State) (a : Assoc) (gone : Bool) : AssocRec :=
  let p := (s.skf.peers.find? (·.ip == a.flow.ip)).getD ⟨a.flow.ip, 0, none, 0, 0⟩
  ⟨a.cntlid, a.hostid, a.sub, a.flow, p.mac, p.vlan, p.dscp, p.lport, a.kato, a.cc, a.queues, a.sqhd, a.ioQueues, gone,
    a.adopted⟩

/-- A record as a frame carries it. -/
def sentRec (r : JRec) : FoundRec := ⟨r.kind, r.last, r.set, r.vol, r.group, r.addr, r.aux, r.count, r.len, r.payload⟩

/-- A block image as a frame carries it (R273). -/
def blockRec (n : Nat) (g : Segment) (b : JBlock) : BlockRec :=
  let seg := match b.other with | some o => (o.start, o.heat) | none => (g.start, g.heat)
  ⟨n, seg.1, if b.kind = 3 then 1 else b.kind, seg.2, b.index, b.used, b.recs.map sentRec, b.entries⟩

/-- The record of a command (R273). -/
def cmdRec (c : CmdId) (flow : FlowRef) (keyhi : Nat) (enc : Option Nat) (req : Req) (at_ answerAt : Nat) : CmdRec :=
  ⟨c.cntlid, c.qid, c.cid, c.msgid, flow, keyhi, enc, req, at_, answerAt⟩

end Sys2Proof.Machine.State
end

