-- ==== Sys2Proof/Machine/Skiff.lean ====
section
/-!
DEFINITION. Skiff flows (spec/04_skiff_transport.md): records and generations (R104 to R109), sequence and
acknowledgement (R110 to R112), the window (R114, R115), lost flows (R116), eviction and the waiting hamper
(R117 to R119), delivery of messages in order (R113) and triggered chains (R126 to R128).
-/

namespace Sys2Proof.Machine

/-- Distance from `b` to `a` in serial arithmetic modulo 2^32. -/
def serial (a b : Nat) : Nat := (a + 2 ^ 32 - b % 2 ^ 32) % 2 ^ 32

/-- `a` lies before `b` in serial arithmetic. -/
def before (a b : Nat) : Bool := 2 ^ 31 ≤ serial a b

/-- The floor of an eighth of the signed 32-bit difference (s32)(sample - srtt) (R114's arithmetic shift). -/
def eighth (sample srtt : Nat) : Int :=
  let d := serial sample srtt
  (if d < 2 ^ 31 then (d : Int) else (d : Int) - 2 ^ 32) / 8

/-- SRTT after a sample (R114), held to its 16-bit field. A negative sum is a value that the spec does not state. -/
def smooth (sample srtt : Nat) : Nat :=
  let v := (srtt : Int) + eighth sample srtt
  if v < 0 then Config.srttBelow sample srtt % 65536 else min 65535 v.toNat

/-- The flow update of R114's pseudocode on an acknowledgement: `now` and `tsecr` in units of 10 ns, the constants of
SKF_CC. SRTT is capped at its 16-bit field. An acknowledgement that is stale or impossible leaves the flow as it is. -/
def onAck (f : Flow) (ackseq : Nat) (ece : Bool) (tsecr now cwndMax rttTarget : Nat) : Flow :=
  if before ackseq f.sndUna || before f.sndNxt ackseq then f
  else
    let newly := serial ackseq f.sndUna
    let sample := (now + 2 ^ 32 - tsecr % 2 ^ 32) % 2 ^ 32
    let srtt :=
      if tsecr = 0 then f.srtt
      else if f.srtt = 0 then min sample 65535
      else smooth sample f.srtt
    let mayCut := (ackseq + 65536 - f.cutSeq % 65536) % 65536 < 0x8000
    let g := { f with sndUna := ackseq, srtt := srtt, timeouts := 0, times := f.times.filter fun t => !before t.1 ackseq }
    if ece && mayCut then { g with cwnd := max 16 (f.cwnd / 2), cutSeq := f.sndNxt % 65536 }
    else if rttTarget < srtt && mayCut then { g with cwnd := max 16 (f.cwnd - f.cwnd / 8), cutSeq := f.sndNxt % 65536 }
    else if !ece then { g with cwnd := min cwndMax (f.cwnd + newly * 256 / f.cwnd) }
    else g

/-- Clear received bits at the base of the bitmap and advance the base past them (R110). -/
def advanceBase : Nat → Flow → Flow
  | 0, f => f
  | n + 1, f =>
    if f.bitmap % 2 = 1 then advanceBase n { f with bitmap := f.bitmap / 2, rcvBase := (f.rcvBase + 1) % 2 ^ 32 } else f

/-- The pair of a flow. -/
def Flow.ref (f : Flow) : FlowRef := ⟨f.ip, f.port, f.ptag⟩

/-- Whether a flow is that of a pair. -/
def Flow.isAt (f : Flow) (r : FlowRef) : Bool := f.ip == r.ip && f.port == r.port && f.ptag == r.ptag

/-- The GCM slot under which a packet is sent with ENC set (R325, R328). A FETCH has no payload. -/
def SentBody.slot : SentBody → Option Nat
  | .place _ _ _ _ _ enc => enc
  | .placeImm _ _ _ enc => enc
  | .response _ _ _ _ _ enc => enc
  | .fetch .. => none
  | .fed _ _ enc _ _ => enc

/-- The command that a packet belongs to, and the bytes of its payload and extension. -/
def SentBody.shape (b : SentBody) (mtu : Nat) : Option CmdId × Nat × Nat :=
  let more := if b.slot.isSome then 32 else 0
  match b with
  | .place c _ _ len _ _ => (some c, len + more, 24)
  | .placeImm .. => (none, 8 + more, 24)
  | .fetch c .. => (some c, 0, 24)
  | .response c .. => (some c, 32 + more, 16)
  | .fed .. => (none, mtu, 16)

/-- A PLACE or a response, which a lost flow leaves to be sent again (R112, R116). -/
def SentBody.keeps : SentBody → Bool
  | .place .. | .placeImm .. | .response .. => true
  | .fetch .. | .fed .. => false

/-- The Skiff opcode of a packet (R101). -/
def SentBody.opcode : SentBody → Nat
  | .place .. | .placeImm .. => 2
  | .fetch .. => 3
  | .response .. | .fed .. => 1

/-- A part of a message that is not the whole of it. -/
def isPart : PktBody → Bool
  | .msg p => decide (p.bytes < p.msglen)
  | _ => false

/-- A message of the flow is partly received (R108, R117). -/
def Flow.partly (f : Flow) : Bool := f.openMsg.isSome || f.early.any fun e => isPart e.2.1

/-- The pair of a packet. -/
def hdrRef (h : SkHdr) : FlowRef := ⟨h.ip, h.port, h.ptag⟩

namespace State

/-- The flow of a pair. -/
def flowAt (s : State) (r : FlowRef) : Option Flow :=
  s.skf.flows.find? fun f => f.ip == r.ip && f.port == r.port && f.ptag == r.ptag

/-- Store a changed flow in its place. -/
def setFlow (s : State) (f : Flow) : State :=
  { s with skf := { s.skf with flows := s.skf.flows.map fun g => if g.isAt f.ref then f else g } }

/-- Activity on a flow: its idle time restarts, and it becomes the most recently active (R108, R117). -/
def touchFlow (s : State) (f : Flow) : State :=
  { s with skf := { s.skf with flows := (s.skf.flows.filter fun g => !g.isAt f.ref) ++ [{ f with idleAt := s.now }] } }

/-- The address table entry of a peer (R99). -/
def peerOf (s : State) (ip : Nat) : Option Peer := s.skf.peers.find? (·.ip == ip)

/-- Release an address entry to which no flow and no reach key refers (R99). -/
def dropPeer (s : State) (ip : Nat) : State :=
  if s.skf.flows.any (·.ip == ip) || s.skf.keys.any (·.1 == ip) then s
  else { s with skf := { s.skf with peers := s.skf.peers.filter (·.ip != ip) } }

/-- The owner of the buffers of a received message in H1 or H11. -/
def msgOwner (r : FlowRef) (msgid : Nat) : Nat × Nat × Nat := (r.ip, r.port * 65536 + r.ptag, msgid)

/-- Release the buffers of a received message. -/
def freeMsg (s : State) (r : FlowRef) (msgid : Nat) : State :=
  s.freeBuffers (if r.ptag = 0xFFFF then 11 else 1) (msgOwner r msgid)

/-- A record is gone (R109): with it go the parts of messages it had, and their buffers. -/
def dropFlow (s : State) (r : FlowRef) : State :=
  let s1 := match s.flowAt r with
    | none => s
    | some f =>
      let t := match f.openMsg with | some o => s.freeMsg r o.part.msgid | none => s
      f.early.foldl (fun (u : State) (p : Nat × PktBody × Option Nat) => match p.2.1 with | .msg m => u.freeMsg r m.msgid | _ => u) t
  ({ s1 with skf := { s1.skf with flows := s1.skf.flows.filter fun g => !g.isAt r } }).dropPeer r.ip

/-- The largest Skiff payload (SKF_CFG.MTU). -/
def mtu (s : State) : Nat := 1024 * 2 ^ s.ef F.SKF_CFG_MTU

/-- Wire length of a Skiff frame with FCS: payload, extension and base header, UDP, IP, Ethernet with its tag. -/
def frameLen (payload ext : Nat) (v6 tagged : Bool) : Nat :=
  payload + ext + 32 + 8 + (if v6 then 40 else 20) + 14 + (if tagged then 4 else 0) + 4

/-- The subscriber of a frame toward a host (R356): that of the command's association, or of the latest association with
the pair's address and process tag, or the default; federation traffic has its own. -/
def subscriberFor (s : State) (ip ptag : Nat) (cmd : Option CmdId) : Nat :=
  if ptag = 0xFFFF then s.ef F.SCH_CFG_FEDSUB
  else
    match (cmd.bind fun c => s.nvt.assocs.find? (·.cntlid == c.cntlid)) with
    | some a => a.sub
    | none =>
      match s.nvt.assocs.reverse.find? fun a => a.flow.ip == ip && a.flow.ptag == ptag with
      | some a => a.sub
      | none => s.ef F.SCH_CFG_DEFSUB

/-- Address of entry `n` of the federation peer table (R133). -/
def fedAddr (s : State) (n : Nat) : Nat :=
  if s.ef F.SKF_FED_IPV6 n = 1 then
    s.ef F.SKF_FED_ADDR n 0 * 2 ^ 96 + s.ef F.SKF_FED_ADDR n 1 * 2 ^ 64 + s.ef F.SKF_FED_ADDR n 2 * 2 ^ 32 + s.ef F.SKF_FED_ADDR n 3
  else s.ef F.SKF_FED_ADDR n 0

/-- The entry of the federation peer table that holds an address (R133). -/
def fedAt (s : State) (ip : Nat) : Option Nat := (List.range 256).find? fun n => s.ef F.SKF_FED_VALID n == 1 && s.fedAddr n == ip

/-- What entry `n` of the federation peer table gives for addressing (R133). DESIGN CHOICE: the table has no DSCP, and the NP32 sends
with DSCP 0 (log entry 127). -/
def fedEntry (s : State) (n : Nat) : Peer :=
  { ip := s.fedAddr n, mac := s.ef F.SKF_FED_MAC_LO n + 2 ^ 32 * s.ef F.SKF_FED_MAC_HI n,
    vlan := if s.ef F.SKF_FED_TAGGED n = 1 then some (s.ef F.SKF_FED_VID n) else none, dscp := 0, lport := s.ef F.SKF_FED_LPORT n }

/-- The addressing of packets to a pair: a federation peer's is its table entry's in effect (R133); any other pair's is that of the
address table, which follows the latest packet (R98, R99). `via` is a packet that is answered while no record of its pair exists. -/
def addressing (s : State) (r : FlowRef) (via : Option SkHdr) : Option Peer :=
  match (if r.ptag = 0xFFFF then s.fedAt r.ip else none), via with
  | some n, _ => some (s.fedEntry n)
  | none, some h => some ⟨h.ip, h.mac, h.vlan, h.dscp, h.lport⟩
  | none, none => s.peerOf r.ip

/-- Encapsulation toward a pair (R98). UDP over IPv6 always has its checksum (R97). -/
def encap (s : State) (p : Peer) (v6 : Bool) (port : Nat) : Encap :=
  { lport := p.lport, mac := p.mac, vlan := p.vlan, dscp := p.dscp, v6 := v6, ip := p.ip, srcPort := s.rd F.SKF_CFG_PORT,
    dstPort := port, hopLimit := 64, ecn := 2, csum := v6 || s.is F.SKF_CFG_CSUM4 }

/-- Hand a frame to the switch (R98). -/
def frameOut (s : State) (e : Encap) (ptag : Nat) (cmd : Option CmdId) (payload ext : Nat) : State :=
  s.sendFrame e.lport (s.subscriberFor e.ip ptag cmd) e.dscp (frameLen payload ext e.v6 e.vlan.isSome)

/-- DST_SHELF of a packet (R132): 0 to a host. DESIGN CHOICE: 0 also to an NP32 that the federation peer table does not list
(log entry 128). -/
def shelfOf (s : State) (ip ptag : Nat) : Nat :=
  if ptag = 0xFFFF then match s.fedAt ip with | some n => s.ef F.SKF_FED_SHELF_ID n | none => 0 else 0

/-- The base header of a packet (R100): the NP32's time, and SHV, DST_SHELF and SRC_SHELF (R132). `ack` says that the packet carries
the record's acknowledgement (R111). -/
def baseHdr (s : State) (f : Flow) (opcode payLen gen seq : Nat) (ar enc ack : Bool) : BaseHdr :=
  { version := 1, shv := true, ackv := ack, ece := ack && f.ce, ar := ar, enc := enc, opcode := opcode, payLen := payLen, gen := gen,
    seq := seq, ackseq := if ack then f.rcvBase else 0, ptag := f.ptag, dstShelf := s.shelfOf f.ip f.ptag,
    srcShelf := s.ef F.SKF_SHELF_SHELF_ID, tsval := s.now / 10 % 2 ^ 32, tsecr := if ack then f.tsecr else 0 }

/-- Count a packet sent, and an echoed CE mark (R490). -/
def countSent (s : State) (ce : Bool) : State :=
  let s1 := s.countOpen 0x100 2 0x8000
  if ce then s1.countOpen 0x100 62 0x8000 else s1

/-- Send an ACK (R111). -/
def sendAck (s : State) (r : FlowRef) : State :=
  match s.flowAt r with
  | none => s
  | some f =>
    match s.addressing r none with
    | none => s
    | some p =>
      let e := s.encap p f.v6 f.port
      let s1 := (s.emit (.skiffAck e (s.baseHdr f 0x10 0 f.gen 0 false false true) (f.bitmap / 2 % 2 ^ 256))).countSent f.ce
      (s1.setFlow { f with ackDue := 0, ce := false }).frameOut e f.ptag none 0 32

/-- The fields of a record that a NAK sent without one uses. -/
def noRecord (r : FlowRef) (v6 : Bool) : Flow :=
  { ip := r.ip, port := r.port, ptag := r.ptag, v6 := v6, state := 1, gen := 0, rcvBase := 0, bitmap := 0, sndNxt := 0, sndUna := 0,
    cwnd := 16, srtt := 0, cutSeq := 0, timeouts := 0, ce := false, idleAt := 0, onDie := false, sent := [], queue := [], early := [],
    openMsg := none, ackDue := 0, tsecr := 0, holes := [], parked := [], item := none, rcvSet := false, times := [] }

/-- Put a NAK with a given GEN on the wire (R112). -/
def emitNak (s : State) (r : FlowRef) (v6 : Bool) (gen code nseq : Nat) (via : Option SkHdr) : State :=
  match s.addressing r via with
  | none => s
  | some p =>
    let e := s.encap p v6 r.port
    ((s.emit (.skiffNak e (s.baseHdr (noRecord r v6) 0x11 0 gen 0 false false false) code nseq)).count (0x110 + code) 0x8000).frameOut
      e r.ptag none 0 8

/-- Send a NAK (R112): with the record's GEN where there is a record, else with that of the packet that draws it. -/
def sendNak (s : State) (r : FlowRef) (code nseq gen : Nat) (via : Option SkHdr) : State :=
  match s.flowAt r with
  | some f => s.emitNak r f.v6 f.gen code nseq via
  | none => s.emitNak r (match via with | some h => h.v6 | none => decide (2 ^ 32 ≤ r.ip)) gen code nseq via

/-- NAK GEN for a packet, with its event once per heat (R106, R135). -/
def nakGen (s : State) (r : FlowRef) (h : SkHdr) : State := (s.sendNak r 2 h.seq h.gen (some h)).raiseOnce 68 0 0x8000

/-- The NAK GEN of a takeover carries GEN 0 and NSEQ 0 (R112, R279). -/
def nakTakeover (s : State) (r : FlowRef) : State :=
  (s.emitNak r (match s.flowAt r with | some f => f.v6 | none => decide (2 ^ 32 ≤ r.ip)) 0 2 0 none).raiseOnce 68 0 0x8000

/-- The nonce of the next packet under a slot, whose send counter rises by one (R321). -/
def nextNonce (s : State) (slot : Nat) : State × Nat :=
  let n := (s.cip.counters.lookup slot).getD 0
  let head := 2 ^ 95 + (if s.is F.SYS_STRAP_BAY_MASTER then 2 ^ 94 else 0) + s.rd F.CIP_NONCE_START * 2 ^ 64
  ({ s with cip := { s.cip with counters := (s.cip.counters.filter fun c => c.1 != slot) ++ [(slot, n + 1)] } },
    head + n % 2 ^ 64)

/-- CAP of SKF_RTO, held to BASE to 1,000 (R535). -/
def rtoCap (s : State) : Nat := max (s.ef F.SKF_RTO_BASE) (min 1000 (s.ef F.SKF_RTO_CAP))

/-- Put one packet of a flow on the wire with its sequence number and the flow's acknowledgement (R111). Its retransmission timer
starts with BASE and CAP as they now stand (R115, R134). Whether the NP32 sets AR is its own choice: a free value. -/
def transmitBody (s : State) (r : FlowRef) (seq : Nat) (b : SentBody) : State :=
  match s.flowAt r with
  | none => s
  | some f =>
    match s.addressing r none with
    | none => s
    | some p =>
      let (s0, env, sealed) := match b.slot with
        | some k =>
          let (t, nonce) := s.nextNonce k
          let (u, ok) := t.cipherRun .gcm
          (u, some (k, nonce), ok)
        | none => (s, none, true)
      let ar := s0.fresh % 2 == 1
      let sh := b.shape s.mtu
      let e := s0.encap p f.v6 f.port
      let times := (f.times.filter (·.1 != seq)) ++ [(seq, s.now, s.ef F.SKF_RTO_BASE, s.rtoCap)]
      -- with no GCM pipeline in service the packet is dropped (R339), and its timer runs
      if !sealed then s0.setFlow { f with times := times }
      else
        let s1 := (s0.tick.emit (.skiff e (s0.baseHdr f b.opcode sh.2.1 f.gen seq ar b.slot.isSome f.rcvSet) b env)).countSent f.ce
        (s1.setFlow { f with ackDue := 0, ce := false, times := times }).frameOut e f.ptag sh.1 sh.2.1 sh.2.2

/-- The trigger of armed chains occurs (R127): each chain that waits for it is freed, and its entries are to be carried out. -/
def occurs (s : State) (ip ptag kind : Nat) (trigger : Nat × Nat × Nat) : State :=
  let hit (c : Chain) : Bool := c.ip == ip && c.ptag == ptag && c.kind == kind && c.trigger == trigger
  { s with skf := { s.skf with
    chains := s.skf.chains.filter fun c => !hit c
    firing := s.skf.firing ++ s.skf.chains.filter hit } }

/-- Send queued packets of a flow while its window allows it (R114). A response capsule that leaves fires the chains that
wait for it (R126). -/
def pumpFlow (s : State) (r : FlowRef) : Nat → State
  | 0 => s
  | n + 1 =>
    match s.flowAt r with
    | none => s
    | some f =>
      match f.queue with
      | [] => s
      | b :: rest =>
        if f.onDie && f.state ≠ 3 && serial f.sndNxt f.sndUna < f.cwnd / 16 then
          let seq := f.sndNxt
          let s1 := s.setFlow { f with queue := rest, sent := f.sent ++ [(seq, b)], sndNxt := (seq + 1) % 2 ^ 32 }
          let s2 := s1.transmitBody r seq b
          let s3 := match b with
            | .response c _ _ _ _ _ => s2.occurs r.ip r.ptag 2 (c.cntlid, c.qid, c.cid)
            | _ => s2
          s3.pumpFlow r n
        else s

/-- A record that may leave the die (R117). -/
def evictable (f : Flow) : Bool :=
  f.onDie && f.state != 3 && f.sent.isEmpty && f.parked.isEmpty && !f.partly

/-- Idle under R108. -/
def idleFlow (f : Flow) : Bool := f.state != 3 && f.sent.isEmpty && f.parked.isEmpty && !f.partly

/-- Records on die and in HBM (SKF_FLOWS_DIE, SKF_FLOWS_HBM). -/
def onDieCount (s : State) : Nat := (s.skf.flows.filter (·.onDie)).length
def inHbmCount (s : State) : Nat := (s.skf.flows.filter (fun f => !f.onDie)).length

/-- Make room on die for a record (R117, R119). The result is none where there is no room: the event to raise. -/
def makeRoom (s : State) : State ⊕ Nat :=
  if s.onDieCount < 16384 - s.lostBuffers .flowRecords then .inl s
  else match s.skf.flows.find? evictable with
    | none => .inr 64
    | some v =>
      if s.inHbmCount < 1048576 then .inl (s.setFlow { v with onDie := false })
      else match s.skf.flows.find? fun f => !f.onDie && idleFlow f && decide (f.idleAt + 10000000 ≤ s.now) with
        | some o => .inl ((s.dropFlow o.ref).setFlow { v with onDie := false })
        | none => .inr 65

/-- A record held in HBM returns to the die (R118), where there is room for it. -/
def restore (s : State) (f : Flow) : State :=
  if f.onDie then s
  else
    let place := s.skf.flows.filter fun g => !g.isAt f.ref
    match ({ s with skf := { s.skf with flows := place } }).makeRoom with
    | .inr _ => s
    | .inl t => ({ t with skf := { t.skf with flows := t.skf.flows ++ [{ f with onDie := true }] } }).count 0x030 0x8000

/-- A flow of an address and process tag that can carry packets (R116). -/
def anyFlow (s : State) (ip ptag : Nat) : Option Flow :=
  s.skf.flows.reverse.find? fun f => f.ip == ip && f.ptag == ptag && f.state != 3

/-- Queue packets on a flow, on another flow with the same address and tag where it is gone, or hold them until such a
flow is opened (R116). A record in HBM with no packet parked returns to the die for them; while it cannot, they wait in its queue. -/
def sendOn (s : State) (r : FlowRef) (bs : List SentBody) : State :=
  let here := match s.flowAt r with
    | some f => if f.state != 3 then some f else none
    | none => none
  match (match here with | some f => some f | none => s.anyFlow r.ip r.ptag) with
  | some f =>
    let t := s.setFlow { f with queue := f.queue ++ bs }
    let u := match t.flowAt f.ref with | some g => if g.parked.isEmpty then t.restore g else t | none => t
    u.pumpFlow f.ref 600
  | none => { s with skf := { s.skf with lost := s.skf.lost ++ bs.map fun b => (r.ip, r.ptag, b) } }

/-- Packets held for an address and tag go out on a flow that has been opened (R116). -/
def sendHeldFor (s : State) (f : Flow) : State :=
  let mine := s.skf.lost.filter fun l => l.1 == f.ip && l.2.1 == f.ptag
  if mine.isEmpty then s
  else
    let s1 := { s with skf := { s.skf with lost := s.skf.lost.filter fun l => !(l.1 == f.ip && l.2.1 == f.ptag) } }
    s1.sendOn f.ref (mine.map (·.2.2))

/-- Packets of commands whose association has ended are not carried to another flow (R144). -/
def carries (s : State) (b : SentBody) : Bool :=
  match b with
  | .place c .. | .response c .. => !(s.nvt.freed.any (·.1 == c.cntlid))
  | _ => true

/-- Packets that wait to be sent are given up: those of which `which` holds. -/
def dropQueued (s : State) (which : SentBody → Bool) : State :=
  { s with skf := { s.skf with
    flows := s.skf.flows.map fun f => { f with queue := f.queue.filter fun b => !which b }
    lost := s.skf.lost.filter fun l => !which l.2.2 } }

/-- The placements of a command go out no more (R122): those that wait are given up, and the timers of those sent stop. -/
def dropPlaces (s : State) (c : CmdId) : State :=
  let of_ (b : SentBody) : Bool := match b with | .place d .. => d == c | _ => false
  let s1 := s.dropQueued of_
  { s1 with skf := { s1.skf with flows := s1.skf.flows.map fun f =>
    { f with times := f.times.filter fun t => !f.sent.any fun p => p.1 == t.1 && of_ p.2 } } }

/-- A flow is lost or its record dropped by a NAK (R112, R115, R116): unacknowledged placements and responses are held
and sent again on another flow. Those of ended associations are not (R144), and their buffers are released. -/
def loseFlow (s : State) (f : Flow) : State :=
  let sent := f.sent.filter fun p => (f.times.lookup p.1).isSome
  let (kept, gone) := ((sent.map (·.2)) ++ f.queue).partition fun b => b.keeps && s.carries b
  let s1 := gone.foldl (fun t b => match b with
    | .response c .. => (t.freeBuffers 4 (cmdOwner c)).freeBuffers 10 (cmdOwner c)
    | _ => t) s
  (s1.dropFlow f.ref).sendOn f.ref kept

/-- A command's response capsule has been acknowledged (R125, R145): its identifier and its context are released with its
buffers (R186), its placements are sent no more (R122), and chains that wait for it fire. A write whose media writes still run keeps its place in the order (R161). -/
def ackedResponse (s : State) (ip ptag : Nat) (c : CmdId) : State :=
  let s1 := { s with nvt := { s.nvt with cmds := s.nvt.cmds.filterMap fun (k : Cmd) =>
    if k.id = c && k.phase = 3 then (if k.step = 5 then some { k with acked := true, ctx := false } else none) else some k } }
  let s2 := (s1.freeBuffers 4 (cmdOwner c)).freeBuffers 10 (cmdOwner c)
  let (s3, _) := if s.nvt.cmds.any (·.id == c) then s2.mirror (.cmdState (stateRec c 3 none none)) else (s2, none)
  ((s3.dropPlaces c).wr F.NVT_CTX_USED_USED (s3.nvt.cmds.filter (·.ctx)).length).occurs ip ptag 3 (c.cntlid, c.qid, c.cid)

/-- An acknowledgement acts on a flow (R111, R114). -/
def ackFlow (s : State) (r : FlowRef) (ackseq : Nat) (ece : Bool) (tsecr : Nat) : State :=
  match s.flowAt r with
  | none => s
  | some f =>
    let g := onAck f ackseq ece tsecr (s.now / 10) (16 * s.ef F.SKF_CC_CWND_MAX) (100 * s.ef F.SKF_CC_RTT_TARGET)
    let done := g.sent.filter fun p => before p.1 g.sndUna
    let s1 := s.setFlow { g with sent := g.sent.filter fun p => !before p.1 g.sndUna }
    let s2 := done.foldl (fun t p => match p.2 with
      | .response c _ _ _ _ _ => t.ackedResponse r.ip r.ptag c
      | _ => t) s1
    s2.pumpFlow r 600

/-- The generation that the next record receives, and the one after it (R107). -/
def newGen (s : State) : State × Nat :=
  let g := s.rd F.SKF_GEN_NEXT
  let low := g % 2 ^ 24
  (s.wr F.SKF_GEN_NEXT (g - low + (if low = 2 ^ 24 - 1 then 1 else low + 1)), g)

/-- Records created within the last second (R107). -/
def recentRecords (s : State) : Nat :=
  s.skf.created.foldl (fun n c => if s.now < c.1 + 1000000000 then n + c.2 else n) 0

/-- Count a record created now. -/
def countRecord (s : State) : State :=
  let old := s.skf.created.filter fun c => s.now < c.1 + 1000000000
  let l := match old.find? (·.1 == s.now) with
    | some c => (old.filter (·.1 != s.now)) ++ [(c.1, c.2 + 1)]
    | none => old ++ [(s.now, 1)]
  { s with skf := { s.skf with created := l } }

/-- A first packet is refused: dropped without a NAK and counted (R107, R117, R119). -/
def refuseNew (s : State) : State := s.dropOne F.SKF_DROP_NEW_REFUSED 64 0x8000

/-- Take a packet's addressing into the address table (R98, R99). None where the table is full. -/
def learnPeer (s : State) (h : SkHdr) : Option State :=
  let p : Peer := ⟨h.ip, h.mac, h.vlan, h.dscp, h.lport⟩
  match s.peerOf h.ip with
  | some _ => some { s with skf := { s.skf with peers := s.skf.peers.map fun q => if q.ip = h.ip then p else q } }
  | none =>
    if s.skf.peers.length < 16384 then some { s with skf := { s.skf with peers := s.skf.peers ++ [p] } } else none

/-- Create a record for the first packet of a pair (R99, R106, R107, R117, R119). `state` is 1 for new, 3 for admission
pending. The initial sequence number is the NP32's own choice: a free value. -/
def createFlow (s : State) (h : SkHdr) (state : Nat) : State × Bool :=
  if 4000000 ≤ s.recentRecords then (s.refuseNew, false)
  else if (s.peerOf h.ip).isNone && 16384 ≤ s.skf.peers.length then (s.raise 73 0x8000, false)
  else
      match s.makeRoom with
      | .inr ev => (s.refuseNew.raise ev 0x8000, false)
      | .inl s1 =>
        let s2 := (s1.learnPeer h).getD s1
        let (s3, gen) := s2.newGen
        let isn := s3.fresh % 2 ^ 32
        let w := 16 * min (s3.ef F.SKF_CC_CWND_INIT) (s3.ef F.SKF_CC_CWND_MAX)
        let f : Flow :=
          { ip := h.ip, port := h.port, ptag := h.ptag, v6 := h.v6, state := state, gen := gen, rcvBase := h.seq,
            bitmap := 0, sndNxt := isn, sndUna := isn, cwnd := w, srtt := 0, cutSeq := isn % 65536, timeouts := 0,
            ce := false, idleAt := s3.now, onDie := true, sent := [], queue := [], early := [], openMsg := none,
            ackDue := 0, tsecr := 0, holes := [], parked := [], item := none, rcvSet := true, times := [] }
        let s4 := s3.tick.countRecord
        ({ s4 with skf := { s4.skf with flows := s4.skf.flows ++ [f] } }, true)

/-- A malformed packet or part (R103). -/
def malformed (s : State) : State := (s.dropOne F.SKF_DROP_MALFORMED 65 0x8000).raiseOnce 72 0 0x8000

/-- The MSGID of the next message to a peer address and process tag (R102). -/
def newMsgid (s : State) (ip ptag : Nat) : State × Nat :=
  let mine (m : Nat × Nat × Nat) : Bool := m.1 == ip && m.2.1 == ptag
  let n := match s.skf.msgids.find? mine with | some m => m.2.2 | none => 1
  ({ s with skf := { s.skf with msgids := (s.skf.msgids.filter fun m => !mine m) ++ [(ip, ptag, n + 1)] } }, n)

/-- Enter an error in the Error Information log of its controller (R151). -/
def noteError (s : State) (c : CmdId) (st : Status) : State :=
  if s.nvt.assocs.any (·.cntlid == c.cntlid) then
    let mine := s.nvt.errors.filter (·.2.1.cntlid == c.cntlid)
    let num := (match mine with | e :: _ => e.1 | [] => 0) + 1
    { s with nvt := { s.nvt with
      errors := (num, c, st) :: mine.take 63 ++ s.nvt.errors.filter (·.2.1.cntlid != c.cntlid) } }
  else s

/-- SQHD of a queue (R142); 0 where the controller or the queue does not exist. -/
def queueHead (s : State) (cntlid qid : Nat) : Nat :=
  match s.nvt.assocs.find? (·.cntlid == cntlid) with | some a => (a.sqhd.lookup qid).getD 0 | none => 0

/-- A capsule that is not executed is answered on the flow on which it arrived (R125, R138, R142). -/
def refuseCapsule (s : State) (r : FlowRef) (c : CmdId) (st : Status) (enc : Option Nat) : State :=
  let (t, m) := (s.noteError c st).newMsgid r.ip r.ptag
  t.sendOn r [.response c m st 0 (s.queueHead c.cntlid c.qid) enc]

/-- The number under which a command is held: that of a Connect to the admin queue names its sender (R139). -/
def connId (r : FlowRef) (c : CmdId) : CmdId :=
  if c.cntlid = 0xFFFF then { c with cntlid := 0xFFFF + 65536 * (r.ip * 65536 + r.ptag + 1) } else c

/-- A capsule may be a copy of a held command (R138): its flow has the controller's process tag, and its queue exists, or was made or
deleted by the command itself. -/
def reaches (s : State) (r : FlowRef) (k : Cmd) : Bool :=
  decide (0xFFFF < k.id.cntlid) || s.nvt.assocs.any fun a => a.cntlid == k.id.cntlid && a.flow.ptag == r.ptag &&
    (a.queues.any (·.1 == k.id.qid) || (match k.req with | .connect .. | .disconnect => true | _ => false))

/-- Command ID Conflict (R125, R148). -/
def idConflict : Status := ⟨0, 0x03, true⟩

/-- The response capsule of an answered command goes out again on the flow on which its copy arrived (R125). -/
def resendResponse (s : State) (r : FlowRef) (k : Cmd) : State :=
  match k.answer with
  | some (st, dw0) => s.sendOn r [.response k.id k.rmsgid st dw0 k.sqhd k.enc]
  | none => s

/-- Match a delivered capsule against the commands held (R125, R138, R148, R280): whether it is to be executed. -/
def matchCapsule (s : State) (r : FlowRef) (c : CmdId) (enc : Option Nat) : State × Bool :=
  let id := connId r c
  let same (k : Cmd) : Bool :=
    !k.acked && k.id.cntlid == id.cntlid && k.id.qid == id.qid && k.id.cid == id.cid && s.reaches r k
  match s.nvt.cmds.find? same with
  | some k =>
    if k.adopted && k.id.msgid = c.msgid then (s, true)
    else if k.phase < 3 then
      if k.id.msgid = c.msgid then (s, false) else (s.refuseCapsule r c idConflict enc, false)
    else if k.id.msgid = c.msgid then (s.resendResponse r k, false)
    else (s.ackedResponse k.flow.ip k.flow.ptag k.id, true)
  | none =>
    match s.skf.delivered.find? fun d => d.cap == some (c.cntlid, c.qid, c.cid) && d.ptag == r.ptag &&
        (c.cntlid != 0xFFFF || d.ip == r.ip) with
    | some d => if d.msgid = c.msgid then (s, false) else (s.refuseCapsule r c idConflict enc, false)
    | none => (s, true)

/-- A whole message is delivered (R113): its own command acts on it next. A capsule is first matched under R125, and a
copy that is not executed gives back its buffers. -/
def deliver (s : State) (r : FlowRef) (seq : Nat) (p : MsgPart) (enc : Option Nat) : State :=
  let go (t : State) : State := { t with skf := { t.skf with
    delivered := t.skf.delivered ++ [Delivered.mk r.ip r.port r.ptag seq p.mtype p.msgid p.cap t.now enc none (t.now + t.deadline)] } }
  match p.mtype, p.cap with
  | 0, some (cntlid, qid, cid) =>
    let (t, run) := s.matchCapsule r ⟨cntlid, qid, cid, p.msgid⟩ enc
    if run then go t else t.freeMsg r p.msgid
  | _, _ => go s

/-- One part in sequence order (R102, R103, R113). A message is delivered with the sequence number of its last part. DESIGN CHOICE: that
number is the NSEQ of a NAK KEYFULL or CHAINFULL for it (R112; log entry 124). -/
def takePart (s : State) (r : FlowRef) (seq : Nat) (p : MsgPart) (enc : Option Nat) : State :=
  match s.flowAt r with
  | none => s
  | some f =>
    let bad (t : State) : State :=
      let t1 := match f.openMsg with | some o => t.freeMsg r o.part.msgid | none => t
      ((t1.freeMsg r p.msgid).setFlow { f with openMsg := none }).malformed
    match f.openMsg with
    | none =>
      if p.offset = 0 && p.msglen ≤ 262208 && p.bytes ≤ p.msglen then
        if p.bytes = p.msglen then s.deliver r seq p enc
        else s.setFlow { f with openMsg := some ⟨p, enc, p.bytes, (seq + 1) % 2 ^ 32⟩ }
      else bad s
    | some o =>
      if o.nextSeq = seq && o.part.msgid = p.msgid && o.part.mtype = p.mtype && o.part.msglen = p.msglen &&
          o.got = p.offset && o.got + p.bytes ≤ p.msglen then
        if o.got + p.bytes = p.msglen then (s.setFlow { f with openMsg := none }).deliver r seq o.part o.enc
        else s.setFlow { f with openMsg := some { o with got := o.got + p.bytes, nextSeq := (seq + 1) % 2 ^ 32 } }
      else bad s

/-- Data fetched for a write (R123): it takes its place in the transfer. -/
def takeFdata (s : State) (ftag offset bytes data : Nat) (enc : Option Nat) : State :=
  match s.nvt.fetches.find? (·.ftag == ftag) with
  | none => s
  | some x =>
    if x.len < offset + bytes || (s.nvt.cmds.any fun k => k.id == x.cmd && k.enc != enc) then s
    else
      let s1 := { s with nvt := { s.nvt with
        cmds := s.nvt.cmds.map fun k =>
          if k.id = x.cmd then { k with buf := k.buf + data % 256 ^ bytes * 256 ^ (x.base + offset), want := k.want - bytes } else k
        fetches := (s.nvt.fetches.map fun y => if y.ftag = ftag then { y with got := y.got + bytes } else y).filter fun y =>
          y.got < y.len } }
      s1

/-- Take received packets in sequence order while there is no gap (R113). -/
def takeInOrder (s : State) (r : FlowRef) : Nat → State
  | 0 => s
  | n + 1 =>
    match s.flowAt r with
    | none => s
    | some f =>
      match f.early with
      | [] => s
      | (seq, b, enc) :: rest =>
        if before seq f.rcvBase then
          let s1 := s.setFlow { f with early := rest }
          (match b with
            | .msg p => s1.takePart r seq p enc
            | .fdata ftag offset len data => s1.takeFdata ftag offset len data enc
            | _ => s1).takeInOrder r n
        else s

/-- Insert a received packet in order of sequence. -/
def insertEarly (base seq : Nat) (b : PktBody × Option Nat) : List (Nat × PktBody × Option Nat) → List (Nat × PktBody × Option Nat)
  | [] => [(seq, b)]
  | (q, c) :: rest => if serial seq base < serial q base then (seq, b) :: (q, c) :: rest else (q, c) :: insertEarly base seq b rest

/-- Received bytes of a packet's payload that need buffers of H1 or H11. -/
def bodyBytes : PktBody → Nat
  | .msg p => p.bytes
  | _ => 0

/-- NAK SEQ for the lowest hole, at most once per hole in each SRTT, or in each BASE while SRTT is 0 (R110). -/
def nakHole (s : State) (r : FlowRef) : State :=
  match s.flowAt r with
  | none => s
  | some f =>
    let gap := if f.srtt = 0 then 1000 * s.ef F.SKF_RTO_BASE else 10 * f.srtt
    let hole := f.rcvBase
    let recent := match f.holes.lookup hole with | some t => decide (s.now < t + gap) | none => false
    if recent then s
    else (s.setFlow { f with holes := [(hole, s.now)] }).sendNak r 1 hole 0 none

/-- Acknowledge a packet that has been received (R111): at once for AR, a duplicate or a CE mark that awaits echo, and
after four; otherwise the 2 µs of ACK_DELAY_EXPIRY run. DESIGN CHOICE: TSECR of what acknowledges is the TSVAL of the sequenced packet
that arrived last (log entry 120). -/
def ackPacket (s : State) (r : FlowRef) (h : SkHdr) (dup : Bool) : State :=
  match s.flowAt r with
  | none => s
  | some f =>
    let f1 := { f with ackDue := f.ackDue + 1, tsecr := h.tsval }
    let s1 := s.setFlow f1
    if h.flagAr || dup || f1.ce || 4 ≤ f1.ackDue then s1.sendAck r else s1

/-- A sequenced packet that has passed R106 (R110). DESIGN CHOICE: the trigger of a KIND 1 chain occurs when an accepted part with its tag
arrives, before the message is delivered in order (R127; log entry 123). -/
def useSequenced (s : State) (h : SkHdr) (b : PktBody) (ce : Bool) : State :=
  let r := (hdrRef h)
  let s0 := if h.flagAck then s.ackFlow r h.ackseq h.flagEce h.tsecr else s
  match s0.flowAt r with
  | none => s0
  | some f =>
    let d := serial h.seq f.rcvBase
    let dupe (t : State) : State := (t.touchFlow { f with ce := f.ce || ce }).ackPacket r h true
    if before h.seq f.rcvBase then dupe s0
    else if 256 ≤ d then (s0.touchFlow f).dropOne F.SKF_DROP_WINDOW 66 0x8000
    else if f.bitmap.testBit d then dupe s0
    else
      let pool := if h.ptag = 0xFFFF then 11 else 1
      let (s1, ok) := match b with
        | .msg p => s0.takeBuffers pool (msgOwner r p.msgid) ((bodyBytes b + 4095) / 4096)
        | _ => (s0, true)
      if !ok then s1.bump (if pool = 1 then F.HMP_DROP_CAPSULE else F.HMP_DROP_FED)
      else
        let above := d ≠ 0
        let f1 := advanceBase 257 { f with bitmap := f.bitmap ||| 2 ^ d, ce := f.ce || ce,
                                           early := insertEarly f.rcvBase h.seq (b, h.enc.map (·.slot)) f.early }
        let s2 := s1.touchFlow f1
        let s3 := match b with
          | .msg p => if p.trig ≠ 0 then s2.occurs h.ip h.ptag 1 (p.trig, 0, 0) else s2
          | _ => s2
        let s4 := if above then s3.nakHole r else s3
        -- The acknowledgement goes out with the base that the packet has left.
        (s4.ackPacket r h false).takeInOrder r 300

/-- What R106 makes of a packet for a record that is on die and admitted: use it, or NAK GEN. -/
def genPasses (f : Flow) (gen : Nat) : Bool := (gen == 0 && f.state == 1) || (gen != 0 && (gen == f.gen || f.gen == 0))

/-- Retransmit the packet with a sequence number (R112, R115), where its timer runs: a placement of a command whose response capsule
has been acknowledged goes out no more (R122). -/
def retransmit (s : State) (r : FlowRef) (seq : Nat) : State :=
  match (s.flowAt r).bind fun f => (f.sent.find? (·.1 == seq)).filter fun p => (f.times.lookup p.1).isSome with
  | some p => (s.transmitBody r p.1 p.2).countOpen 0x100 3 0x8000
  | none => s

/-- Flows to other shelves may be opened (R133, R193). -/
def mayFederate (s : State) : Bool := s.is F.SKF_SHELF_FED_EN && s.is F.HMP_ALIGN_PTP

/-- The first packet of a flow that this NP32 opens, as its peer would have sent it: the pair and addressing of a peer table entry.
DESIGN CHOICE: the peer's UDP port is the NP32's own SKF_CFG.PORT (log entry 127). -/
def fedHdr (s : State) (n : Nat) : SkHdr :=
  let p := s.fedEntry n
  { dport := s.rd F.SKF_CFG_PORT, ipPlain := true, fragment := false, csumZero := false, csumOk := true, ip := p.ip,
    port := s.rd F.SKF_CFG_PORT, ptag := 0xFFFF, v6 := s.ef F.SKF_FED_IPV6 n == 1, lport := p.lport, mac := p.mac, vlan := p.vlan,
    dscp := 0, ce := false, version := 1, opcode := 1, payLen := 0, udpLen := 0, gen := 0, seq := 0, flagAck := false, ackseq := 0,
    flagEce := false, flagAr := false, flagShv := true, dstShelf := 0, srcShelf := 0, tsval := 0, tsecr := 0, enc := none }

/-- Open a flow to a federation peer with GEN 0 (R133): the peer chooses its own generation and numbering, which the first packet
from it brings (R106). -/
def openFed (s : State) (n : Nat) : State × Option FlowRef :=
  if !s.mayFederate then (s, none)
  else
    let h := s.fedHdr n
    let r := hdrRef h
    let (s1, ok) := s.createFlow h 1
    if !ok then (s1, none)
    else match s1.flowAt r with
      | some f => ((s1.setFlow { f with gen := 0, rcvSet := false }).sendHeldFor f, some r)
      | none => (s1, none)

/-- The messages of a federation flow that are not acknowledged, each whole again (R102, R112). -/
def fedWhole (f : Flow) : List SentBody :=
  let bodies := f.sent.map (·.2) ++ f.queue
  let firsts := bodies.foldl (fun (l : List SentBody) b => match b with
    | .fed m msg enc _ parts => if l.contains (.fed m msg enc 0 parts) then l else l ++ [.fed m msg enc 0 parts]
    | _ => l) []
  firsts.flatMap fun b => match b with
    | .fed m msg enc _ parts => (List.range parts).map fun p => .fed m msg enc p parts
    | _ => [b]

/-- NAK GEN in federation traffic (R112): the record is dropped, a new flow is opened with GEN 0, and unacknowledged messages are sent
again on it, each with its MSGID. -/
def reopenFed (s : State) (f : Flow) : State :=
  let s1 := s.dropFlow f.ref
  match s1.fedAt f.ip with
  | none => s1
  | some n =>
    match s1.openFed n with
    | (s2, some r) => s2.sendOn r (fedWhole f)
    | (s2, none) => s2.sendOn f.ref (fedWhole f)

/-- A NAK for a flow (R112). From a host PENDING, SHELF, KEYFULL and CHAINFULL are ignored; in federation traffic PENDING
resets the timeout count. -/
def takeNak (s : State) (r : FlowRef) (code nseq : Nat) : State :=
  match s.flowAt r with
  | none => s
  | some f =>
    match code with
    | 1 => s.retransmit r nseq
    | 2 => if r.ptag = 0xFFFF then s.reopenFed f else s.loseFlow f
    | 4 => s.loseFlow f
    | 3 => if r.ptag = 0xFFFF then s.setFlow { f with timeouts := 0 } else s
    | _ => s

/-- Use a packet that has passed R106: an ACK or a NAK acts on the record, any other is handled under R110. -/
def usePacket (s : State) (h : SkHdr) (b : PktBody) (ce : Bool) : State :=
  let touched := match s.flowAt (hdrRef h) with | some f => s.touchFlow f | none => s
  match b with
  | .ack => touched.ackFlow (hdrRef h) h.ackseq h.flagEce h.tsecr
  | .nak code nseq => touched.takeNak (hdrRef h) code nseq
  | _ => s.useSequenced h b ce

/-- A capsule that a chain submits arrives now on a flow (R127): R125 applies to it, and it is delivered with its queue entry. -/
def submitOn (s : State) (r : FlowRef) (c : CmdId) (sqe : Nat) (enc : Option Nat) : State :=
  let (t, run) := s.matchCapsule r c enc
  if run then { t with skf := { t.skf with
    delivered := t.skf.delivered ++ [Delivered.mk r.ip r.port r.ptag 0 0 c.msgid (some (c.cntlid, c.qid, c.cid)) t.now enc (some sqe)
      (t.now + t.deadline)] } }
  else t

/-- The flow that carries what a fired chain sends: its own, or another of its address and process tag (R134). -/
def chainFlow (s : State) (c : Chain) : Option Flow :=
  match s.flowAt ⟨c.ip, c.port, c.ptag⟩ with
  | some f => if f.state != 3 then some f else s.anyFlow c.ip c.ptag
  | none => s.anyFlow c.ip c.ptag

/-- Carry out one entry of a fired chain (R127). A SUBMIT without a flow of its address and tag waits for one (R134). DESIGN CHOICE: a
PLACE_IMM goes out under key 0 where the table holds no key of the chain's address and tag (log entry 121). -/
def fireEntry (s : State) (c : Chain) (e : ChainEntry) : State :=
  match e with
  | .submit cntlid qid cid msgid body =>
    match s.chainFlow c with
    | some f => s.submitOn f.ref ⟨cntlid, qid, cid, msgid⟩ body c.enc
    | none => { s with skf := { s.skf with submits := s.skf.submits ++ [(c.ip, c.ptag, e, c.enc)] } }
  | .placeImm addr value =>
    let key := match s.skf.keys.find? fun k => k.1 == c.ip && k.2.1 == c.ptag with | some k => k.2.2 | none => 0
    s.sendOn ⟨c.ip, c.port, c.ptag⟩ [.placeImm addr key value c.enc]

/-- Chains whose trigger has occurred are carried out in order (R127). What one of them does can be the trigger of the next; each
fires at most once. -/
def fireNext (s : State) : Nat → State
  | 0 => s
  | n + 1 =>
    match s.skf.firing with
    | [] => s
    | c :: rest =>
      let s1 := ({ s with skf := { s.skf with firing := rest } }).count 0x031 0x8000
      (c.entries.foldl (fun t e => t.fireEntry c e) s1).fireNext n
def fireDue (s : State) : State := s.fireNext (s.skf.firing.length + s.skf.chains.length + 1)

/-- SUBMITs of fired chains that waited for a flow of its address and tag arrive on a flow that has been opened (R134). -/
def submitHeldFor (s : State) (f : Flow) : State :=
  let mine (x : Nat × Nat × ChainEntry × Option Nat) : Bool := x.1 == f.ip && x.2.1 == f.ptag
  let s1 := { s with skf := { s.skf with submits := s.skf.submits.filter fun x => !mine x } }
  (s.skf.submits.filter mine).foldl (fun t x => match x.2.2.1 with
    | .submit cntlid qid cid msgid body => t.submitOn f.ref ⟨cntlid, qid, cid, msgid⟩ body x.2.2.2
    | _ => t) s1

/-- Handle a packet under R106. A flow that this NP32 has opened takes its generation from the first packet that brings one, and its
receive base from the first sequenced packet. -/
def sequenced (s : State) (h : SkHdr) (b : PktBody) (ce : Bool) : State :=
  match s.flowAt (hdrRef h) with
  | none => s
  | some f =>
    if genPasses f h.gen then
      let s1 := (s.learnPeer h).getD s
      let bare := match b with | .ack => true | .nak .. => true | _ => false
      let f1 := if h.gen = 0 then f else { f with gen := h.gen, state := 2 }
      let f2 := if f.rcvSet || bare then f1 else { f1 with rcvBase := h.seq, rcvSet := true }
      let s3 := (s1.setFlow f2).usePacket h b ce
      match s3.flowAt (hdrRef h) with
      | some g => (s3.sendHeldFor g).submitHeldFor g
      | none => s3
    else s.nakGen (hdrRef h) h

/-- The waiting hamper is full (R118, R182): 16,384 buffers, less those retired (R507). -/
def parkFull (s : State) : Bool := decide (s.buffersOf 0 ≤ s.buffersUsed 0)

/-- Park a packet in the waiting hamper (R118). -/
def park (s : State) (f : Flow) (h : SkHdr) (b : PktBody) : State :=
  if 4 ≤ f.parked.length then s.dropOne F.SKF_DROP_PARK_FULL 67 0x8000
  else if s.parkFull then ((s.dropOne F.SKF_DROP_PARK_FULL 67 0x8000).exhausted 0).raiseOnce 66 0 0x8000
  else (s.touchFlow { f with parked := f.parked ++ [⟨h, b⟩] }).showUse 0

/-- The flow's record is back on die, or has been admitted: parked packets are handled in order of SEQ (R118, R129). -/
def unpark (s : State) (r : FlowRef) : State :=
  match s.flowAt r with
  | none => s
  | some f =>
    let ps := f.parked.foldl (fun l p => insertParked p l) []
    ps.foldl (fun t p => t.sequenced p.hdr p.body p.hdr.ce) ((s.setFlow { f with parked := [] }).showUse 0)
where
  /-- Insert in order of sequence. -/
  insertParked (p : Parked) : List Parked → List Parked
    | [] => [p]
    | q :: rest => if before p.hdr.seq q.hdr.seq then p :: q :: rest else q :: insertParked p rest

/-- Whether a packet is Skiff traffic (R97) that is taken: a handover or a fatal fault of a twin ends that (R277, R283). -/
def isSkiff (s : State) (h : SkHdr) : Bool :=
  s.is (if h.v6 then F.SKF_CFG_V6 else F.SKF_CFG_V4) && h.ipPlain && !h.fragment && h.dport == s.rd F.SKF_CFG_PORT &&
    (h.csumOk || (!h.v6 && h.csumZero)) && h.payLen ≤ s.mtu && h.lport < 32 && !s.twn.stopped

/-- The engines take a packet from the switch (R353): a CE mark of the switch counts as one of the fabric (R97). -/
def fromSwitch (s : State) (h : SkHdr) : State × Bool :=
  let (t, ce) := s.takeInternal (h.ip, h.port, h.ptag)
  (t, h.ce || ce)

/-- Whether a packet is malformed on arrival (R103): version, opcode, direction, PAYLEN; `kindBad` is that of its MTYPE. -/
def headBad (h : SkHdr) (kindBad : Bool) : Bool :=
  h.version != 1 || !([1, 2, 3, 4, 0x10, 0x11].contains h.opcode) || h.payLen != h.udpLen ||
    (h.ptag != 0xFFFF && (h.opcode == 2 || h.opcode == 3)) || kindBad

/-- A packet that arrives for this NP32 and is well formed: the shelf check of R132. -/
def wrongShelf (s : State) (h : SkHdr) : Bool := h.flagShv && h.dstShelf != s.ef F.SKF_SHELF_SHELF_ID

/-- A sequenced packet that is Skiff traffic and well formed (R106, R118, R129, R132). -/
def arrive (s0 : State) (h : SkHdr) (b : PktBody) (ce : Bool) : State :=
  let r := hdrRef h
  let s := s0.countOpen 0x100 1 0x8000
  let bare := match b with | .ack => true | .nak .. => true | _ => false
  if bare && (s.flowAt r).isNone then s
  else if s.wrongShelf h then s.sendNak r 5 h.seq h.gen (some h)
  else match s.flowAt r with
    | some f =>
      if f.state = 3 then
        if f.parked.length < 4 && !s.parkFull then s.park f { h with ce := ce } b else s.sendNak r 3 h.seq h.gen (some h)
      else if !f.onDie then s.park f { h with ce := ce } b
      else s.sequenced h b ce
    | none =>
      if h.gen ≠ 0 then s.nakGen r h
      else
        let pending := s.assisted 0
        let (s1, ok) := s.createFlow h (if pending then 3 else 1)
        if !ok then s1
        else if pending then
          match s1.flowAt r with
          | none => s1
          | some f =>
            let s2 := s1.park f { h with ce := ce } b
            let (s3, handed) := s2.handOver 0 h.port h.ptag [h.ip, h.port, h.ptag, h.lport] [] 0 (s2.itemPoint none)
            match s3.flowAt r with
            | none => s3
            | some g =>
              if handed then s3.setFlow { g with item := some (s3.wrg.nextItem - 1) }
              else (s3.setFlow { g with state := 1, item := none }).unpark r
        else s1.sequenced h b ce

end State

end Sys2Proof.Machine
end

