-- ==== Sys2Proof/Machine/Deflate.lean ====
section
/-!
DEFINITION. The DEFLATE stream of a grain (R292, R296, R297, R300, R307 of spec/09_inline_compression.md): matching, code tables, the
encoder and the decoder. The format of the stream is that of RFC 1951, which the rules name (log entry 144).
-/

namespace Sys2Proof.Machine

/-- A literal byte, or a match of so many bytes at a distance. -/
inductive Tok where
  | lit (b : Nat)
  | copy (len dist : Nat)
deriving DecidableEq, Repr

/-- Bytes of a little-endian number. -/
def bytesOf (n v : Nat) : List Nat := (List.range n).map fun i => v / 256 ^ i % 256

/-- The little-endian number of bytes. -/
def numberOf (l : List Nat) : Nat := l.foldr (fun b n => b + 256 * n) 0

/-! ### Matching (R296) -/

/-- The head-table entry of the next three bytes. -/
def headEntry : List Nat → Option Nat
  | a :: b :: c :: _ => some (Config.matchHash a b c % 32768)
  | _ => none

/-- Bytes in which two runs agree from their start, up to a number. -/
def agreeing : Nat → List Nat → List Nat → Nat
  | n + 1, a :: as, b :: bs => if a = b then agreeing n as bs + 1 else 0
  | _, _, _ => 0

/-- An earlier position in a grain: its place, its head-table entry, and the bytes from there. -/
structure Earlier where
  place : Nat
  entry : Nat
  bytes : List Nat
deriving DecidableEq, Repr

/-- The positions so far with one more, newest first. The last two positions of a grain have no three bytes and enter no chain. -/
def enter (past : List Earlier) (place : Nat) (l : List Nat) : List Earlier :=
  match headEntry l with
  | some e => ⟨place, e, l⟩ :: past
  | none => past

/-- The match at a position: of the first `depth` positions of its chain the longest, and of equal lengths the nearest; of 3 to 258 B, at
a distance of 1 to 16,447 B. -/
def bestMatch (depth : Nat) (past : List Earlier) (place : Nat) (l : List Nat) : Option (Nat × Nat) :=
  match headEntry l with
  | none => none
  | some e =>
    ((past.filter (·.entry == e)).take depth).foldl (fun best p =>
      let n := agreeing 258 p.bytes l
      if 3 ≤ n && decide (place - p.place ≤ 16447) && decide ((best.getD (0, 0)).1 < n) then some (n, place - p.place) else best) none

/-- The literals and matches of a grain. With `lazy` a match is deferred by one position where the next position yields a longer one.
`skip` counts the bytes that the last match still covers. -/
def tokens (depth : Nat) (lazy : Bool) : List Earlier → Nat → Nat → List Nat → List Tok
  | _, _, _, [] => []
  | past, place, skip + 1, b :: rest => tokens depth lazy (enter past place (b :: rest)) (place + 1) skip rest
  | past, place, 0, b :: rest =>
    let next := enter past place (b :: rest)
    match bestMatch depth past place (b :: rest) with
    | none => .lit b :: tokens depth lazy next (place + 1) 0 rest
    | some m =>
      let later := if lazy then bestMatch depth next (place + 1) rest else none
      if m.1 < (later.getD (0, 0)).1 then .lit b :: tokens depth lazy next (place + 1) 0 rest
      else .copy m.1 m.2 :: tokens depth lazy next (place + 1) (m.1 - 1) rest

/-! ### Symbols and codes (RFC 1951) -/

/-- The least length of each length symbol from 257 on, and its extra bits. -/
def lenBase : List Nat :=
  [3, 4, 5, 6, 7, 8, 9, 10, 11, 13, 15, 17, 19, 23, 27, 31, 35, 43, 51, 59, 67, 83, 99, 115, 131, 163, 195, 227, 258]
def lenExtra : List Nat := [0, 0, 0, 0, 0, 0, 0, 0, 1, 1, 1, 1, 2, 2, 2, 2, 3, 3, 3, 3, 4, 4, 4, 4, 5, 5, 5, 5, 0]

/-- The least distance of each distance symbol, and its extra bits. -/
def distBase : List Nat :=
  [1, 2, 3, 4, 5, 7, 9, 13, 17, 25, 33, 49, 65, 97, 129, 193, 257, 385, 513, 769, 1025, 1537, 2049, 3073, 4097, 6145, 8193,
    12289, 16385, 24577]
def distExtra : List Nat := [0, 0, 0, 0, 1, 1, 2, 2, 3, 3, 4, 4, 5, 5, 6, 6, 7, 7, 8, 8, 9, 9, 10, 10, 11, 11, 12, 12, 13, 13]

/-- The last place of an ascending list whose member is at most a number. -/
def slotIn (bases : List Nat) (v : Nat) : Nat := (bases.filter fun b => decide (b ≤ v)).length - 1

/-- Literal or length symbol of a token, and the distance symbol of a match. -/
def Tok.symbol : Tok → Nat
  | .lit b => b
  | .copy len _ => 257 + slotIn lenBase len
def Tok.distSymbol : Tok → Option Nat
  | .lit _ => none
  | .copy _ dist => some (slotIn distBase dist)

/-- `n` bits of a number, the least significant first; and a number from bits. -/
def bitsOf (n v : Nat) : List Bool := (List.range n).map fun i => v.testBit i
def bitsValue (l : List Bool) : Nat := l.foldr (fun b n => (if b then 1 else 0) + 2 * n) 0

/-- The canonical code of a symbol under a list of code lengths, as it stands in the stream: its most significant bit first. -/
def codeOf (lens : List Nat) (sym : Nat) : List Bool :=
  let n := lens.getD sym 0
  let of_ (k : Nat) : Nat := if k = 0 then 0 else (lens.filter (· == k)).length
  let first := (List.range n).foldl (fun c k => 2 * (c + of_ k)) 0
  (bitsOf n (first + ((lens.take sym).filter (· == n)).length)).reverse

/-- Sum of the shares of the code space, in units of 2^-15. -/
def codeSpace (lens : List Nat) : Nat := lens.foldl (fun n k => if k = 0 then n else n + 2 ^ (15 - k)) 0

/-- A complete prefix code of at most 15 bits in which every symbol has a code (R300, R302). -/
def completeCode (lens : List Nat) : Bool := lens.all (fun k => decide (1 ≤ k) && decide (k ≤ 15)) && codeSpace lens == 2 ^ 15

/-- The fixed codes of RFC 1951 (BTYPE 0b01). -/
def fixedLens : List Nat := List.replicate 144 8 ++ List.replicate 112 9 ++ List.replicate 24 7 ++ List.replicate 8 8
def fixedDists : List Nat := List.replicate 32 5

/-! ### The decoder (R307 to R309) -/

/-- Take `n` bits as a number. -/
def takeBits (n : Nat) (l : List Bool) : Option (Nat × List Bool) :=
  if l.length < n then none else some (bitsValue (l.take n), l.drop n)

/-- Take one symbol under a list of code lengths. -/
def takeSymbol (lens : List Nat) (l : List Bool) : Option (Nat × List Bool) :=
  ((List.range lens.length).find? fun y => lens.getD y 0 != 0 && (codeOf lens y).isPrefixOf l).map fun y => (y, l.drop (lens.getD y 0))

/-- Code lengths that RFC 1951 allows: complete, or a single code of one bit, or none. -/
def soundCode (lens : List Nat) : Bool := codeSpace lens == 2 ^ 15 || (lens.all (· ≤ 1) && decide ((lens.filter (0 < ·)).length ≤ 1))

/-- Take `n` code lengths in their run-length form, under the code of the code lengths. -/
def takeLens (code : List Nat) (n : Nat) : Nat → List Nat → List Bool → Option (List Nat × List Bool)
  | 0, acc, l => if acc.length = n then some (acc, l) else none
  | fuel + 1, acc, l =>
    if n ≤ acc.length then (if acc.length = n then some (acc, l) else none)
    else match takeSymbol code l with
      | none => none
      | some (y, rest) =>
        let again (bits base : Nat) (v : Option Nat) : Option (List Nat × List Bool) :=
          match v, takeBits bits rest with
          | some k, some (m, rest2) => takeLens code n fuel (acc ++ List.replicate (base + m) k) rest2
          | _, _ => none
        if y < 16 then takeLens code n fuel (acc ++ [y]) rest
        else if y = 16 then again 2 3 acc.getLast?
        else if y = 17 then again 3 3 (some 0)
        else again 7 11 (some 0)

/-- The order in which the lengths of the code of code lengths stand. -/
def lensOrder : List Nat := [16, 17, 18, 0, 8, 7, 9, 6, 10, 5, 11, 4, 12, 3, 13, 2, 14, 1, 15]

/-- Take the code tables of a dynamic block: literal and length, and distance. -/
def takeTables (l : List Bool) : Option ((List Nat × List Nat) × List Bool) :=
  match takeBits 5 l with
  | none => none
  | some (hlit, l1) => match takeBits 5 l1 with
    | none => none
    | some (hdist, l2) => match takeBits 4 l2 with
      | none => none
      | some (hclen, l3) => match takeBits (3 * (hclen + 4)) l3 with
        | none => none
        | some (v, l4) =>
          let raw := (List.range (hclen + 4)).map fun i => v / 8 ^ i % 8
          let code := (List.range 19).map fun y => ((lensOrder.zip raw).lookup y).getD 0
          let n := hlit + 257 + (hdist + 1)
          if !soundCode code then none
          else match takeLens code n n [] l4 with
            | none => none
            | some (lens, rest) =>
              let ll := lens.take (hlit + 257)
              let dd := lens.drop (hlit + 257)
              if soundCode ll && soundCode dd && ll.getD 256 0 != 0 && decide (hlit + 257 ≤ 286) then some ((ll, dd), rest) else none

/-- Repeat `n` bytes from a distance; the output stands newest first. -/
def copyBack (dist : Nat) : Nat → List Nat → Option (List Nat)
  | 0, out => some out
  | n + 1, out => match out[dist - 1]? with
    | some b => if dist = 0 then none else copyBack dist n (b :: out)
    | none => none

/-- Decode the symbols of a block: the output, newest first, and the bits after it; the rest is none where the decoder has stopped, having
produced `need` bytes. -/
def takeBlock (ll dd : List Nat) (need : Nat) : Nat → List Nat → List Bool → Option (List Nat × Option (List Bool))
  | 0, _, _ => none
  | fuel + 1, out, l =>
    if need ≤ out.length then some (out, none)
    else match takeSymbol ll l with
      | none => none
      | some (y, l1) =>
        if y < 256 then takeBlock ll dd need fuel (y :: out) l1
        else if y = 256 then some (out, some l1)
        else match takeBits (lenExtra.getD (y - 257) 0) l1 with
          | none => none
          | some (le, l2) => match takeSymbol dd l2 with
            | none => none
            | some (d, l3) => match takeBits (distExtra.getD d 0) l3 with
              | none => none
              | some (de, l4) =>
                if 285 < y || 29 < d then none
                else match copyBack (distBase.getD d 0 + de) (lenBase.getD (y - 257) 0 + le) out with
                  | some out2 => takeBlock ll dd need fuel out2 l4
                  | none => none

/-- Decode blocks of any type up to the last one, or until `need` bytes stand. -/
def takeBlocks (need : Nat) : Nat → List Nat → List Bool → Option (List Nat)
  | 0, _, _ => none
  | fuel + 1, out, l =>
    if need ≤ out.length then some out
    else match takeBits 3 l with
      | none => none
      | some (head, l1) =>
        let go (r : Option (List Nat × Option (List Bool))) : Option (List Nat) :=
          match r with
          | some (o, some rest) => if head % 2 = 1 then some o else takeBlocks need fuel o rest
          | some (o, none) => some o
          | none => none
        match head / 2 with
        | 0 => match takeBits 32 (l1.drop (l1.length % 8)) with
          | none => none
          | some (v, l2) =>
            let n := v % 65536
            if v / 65536 + n ≠ 65535 then none
            else match takeBits (8 * n) l2 with
              | some (bytes, l3) => go (some ((bytesOf n bytes).reverse ++ out, some l3))
              | none => none
        | 1 => go (takeBlock fixedLens fixedDists need (l1.length + 1) out l1)
        | 2 => match takeTables l1 with
          | some (t, l2) => go (takeBlock t.1 t.2 need (l2.length + 1) out l2)
          | none => none
        | _ => none

/-- The first `need` of the `total` bytes of a stream of `clen` bytes (R307, R308): none where the stream breaks RFC 1951, a distance points
before the start of the output, or, with all of it decoded, the output exceeds `total` (R309). -/
def inflate (clen total need stream : Nat) : Option (List Nat) :=
  let all := decide (total ≤ need)
  match takeBlocks (if all then total + 1 else need) (8 * clen + 1) [] (bitsOf (8 * clen) stream) with
  | some out =>
    if all && decide (total < out.length) then none
    else if out.length < need then none
    else some (out.reverse.take need)
  | none => none

/-! ### Code tables (R300) -/

/-- Merge the coins of a level in pairs (package-merge). -/
def pairUp : List (Nat × List Nat) → List (Nat × List Nat)
  | a :: b :: rest => (a.1 + b.1, a.2 ++ b.2) :: pairUp rest
  | _ => []

/-- Code lengths of a Huffman code limited to 15 bits, by package-merge. -/
def limitedHuffman (counts : List Nat) : List Nat :=
  let leaves := sortOn (·.1) ((List.range counts.length).map fun y => (counts.getD y 0, [y]))
  let level := (List.range 14).foldl (fun l _ => sortOn (·.1) (leaves ++ pairUp l)) leaves
  let chosen := (level.take (2 * counts.length - 2)).flatMap (·.2)
  (List.range counts.length).map fun y => (chosen.filter (· == y)).length

/-- Bits that a histogram takes under code lengths. -/
def codedBits (counts lens : List Nat) : Nat := (counts.zip lens).foldl (fun n p => n + p.1 * p.2) 0

/-- The tables rebuilt from a histogram (R300): each count raised by one, then a Huffman code limited to 15 bits. Which of those of equal
size is a free value. -/
def rebuilt (counts : List Nat) : List Nat :=
  let up := counts.map (· + 1)
  let best := limitedHuffman up
  let own := Config.codeLengths up
  if own.length = up.length && completeCode own && codedBits up own == codedBits up best then own else best

/-- A symbol enters a histogram: when its count reaches 65,535, every count is halved (R300). -/
def countSymbol (h : List Nat) (y : Nat) : List Nat :=
  let g := h.set y (h.getD y 0 + 1)
  if 65535 ≤ g.getD y 0 then g.map (· / 2) else g

/-! ### The encoder (R292, R299) -/

/-- The tables of a block in one valid form: each length in 4 bits. -/
def plainTables (ll dd : List Nat) : List Bool :=
  let code := List.replicate 16 4 ++ [0, 0, 0]
  bitsOf 5 (ll.length - 257) ++ bitsOf 5 (dd.length - 1) ++ bitsOf 4 15 ++ (lensOrder.flatMap fun y => bitsOf 3 (code.getD y 0)) ++
    (ll ++ dd).flatMap (codeOf code)

/-- The code tables in a block header (R300). RFC 1951 allows several forms, and which one the compressor writes is a free value. -/
def tableBits (ll dd : List Nat) : List Bool :=
  let own := Config.tableForm ll dd
  if takeTables own == some ((ll, dd), []) then own else plainTables ll dd

/-- The bits of a token. -/
def tokenBits (ll dd : List Nat) (t : Tok) : List Bool :=
  codeOf ll t.symbol ++ match t with
    | .lit _ => []
    | .copy len dist =>
      let a := slotIn lenBase len
      let d := slotIn distBase dist
      bitsOf (lenExtra.getD a 0) (len - lenBase.getD a 0) ++ codeOf dd d ++ bitsOf (distExtra.getD d 0) (dist - distBase.getD d 0)

/-- The stream of a grain (R292): one block with BFINAL set, under dynamic tables or under the fixed codes. -/
def deflate (tables : Option (List Nat × List Nat)) (l : List Tok) : List Bool :=
  match tables with
  | some (ll, dd) => [true] ++ bitsOf 2 2 ++ tableBits ll dd ++ l.flatMap (tokenBits ll dd) ++ codeOf ll 256
  | none => [true] ++ bitsOf 2 1 ++ l.flatMap (tokenBits fixedLens fixedDists) ++ codeOf fixedLens 256

end Sys2Proof.Machine
end

