-- ==== Sys2Proof/Machine/BayOps.lean ====
section
/-!
DEFINITION. Operations over one drive bay (spec/12_drive_bays_and_power.md): its events, pins, power state, fault timer,
FET models and feeds. What a loss of the drive means to a crew is in the files of the crews; Bays.lean joins the two.
-/

namespace Sys2Proof.Machine

/-- The codes of the bay power states (R378). -/
abbrev bEmpty := 0
abbrev bSeating := 1
abbrev bCooling := 2
abbrev bRamp := 3
abbrev bQualify := 4
abbrev bOn := 5
abbrev bChangeover := 6
abbrev bStopping := 7
abbrev bOff := 8
abbrev bRetry := 9
abbrev bLatched := 10
abbrev bCycle := 11
abbrev bStandby := 12

/-- A fraction in lowest terms. -/
def Frac.mk' (n d : Nat) : Frac :=
  let g := Nat.gcd n d
  if g = 0 then ⟨n, d⟩ else ⟨n / g, d / g⟩

/-- A bay as it is after a cold start (R377, R385): nothing seated, gates off, PERST asserted, ΔT 0. -/
def Bay.fresh : Bay :=
  ⟨false, false, true, 0, 0, 0, 0, 0, 0, 0, 0, ⟨0, 1⟩, ⟨0, 1⟩, none, false, false, false, 0, false, false⟩

namespace State

/-- Bay `nn`. -/
def bayAt (s : State) (nn : Nat) : Bay := s.bay.bays.getD nn Bay.fresh

/-- Change bay `nn`. -/
def setBay (s : State) (nn : Nat) (b : Bay) : State := { s with bay := { s.bay with bays := s.bay.bays.set nn b } }

/-- Change bay `nn` by a function. -/
def modBay (s : State) (nn : Nat) (f : Bay → Bay) : State := s.setBay nn (f (s.bayAt nn))

/-- BAY_PSTAT.STATE. -/
def bayState (s : State) (nn : Nat) : Nat := s.rd F.BAY_PSTAT_STATE nn

/-- Move a bay to a state. The five seconds after a press end with ON (R392). -/
def toBay (s : State) (nn st : Nat) : State :=
  let s1 := s.wr F.BAY_PSTAT_STATE st nn
  if st = bOn then s1 else s1.modBay nn fun b => { b with buttonBlink := false }

/-- The unit number of a bay (R477). -/
abbrev bayUnit (nn : Nat) : Nat := 0x4000 + nn

/-- Raise event `k` of a bay (R396). -/
def bayEvent (s : State) (nn k : Nat) : State := s.raise (512 + 8 * nn + k) (bayUnit nn)

/-- Raise event `k` of a bay where its Slot Control enable and HPIE are set (R388, R396). -/
def bayEventIf (s : State) (nn k : Nat) (enable : Field) : State :=
  if s.is enable nn && s.is F.BAY_SLTCTL_HPIE nn then s.bayEvent nn k else s

/-- This NP32 is the gate owner (R372). -/
def gateOwner (s : State) : Bool := s.is F.BAY_PSTAT_OWNER 0

/-- A feed is good while it lies between BAY_FEED.UV and 14.0 V (R387); voltages are in units of 10 mV. -/
def feedGood (s : State) (v : Nat) : Bool := s.ef F.BAY_FEED_UV * 10 ≤ v && v ≤ 1400

/-- Take a measurement of the two feeds (R387, BAY_FEED_STAT). -/
def measureFeeds (s : State) (a b : Nat) : State :=
  let bit (x : Bool) : Nat := if x then 1 else 0
  (((s.wr F.BAY_FEED_STAT_A_V (min a 32767)).wr F.BAY_FEED_STAT_B_V (min b 32767)).wr
    F.BAY_FEED_STAT_A_GOOD (bit (s.feedGood a))).wr F.BAY_FEED_STAT_B_GOOD (bit (s.feedGood b))

/-- Feed `f` (0 FEEDA, 1 FEEDB) is good as last measured. -/
def goodNow (s : State) (f : Nat) : Bool := if f = 0 then s.is F.BAY_FEED_STAT_A_GOOD else s.is F.BAY_FEED_STAT_B_GOOD

/-- Voltage of feed `f` as last measured, in units of 10 mV. -/
def feedVolts (s : State) (f : Nat) : Nat := if f = 0 then s.rd F.BAY_FEED_STAT_A_V else s.rd F.BAY_FEED_STAT_B_V

/-- The feed that a bay takes when it is turned on: its priority feed, or the other one, if good (R387). -/
def feedFor (s : State) (nn : Nat) : Option Nat :=
  let p := s.ef F.BAY_PCFG_PRIO nn
  if s.goodNow p then some p else if s.goodNow (1 - p) then some (1 - p) else none

/-- The temperature of FET `f` of a bay, at least `t` °C: by the diode where it is selected and valid, else by the
model (R385, R386). -/
def fetAtLeast (s : State) (nn f t : Nat) : Bool :=
  let b := s.bayAt nn
  let model :=
    let d := if f = 0 then b.dtA else b.dtB
    let amb := s.ef F.BAY_THM_TAMB
    decide (t * d.den ≤ amb * d.den + d.num)
  if s.ef F.BAY_PCFG_TSRC nn = 1 && !s.is F.BAY_THERM_DIODE_BAD nn then
    match b.diode with
    | some c => decide ((t : Int) ≤ c)
    | none => model
  else model

/-- Assert or release BAYnn_PERST_N; a drive in reset is not ready. -/
def setPerst (s : State) (nn : Nat) (v : Bool) : State :=
  s.modBay nn fun b => { b with perst := v, ready := b.ready && !v, trains := if v then 0 else b.trains }

/-- The link of a bay is up. -/
def bayUp (s : State) (nn : Nat) : Bool := s.is F.BAY_LINKST_DLLLA nn

/-- The link of a bay goes down: its status, DLLSC and its event (R375, R376, R396). It trains again at the next release of PERST, or when a forced
gate is cleared. -/
def dropLink (s : State) (nn : Nat) : State :=
  if s.bayUp nn then
    ((((((s.wr F.BAY_LINKST_DLLLA 0 nn).wr F.BAY_LINKST_WIDTH 0 nn).wr F.BAY_LINKST_SPEED 0 nn).wr
      F.BAY_SLTCTL_DLLSC 1 nn).modBay nn fun b => { b with ready := false, trains := 0 })).bayEventIf nn 5 F.BAY_SLTCTL_DLLSCE
  else s

/-- PERST is asserted, and a link that was up goes down with it (R380). -/
def holdReset (s : State) (nn : Nat) : State := (s.setPerst nn true).dropLink nn

/-- Turn the gates of a bay on or off. -/
def setGate (s : State) (nn : Nat) (v : Bool) : State := s.modBay nn fun b => { b with gate := v }

/-- The fault timer of a bay is running. -/
def timerRuns (s : State) (nn : Nat) : Bool := s.is F.BAY_PSTAT_TIMER nn

/-- The fault timer stops and clears; its run counts toward the on-time (R381, R383). -/
def stopTimer (s : State) (nn : Nat) : State :=
  if s.timerRuns nn then
    (s.wr F.BAY_PSTAT_TIMER 0 nn).modBay nn fun b => { b with timerTime := b.timerTime + (s.now - b.timerAt) }
  else s

/-- Power-good is withdrawn, and PERST asserted at once (R379, R380). -/
def withdraw (s : State) (nn : Nat) : State :=
  if s.is F.BAY_PSTAT_PG nn then ((s.wr F.BAY_PSTAT_PG 0 nn).modBay nn fun b => { b with kept := false }).holdReset nn else s

/-- The on-time of the attempt that trips, in ns (R383). -/
def onTime (s : State) (nn : Nat) : Nat :=
  let b := s.bayAt nn
  let ramp := if s.bayState nn = bRamp then s.now - b.rampAt else b.rampTime
  ramp + b.timerTime + (if s.timerRuns nn then s.now - b.timerAt else 0)

/-- The retry period in ns (R383). -/
def retryPeriod (on : Nat) : Nat := max 2000000000 (100 * on)

/-- A trip (R382, R383, R386): gates off, power-good withdrawn, PERST asserted, PFD and the cause recorded, and the bay
in RETRY_WAIT or LATCHED. An NP32 that does not own the gates keeps showing STANDBY (R389). -/
def trip (s : State) (nn cause : Nat) : State :=
  let on := s.onTime nn
  let inChange := s.bayState nn = bChangeover
  let owner := s.bayState nn ≠ bStandby
  let s1 := ((s.stopTimer nn).setGate nn false).withdraw nn
  let s2 := (s1.wr F.BAY_SLTCTL_PFD 1 nn).wr F.BAY_PSTAT_LAST cause nn
  let s3 := s2.bayEventIf nn 1 F.BAY_SLTCTL_PFDE
  let s4 := if cause = 3 then s3.bayEvent nn 6 else s3
  if !owner then s4
  else
    let s5 := (s4.bump F.BAY_PSTAT_RETRY 1 nn).modBay nn fun b => { b with stopWanted := false }
    let s6 := if inChange then s5.wr F.BAY_PSTAT_FEED (s5.ef F.BAY_PCFG_PRIO nn) nn else s5
    let limit := s6.ef F.BAY_RETRY_MAX
    if limit ≠ 15 && limit < s4.rd F.BAY_PSTAT_RETRY nn + 1 then
      (s6.toBay nn bLatched).bayEvent nn 2
    else (s6.modBay nn fun b => { b with retryEnd := s.now + retryPeriod on }).toBay nn bRetry

/-- Everything that ends with the power of a bay, whatever ends it: gates off, fault timer and power-good gone, PERST
asserted. -/
def cutPower (s : State) (nn : Nat) : State :=
  (((s.stopTimer nn).setGate nn false).withdraw nn).modBay nn fun b => { b with stopWanted := false }

/-- The bay goes OFF (R390). -/
def bayOff (s : State) (nn : Nat) : State := (s.cutPower nn).toBay nn bOff

/-- A write of PCC to 0 acts in OFF or LATCHED (R378, R383, R390). -/
def powerOn (s : State) (nn : Nat) : State :=
  let s1 := s.wr F.BAY_SLTCTL_PCC 0 nn
  if s1.bayState nn = bOff then s1.toBay nn bCooling
  else if s1.bayState nn = bLatched then (s1.wr F.BAY_PSTAT_RETRY 0 nn).toBay nn bCooling
  else s1

/-- The power cycle of ladder step 5 (R393). It fails on a bay that is LATCHED or OFF (R395): the second component. -/
def powerCycle (s : State) (nn : Nat) : State × Bool :=
  if s.bayState nn = bLatched || s.bayState nn = bOff || s.bayState nn = bEmpty || s.bayState nn = bSeating then (s, false)
  else if s.bayState nn = bStandby then (s, false)
  else (((s.cutPower nn).holdReset nn).toBay nn bCycle, true)

/-- The heat of one FET over one step of 10 µs (R385): `p` is the dissipation in units of 10 nW. -/
def fetStep (rth cth p : Nat) (d : Frac) : Frac :=
  let k := 10 * rth * cth
  Frac.mk' (d.num * (k - 1) * (10000000000 * cth) + p * (d.den * k)) (d.den * k * (10000000000 * cth))

/-- The GATE output of the feed in use is driven on: EXTEST holds every GATE output off (R529). -/
def gateDriven (s : State) (nn : Nat) : Bool := (s.bayAt nn).gate && s.jtag != Jtag.extest

/-- The dissipation of the FET in use of a bay, in units of 10 nW (R385): I² × RDS fully on with an idle fault timer,
(feed voltage − bay voltage) × I in RAMP or under a running fault timer, 0 while off. -/
def fetPower (s : State) (nn : Nat) : Nat :=
  let i := s.rd F.BAY_MEAS_CURRENT nn
  let on := s.gateDriven nn || (s.bayState nn = bStandby && s.is F.BAY_PSTAT_PG nn)
  if !on then 0
  else if s.bayState nn = bRamp || s.timerRuns nn then
    (s.feedVolts (s.rd F.BAY_PSTAT_FEED nn) - s.rd F.BAY_MEAS_VBAY nn) * i * 10000
  else i * i * s.ef F.BAY_THM_RDS

/-- A temperature in whole °C as BAY_THERM shows it. -/
def thermShown (amb : Nat) (d : Frac) : Nat := min 255 (amb + d.num / d.den)

/-- BAY_THERM shows the readings in use of both FETs (R385, R386). -/
def showTherm (s : State) (nn : Nat) : State :=
  let b := s.bayAt nn
  let amb := s.ef F.BAY_THM_TAMB
  let byDiode := s.ef F.BAY_PCFG_TSRC nn = 1 && !s.is F.BAY_THERM_DIODE_BAD nn
  match byDiode, b.diode with
  | true, some c => (s.wr F.BAY_THERM_TA (min 255 c.toNat) nn).wr F.BAY_THERM_TB (min 255 c.toNat) nn
  | _, _ => (s.wr F.BAY_THERM_TA (thermShown amb b.dtA) nn).wr F.BAY_THERM_TB (thermShown amb b.dtB) nn

/-- One step of both FET models of a bay (R385). -/
def fetModel (s : State) (nn : Nat) : State :=
  let rth := s.ef F.BAY_THM_RTH
  let cth := s.ef F.BAY_THM_CTH
  let p := s.fetPower nn
  let f := s.rd F.BAY_PSTAT_FEED nn
  (s.modBay nn fun b => { b with
    dtA := fetStep rth cth (if f = 0 then p else 0) b.dtA
    dtB := fetStep rth cth (if f = 1 then p else 0) b.dtB }).showTherm nn

/-- The FET in use reads TRIP_C or more while it carries current (R382). An NP32 that is not the gate owner judges it too (R389). -/
def fetTooHot (s : State) (nn : Nat) : Bool :=
  (s.gateDriven nn || (s.bayState nn == bStandby && s.is F.BAY_PSTAT_PG nn)) && s.fetAtLeast nn (s.rd F.BAY_PSTAT_FEED nn) (s.ef F.BAY_RETRY_TRIP_C)

/-- This NP32 becomes the gate owner (R389): a bay whose power-good it asserts is ON without a break, a seated bay that
may be powered enters COOLING with no retry counted, any other bay enters OFF. -/
def ownBay (s : State) (nn : Nat) : State :=
  let s1 := s.wr F.BAY_PSTAT_OWNER 1 nn
  if s1.is F.BAY_PSTAT_PG nn then (s1.setGate nn true).toBay nn bOn
  else if (s1.bayAt nn).seated && s1.ef F.BAY_PCFG_EN nn = 1 && s1.rd F.BAY_SLTCTL_PCC nn = 0 then
    (s1.wr F.BAY_PSTAT_RETRY 0 nn).toBay nn bCooling
  else s1.toBay nn bOff

/-- Become the gate owner of every bay (R372, R389). -/
def becomeOwner (s : State) : State :=
  if s.gateOwner then s
  else
    let s1 := (List.range 32).foldl (fun t nn => t.ownBay nn) s
    { s1 with bay := { s1.bay with released := true, releasing := false } }

/-- Stop driving the gates of every bay: STANDBY (R378). -/
def loseOwner (s : State) : State :=
  let s1 := (List.range 32).foldl (fun t nn => ((t.wr F.BAY_PSTAT_OWNER 0 nn).setGate nn false).toBay nn bStandby) s
  { s1 with bay := { s1.bay with releasing := false } }

/-- Who drives the gates once the straps have been sampled (R22, R372). Bays that this NP32 already runs go on. -/
def settleOwner (s : State) : State :=
  if s.is F.SYS_STRAP_BAY_MASTER then
    (List.range 32).foldl (fun t nn =>
      let t1 := t.wr F.BAY_PSTAT_OWNER 1 nn
      if t1.bayState nn = bStandby then t1.toBay nn (if (t1.bayAt nn).seated then bCooling else bEmpty) else t1) s
  else s.loseOwner

/-- A change of a bay's verdict is reported (R377). -/
def reportPresence (s : State) (nn : Nat) : State :=
  let s1 := (s.wr F.BAY_SLTCTL_PDS (if (s.bayAt nn).seated then 1 else 0) nn).wr F.BAY_SLTCTL_PDC 1 nn
  s1.bayEventIf nn 0 F.BAY_SLTCTL_PDCE

/-- Step 8 of the cold start for the bays (R68, R372, R377, R388): waiting changes are reported, start slots are given
in bay order, GROUP bays to each 10 ms, and drives whose power-good held through a reset leave it. -/
def startBays (s : State) : State :=
  let s0 := { s with bay := { s.bay with defer := false } }
  let s1 := (List.range 32).foldl (fun t nn =>
    if (t.bayAt nn).seated == t.is F.BAY_SLTCTL_PDS nn then t else t.reportPresence nn) s0
  let s2 := if s1.bay.released then s1
    else
      let waiting := (List.range 32).filter fun nn => s1.bayState nn = bCooling
      let t := waiting.zipIdx.foldl (fun t e => t.modBay e.1 fun b => { b with slot := e.2 / t.ef F.BAY_PWR_GROUP }) s1
      { t with bay := { t.bay with released := true } }
  (List.range 32).foldl (fun t nn =>
    if t.is F.BAY_PSTAT_PG nn && (t.bayAt nn).kept then
      (t.setPerst nn false).modBay nn fun b => { b with trains := 1, kept := false }
    else t) s2

end State

end Sys2Proof.Machine
end

