-- ==== Sys2Proof/Machine/Cipher.lean ====
section
/-!
DEFINITION. The inline cipher (spec/10_inline_cipher.md): key slots, unwrapping, media encryption with its tweaks, and the
check of the envelope of a packet. AES itself is a published algorithm and stands as an opaque constant.
-/

namespace Sys2Proof.Machine

/-- Kinds of `Config.cryptoValue`: XTS encryption, XTS decryption, CRC-32C, the 64-bit CRC of protection information. -/
abbrev ckXtsEnc := 1
abbrev ckXtsDec := 2
abbrev ckCrc32 := 3
abbrev ckCrc64 := 4

/-- The tweak of a data unit: unit number in [47:0], volume in [59:48] (R317). -/
def tweak (vol unitNo : Nat) : Nat := unitNo % 2 ^ 48 + vol % 4096 * 2 ^ 48

/-- Unit number of a sector of an ordinary volume, of stored sector `k` of a grain, and of a padding sector (R317). -/
def unitOfLba (lba : Nat) : Nat := lba
def unitOfGrain (g k : Nat) : Nat := 4 * g + k
def unitOfPadding (sector : Nat) : Nat := 2 ^ 48 - 1 - sector

/-- Bytes of the data unit of a block: 4,112 with its metadata in a namespace with FMT = 1, else 4,096 (R316). -/
def unitBytes (fmt : Nat) : Nat := if fmt = 1 then 4112 else 4096

/-- The 64-bit CRC of NVMe protection information over a value of `len` bytes. -/
def crc64 (len v : Nat) : Nat := Config.cryptoValue ckCrc64 len 0 v % 2 ^ 64

/-- CRC-32C over a value of `len` bytes. -/
def crc32c (len v : Nat) : Nat := Config.cryptoValue ckCrc32 len 0 v % 2 ^ 32

/-- XTS encryption and decryption of one data unit of `len` bytes under key material. -/
def xtsEncrypt (key tw len v : Nat) : Nat := Config.cryptoValue ckXtsEnc key (tw + 2 ^ 128 * len) v % 256 ^ len
def xtsDecrypt (key tw len v : Nat) : Nat := Config.cryptoValue ckXtsDec key (tw + 2 ^ 128 * len) v % 256 ^ len

namespace State

/-- State of a key slot: 0 empty, 1 wrapped, 2 ready, 3 failed (CIP_SLOT_n). -/
def slotState (s : State) (k : Nat) : Nat := s.rd F.CIP_SLOT_STATE k

/-- Unit of a key slot in events (R477): one index stands for all of them. -/
def keyUnit (_k : Nat) : Nat := 0x6100

/-- Key material of a ready slot. -/
def keyOf (s : State) (k : Nat) : Nat := (s.cip.material.lookup k).getD 0

/-- Encrypt and decrypt one data unit of `len` bytes under a slot (R316, R338): none where no XTS pipeline is in service. -/
def xtsSeal (s : State) (slot tw len v : Nat) : State × Option Nat :=
  match s.cipherRun .xts with
  | (t, true) => (t, some (xtsEncrypt (s.keyOf slot) tw len v))
  | (t, false) => (t, none)
def xtsOpen (s : State) (slot tw len v : Nat) : State × Option Nat :=
  match s.cipherRun .xts with
  | (t, true) => (t, some (xtsDecrypt (s.keyOf slot) tw len v))
  | (t, false) => (t, none)

/-- A slot is in use while a configured volume names it, a command context holds it, or CIP_FEDKEY_n names it with EN
set (R331). -/
def slotInUse (s : State) (k : Nat) : Bool :=
  s.crw.vols.any (·.slot == k) || s.nvt.cmds.any (fun c => c.ctx && c.enc == some k) ||
    (List.range 256).any fun n => s.ef F.CIP_FEDKEY_EN n == 1 && s.ef F.CIP_FEDKEY_SLOT n == k

/-- Whether an unwrap of a slot runs. -/
def unwrapping (s : State) (k : Nat) : Bool := s.cip.unwraps.any (·.1 == k)

/-- Bytes [off, off + n) of a wrapped key. -/
def wrappedBytes (w off n : Nat) : Nat := w / 256 ^ off % 256 ^ n

/-- Begin the unwrap of a wrapped slot, once (R333, R341): in host-assisted mode as an item that carries the wrapped key
(R335), else in the cipher. -/
def beginUnwrap (s : State) (k : Nat) : State :=
  if s.unwrapping k then s
  else
    let w := (s.cip.wrapped.lookup k).getD 0
    let (s1, handed) := if s.assisted 7 then s.handOver 7 k 0 [k] [w] 112 (s.itemPoint none) else (s, false)
    { s1 with cip := { s1.cip with unwraps := s1.cip.unwraps ++ [(k, if handed then some (s1.wrg.nextItem - 1) else none)] } }

/-- What a use of a slot finds. -/
inductive KeyUse where
  | ready | waiting | unusable
deriving DecidableEq, Repr

/-- Use an XTS slot (R333, R336, R339): a wrapped slot is unwrapped first. -/
def useXts (s : State) (k : Nat) : State × KeyUse :=
  if s.rd F.CIP_SLOT_TYPE k ≠ 1 || s.rd F.CIP_UNITS_XTS = 0 then (s, .unusable)
  else match s.slotState k with
    | 2 => (s, .ready)
    | 1 => (s.beginUnwrap k, .waiting)
    | _ => (s, .unusable)

/-- A slot may carry packets of a process tag (R324). -/
def boundTo (s : State) (k ptag : Nat) : Bool :=
  s.rd F.CIP_SLOT_TYPE k == 2 && (s.is F.CIP_SLOT_ANYPTAG k || s.rd F.CIP_SLOT_PTAG k == ptag)

/-- A packet dropped because its tag fails (R327): no NAK, nothing of it is used. -/
def failTag (s : State) : State := (s.bump F.CIP_ERR_TAG).raiseOnce 464 0 0x0000

/-- The check of a packet's payload encryption, before R106 (R319 to R327): whether it goes on, is dropped, or waits for
the unwrap of its slot. `want` is the slot that an FDATA packet must use (R325): none for any other packet. -/
def checkEnvelope (s : State) (h : SkHdr) (want : Option (Option Nat)) : State × KeyUse :=
  if h.payLen = 0 then (s, .ready)
  else match h.enc with
    | none =>
      if want.getD none ≠ none then (s.failTag, .unusable)
      else if h.ptag ≠ 0xFFFF && s.ef F.CIP_CFG_REQUIRE = 1 then
        ((s.bump F.CIP_ERR_TAG).raiseOnce 470 0 0x0000, .unusable)
      else (s, .ready)
    | some e =>
      let wrongSlot := match want with | some w => w ≠ some e.slot | none => false
      if wrongSlot || 8192 ≤ e.slot || !s.is F.CIP_NONCE_VALID || s.rd F.CIP_UNITS_GCM = 0 || !s.boundTo e.slot h.ptag ||
          e.nonceTop != (h.ptag == 0xFFFF) then (s.failTag, .unusable)
      else match s.slotState e.slot with
        | 2 => match s.cipherRun .gcm with
          | (t, true) => if e.tagOk then (t, .ready) else (t.failTag, .unusable)
          | (t, false) => (t.failTag, .unusable)
        | 1 => (s.beginUnwrap e.slot, .waiting)
        | _ => (s.failTag, .unusable)

/-- The wrapped key in CIP_KLOAD_DATA, bytes 0 to 111 as one little-endian number. -/
def kloadData (s : State) : Nat :=
  (List.range 28).foldr (fun w n => s.rd F.CIP_KLOAD_DATA_DATA w + 2 ^ 32 * n) 0

/-- A key operation ends with a result (CIP_KLOAD_STAT). -/
def kloadEnd (s : State) (slot result : Nat) : State :=
  ((s.wr F.CIP_KLOAD_STAT_SLOT slot).wr F.CIP_KLOAD_STAT_RESULT result).wr F.CIP_KLOAD_STAT_BUSY 0

/-- Forget what a slot holds. -/
def dropKey (s : State) (k : Nat) : State :=
  { s with cip := { s.cip with
    wrapped := s.cip.wrapped.filter (·.1 != k)
    material := s.cip.material.filter (·.1 != k)
    counters := s.cip.counters.filter (·.1 != k) } }

/-- LOAD (R331): the wrapped key is checked and stored, and the slot becomes wrapped. -/
def kload (s : State) (k : Nat) : State :=
  if s.slotInUse k then s.kloadEnd k 0x01
  else
    let w := s.kloadData
    let typ := wrappedBytes w 1 1
    if wrappedBytes w 0 1 ≠ 1 || typ = 0 || 2 < typ || wrappedBytes w 2 2 ≠ k then s.kloadEnd k 0x02
    else
      let s1 := s.dropKey k
      let s2 := { s1 with cip := { s1.cip with wrapped := s1.cip.wrapped ++ [(k, w)] } }
      let s3 := ((s2.wr F.CIP_SLOT_STATE 1 k).wr F.CIP_SLOT_TYPE typ k).wr F.CIP_SLOT_KEKID (wrappedBytes w 7 1 % 4) k
      ((s3.wr F.CIP_SLOT_ANYPTAG (if typ = 2 then wrappedBytes w 6 1 % 2 else 0) k).wr F.CIP_SLOT_PTAG
        (if typ = 2 then wrappedBytes w 4 2 else 0) k).kloadEnd k 0x00

/-- CLEAR (R331): the slot becomes empty. -/
def kclear (s : State) (k : Nat) : State :=
  if s.slotInUse k then s.kloadEnd k 0x01
  else
    let s1 := ((s.dropKey k).wr F.CIP_SLOT_STATE 0 k).wr F.CIP_SLOT_TYPE 0 k
    (((s1.wr F.CIP_SLOT_KEKID 0 k).wr F.CIP_SLOT_ANYPTAG 0 k).wr F.CIP_SLOT_PTAG 0 k).kloadEnd k 0x00

/-- PREPARE (R331, R333, R335). In host-assisted mode it does not wait on its item. The spec states no result for an empty
slot, and none for a PREPARE whose item is still open: that result is a free value. -/
def kprepare (s : State) (k : Nat) : State :=
  match s.slotState k with
  | 2 => s.kloadEnd k 0x00
  | 3 => s.kloadEnd k 0x04
  | 1 =>
    let s1 := s.beginUnwrap k
    if s1.cip.unwraps.any (fun u => u.1 == k && u.2.isSome) then s1.tick.kloadEnd k s1.fresh
    else (({ s1 with cip := { s1.cip with preparing := some k } }).wr F.CIP_KLOAD_STAT_BUSY 1).wr F.CIP_KLOAD_STAT_SLOT k
  | _ => s.tick.kloadEnd k s.fresh

/-- A write of CIP_KLOAD_CMD (R331): ignored without its key, with OP 0, and while an operation runs. -/
def kloadCmd (s : State) (value : Nat) : State :=
  let k := value % 8192
  if value / 65536 % 65536 ≠ 0x6C39 || s.is F.CIP_KLOAD_STAT_BUSY then s
  else match value / 16384 % 4 with
    | 1 => s.kload k
    | 2 => s.kclear k
    | 3 => s.kprepare k
    | _ => s

/-- An unwrap ends (R333, R335). `keyPresent`, `tagOk` and `material` are what the cipher, or the host's answer, gives: an
absent key encryption key leaves the slot wrapped, any other failure makes it failed. -/
def endUnwrap (s : State) (k : Nat) (keyPresent tagOk : Bool) (material : Nat) : State :=
  if !s.unwrapping k then s
  else
    let s0 := { s with cip := { s.cip with unwraps := s.cip.unwraps.filter fun u => u.1 != k } }.countOpen 0x380 6 (keyUnit k)
    let sameHalves := s.rd F.CIP_SLOT_TYPE k == 1 && material % 2 ^ 256 == material / 2 ^ 256 % 2 ^ 256
    let result := if !keyPresent then 0x05 else if !tagOk || sameHalves then 0x04 else 0x00
    let s1 := match result with
      | 0x00 =>
        let rest := s0.cip.material.filter fun (e : Nat × Nat) => e.1 != k
        { s0 with cip := { s0.cip with material := rest ++ [(k, material % 2 ^ 512)] } }.wr F.CIP_SLOT_STATE 2 k
      | 0x05 => s0.raise 467 (keyUnit k)
      | _ => (s0.wr F.CIP_SLOT_STATE 3 k).raise 467 (keyUnit k)
    if s1.cip.preparing = some k then
      ({ s1 with cip := { s1.cip with preparing := none } }).kloadEnd k result
    else s1

/-- CIP_KEK_STAT.LOADED follows the keys held. -/
def syncKek (s : State) : State :=
  s.wr F.CIP_KEK_STAT_LOADED (([0, 1, 2, 3].filter fun k => s.cox.keks.any (·.1 == k)).foldl (fun w k => w + 2 ^ k) 0)

/-- A KEK_CLEAR is carried out: the key is removed, EV0907 is raised and the command answered (R460). -/
def kekCleared (s : State) (kekid : Nat) : State :=
  (({ s with cox := { s.cox with
    keks := s.cox.keks.filter (·.1 != kekid), kekClears := dropFrom s.cox.kekClears kekid } }).syncKek.vendor vOk).raise 907 0x0000

/-- An unwrap runs in the cipher under a key encryption key (R333, R474). -/
def kekRuns (s : State) (kekid : Nat) : Bool :=
  s.cip.unwraps.any fun u => u.2.isNone && s.rd F.CIP_SLOT_KEKID u.1 == kekid

end State

end Sys2Proof.Machine
end

