-- ==== Sys2Proof/Machine/Parity.lean ====
section
/-!
DEFINITION. P and Q (R216) and the recovery of missing chunks (R217) over sectors. A sector's content is one
little-endian number; exclusive OR and multiplication in GF(2^8) act on each of its bytes.
-/

namespace Sys2Proof.Machine

/-- Bytes of a sector that P and Q cover, its metadata included (R206). -/
abbrev sectorBytes := 4112

/-- A number whose every byte of a sector is 1. -/
def ones : Nat := (256 ^ sectorBytes - 1) / 255

/-- Multiplication of every byte by g = 2: a left shift by one bit, and 0x1D where the bit shifted out was 1 (R216). -/
def mulG (v : Nat) : Nat := ((v &&& (0x7F * ones)) <<< 1) ^^^ (((v >>> 7) &&& ones) * 0x1D)

/-- Multiplication of every byte by g^e. -/
def mulGPow : Nat → Nat → Nat
  | 0, v => v
  | e + 1, v => mulGPow e (mulG v)

/-- Multiplication of every byte by a constant of the field, given by its bits from bit 0 on. -/
def mulConst (c v : Nat) : Nat :=
  (List.range 8).foldl (fun a b => if c.testBit b then a ^^^ mulGPow b v else a) 0

/-- Multiplication of two field elements. -/
def gmul (a b : Nat) : Nat := mulConst a b % 256

/-- g^e as a field element. -/
def gexp (e : Nat) : Nat := mulGPow (e % 255) 1 % 256

/-- a^n by squaring, for n below 2^k. -/
def gpow (a n : Nat) : Nat → Nat
  | 0 => 1
  | k + 1 => gmul (if n % 2 = 1 then a else 1) (gpow (gmul a a) (n / 2) k)

/-- The inverse of a field element other than 0: its 254th power. -/
def ginv (a : Nat) : Nat := gpow a 254 8

/-- P over data sectors by chunk index. -/
def parityP (ds : List (Nat × Nat)) : Nat := ds.foldl (fun a d => a ^^^ d.2) 0

/-- Q over data sectors by chunk index (R216). -/
def parityQ (ds : List (Nat × Nat)) : Nat := ds.foldl (fun a d => a ^^^ mulGPow d.1 d.2) 0

/-- One missing data chunk `x`, from P (R217). -/
def recoverWithP (ds : List (Nat × Nat)) (p : Nat) : Nat := p ^^^ parityP ds

/-- One missing data chunk `x`, from Q: (Q ⊕ Qx) / g^x (R217). -/
def recoverWithQ (ds : List (Nat × Nat)) (q x : Nat) : Nat := mulConst (ginv (gexp x)) (q ^^^ parityQ ds)

/-- Two missing data chunks `x` and `y`, from P and Q (R217). -/
def recoverTwo (ds : List (Nat × Nat)) (p q x y : Nat) : Nat × Nat :=
  let pp := p ^^^ parityP ds
  let qq := q ^^^ parityQ ds
  let dx := mulConst (ginv (gexp x ^^^ gexp y)) (qq ^^^ mulGPow y pp)
  (dx, pp ^^^ dx)

/-- What a seat holds in a row (R208). -/
inductive Role where
  | data (d : Nat)
  | p
  | q
deriving DecidableEq, Repr

/-- Seat of P in a row of a crew with `n` seats (R208). -/
def pSeat (n row : Nat) : Nat := n - 1 - row % n

/-- Seat of Q. -/
def qSeat (n row : Nat) : Nat := (pSeat n row + 1) % n

/-- Seat of data chunk `d`. -/
def dataSeat (n row d : Nat) : Nat := (pSeat n row + 2 + d) % n

/-- The role of a seat in a row. -/
def roleOf (n row seat : Nat) : Role :=
  let k := (seat + n - pSeat n row) % n
  if k = 0 then .p else if k = 1 then .q else .data (k - 2)

/-- Recover every sector of a row at one offset from those that are there, by seat (R217). None where more than two are
missing. -/
def recoverRow (n row : Nat) (have_ : List (Nat × Nat)) : Option (List (Nat × Nat)) :=
  let k := n - 2
  let datas := (List.range k).filterMap fun d => (have_.lookup (dataSeat n row d)).map fun v => (d, v)
  let lost := (List.range k).filter fun d => (have_.lookup (dataSeat n row d)).isNone
  let p := have_.lookup (pSeat n row)
  let q := have_.lookup (qSeat n row)
  let full : Option (List (Nat × Nat)) := match lost, p, q with
    | [], _, _ => some datas
    | [x], some pv, _ => some (datas ++ [(x, recoverWithP datas pv)])
    | [x], none, some qv => some (datas ++ [(x, recoverWithQ datas qv x)])
    | [x, y], some pv, some qv =>
      let r := recoverTwo datas pv qv x y
      some (datas ++ [(x, r.1), (y, r.2)])
    | _, _, _ => none
  full.map fun ds =>
    ds.map (fun d => (dataSeat n row d.1, d.2)) ++ [(pSeat n row, p.getD (parityP ds)), (qSeat n row, q.getD (parityQ ds))]

end Sys2Proof.Machine
end

