-- ==== Sys2Proof/Machine/CrewBase.lean ====
section
/-!
DEFINITION. Crews, their seats and their geometry (R204 to R209), and what their registers show
(spec/07_crews_and_parity.md, spec/08_degradation_rebuild_takeover.md).
-/

namespace Sys2Proof.Machine

/-- Out of service: failed, rebuilding or absent (R250). -/
def Seat.out (x : Seat) : Bool := x.st == 4 || x.st == 5 || x.st == 6

/-- The rebuild of a rebuilding seat has passed a row (R250, R266). -/
def Seat.passed (x : Seat) (row : Nat) : Bool := !x.plan.any fun r => r.1 ≤ row && row < r.2

/-- At easy or in recovery. -/
def Seat.resting (x : Seat) : Bool := x.st == 1 || x.st == 2

/-- A seat that may hold journal or intent blocks (R234, R250). -/
def Seat.journals (x : Seat) : Bool := x.st == 0 || x.st == 3

/-- A seat as assembly finds or makes it, with a bay. -/
def Seat.fresh (bay : Option Nat) (st : Nat) : Seat :=
  ⟨bay, st, none, [], 0, [], [], none, none, false, none, none, none, none, false, [], 0, 0, 0⟩

/-- A crew with more than two seats out of service has stopped (R252). -/
def Crew.stopped (c : Crew) : Bool := decide (2 < (c.seats.filter (·.out)).length)

/-- Every seat is in service and none at easy: the stripe path may be used (R222). -/
def Crew.healthy (c : Crew) : Bool := c.seats.all fun x => x.st == 0 || x.st == 3

/-- An empty segment of a heat. -/
def Segment.empty (start heat : Nat) (j i : List Nat) : Segment := ⟨start, heat, j, i, [], [], 1, false, false, false⟩

namespace State

/-- An assembled crew. -/
def crewOf (s : State) (n : Nat) : Option Crew := s.crw.crews.lookup n

/-- Unit of a crew in events (R477). -/
def crewUnit (n : Nat) : Nat := 0x3000 + n

/-- A seat event names the bay of the seat; the index of a seat without a bay is open (R477). -/
def seatEvent (s : State) (ev n i : Nat) : State :=
  match (s.crewOf n).bind fun c => (c.seats[i]?).bind (·.bay) with
  | some b => s.raise ev (0x4000 + b)
  | none => s.tick.raise ev (0x4000 + s.fresh % 32)

/-- A seat event limited to once per heat. -/
def seatOnce (s : State) (ev key n i : Nat) : State :=
  match (s.crewOf n).bind fun c => (c.seats[i]?).bind (·.bay) with
  | some b => s.raiseOnce ev key (0x4000 + b)
  | none => s.tick.raiseOnce ev key (0x4000 + s.fresh % 32)

/-- Data seats, seats, sectors of a chunk, data sectors of a row (R204, R205). -/
def kOf (s : State) (n : Nat) : Nat := s.rd F.CRW_CREW_K n
def nOf (s : State) (n : Nat) : Nat := s.kOf n + 2
def chunkOf (s : State) (n : Nat) : Nat := 4 * 2 ^ s.rd F.CRW_CREW_CHUNK n
def wOf (s : State) (n : Nat) : Nat := s.kOf n * s.chunkOf n

/-- A crew whose register entry configures it (CRW_CREW_n). -/
def configured (s : State) (n : Nat) : Bool :=
  s.is F.CRW_CREW_VALID n && decide (4 ≤ s.kOf n) && decide (s.kOf n ≤ 30) && s.rd F.CRW_CREW_CHUNK n != 7

/-- Rows of a crew whose smallest seat has `lbas` LBAs (R207). -/
def rowsFor (s : State) (n lbas : Nat) : Nat :=
  (lbas - 256 - s.ef F.CRW_CREW_JAREA n * 262144) / s.chunkOf n

/-- The bay byte of seat `i` as the registers name it. -/
def seatByte (s : State) (n i : Nat) : Nat := s.rd F.CRW_CREW_SEAT n (i / 4) / 256 ^ (i % 4) % 256

/-- Four seat bytes of a word of CRW_CREW_n. -/
def seatWord (c : Crew) (w : Nat) : Nat :=
  (List.range 4).foldr (fun j a => (match c.seats[4 * w + j]? with | some x => x.bay.getD 0x3F | none => 0x3F) + 256 * a) 0

/-- Eight seat states of a word of CRW_SEATST_n. -/
def stateWord (c : Crew) (w : Nat) : Nat :=
  (List.range 8).foldr (fun j a => (match c.seats[8 * w + j]? with | some x => x.st | none => 7) + 16 * a) 0

/-- Journal or intent seats as JSEAT and ISEAT show them. -/
def seatTriple (l : List Nat) : Nat := l.getD 0 0 + 256 * l.getD 1 0 + 65536 * l.getD 2 0

/-- The next row of the rebuild that runs (CRW_SEATST_n word 4). -/
def frontierOf (c : Crew) : Nat :=
  match (c.seats.filter fun x => x.st == 5 && x.running).flatMap (·.plan) with
  | [] => 0xFFFFFFFF
  | r :: _ => r.1

/-- Ranges in all torn tables (CRW_TORN). -/
def showTorn (s : State) : State :=
  s.wr F.CRW_TORN_COUNT (min 0x7FF (s.crw.crews.foldl (fun a c => a + c.2.torn.length) 0))

/-- Show a crew in its registers. -/
def showCrew (s : State) (n : Nat) (c : Crew) : State :=
  let s1 := (List.range 8).foldl (fun t w => t.wr F.CRW_CREW_SEAT (seatWord c w) n w) s
  let s2 := (List.range 4).foldl (fun t w => t.wr F.CRW_SEATST_STATE (stateWord c w) n w) s1
  let s3 := (s2.wr F.CRW_CREW_STATE (if c.seats.any (·.out) then 3 else 2) n).wr F.CRW_SEATST_FRONTIER (frontierOf c) n
  let s4 := (s3.wr F.CRW_CREW_JSEAT (seatTriple c.seg.jseats) n).wr F.CRW_CREW_ISEAT
    (seatTriple c.seg.iseats + if c.seg.iseats.length < 3 then 2 ^ 31 else 0) n
  s4.showTorn

/-- Store a crew and show it. -/
def setCrew (s : State) (n : Nat) (c : Crew) : State :=
  let low := s.crw.crews.filter fun e => decide (e.1 < n)
  let high := s.crw.crews.filter fun e => decide (n < e.1)
  { s with crw := { s.crw with crews := low ++ [(n, c)] ++ high } }.showCrew n c

/-- Change an assembled crew. -/
def modCrew (s : State) (n : Nat) (f : Crew → Crew) : State :=
  match s.crewOf n with
  | some c => s.setCrew n (f c)
  | none => s

/-- Change one seat. -/
def modSeat (s : State) (n i : Nat) (f : Seat → Seat) : State :=
  s.modCrew n fun c => match c.seats[i]? with
    | some x => { c with seats := c.seats.set i (f x) }
    | none => c

/-- One seat of an assembled crew. -/
def seatOf (s : State) (n i : Nat) : Option Seat := (s.crewOf n).bind fun c => c.seats[i]?

/-- The seat that a bay's drive takes, by crew and seat. -/
def seatInBay (s : State) (nn : Nat) : Option (Nat × Nat) :=
  s.crw.crews.findSome? fun e => (e.2.seats.findIdx? fun x => x.bay == some nn).map fun i => (e.1, i)

/-- A configured volume. -/
def volOf (s : State) (v : Nat) : Option Vol := s.crw.vols.find? (·.v == v)

/-- Store a changed volume. -/
def setVol (s : State) (x : Vol) : State :=
  { s with crw := { s.crw with vols := s.crw.vols.map fun y => if y.v = x.v then x else y } }

/-- Change a volume. -/
def modVol (s : State) (v : Nat) (f : Vol → Vol) : State :=
  match s.volOf v with
  | some x => s.setVol (f x)
  | none => s

/-- The namespace format of a volume (NVT_NS_n.FMT). -/
def fmtOf (s : State) (v : Nat) : Nat := s.rd F.NVT_NS_FMT v

/-- Row of a crew, data chunk and offset in the chunk of sector `l` of an ordinary volume (R209). -/
def placeOf (s : State) (x : Vol) (l : Nat) : Nat × Nat × Nat :=
  let w := s.wOf x.crew
  let c := s.chunkOf x.crew
  (x.base + l / w, l % w / c, l % w % c)

/-- Drive LBA of an offset in a row (R207, R209). -/
def lbaOf (s : State) (n row off : Nat) : Nat := 256 + row * s.chunkOf n + off

/-- The volume that has a row, and the volume's sector at a data chunk and offset (R209). -/
def volAtRow (s : State) (n row : Nat) : Option Vol :=
  s.crw.vols.find? fun x => x.crew == n && x.base ≤ row && row < x.base + x.rows
def sectorAt (s : State) (x : Vol) (row d off : Nat) : Nat :=
  (row - x.base) * s.wOf x.crew + d * s.chunkOf x.crew + off

/-- Rows of the map copies of a privileged volume, M of R226. -/
def mapRows (s : State) (x : Vol) : Nat :=
  let bytes := s.wOf x.crew * 4096
  2 * ((x.cap * 128 + bytes - 1) / bytes)

/-- Sectors of a stripe that hold grains, U of R223. -/
def uOf (s : State) (n : Nat) : Nat := s.wOf n - (s.wOf n + 511) / 512

/-- Row of a stripe of a privileged volume. -/
def stripeRow (s : State) (x : Vol) (stripe : Nat) : Nat := x.base + s.mapRows x + stripe

/-- The heat number as records carry it. -/
def startNo (s : State) : Nat := s.rd F.CIP_NONCE_START

end State

end Sys2Proof.Machine
end

