-- ==== Sys2Proof/Machine/Media.lean ====
section
/-!
DEFINITION. What the media of a crew hold, byte by byte: seat labels (R210), torn tables (R169, R243), journal records and blocks
(R235, R236, R238, R239) and headers of map copies (R228) of spec/07_crews_and_parity.md. Data stands as one little-endian number.
-/

namespace Sys2Proof.Machine

/-- A field of a page: offset, length, value. -/
def pageOf (fs : List (Nat × Nat × Nat)) : Nat := fs.foldl (fun a f => a + f.2.2 % 256 ^ f.2.1 * 256 ^ f.1) 0

/-- A torn or deferred entry in the 32 B layout of R169. -/
def entryBytes (e : TornEntry) : Nat :=
  pageOf [(0, 8, e.num), (8, 4, e.nsid), (12, 2, e.cause), (16, 8, e.slba), (24, 4, e.nlb), (28, 4, e.heat)]

/-- Blocks of one length joined, as into the compressor's input (R292). -/
def joinBlocks (len : Nat) (bs : List Nat) : Nat := bs.foldr (fun b a => b % 256 ^ len + 256 ^ len * a) 0

/-- Bytes of a journal block, and of its header (R235). -/
abbrev blockBytes := 65536
abbrev headBytes := 64

/-- MAGIC, ASCII "NLCW" and "NLJB" (R210, R235). -/
abbrev labelMagic := 0x57434C4E
abbrev blockMagic := 0x424A4C4E

/-- Bytes 0 to 79 of a seat label (R210). -/
def labelBody (l : Label) : Nat :=
  pageOf ([(0, 4, labelMagic), (4, 2, 1), (6, 1, l.crew), (7, 1, l.seat), (8, 16, l.print), (24, 8, l.gen), (32, 1, l.k), (33, 1, l.chunk),
    (34, 1, l.jarea), (36, 4, l.rows), (72, 8, l.smin)] ++ (List.range 32).map fun i => (40 + i, 1, l.states.getD i 0))

/-- The sector of a seat label (R210): its CRC follows bytes 0 to 79. -/
def labelSector (l : Label) : Nat := labelBody l + 256 ^ 80 * crc64 80 (labelBody l)

/-- The label in a sector, where MAGIC, FORMAT and CRC are right (R210, R211). -/
def readLabel (v : Nat) : Option Label :=
  let body := v % 256 ^ 80
  let at_ (off len : Nat) : Nat := body / 256 ^ off % 256 ^ len
  if at_ 0 4 = labelMagic && at_ 4 2 = 1 && v / 256 ^ 80 % 2 ^ 64 = crc64 80 body then
    some ⟨at_ 6 1, at_ 7 1, at_ 8 16, at_ 24 8, at_ 32 1, at_ 33 1, at_ 34 1, at_ 36 4, (List.range 32).map fun i => at_ (40 + i) 1, at_ 72 8⟩
  else none

/-- The label of a drive from its two copies (R211): one that fails its CRC is replaced by the other. Of two that check the one with the
higher GEN counts. DESIGN CHOICE (log entry 140). -/
def chooseLabel (a b : Nat) : Option Label :=
  match readLabel a, readLabel b with
  | some x, some y => some (if x.gen < y.gen then y else x)
  | some x, none => some x
  | none, y => y

/-- A torn table of up to 1,024 entries of 32 B (R243). -/
def tornTable (l : List Torn) : Nat :=
  l.foldr (fun t a => entryBytes ⟨t.num, t.vol + 1, t.cause, t.slba, t.nlb, t.heat⟩ + 256 ^ 32 * a) 0

/-- The header sector of a map copy (R228): pass, heat, CAP, and a CRC over these. -/
def mapHeader (pass heat cap : Nat) : Nat :=
  let body := pageOf [(0, 8, pass), (8, 8, heat), (16, 4, cap)]
  body + 256 ^ 20 * crc64 20 body

/-- Bytes of a record: a header of 32 B and its payload padded to 8 B (R236). -/
def JRec.bytes (r : JRec) : Nat := 32 + (r.len + 7) / 8 * 8

/-- The payload of a record: the entry of a TORN, else its parts, each of the same length. -/
def JRec.body (r : JRec) : Nat :=
  let p (i : Nat) : Nat := r.payload.getD i 0
  if r.kind = 8 then entryBytes ⟨p 0, p 1, p 2, p 3, p 4, p 5⟩ else joinBlocks (r.len / max 1 r.payload.length) r.payload

/-- A record as a journal block holds it (R236). -/
def JRec.content (r : JRec) : Nat :=
  pageOf [(0, 1, r.kind), (1, 1, (if r.last then 1 else 0) + if r.set then 2 else 0), (2, 2, r.vol), (4, 4, r.group), (8, 8, r.addr),
    (16, 8, r.aux), (24, 4, r.count), (28, 4, r.len)] + 256 ^ 32 * (r.body % 256 ^ r.len)

/-- Journal blocks, intent blocks and checkpoint blocks of a segment. -/
def Segment.ofKind (g : Segment) (kind : Nat) : List JBlock := g.blocks.filter (·.kind == kind)

/-- What a block holds after its header (R235, R238, R239): a part of the run of the segment's records, intent entries, or the fields of
a checkpoint, with the CHAIN of the last journal block. -/
def blockBody (g : Segment) (b : JBlock) (lastChain : Nat) : Nat :=
  let e (i : Nat) : Nat := b.entries.getD i 0
  match b.kind with
  | 0 =>
    let run := ((g.ofKind 0).flatMap (·.recs)).foldr (fun r a => r.content + 256 ^ r.bytes * a) 0
    let first := ((g.ofKind 0).filter fun d => decide (d.index < b.index)).foldl (fun n d => n + (d.used - headBytes)) 0
    run / 256 ^ first % 256 ^ (b.used - headBytes)
  | 2 => b.entries.foldr (fun x a => x + 2 ^ 64 * a) 0
  | _ => pageOf [(0, 8, e 0), (8, 4, e 1), (12, 4, e 2), (16, 8, lastChain), (24, 4, e 3), (28, 8, e 4)]

/-- KIND, START and HEAT in the header of a block of a segment: the clean mark of replay stands for another segment (R241). -/
def headKind (b : JBlock) : Nat := if b.kind = 3 then 1 else b.kind
def headSeg (g : Segment) (b : JBlock) : Nat × Nat := match b.other with | some o => (o.start, o.heat) | none => (g.start, g.heat)

/-- The 64 KiB of a block (R235), by crew number, crew fingerprint, CHAIN, RSEQ and the CHAIN that a checkpoint repeats. -/
def blockContent (n print : Nat) (g : Segment) (b : JBlock) (chain rseq lastChain : Nat) : Nat :=
  let seg := headSeg g b
  let count := if b.kind = 0 then b.recs.length else if b.kind = 2 then b.entries.length else 0
  let plain := pageOf [(0, 4, blockMagic), (4, 1, n), (5, 1, headKind b), (6, 2, count), (8, 8, seg.2), (16, 4, b.index), (20, 4, b.used),
    (24, 16, print), (40, 8, chain), (48, 4, seg.1 % 2 ^ 30), (52, 4, rseq)] + 256 ^ headBytes * blockBody g b lastChain
  plain + 256 ^ 56 * crc64 blockBytes plain

/-- CHAIN of a block of a kind on a seat, by its index (R235): the CRC of the block before it there. -/
def chainOf (n print : Nat) (g : Segment) (seat kind index lastChain : Nat) : Nat :=
  ((g.ofKind kind).filter fun d => decide (d.index < index)).foldl (fun ch d =>
    blockContent n print g d ch ((d.rseqs.lookup seat).getD 0) lastChain / 256 ^ 56 % 2 ^ 64) 0

/-- A block of a segment as it goes to a seat with an RSEQ (R235). -/
def blockFor (n print : Nat) (g : Segment) (b : JBlock) (seat rseq : Nat) : Nat :=
  let lastIdx := match (g.ofKind 0).getLast? with | some d => d.index | none => 0
  match b.other with
  | some o => blockContent n print g b o.chain rseq o.lastChain
  | none =>
    let lastChain := if b.kind = 1 then chainOf n print g seat 0 lastIdx 0 else 0
    blockContent n print g b (chainOf n print g seat b.kind b.index lastChain) rseq lastChain

end Sys2Proof.Machine
end

