-- ==== Sys2Proof/Machine/Journal.lean ====
section
/-!
DEFINITION. Drive commands and the stripe journal (R234 to R240 of spec/07_crews_and_parity.md): seats of a heat, blocks
and their records, groups, intent entries, checkpoints, and what a commit point waits for (R237).
-/

namespace Sys2Proof.Machine

/-- An empty block of a kind. -/
def JBlock.empty (kind index : Nat) : JBlock := ⟨kind, index, headBytes, [], [], false, [], [], none, none⟩

/-- Put a record into the last journal block of a list, continuing in further blocks where it does not fit (R235). The
list holds the journal blocks of a segment in order of index; the first argument bounds the blocks that it may take. -/
def spread : Nat → List JBlock → Option JRec → Nat → List JBlock
  | 0, bs, _, _ => bs
  | n + 1, bs, begin_, rest =>
    match bs.getLast? with
    | none => spread n [JBlock.empty 0 0] begin_ rest
    | some b =>
      if b.closed || blockBytes ≤ b.used then
        let closed := bs.dropLast ++ [{ b with closed := true }]
        spread n (closed ++ [JBlock.empty 0 (b.index + 1)]) begin_ rest
      else
        let room := blockBytes - b.used
        let recs := match begin_ with | some r => b.recs ++ [r] | none => b.recs
        let b1 := { b with recs := recs, used := b.used + min room rest, closed := decide (room ≤ rest) }
        if rest ≤ room then bs.dropLast ++ [b1] else spread n (bs.dropLast ++ [b1]) none (rest - room)

/-- Replace the blocks of a kind. -/
def Segment.setKind (g : Segment) (kind : Nat) (bs : List JBlock) : Segment :=
  { g with blocks := (g.blocks.filter (·.kind != kind)) ++ bs }

/-- Index of the journal block in which the next record begins. -/
def nextIndex (bs : List JBlock) : Nat :=
  match bs.getLast? with
  | none => 0
  | some b => if b.closed || blockBytes ≤ b.used then b.index + 1 else b.index

/-- Add one record to the journal blocks of a segment. -/
def Segment.addRec (g : Segment) (r : JRec) : Segment :=
  g.setKind 0 (spread (2 * (r.bytes / 65472) + 6) (g.ofKind 0) (some r) r.bytes)

/-- The intent block that holds an entry. -/
def Segment.entryBlock (g : Segment) (e : Nat) : Option Nat :=
  ((g.ofKind 2).find? fun b => b.entries.contains e).map (·.index)

/-- Enter a row or grain in the intent blocks at its first write in the heat (R238). A heat with no intent seat keeps no
intent blocks (R248). -/
def Segment.enter (g : Segment) (e : Nat) : Segment :=
  if g.iseats.isEmpty || (g.entryBlock e).isSome then g
  else
    let bs := g.ofKind 2
    let bs1 := match bs.getLast? with
      | none => [JBlock.empty 2 0]
      | some b => if b.closed then bs ++ [JBlock.empty 2 (b.index + 1)] else bs
    match bs1.getLast? with
    | none => g
    | some b =>
      let used := b.used + 8
      g.setKind 2 (bs1.dropLast ++ [{ b with entries := b.entries ++ [e], used := used, closed := decide (blockBytes ≤ used) }])

/-- An intent entry: kind in [63:62], volume in [61:50], row or grain in [47:0] (R238). -/
def intentEntry (kind vol x : Nat) : Nat := kind * 2 ^ 62 + vol * 2 ^ 50 + x % 2 ^ 48

namespace State

/-- A drive command is outstanding at a bay. It reopens the port's gate (R92). At a port under a forced gate nothing is sent, and the
command has ended with a drive path error (R95). `io` makes the command from its number and whether that is so. -/
def putIo (s : State) (nn : Nat) (op : DriveOp) (io : Nat → Bool → Io) : State :=
  let id := s.crw.nextIo
  let gated := s.gateForced (32 + nn)
  let s1 := if gated then s else ((s.wake (32 + nn)).emit (.drive nn id op)).countOpen 0x3C0 1 (0x4000 + nn)
  { s1 with crw := { s1.crw with nextIo := id + 1, ios := s1.crw.ios ++ [io id gated] } }

/-- Send a command to the drive of a seat. Nothing is sent to a seat with no bay. -/
def issueIo (s : State) (n i : Nat) (op : DriveOp) (heat job : Nat) : State :=
  match s.seatOf n i with
  | none => s
  | some x =>
    match x.bay with
    | none => s
    | some nn => s.putIo nn op fun id gated => ⟨id, n, i, nn, op, heat, job, s.now, false, false, gated⟩

/-- Send a command to a drive in a bay that is no seat: crew 8 stands for none. -/
def issueBay (s : State) (nn : Nat) (op : DriveOp) : State :=
  s.putIo nn op fun id gated => ⟨id, 8, 0, nn, op, s.heat, 0, s.now, false, false, gated⟩

/-- A drive command has ended. -/
def dropIo (s : State) (id : Nat) : State := { s with crw := { s.crw with ios := s.crw.ios.filter (·.id != id) } }

/-- The seats of a crew for a heat (R234): from seat 3N mod n upwards, three journal and up to three intent seats. -/
def chooseSeats (c : Crew) (heat : Nat) : List Nat × List Nat :=
  let n := c.seats.length
  let order := (List.range n).map fun i => (3 * heat + i) % n
  let ok := order.filter fun i => match c.seats[i]? with | some x => x.journals | none => false
  (ok.take 3, (ok.drop 3).take 3)

/-- Slots of a journal area (R235), and its first LBA on every seat (R207). -/
def journalSlots (s : State) (n : Nat) : Nat := 16384 * s.ef F.CRW_CREW_JAREA n
def journalBase (s : State) (n : Nat) (c : Crew) : Nat := c.smin - 262144 * s.ef F.CRW_CREW_JAREA n

/-- Slots that hold blocks of segments are free once the segments are (R235, R240). -/
def freeSlots (s : State) (n : Nat) (gone : List (Nat × Nat)) : State :=
  s.modCrew n fun c => { c with seats := c.seats.map fun x => { x with slots := x.slots.filter fun e => !gone.contains e.2 } }

/-- Seats to which a block goes. -/
def blockSeats (g : Segment) (b : JBlock) : List Nat := if b.kind = 2 then g.iseats else g.jseats

/-- Whether a block write is outstanding on a seat. -/
def blockBusy (s : State) (n seat kind heat index : Nat) : Bool :=
  s.crw.ios.any fun o => o.crew == n && o.seat == seat &&
    (match o.op with | .block _ k h x _ => k == kind && h == heat && x == index | _ => false)

/-- Change the segment of a heat of a crew. -/
def modSegment (s : State) (n heat : Nat) (f : Segment → Segment) : State :=
  s.modCrew n fun c =>
    if c.seg.heat = heat then { c with seg := f c.seg }
    else { c with old := c.old.map fun g => if g.heat = heat then f g else g }

/-- The segment of a heat. -/
def segmentOf (s : State) (n heat : Nat) : Option Segment :=
  (s.crewOf n).bind fun c => (c.old ++ [c.seg]).find? (·.heat == heat)

/-- Write a closed block to one of its seats (R235): it takes the seat's next RSEQ, and the slot that this names. A seat whose slot is
not free makes the write wait. -/
def pushBlock (s : State) (n : Nat) (g : Segment) (b : JBlock) (seat : Nat) : State :=
  if b.held.contains seat || s.blockBusy n seat b.kind g.heat b.index then s
  else match s.crewOf n, s.seatOf n seat with
    | some c, some x =>
      let slot := x.rseq % s.journalSlots n
      if x.slots.any (·.1 == slot) || s.journalSlots n = 0 then s.raiseOnce 261 n (crewUnit n)
      else
        let content := blockFor n c.print ((s.segmentOf n g.heat).getD g) b seat x.rseq
        let s1 := s.issueIo n seat (.block (s.journalBase n c + 16 * slot) b.kind g.heat b.index content) g.heat 0
        let s2 := s1.modSeat n seat fun y => { y with rseq := (y.rseq + 1) % 2 ^ 32, slots := y.slots ++ [(slot, headSeg g b)] }
        s2.modSegment n g.heat fun h => { h with blocks := h.blocks.map fun d =>
          if d.kind = b.kind && d.index = b.index then { d with rseqs := (d.rseqs.filter (·.1 != seat)) ++ [(seat, x.rseq)] } else d }
    | _, _ => s

/-- Write every closed block of a segment to the seats that do not hold it. -/
def pushSegment (s : State) (n : Nat) (g : Segment) : State :=
  g.blocks.foldl (fun t b => if b.closed then (blockSeats g b).foldl (fun u i => u.pushBlock n g b i) t else t) s

/-- Write the blocks that wait, of every segment of a crew. -/
def pushBlocks (s : State) (n : Nat) : State :=
  match s.crewOf n with
  | none => s
  | some c => (c.old ++ [c.seg]).foldl (fun t g => t.pushSegment n g) s

/-- Mirror the closed blocks of a segment that the partner has not been sent (R273). -/
def mirrorSegment (s : State) (n heat : Nat) : State :=
  match s.segmentOf n heat with
  | none => s
  | some g =>
    g.blocks.foldl (fun t b =>
      if b.closed && b.frame.isNone then
        let (u, fr) := t.mirror (.block (blockRec n g b))
        u.modSegment n heat fun h => { h with blocks := h.blocks.map fun d =>
          if d.kind = b.kind && d.index = b.index then { d with frame := fr } else d }
      else t) s

/-- The owner of the buffers of a heat of a crew: journal (7), and data by hamper. -/
def heatOwner (n heat : Nat) : Nat × Nat × Nat := (2 ^ 64 + n, heat, 0)

/-- After a change of a segment: its closed blocks go to the partner and to its seats. -/
def settleSegment (s : State) (n heat : Nat) : State := (s.mirrorSegment n heat).pushBlocks n

/-- Buffers of H7 that a segment takes: 16 for each block (R182, R235). -/
def segBuffers (g : Segment) : Nat := 16 * g.blocks.length

/-- Room in H7 for a segment that grows (R184, R185): its buffers are taken all at once and are then the segment's; without them the
stage of `owner` waits. -/
def journalRoom (s : State) (n : Nat) (owner : Nat × Nat × Nat) (old new : Segment) : State × Bool :=
  let (t, ok) := s.acquireFor 7 owner (segBuffers new - segBuffers old)
  (if ok then t.passBuffers 7 owner (heatOwner n new.heat) else t, ok)

/-- The owner of a stage of the crew engine's own that waits for H7: a record, a relocated grain's group, a checkpoint. -/
def engineOwner (n what : Nat) : Nat × Nat × Nat := (2 ^ 69 + n, what, 0)

/-- Place a group of records in the segment of the current heat (R237), with its intent entries. False where H7 is
exhausted and the group waits. -/
def placeGroup (s : State) (n : Nat) (cmd : Option CmdId) (recs : List JRec) (entries : List Nat)
    (stripes : List (Nat × Nat)) : State × Option Nat :=
  match s.crewOf n with
  | none => (s, none)
  | some c =>
    let g0 := c.seg
    let num := g0.nextGroup
    let first := nextIndex (g0.ofKind 0)
    let total := recs.length
    let g1 := (recs.zip (List.range total)).foldl (fun g p =>
      g.addRec { p.1 with group := num, last := p.2 + 1 == total }) g0
    let g2 := entries.foldl Segment.enter g1
    let lastIdx := match (g2.ofKind 0).getLast? with | some b => b.index | none => 0
    let blocksOf := entries.filterMap g2.entryBlock
    let grp : Group := ⟨num, cmd, first, lastIdx, blocksOf, false, false, stripes⟩
    let g3 := { g2 with nextGroup := num + 1, groups := g2.groups ++ [grp] }
    let (s1, ok) := s.journalRoom n (match cmd with | some k => cmdOwner k | none => engineOwner n 0) g0 g3
    if !ok then (s1, none)
    else
      (((s1.modCrew n fun d => { d with seg := g3 }).settleSegment n g0.heat).countOpen 0x280 2 (crewUnit n), some num)

/-- Place one record in the segment of a heat, or, with none, in the current one; where H7 has no room, or others wait before it, it is
owed (R185). -/
def placeRec (s : State) (n : Nat) (heat : Option Nat) (r : JRec) : State :=
  match s.crewOf n with
  | none => s
  | some c =>
    match (c.old ++ [c.seg]).find? (·.heat == heat.getD c.seg.heat) with
    | none => s
    | some g =>
      let g1 := g.addRec r
      let (t, ok) := if c.owed.isEmpty then s.journalRoom n (engineOwner n 1) g g1 else (s, false)
      if ok then (t.modSegment n g.heat fun _ => g1).settleSegment n g.heat
      else t.modCrew n fun d => { d with owed := d.owed ++ [(heat, r)] }

/-- A record that belongs to no group of a command, such as ROW_WRITTEN or TORN. -/
def placeLoose (s : State) (n : Nat) (r : JRec) : State := s.placeRec n none { r with last := true }

/-- A cancelled group is followed by a CANCEL record in its segment (R237). -/
def cancelGroup (s : State) (n heat num : Nat) : State :=
  (s.modSegment n heat fun g =>
    { g with groups := g.groups.map fun x => if x.num = num then { x with cancelled := true } else x }).placeRec n (some heat)
    ⟨0x09, true, false, 0, num, 0, 0, 0, 0, []⟩

/-- Close the part-filled blocks of a kind in a segment (R235). -/
def closeBlocks (s : State) (n heat kind : Nat) : State :=
  (s.modSegment n heat fun g => { g with blocks := g.blocks.map fun b =>
    if b.kind = kind && headBytes < b.used then { b with closed := true } else b }).settleSegment n heat

/-- A block is held by every seat that it goes to, and, where mirrored, by the partner. A journal block needs three. -/
def blockSafe (s : State) (g : Segment) (b : JBlock) : Bool :=
  b.closed && (blockSeats g b).all (fun i => b.held.contains i) && (b.kind == 2 || decide (3 ≤ g.jseats.length)) && s.mirrored b.frame

/-- The checkpoint of the previous heat has been acknowledged by the partner where mirroring asks for it (R189). -/
def priorAcked (s : State) (c : Crew) (heat : Nat) : Bool :=
  match c.old.reverse.find? fun g => g.heat < heat with
  | some g => (g.ofKind 1).all fun b => s.mirrored b.frame
  | none => true

/-- Everything that the commit point of a group waits for has completed (R237). -/
def groupSafe (s : State) (n heat num : Nat) : Bool :=
  match s.crewOf n with
  | none => false
  | some c =>
    match (c.old ++ [c.seg]).find? (·.heat == heat) with
    | none => false
    | some g =>
      match g.groups.find? (·.num == num) with
      | none => false
      | some x =>
        !x.cancelled &&
        ((List.range (x.last + 1 - x.first)).all fun k =>
          match (g.ofKind 0).find? (·.index == x.first + k) with | some b => s.blockSafe g b | none => false) &&
        (g.iseats.isEmpty || x.intents.all fun k =>
          match (g.ofKind 2).find? (·.index == k) with | some b => s.blockSafe g b | none => true) &&
        (x.stripes.all fun st => match s.volOf st.1 with
          | some v => !(v.closing.any fun c => c.num == st.2 && !c.ended) && v.host.all (·.num != st.2) && v.reloc.all (·.num != st.2)
          | none => true) &&
        s.priorAcked c heat

/-- A group has passed its commit point. -/
def markCommitted (s : State) (n heat num : Nat) : State :=
  s.modSegment n heat fun g => { g with groups := g.groups.map fun x => if x.num = num then { x with committed := true } else x }

/-- The oldest segment that is not free, as LIVE names it (R239). -/
def liveOf (c : Crew) : Nat × Nat :=
  match c.found with
  | f :: _ => f
  | [] => match c.old with
  | g :: _ => (g.start, g.heat)
  | [] => (c.seg.start, c.seg.heat)

/-- The checkpoint block of a segment (R239): record count, block count, CLEAN, START and HEAT of LIVE. -/
def markBlock (c : Crew) (g : Segment) (clean : Bool) : JBlock :=
  let live := liveOf c
  let recs := (g.ofKind 0).foldl (fun a b => a + b.recs.length) 0
  ⟨1, (g.ofKind 1).length, headBytes + 40, [], [recs, (g.ofKind 0).length, if clean then 1 else 0, live.1, live.2], true, [], [], none, none⟩

/-- Place a checkpoint in the segment of a heat, which seals it; it waits for room in H7 (R185). -/
def placeMark (s : State) (n heat : Nat) (clean : Bool) : State :=
  match s.crewOf n, s.segmentOf n heat with
  | some c, some g =>
    let g1 := { g with blocks := g.blocks ++ [markBlock c g clean], sealed := true }
    let (t, ok) := if c.marks.isEmpty then s.journalRoom n (engineOwner n 2) g g1 else (s, false)
    if ok then (t.modSegment n heat fun _ => g1).settleSegment n heat
    else t.modCrew n fun d => { d with marks := d.marks ++ [(heat, clean)] }
  | _, _ => s

/-- Place the checkpoint of a crew's segment (R239). -/
def checkpoint (s : State) (n : Nat) (clean : Bool) : State :=
  match s.crewOf n with
  | none => s
  | some c => ((s.closeBlocks n c.seg.heat 0).closeBlocks n c.seg.heat 2).placeMark n c.seg.heat clean

/-- Records and checkpoints that waited for room in H7 are placed, in their order, as far as there is room (R185). -/
def placeOwed (s : State) (n : Nat) : State :=
  match s.crewOf n with
  | none => s
  | some c =>
    if c.owed.isEmpty && c.marks.isEmpty then s
    else
      let s1 := s.modCrew n fun d => { d with owed := [], marks := [] }
      let s2 := c.owed.foldl (fun t e => t.placeRec n e.1 e.2) s1
      c.marks.foldl (fun t m => t.placeMark n m.1 m.2) s2

/-- Open the segment of the heat that begins (R188 step 6, R234). -/
def openSegment (s : State) (n : Nat) : State :=
  match s.crewOf n with
  | none => s
  | some c =>
    let (j, i) := chooseSeats c s.heat
    let old := if c.seg.heat = s.heat && c.seg.blocks.isEmpty then c.old else c.old ++ [c.seg]
    let s1 := s.setCrew n { c with old := old, seg := Segment.empty s.startNo s.heat j i, before_ := c.written, written := [] }
    if j.length < 3 then s1.raise 262 (crewUnit n) else s1

/-- A segment with another seat in the place of one that has gone at easy or out of service (R248). -/
def replaceIn (c : Crew) (g : Segment) (seat : Nat) : Segment :=
  if !(g.jseats ++ g.iseats).contains seat then g
  else
    let order := (List.range c.seats.length).map fun i => (3 * g.heat + i) % c.seats.length
    let free := order.find? fun i => !(g.jseats ++ g.iseats).contains i &&
      (match c.seats[i]? with | some x => x.journals | none => false)
    let lost := g.blocks.map fun b => { b with held := b.held.filter (· != seat) }
    let swap (l : List Nat) (i : Nat) : List Nat := l.map fun x => if x = seat then i else x
    if g.jseats.contains seat then
      match free with
      | some i => { g with jseats := swap g.jseats i, blocks := lost }
      | none => match g.iseats with
        | i :: rest =>
          let bs := lost.map fun b => if b.kind = 2 then { b with held := b.held.filter (· != i) } else b
          { g with jseats := swap g.jseats i, iseats := rest, blocks := bs }
        | [] => { g with jseats := g.jseats.filter (· != seat), blocks := lost }
    else match free with
      | some i => { g with iseats := swap g.iseats i, blocks := lost }
      | none => { g with iseats := g.iseats.filter (· != seat), blocks := lost }

/-- A segment without a seat: the others serve replay. -/
def forgetIn (g : Segment) (seat : Nat) : Segment :=
  { g with jseats := g.jseats.filter (· != seat), iseats := g.iseats.filter (· != seat) }

/-- A seat stops keeping journal and intent blocks (R248): it is replaced in the segment of the heat, and in an earlier
segment with blocks still on their way; an earlier segment that is whole goes on without it. -/
def replaceSeat (s : State) (n seat : Nat) : State :=
  (s.modCrew n fun c =>
    { c with
      seg := replaceIn c c.seg seat
      old := c.old.map fun g =>
        if g.blocks.all fun b => (blockSeats g b).all fun i => b.held.contains i then forgetIn g seat
        else replaceIn c g seat }).pushBlocks n

end State

end Sys2Proof.Machine
end

