-- ==== Sys2Proof/Machine/RowIo.lean ====
section
/-!
DEFINITION. Work on one row: its lock (R219), the reads of its sectors with reconstruction where a chunk is not to be had
from its seat (R217, R250), and its writes to seats and catch-up logs (R257, R259). One drive command moves one sector.
A job stops at phase 1 with what it has read, and at phase 4 when its writes have ended; the command or engine that it
serves goes on from there.
-/

namespace Sys2Proof.Machine

/-- Where a sector can be read. -/
inductive Source where
  | value (v : Nat)
  | seat
  | missing
deriving DecidableEq, Repr

/-- Where the table of R250 reads a sector of a seat. -/
def Seat.source (x : Seat) (row lba : Nat) : Source :=
  let logged := (x.log.find? (·.lba == lba)).map (·.value)
  match x.st with
  | 0 => .seat
  | 1 => match logged with | some v => .value v | none => .missing
  | 3 => match logged with | some v => .value v | none => .seat
  | 5 => if x.passed row then .seat else .missing
  | _ => .missing

/-- Jobs that take their row's lock before they read: read-modify-write, rebuild and repair. -/
def Job.locks (j : Job) : Bool := j.kind == 1 || j.kind == 4 || j.kind == 10

/-- The distinct drive LBAs at which a job wants sectors. -/
def Job.lbas (j : Job) : List Nat :=
  j.want.foldl (fun l w => if l.contains w.2 then l else l ++ [w.2]) []

/-- Seats that it wants at an LBA, and whether it has a sector. -/
def Job.wants (j : Job) (lba : Nat) : List Nat := (j.want.filter (·.2 == lba)).map (·.1)
def Job.has (j : Job) (seat lba : Nat) : Bool := (j.got.lookup (seat, lba)).isSome

/-- Whether a sector may still be read: its seat gives it and it has not been given up. -/
def Job.avail (j : Job) (c : Crew) (seat lba : Nat) : Bool :=
  !j.bad.contains (seat, lba) && !j.slow.contains (seat, lba) &&
    (match c.seats[seat]? with | some x => x.source j.row lba != .missing | none => false)

/-- Seats to be read at an LBA, and whether the row is reconstructed there. -/
def Job.need (j : Job) (c : Crew) (lba : Nat) : List Nat × Bool :=
  let ws := j.wants lba
  if ws.all fun i => j.has i lba || j.avail c i lba then (ws.filter fun i => !j.has i lba, false)
  else ((List.range c.seats.length).filter fun i => !j.has i lba && j.avail c i lba, true)

/-- Sectors that it has at an LBA, by seat. -/
def Job.atLba (j : Job) (lba : Nat) : List (Nat × Nat) :=
  (j.got.filter fun g => g.1.2 == lba).map fun g => (g.1.1, g.2)

namespace State

/-- A job by its number. -/
def jobOf (s : State) (id : Nat) : Option Job := s.crw.jobs.find? (·.id == id)

/-- Store a changed job; remove a job. -/
def setJob (s : State) (j : Job) : State :=
  { s with crw := { s.crw with jobs := s.crw.jobs.map fun k => if k.id = j.id then j else k } }
def dropJob (s : State) (id : Nat) : State := { s with crw := { s.crw with jobs := s.crw.jobs.filter (·.id != id) } }

/-- Whether a row's lock is held. -/
def rowLocked (s : State) (n row : Nat) : Bool := s.crw.jobs.any fun j => j.crew == n && j.row == row && j.lock

/-- A write admitted before this read-modify-write has still to update the row (R219): its data is not whole, or its job waits. -/
def earlierUpdate (s : State) (j : Job) : Bool :=
  match j.kind == 1, j.cmd.bind s.cmdOf with
  | true, some m =>
    let rowOf (x : Vol) (l : Nat) : Nat := (s.placeOf x l).1
    s.nvt.cmds.any fun e =>
      decide (1 ≤ e.phase) && decide (e.order < m.order) && e.req.access == 2 &&
        ((e.phase == 1 && decide (e.step ≤ 2) && (match s.volOf (e.req.nsid - 1) with
          | some x => x.crew == j.crew && !x.priv && decide (x.base ≤ j.row) && decide (j.row < x.base + x.rows) &&
              (e.req.unknown || e.req.ranges.any fun r =>
                decide (0 < r.2) && decide (rowOf x r.1 ≤ j.row) && decide (j.row ≤ rowOf x (r.1 + r.2 - 1)))
          | none => false)) ||
        s.crw.jobs.any fun q => q.cmd == some e.id && q.kind == 1 && q.crew == j.crew && q.row == j.row && decide (q.phase < 4))
  | _, _ => false

/-- A job takes its row's lock, or waits for it (R219): others that wait come before it, and updates go in the order of admission. -/
def lockRow (s : State) (j : Job) : State × Job :=
  if j.lock then (s, j)
  else
    let others := s.crw.jobs.any fun q => q.crew == j.crew && q.row == j.row && q.id != j.id && q.lockWait
    let k := if s.rowLocked j.crew j.row || others || s.earlierUpdate j then { j with lockWait := true } else { j with lock := true, lockWait := false }
    (s.setJob k, k)

/-- Whether a read of a sector is outstanding for a job. -/
def readOut (s : State) (id seat lba : Nat) : Bool :=
  s.crw.ios.any fun o => o.job == id && o.seat == seat && (match o.op with | .read l => l == lba | _ => false)

/-- Read one sector for a job: from the catch-up log at once, or from the seat. -/
def readSector (s : State) (id : Nat) (seat lba : Nat) : State :=
  match s.jobOf id with
  | none => s
  | some j =>
    match s.seatOf j.crew seat with
    | none => s
    | some x =>
      match x.source j.row lba with
      | .value v => s.setJob { j with got := j.got ++ [((seat, lba), v)] }
      | .seat => if s.readOut id seat lba then s else s.issueIo j.crew seat (.read lba) s.heat id
      | .missing => s

/-- Buffers of H5 that the rows of a command need (R182, R184): old data, P and Q of its read-modify-writes, and the sectors of its
reconstructions. -/
def rowBuffers (s : State) (c : CmdId) : Nat :=
  let of_ (j : Job) : Nat := match s.crewOf j.crew with
    | none => 0
    | some w => ((if j.kind = 1 then j.want.length else 0) + ((j.lbas.filter fun l => (j.need w l).2).length) * w.seats.length) *
        unitBytes (s.fmtOf j.vol)
  buffersFor ((s.crw.jobs.filter fun j => j.cmd == some c).foldl (fun n j => n + of_ j) 0)

/-- A job takes the buffers of its reconstructions, all at once, or waits for them (R184, R185). Those of rebuild and patrol lie in H9. -/
def reconBuffers (s : State) (j : Job) : State × Bool :=
  match j.cmd with
  | some c => s.acquireFor 5 (cmdOwner c) (s.rowBuffers c)
  | none => (s, true)

/-- Issue the reads that a job still needs (R217, R219, R250). -/
def pushReads (s : State) (id : Nat) : State :=
  match s.jobOf id with
  | none => s
  | some j0 =>
    match s.crewOf j0.crew with
    | none => s
    | some c =>
      j0.lbas.foldl (fun t lba =>
        match t.jobOf id with
        | none => t
        | some j =>
          let (seats, whole) := j.need c lba
          let (u, ok) := if whole then t.reconBuffers j else (t, true)
          if !ok then u
          else if whole && !j.lock then
            let (w, k) := u.lockRow j
            if k.lock then seats.foldl (fun w i => w.readSector id i lba) w else w
          else seats.foldl (fun w i => w.readSector id i lba) u) s

/-- How the reads at an LBA stand: 0 under way, 1 all there or recoverable, 2 lost. -/
def lbaStatus (s : State) (j : Job) (c : Crew) (lba : Nat) : Nat :=
  if (j.wants lba).all fun i => j.has i lba then 1
  else
    let (seats, whole) := j.need c lba
    if !whole || !seats.isEmpty then 0
    else if (recoverRow c.seats.length j.row (j.atLba lba)).isSome then 1
    else if j.slow.any fun x => x.2 == lba && s.readOut j.id x.1 lba then 0
    else 2

/-- Rewrite a sector that its drive could not read and that has been recovered (R263). -/
def rewriteBad (s : State) (j : Job) (seat lba v : Nat) : State :=
  match s.seatOf j.crew seat with
  | none => s
  | some x =>
    match x.source j.row lba with
    | .seat => (s.issueIo j.crew seat (.write lba v false) s.heat 0).seatEvent 297 j.crew seat
    | _ => s

/-- All reads of a job stand: recovered sectors join those read (R217), unreadable ones are rewritten (R263), and the job
stops at phase 1. Sectors that cannot be had stay absent. -/
def finishReads (s : State) (j : Job) (c : Crew) : State :=
  let n := c.seats.length
  let more := j.lbas.foldl (fun l lba =>
    if (j.wants lba).all (fun i => j.has i lba) && !(j.bad.any (·.2 == lba)) then l
    else match recoverRow n j.row (j.atLba lba) with
      | some all => l ++ ((all.filter fun v => !j.has v.1 lba).map fun v => ((v.1, lba), v.2))
      | none => l) ([] : List ((Nat × Nat) × Nat))
  let whole := j.lbas.any fun lba => (j.need c lba).2
  let s1 := s.setJob { j with got := j.got ++ more, phase := 1, lock := j.lock && j.locks, lockWait := false }
  let s2 := if whole then s1.countOpen 0x280 3 (crewUnit j.crew) else s1
  j.bad.foldl (fun t b => match more.lookup b with | some v => t.rewriteBad j b.1 b.2 v | none => t) s2

/-- A job goes on with its reads: it issues what it needs, and stops at phase 1 when every LBA stands. -/
def advanceReads (s : State) (id : Nat) : State :=
  match s.jobOf id with
  | none => s
  | some j0 =>
    if j0.phase ≠ 0 || j0.lockWait then s
    else
      let s1 := s.pushReads id
      match s1.jobOf id with
      | none => s1
      | some j =>
        match s1.crewOf j.crew with
        | none => s1
        | some c =>
          if j.lockWait then s1
          else if j.lbas.all fun lba => s1.lbaStatus j c lba != 0 then s1.finishReads j c else s1

/-- Start a job: it takes its number, its lock if it needs one, and begins to read. -/
def startJob (s : State) (j : Job) : State × Nat :=
  let id := s.crw.nextJob
  let k := { j with id := id }
  let s1 := { s with crw := { s.crw with nextJob := id + 1, jobs := s.crw.jobs ++ [k] } }
  let s2 := if k.locks then (s1.lockRow k).1 else s1
  (s2.advanceReads id, id)

/-- A released lock is taken by the next job that waits for it (R219). -/
def grantRow (s : State) (n row : Nat) : State :=
  if s.rowLocked n row then s
  else match s.crw.jobs.find? fun j => j.crew == n && j.row == row && j.lockWait && !s.earlierUpdate j with
    | none => s
    | some j => (s.setJob { j with lock := true, lockWait := false }).advanceReads j.id

/-- The owner of an H8 buffer: a sector of a seat's catch-up log. -/
def logOwner (n seat lba : Nat) : Nat × Nat × Nat := (2 ^ 65 + n, seat, lba)

/-- Put a sector into a seat's catch-up log; a later entry replaces an earlier one (R259). -/
def addLog (s : State) (n seat lba v heat : Nat) : State :=
  s.modSeat n seat fun x =>
    { x with log := (x.log.filter (·.lba != lba)) ++ [CatchUp.mk lba v heat false] }

/-- A write of a job did not reach a seat (R257). -/
def seatMissed (s : State) (id seat : Nat) : State :=
  match s.jobOf id with
  | some j => s.setJob { j with failed := addTo j.failed seat }
  | none => s

/-- Write one sector of a row where the table of R250 and R257 put it. -/
def writeSector (s : State) (id : Nat) (seat lba v : Nat) (fua : Bool) : State :=
  match s.jobOf id with
  | none => s
  | some j =>
    match s.seatOf j.crew seat with
    | none => s
    | some x =>
      match x.st with
      | 0 => s.issueIo j.crew seat (.write lba v fua) j.heat id
      | 3 =>
        let s1 := (s.modSeat j.crew seat fun y => { y with log := y.log.filter (·.lba != lba) }).freeBuffers 8 (logOwner j.crew seat lba)
        s1.issueIo j.crew seat (.write lba v fua) j.heat id
      | 5 => if x.passed j.row then s.issueIo j.crew seat (.write lba v fua) j.heat id else s
      | 1 | 2 =>
        if x.log.any (·.lba == lba) then s.addLog j.crew seat lba v j.heat
        else
          let (s1, ok) := s.takeBuffers 8 (logOwner j.crew seat lba) 1
          if ok then s1.addLog j.crew seat lba v j.heat else s1.awaitBuffers 8 (logOwner j.crew seat lba) 1
      | _ => s

/-- Whether a write of a job is on its way, or waits for room in a catch-up log. -/
def writesOut (s : State) (j : Job) : Bool :=
  (s.crw.ios.any fun o => o.job == j.id && (match o.op with | .write .. => true | _ => false)) ||
    j.put.any fun p => s.waitsBuffers (logOwner j.crew p.1.1 p.1.2)

/-- The writes of a job have ended: its lock goes to the next (R218, R219). -/
def checkWrites (s : State) (id : Nat) : State :=
  match s.jobOf id with
  | none => s
  | some j => if j.phase = 3 && !s.writesOut j then (s.setJob { j with phase := 4, lock := false }).grantRow j.crew j.row else s

/-- Begin the writes of a job in a heat. -/
def startWrites (s : State) (id heat : Nat) (fua : Bool) : State :=
  match s.jobOf id with
  | none => s
  | some j0 =>
    let j := { j0 with phase := 3, heat := heat }
    let s1 := s.setJob j
    let s2 := s1.modCrew j.crew fun c => { c with written := addTo c.written j.row }
    (j.put.foldl (fun t p => t.writeSector id p.1.1 p.1.2 p.2 fua) s2).checkWrites id

/-- Seats on which a written row is held (R257): all but those out of service for the row and those that missed it. -/
def heldOn (s : State) (j : Job) : Nat :=
  match s.crewOf j.crew with
  | none => 0
  | some c => ((List.range c.seats.length).filter fun i =>
      !j.failed.contains i && (match c.seats[i]? with
        | some x => !(x.st == 4 || x.st == 6 || (x.st == 5 && !x.passed j.row))
        | none => false)).length

/-- Outstanding drive commands of a job are no longer waited for. -/
def orphan (s : State) (id : Nat) : State :=
  let ios := s.crw.ios.map fun (o : Io) => if o.job = id then { o with job := 0 } else o
  { s with crw := { s.crw with ios := ios } }.dropJob id

/-- One countsForE completion (R258): E ← E + (latency − E) / 16, or the latency itself at first. -/
def nextE (e : Option Nat) (latency : Nat) : Nat :=
  match e with
  | none => latency
  | some v => ((v : Int) + ((latency : Int) - v) / 16).toNat

/-- Whether an operation counts towards E: reads and writes of the seat's data area (R258). -/
def countsForE (s : State) (n : Nat) (op : DriveOp) : Bool :=
  let inData (lba : Nat) : Bool := 256 ≤ lba && lba < 256 + s.rd F.CRW_CREW_ROWS n * s.chunkOf n
  match op with
  | .read lba => inData lba
  | .write lba _ _ => inData lba
  | _ => false

end State

end Sys2Proof.Machine
end

