-- ==== Sys2Proof/Machine/Seats.lean ====
section
/-!
DEFINITION. The states of seats and how a seat enters and leaves them (R250 to R261), hot spares (R264, R265) and the start
of a rebuild (R266 to R268) of spec/08_degradation_rebuild_takeover.md.
-/

namespace Sys2Proof.Machine.State

/-- Rows of a crew in the fixed order of R266: map-copy rows, other rows of volumes, rows of no volume. -/
def fixedOrder (s : State) (n : Nat) : List (Nat × Nat) :=
  let rows := s.rd F.CRW_CREW_ROWS n
  let vs := s.crw.vols.filter (·.crew == n)
  let maps := (vs.filter (·.priv)).map fun x => (x.base, x.base + s.mapRows x)
  let rest := vs.map fun x => (if x.priv then x.base + s.mapRows x else x.base, x.base + x.rows)
  let sorted := rest.foldl (fun l r => insertRange r l) []
  let used := (maps ++ sorted).foldl (fun l r => insertRange r l) []
  let gaps := used.foldl (fun (a : Nat × List (Nat × Nat)) r => (r.2, if a.1 < r.1 then a.2 ++ [(a.1, r.1)] else a.2)) (0, [])
  maps ++ sorted ++ gaps.2 ++ (if gaps.1 < rows then [(gaps.1, rows)] else [])
where
  /-- Insert a range in ascending order. -/
  insertRange (r : Nat × Nat) : List (Nat × Nat) → List (Nat × Nat)
    | [] => [r]
    | q :: l => if r.1 < q.1 then r :: q :: l else q :: insertRange r l

/-- Ranges without the rows of another list of ranges. -/
def minusRanges (a b : List (Nat × Nat)) : List (Nat × Nat) :=
  b.foldl (fun l r => l.flatMap fun q =>
    if r.2 ≤ q.1 || q.2 ≤ r.1 then [q]
    else (if q.1 < r.1 then [(q.1, r.1)] else []) ++ (if r.2 < q.2 then [(r.2, q.2)] else [])) a

/-- Rows of an order of ranges from row `f` on in it (R269). -/
def fromRow (f : Nat) : List (Nat × Nat) → List (Nat × Nat)
  | [] => []
  | r :: rest => if r.1 ≤ f && f < r.2 then (f, r.2) :: rest else fromRow f rest

/-- The frontier of a rebuild: the first row of an order that is still to be done, every row before it in that order being rebuilt. DESIGN
CHOICE (log entry 148): also where the rebuild takes its rows in another order (R267, R268). -/
def firstLeft (order plan : List (Nat × Nat)) : Option Nat :=
  (order.flatMap fun r => ((plan.filterMap fun q => if q.1 < r.2 && r.1 < q.2 then some (max q.1 r.1) else none).min?).toList).head?

/-- The record of a crew's seats (R273). Its frontier covers every rebuild of the crew. -/
def crewRec (s : State) (n : Nat) (c : Crew) : CrewRec :=
  ⟨n, c.seats.map (·.st), c.seats.map fun x => x.bay.getD 0x3F,
    (firstLeft (s.fixedOrder n) ((c.seats.filter (·.st == 5)).flatMap (·.plan))).getD 0xFFFFFFFF, c.print, c.gen, c.smin⟩

/-- The frontier of a seat's rebuild goes to the logbook (R269). -/
def logFrontier (s : State) (n i : Nat) : State :=
  match s.seatOf n i with
  | some x => s.logOpen kFrontier [n, i, (firstLeft (s.fixedOrder n) x.plan).getD (s.rd F.CRW_CREW_ROWS n)]
  | none => s

/-- State bytes of a label (R210, R250): at easy, in recovery and recalled are in service there. -/
def labelState (st : Nat) : Nat := match st with | 4 => 1 | 5 => 2 | 6 => 3 | _ => 0

/-- The label of a seat (R210). -/
def labelOf (s : State) (n : Nat) (c : Crew) (i : Nat) : Label :=
  ⟨n, i, c.print, c.gen, s.kOf n, s.rd F.CRW_CREW_CHUNK n, s.ef F.CRW_CREW_JAREA n, s.rd F.CRW_CREW_ROWS n, c.seats.map fun x => labelState x.st,
    c.smin⟩

/-- Write the labels of the current generation, both copies, to every seat in service (R207, R210). -/
def writeLabels (s : State) (n : Nat) : State :=
  match s.crewOf n with
  | none => s
  | some c =>
    (List.range c.seats.length).foldl (fun t i =>
      match c.seats[i]? with
      | some x =>
        if x.st = 4 || x.st = 6 then t
        else
          let v := labelSector (s.labelOf n c i)
          (t.issueIo n i (.label 0 v) t.heat 0).issueIo n i (.label 128 v) t.heat 0
      | none => t) (s.modCrew n fun d => { d with labelDue := false, labelFrame := none })

/-- A change of a seat's state that labels record (R210): the generation rises, the partner is told, and the labels are
written once it has the change (R273). -/
def labelChange (s : State) (n : Nat) : State :=
  match s.crewOf n with
  | none => s
  | some c =>
    let (s1, fr) := s.mirror (.crew (s.crewRec n { c with gen := c.gen + 1 }))
    let s2 := s1.modCrew n fun d => { d with gen := d.gen + 1, labelDue := true, labelFrame := fr }
    if fr.isNone then s2.writeLabels n else s2

/-- Labels that wait for the partner are written once it has acknowledged (R273). -/
def labelsDue (s : State) : State :=
  s.crw.crews.foldl (fun t e => if e.2.labelDue && t.mirrored e.2.labelFrame then t.writeLabels e.1 else t) s

/-- What was outstanding to a seat ends when it leaves service: reads go to reconstruction, writes have missed the seat. -/
def endSeatIos (s : State) (n i : Nat) : State :=
  let mine := s.crw.ios.filter fun o => o.crew == n && o.seat == i
  let s1 := { s with crw := { s.crw with ios := s.crw.ios.filter fun o => !(o.crew == n && o.seat == i) } }
  let waits := s1.hmp.waits.filter fun w => w.hamper == 8 && w.owner.1 == 2 ^ 65 + n && w.owner.2.1 == i
  let s2 := { s1 with hmp := { s1.hmp with
    waits := s1.hmp.waits.filter fun w => !(w.hamper == 8 && w.owner.1 == 2 ^ 65 + n && w.owner.2.1 == i)
    holds := s1.hmp.holds.filter fun w => !(w.hamper == 8 && w.owner.1 == 2 ^ 65 + n && w.owner.2.1 == i) } }
  let s3 := mine.foldl (fun t o =>
    match o.op with
    | .read _ => t.advanceReads o.job
    | .write .. => if o.job = 0 then t else (t.seatMissed o.job i).checkWrites o.job
    | _ => t) s2
  let jobs := s3.crw.jobs.filter fun j => j.crew == n && j.phase == 3 && waits.any fun w => j.put.any fun p =>
    p.1 == (i, w.owner.2.2)
  jobs.foldl (fun t j => (t.seatMissed j.id i).checkWrites j.id) s3

/-- Jobs that still read go on when seats have changed. -/
def wakeReads (s : State) (n : Nat) : State :=
  (s.crw.jobs.filter fun j => j.crew == n && j.phase == 0).foldl (fun t j => t.advanceReads j.id) s

/-- A drive in a bay that may serve as a spare of a crew (R264, R265): its bit in CRW_SPARE, ready, in no crew of either twin, under no sanitize
of either twin (R471), with no label of another crew or fingerprint, and large enough. -/
def mayReplace (s : State) (c : Crew) (n : Nat) (d : Drive) : Bool :=
  (s.ef F.CRW_SPARE_BAY).testBit d.bay && !s.cox.sanitizing.any (·.1 == d.bay) && !s.cox.sanFailed.contains d.bay && !s.twn.sanitizing.contains d.bay &&
    !(s.crw.crews.any fun e => e.2.seats.any fun x => x.bay == some d.bay && x.st != 6) &&
    !(s.twn.seats.any fun r => (r.bays.zip r.states).any fun b => b.1 == d.bay && b.2 != 6) &&
    (match d.label with | none => true | some l => l.crew == n && l.print == c.print) && decide (c.smin ≤ d.lbas)

/-- The spare with the smallest capacity that suffices, and among equals the lowest bay (R264). -/
def bestSpare (s : State) (c : Crew) (n : Nat) : Option Drive :=
  (s.crw.drives.filter fun d => s.mayReplace c n d).foldl (fun a d =>
    match a with
    | none => some d
    | some b => if d.lbas < b.lbas || (d.lbas = b.lbas && d.bay < b.bay) then some d else some b) none

/-- The rebuild of a seat starts in an order of ranges, each row once: a seat that joins a rebuild which has reached
frontier F goes on from F with it, and takes the rows before F afterwards (R267). -/
def startRebuild (s : State) (n i : Nat) (ranges : List (Nat × Nat)) (rate : Nat) : State :=
  match s.crewOf n with
  | none => s
  | some c =>
    let other := (c.seats.filter fun x => x.st == 5 && x.running).flatMap (·.plan)
    let all := ranges ++ minusRanges (s.fixedOrder n) ranges
    let plan := if other.isEmpty then all else other ++ minusRanges (s.fixedOrder n) other
    s.modSeat n i fun x => { x with planItem := none, running := true, plan := plan.filter fun r => r.1 < r.2, rate := rate }

/-- A seat takes a spare (R264): labels show it as rebuilding, and its rebuild starts or becomes an item (R268). In a twin
the owner reserves the drive (R271). -/
def takeSpare (s : State) (n i : Nat) : State :=
  match s.crewOf n with
  | none => s
  | some c =>
    match s.bestSpare c n with
    | none => if c.noSpare.contains i then s else (s.modCrew n fun d => { d with noSpare := d.noSpare ++ [i] }).seatEvent 296 n i
    | some d =>
      let rows := s.rd F.CRW_CREW_ROWS n
      let s1 := s.modSeat n i fun x => { Seat.fresh (some d.bay) 5 with plan := [(0, rows)], rseq := x.rseq }
      let s2 := (((s1.modCrew n fun e => { e with noSpare := e.noSpare.filter (· != i) }).labelChange n).logFrontier n i).seatEvent 294 n i
      let s3 := if s2.twinShelf then s2.issueIo n i (.acquire (Config.uniqueId % 2 ^ 64) false) s2.heat 0 else s2
      if s3.assisted 4 then
        let (s4, handed) := s3.handOver 4 n i [n, i, rows] [] 0 (s3.itemPoint none)
        if handed then s4.modSeat n i fun x => { x with planItem := some (s4.wrg.nextItem - 1) }
        else s4.startRebuild n i [] (s4.ef F.CRW_RBLD_RATE)
      else s3.startRebuild n i [] (s3.ef F.CRW_RBLD_RATE)

/-- A seat is failed (4) or absent (6) (R251 to R253): what was outstanding ends, its catch-up log is discarded, it stops
keeping journal blocks, a seat at easy is recalled, a third seat stops the crew, and a spare is looked for. -/
def seatOut (s : State) (n i st ev : Nat) : State :=
  match s.crewOf n, s.seatOf n i with
  | some _, some x =>
    if x.st = 4 || (x.st = 6 && st = 6) then s
    else
      let s1 := s.modSeat n i fun y =>
        { Seat.fresh y.bay st with rseq := y.rseq, e := y.e }
      let s2 := (s1.endSeatIos n i).replaceSeat n i
      let s3 := s2.seatEvent ev n i
      let s4 : State := (match s3.crewOf n with
        | none => s3
        | some c =>
          let outs := (c.seats.filter (·.out)).length
          let s5 : State := if 2 ≤ outs then
              (List.range c.seats.length).foldl (fun t k =>
                match t.seatOf n k with
                | some y => if y.st = 1 then
                    (t.modSeat n k fun z => { z with st := if z.log.isEmpty then 0 else 3, byLadder := false }).seatEvent 292 n k
                  else t
                | none => t) s3
            else s3
          if outs = 3 then s5.raise 299 (crewUnit n) else s5)
      ((s4.labelChange n).wakeReads n).takeSpare n i
  | _, _ => s

/-- A seat is failed: EV0288 (R253, R255), or EV0293 (R260). -/
def failSeat (s : State) (n i : Nat) (ev : Nat := 288) : State := s.seatOut n i 4 ev

/-- A seat is absent: EV0289 (R253). -/
def absentSeat (s : State) (n i : Nat) : State := s.seatOut n i 6 289

/-- Whether a seat may go at easy or in recovery (R251): no other is, and at most one is out of service. -/
def mayRest (c : Crew) (i : Nat) : Bool :=
  ((List.range c.seats.length).all fun k => k == i || (match c.seats[k]? with | some x => !x.resting | none => true)) &&
    decide ((c.seats.filter (·.out)).length ≤ 1)

/-- A seat goes at easy (R258, R261). Where R251 forbids it, it stays in service. -/
def easySeat (s : State) (n i : Nat) : State :=
  match s.crewOf n, s.seatOf n i with
  | some c, some x =>
    if x.st = 0 && mayRest c i then
      ((s.modSeat n i fun y => { y with st := 1, byLadder := false, above := none, below := none, lagItem := none }).replaceSeat n i).seatEvent
        290 n i
    else s
  | _, _ => s

/-- A seat leaves at easy for service (R260), or a recalled seat whose log is empty (R251). -/
def backInService (s : State) (n i : Nat) (ev : Bool) : State :=
  let s1 := s.modSeat n i fun x => { x with st := 0, byLadder := false, below := none, above := none }
  if ev then s1.seatEvent 291 n i else s1

/-- After a change of a seat's catch-up log: an empty log ends recalled, and at easy after a ladder (R251, R255). -/
def logChanged (s : State) (n i : Nat) : State :=
  match s.seatOf n i with
  | none => s
  | some x =>
    if !x.log.isEmpty then s
    else if x.st = 3 then s.backInService n i false
    else if x.st = 1 && x.byLadder then s.backInService n i true
    else s

/-- Send the outstanding commands of a seat again (R255). -/
def resendAll (s : State) (n i : Nat) : State :=
  (s.crw.ios.filter fun o => o.crew == n && o.seat == i).foldl (fun t o => t.emit (.drive o.bay o.id o.op)) s

/-- Reads that wait on a seat in recovery are reconstructed instead (R250). -/
def slowReads (s : State) (n i : Nat) : State :=
  (s.crw.ios.filter fun o => o.crew == n && o.seat == i).foldl (fun t o =>
    match o.op, t.jobOf o.job with
    | .read lba, some j => (t.setJob { j with slow := j.slow ++ [(i, lba)] }).advanceReads j.id
    | _, _ => t) s

/-- The seat enters recovery (R251, R255): false where it is failed at once instead. -/
def restForLadder (s : State) (n i : Nat) : State × Bool :=
  match s.crewOf n, s.seatOf n i with
  | some c, some x =>
    if x.st = 2 then (s, true)
    else if x.st = 4 || x.st = 6 then (s, false)
    else if mayRest c i && x.st != 5 then
      (((s.modSeat n i fun y => { y with st := 2, above := none, below := none }).replaceSeat n i).slowReads n i, true)
    else (s.failSeat n i, false)
  | _, _ => (s, false)

/-- Step 2 of the ladder (R255): every command outstanding to the drive for longer than CRW_FAIL.CMD_MS is aborted and sent again. One that has
been sent again once has been outstanding for so long already. -/
def abortLate (s : State) (n i bay : Nat) : State :=
  (s.crw.ios.filter fun o => o.crew == n && o.seat == i && (o.again || decide (o.since + 1000000 * s.ef F.CRW_FAIL_CMD_MS < s.now))).foldl (fun t o =>
    t.emit (.drive o.bay o.id o.op)) (s.emit (.drive bay 0 .abort))

/-- Take one step of the recovery ladder, from step 2 on (R255). A power cycle that the bay refuses fails at once. -/
def ladderStep (s : State) (n i : Nat) (step : Nat) : State :=
  let (s0, ok) := s.restForLadder n i
  if !ok then s0
  else
    let s1 := (s0.modSeat n i fun x => { x with ladder := some step, ladderItem := none }).seatEvent 300 n i
    let bay := match s1.seatOf n i with | some x => x.bay.getD 0 | none => 0
    match step with
    | 2 => s1.abortLate n i bay
    | 3 => (s1.emit (.drive bay 0 .controllerReset)).resendAll n i
    | 4 => ((s1.emit (.drive bay 0 .hotReset)).emit (.drive bay 0 .controllerReset)).resendAll n i
    | 5 =>
      let (s2, done) := s1.powerCycle bay
      if done then (s2.emit (.drive bay 0 .powerCycle)).resendAll n i else s2.failSeat n i
    | _ => s1.failSeat n i

/-- The ladder's next step: an item where the host chooses it (R256), else the step itself. -/
def nextLadder (s : State) (n i step : Nat) : State :=
  if s.assisted 9 then
    let (bay, status) := match s.seatOf n i with | some x => (x.bay.getD 0x3F, x.lastStatus) | none => (0x3F, 0)
    let (s1, handed) := s.handOver 9 n i [bay, n, i, step, status] [] 0 (s.itemPoint none)
    if handed then
      s1.modSeat n i fun x => { x with ladder := some step, ladderItem := some (s1.wrg.nextItem - 1) }
    else s1.ladderStep n i step
  else s.ladderStep n i step

/-- The ladder has succeeded (R255): the seat goes at easy, and is in service once its catch-up log is empty. -/
def ladderDone (s : State) (n i : Nat) : State :=
  match s.seatOf n i with
  | none => s
  | some x =>
    if x.st = 2 then
      ((s.modSeat n i fun y => { y with st := 1, byLadder := true, ladder := none, ladderItem := none }).seatEvent
        290 n i).logChanged n i
    else s.modSeat n i fun y => { y with ladder := none, ladderItem := none }

/-- A drive command has ended in error or has not ended in time (R253): it is sent again once, and then the ladder goes to
step 2. An admin command that is not answered begins at step 3. A journal or intent block is sent again once (R235). -/
def commandFails (s : State) (o : Io) : State :=
  match s.seatOf o.crew o.seat with
  | none => s.dropIo o.id
  | some x =>
    let admin := match o.op with | .abort => true | .sanitize .. => true | .controllerReset => true | _ => false
    if x.ladder.isSome then s
    else if admin then s.nextLadder o.crew o.seat 3
    else if !o.again then
      let ios := s.crw.ios.map fun p => if p.id = o.id then { p with again := true, path := false } else p
      ({ s with crw := { s.crw with ios := ios } }).emit (.drive o.bay o.id o.op)
    else s.nextLadder o.crew o.seat 2

/-- The drive behind a bay is gone or its link is down (R253, R376). -/
def driveGone (s : State) (nn : Nat) : State :=
  let s1 := { s with crw := { s.crw with drives := s.crw.drives.filter (·.bay != nn) } }
  match s1.seatInBay nn with
  | some (n, i) => s1.absentSeat n i
  | none => { s1 with crw := { s1.crw with ios := s1.crw.ios.filter (·.bay != nn) } }

/-- A stop of a bay is refused where it is a seat of a crew that has two seats out of service already (R390). -/
def mayStop (s : State) (nn : Nat) : Bool :=
  match s.seatInBay nn with
  | some (n, i) => match s.crewOf n, s.seatOf n i with
    | some c, some x => x.out || decide ((c.seats.filter (·.out)).length < 2)
    | _, _ => true
  | none => true

/-- A drive whose label R212 refuses, or whose seat is failed (R394). -/
def bayCondemned (s : State) (nn : Nat) : Bool :=
  (match s.seatInBay nn with
    | some (n, i) => (match s.seatOf n i with | some x => x.st == 4 | none => false)
    | none => false) ||
  (match s.crw.drives.find? (·.bay == nn) with
    | some d => (match d.label with
      | some l => !(s.crw.crews.any fun e => e.1 == l.crew && e.2.print == l.print) && !s.crw.crews.isEmpty
      | none => false)
    | none => false)

/-- A drive has become ready: seats that wait for a spare may take it (R264). -/
def driveArrives (s : State) (_nn : Nat) : State :=
  s.crw.crews.foldl (fun t e =>
    (List.range e.2.seats.length).foldl (fun u i =>
      match u.seatOf e.1 i with
      | some x => if x.st = 4 || x.st = 6 then u.takeSpare e.1 i else u
      | none => u) t) s

end Sys2Proof.Machine.State
end

