-- ==== Sys2Proof/Machine/Torn.lean ====
section
/-!
DEFINITION. Torn ranges and deferred write errors (R167 to R169 of spec/05_nvme_target.md, R243 of
spec/07_crews_and_parity.md).
-/

namespace Sys2Proof.Machine

/-- End of a range, exclusive; `nlb` is zero-based (R169). -/
def Torn.stop (t : Torn) : Nat := t.slba + t.nlb + 1

/-- Whether a range shares an LBA with [a, b). -/
def Torn.meets (t : Torn) (v a b : Nat) : Bool := t.vol == v && decide (t.slba < b) && decide (a < t.stop)

/-- The gap between two ranges of one volume. -/
def Torn.gap (t u : Torn) : Nat := if t.stop ≤ u.slba then u.slba - t.stop else t.slba - u.stop

/-- Two ranges joined: everything between them is covered; the first keeps its number and cause (R243). -/
def Torn.join (t u : Torn) : Torn :=
  let a := min t.slba u.slba
  { t with slba := a, nlb := max t.stop u.stop - a - 1 }

/-- The entry of a list nearest to a range, among those a test admits. -/
def nearest (ok : Torn → Bool) (u : Torn) (l : List Torn) : Option Torn :=
  (l.filter ok).foldl (fun a t => match a with
    | none => some t
    | some b => if t.gap u < b.gap u then some t else some b) none

/-- The pair of entries of one volume that lie closest together, entries of one cause first (R243). -/
def closestPair (l : List Torn) : Option (Torn × Torn) :=
  let pairs := l.flatMap fun t => (l.filter fun u => u.vol == t.vol && decide (t.slba < u.slba)).map fun u => (t, u)
  let best (ps : List (Torn × Torn)) : Option (Torn × Torn) := ps.foldl (fun a p => match a with
    | none => some p
    | some b => if p.1.gap p.2 < b.1.gap b.2 then some p else some b) none
  match best (pairs.filter fun p => p.1.cause == p.2.cause) with
  | some p => some p
  | none => best pairs

/-- Enter a range in a torn table of 1,024 entries (R243): the table, whether ranges were joined, and the range where no
entry could take it. -/
def enterTorn (l : List Torn) (u : Torn) : List Torn × Bool × Option Torn :=
  if l.length < 1024 then (l ++ [u], false, none)
  else
    let replace (t n : Torn) : List Torn := l.map fun x => if x == t then n else x
    match nearest (fun t => t.vol == u.vol && t.cause == u.cause) u l with
    | some t => (replace t (t.join u), true, none)
    | none => match nearest (fun t => t.vol == u.vol) u l with
      | some t => (replace t (t.join u), true, none)
      | none => match closestPair l with
        | some (a, b) => ((l.filter (· != b)).map (fun x => if x == a then a.join b else x) ++ [u], true, none)
        | none => (l, true, some u)

/-- What remains of a range after LBAs [a, b) are rewritten (R243). -/
def Torn.minus (t : Torn) (a b : Nat) : List Torn :=
  (if t.slba < a then [{ t with nlb := min t.stop a - t.slba - 1 }] else []) ++
    (if b < t.stop then [{ t with slba := max b t.slba, nlb := t.stop - max b t.slba - 1 }] else [])

namespace State

/-- Take the number of a new entry of a page of a namespace (R169). -/
def takeEntry (s : State) (page nsid : Nat) : State × Nat :=
  let n := s.nvt.nextEntry
  ({ s with nvt := { s.nvt with
    nextEntry := n + 1
    latest := (s.nvt.latest.filter fun e => e.1 != (page, nsid)) ++ [((page, nsid), n)] } }, n)

/-- Write a crew's torn table, both copies, to every seat in service (R207, R243). -/
def writeTorn (s : State) (n : Nat) : State :=
  match s.crewOf n with
  | none => s
  | some c => (List.range c.seats.length).foldl (fun t i =>
      match c.seats[i]? with
      | some x =>
        if x.st = 4 || x.st = 6 then t
        else (t.issueIo n i (.torn 1 (tornTable c.torn)) t.heat 0).issueIo n i (.torn 129 (tornTable c.torn)) t.heat 0
      | none => t) s.showTorn

/-- A TORN record (R236): its payload is the table's entry. -/
def tornRec (u : Torn) (set : Bool) : JRec :=
  ⟨0x08, false, set, u.vol, 0, 0, 0, 0, 32, [u.num, u.vol + 1, u.cause, u.slba, u.nlb, u.heat]⟩

/-- Enter ranges in a crew's torn table, one after another, and journal each change of an entry. A range that no entry takes is held in HBM
and in the logbook. -/
def enterAll (s : State) (n : Nat) (us : List Torn) : State :=
  us.foldl (fun t u =>
    match t.crewOf n with
    | none => t
    | some c =>
      let (l, joined, extra) := enterTorn c.torn u
      let t1 := t.modCrew n fun d => { d with torn := l, spill := match extra with | some o => d.spill ++ [o] | none => d.spill }
      let t2 := (c.torn.filter fun x => !l.contains x).foldl (fun w x => w.placeLoose n (tornRec x false)) t1
      let t2 := (l.filter fun x => !c.torn.contains x).foldl (fun w x => w.placeLoose n (tornRec x true)) t2
      let t3 := if joined then t2.raise 265 (crewUnit n) else t2
      match extra with
      | some o => t3.log kLost 1 [o.vol, o.slba, o.nlb]
      | none => t3) s

/-- Mark a run of LBAs of an ordinary volume torn (R243): one range, one entry of page 0xC1. -/
def tear (s : State) (n v cause slba count : Nat) : State :=
  let (s1, num) := s.takeEntry 0xC1 (v + 1)
  (s1.enterAll n [Torn.mk num v cause slba (count - 1) s.heat]).writeTorn n

/-- Whether any LBA of [a, b) of a volume is torn (R243). -/
def tornIn (s : State) (n v a b : Nat) : Bool :=
  match s.crewOf n with
  | none => false
  | some c => (c.torn ++ c.spill).any fun t => t.meets v a b

/-- LBAs [a, b) of a volume have been rewritten: ranges shrink or split (R243), and a range held in HBM is entered as soon
as an entry is free. -/
def untear (s : State) (n v a b : Nat) : State :=
  match s.crewOf n with
  | none => s
  | some c =>
    if !(c.torn ++ c.spill).any (fun t => t.meets v a b) then s
    else
      let hit := c.torn.filter fun t => t.meets v a b
      let parts := hit.flatMap fun t => t.minus a b
      let s1 := s.modCrew n fun d => { d with
        torn := d.torn.filter (fun t => !t.meets v a b)
        spill := d.spill.flatMap fun t => if t.meets v a b then t.minus a b else [t] }
      let s2 := hit.foldl (fun t u => t.placeLoose n (tornRec u false)) s1
      let s3 := s2.enterAll n parts
      let waiting := match s3.crewOf n with | some d => if d.torn.length < 1024 then d.spill.take 1 else [] | none => []
      let s4 := s3.modCrew n fun d => { d with spill := d.spill.drop waiting.length }
      (s4.enterAll n waiting).writeTorn n

/-- Record a deferred write error (R167): an entry of page 0xC0, and EV0195. -/
def deferError (s : State) (v cause slba count heat : Nat) : State :=
  let (s1, num) := s.takeEntry 0xC0 (v + 1)
  ({ s1 with nvt := { s1.nvt with
    deferred := TornEntry.mk num (v + 1) cause slba (count - 1) heat :: s1.nvt.deferred } }).raise 195 0x8000

/-- The namespace of a volume is in deferred mode (NVT_NS_n.ERRMODE). -/
def deferredMode (s : State) (v : Nat) : Bool := s.is F.NVT_NS_ERRMODE v

end State

end Sys2Proof.Machine
end

