-- ==== Sys2Proof/Machine/Compress.lean ====
section
/-!
DEFINITION. Inline compression (spec/09_inline_compression.md): streams and their table modes, the stored form of a grain,
its check before release, and its recovery from stored sectors.
-/

namespace Sys2Proof.Machine

/-- Blocks 0 to 3 of a grain's plain content. -/
def splitBlocks (len v : Nat) : List Nat := (List.range 4).map fun i => v / 256 ^ (len * i) % 256 ^ len

/-- The grain header of R293 as one little-endian number of 24 B. -/
def grainHeader (dynamic ext : Bool) (clen : Nat) (blockLen : Nat) (bs : List Nat) : Nat :=
  0x01 + 2 ^ 8 * ((if dynamic then 1 else 0) + if ext then 2 else 0) + 2 ^ 16 * clen +
    2 ^ 32 * (bs.foldr (fun b a => crc32c blockLen b + 2 ^ 32 * a) 0)

/-- A grain as it is stored before encryption: sectors, LEN and RAW (R294). -/
structure StoredGrain where
  sectors : List Nat
  len : Nat
  raw : Bool
deriving DecidableEq, Repr

/-- A grain stored raw: its four blocks unchanged (R294). -/
def storeRaw (bs : List Nat) : StoredGrain := ⟨bs, 3, true⟩

/-- Code lengths of literals and lengths, and of distances. -/
abbrev Tables := List Nat × List Nat

/-- The literals and matches of a grain of `total` bytes (R296). -/
def grainTokens (depth : Nat) (lazy : Bool) (total input : Nat) : List Tok := tokens depth lazy [] 0 0 (bytesOf total input)

/-- A grain compressed into header and stream, under dynamic tables or the fixed codes (R292, R293): sectors and LEN, and none where a byte
would lie beyond the third buffer (R294, R305). -/
def storeGrain (ext : Bool) (bs : List Nat) (tables : Option Tables) (toks : List Tok) : Option StoredGrain :=
  let len := if ext then 4112 else 4096
  let bits := deflate tables toks
  let clen := (bits.length + 7) / 8
  if 12288 < 24 + clen then none
  else
    let whole := grainHeader tables.isSome ext clen len bs + 256 ^ 24 * bitsValue bits
    let n := (24 + clen + 4095) / 4096
    some ⟨(List.range n).map fun k => whole / 256 ^ (4096 * k) % 256 ^ 4096, n - 1, false⟩

/-- Sectors as a unit that suffers an upset writes them. -/
def StoredGrain.struck (g : StoredGrain) (e : Nat) : StoredGrain :=
  { g with sectors := (List.range g.sectors.length).map fun k => g.sectors.getD k 0 ^^^ (e / 256 ^ (4096 * k) % 256 ^ 4096) }

/-- The plain blocks of a compressed grain up to block `last`, or none where it fails (R307 to R309): header, stream, and the CHK of every
block that is produced. -/
def loadGrain (ext : Bool) (sectors : List Nat) (last : Nat) : Option (List Nat) :=
  let len := if ext then 4112 else 4096
  let whole := joinBlocks 4096 sectors
  let flags := whole / 2 ^ 8 % 256
  let clen := whole / 2 ^ 16 % 65536
  if whole % 256 ≠ 1 || 4 ≤ flags || (flags / 2 == 1) != ext || clen = 0 || 12264 < clen ||
      sectors.length * 4096 < 24 + clen || whole / 256 ^ 20 % 2 ^ 32 ≠ 0 then none
  else match inflate clen (4 * len) ((last + 1) * len) (whole / 256 ^ 24 % 256 ^ clen) with
    | none => none
    | some out =>
      let bs := (List.range (last + 1)).map fun i => numberOf ((out.drop (len * i)).take len)
      if (List.range (last + 1)).all fun i => crc32c len (bs.getD i 0) == whole / 256 ^ (4 + 4 * i) % 2 ^ 32 then some bs
      else none

namespace State

/-- Publish the number of streams (CMP_STATUS). -/
def showStreams (s : State) : State := s.wr F.CMP_STATUS_STREAMS s.cmp.length

/-- The stream of an association and volume (R298). -/
def streamOf (s : State) (v cntlid : Nat) : Option Stream := s.cmp.find? fun x => x.vol == v && x.cntlid == cntlid

/-- End streams (R298). -/
def endStreams (s : State) (gone : Stream → Bool) : State := { s with cmp := s.cmp.filter fun x => !gone x }.showStreams

/-- The mode of a new stream in hardware mode (CMP_CFG.TABLE, R299). -/
def tableMode (s : State) : Nat := s.ef F.CMP_CFG_TABLE

/-- An empty stream record of a mode. -/
def blankStream (v cntlid mode heat : Nat) (item : Option Nat) : Stream :=
  { vol := v, cntlid := cntlid, mode := mode, byHost := false, llHist := List.replicate 286 0, dHist := List.replicate 30 0, llLen := [], dLen := []
    grains := 0, inBytes := 0, outBytes := 0, heat := heat, since := 0, item := item }

/-- A stream begins (R298, R302): it takes a record, that of the least recent writer where all are in use, and its mode
from CMP_CFG.TABLE or from an item that carries the first 4 KiB. -/
def beginStream (s : State) (v cntlid first : Nat) : State :=
  let s1 := if s.cmp.length < 4096 then s else { s with cmp := s.cmp.drop 1 }.raiseOnce 452 0 0x0000
  let (s2, handed) := if s1.assisted 8 then s1.handOver 8 v cntlid [v, cntlid] [first] 4096 (s1.itemPoint none) else (s1, false)
  let x := blankStream v cntlid s2.tableMode s2.heat (if handed then some (s2.wrg.nextItem - 1) else none)
  { s2 with cmp := s2.cmp ++ [x] }.showStreams

/-- The tables that code a grain of a stream (R299): none for the fixed codes. -/
def tableFor (s : State) (x : Stream) (bytes : List Nat) : Option Tables :=
  let own : Option Tables := if x.llLen.isEmpty then none else some (x.llLen, x.dLen)
  match x.mode with
  | 1 =>
    let fixed := Config.predictedSize bytes []
    let dyn := Config.predictedSize bytes (x.llLen ++ x.dLen)
    if dyn * 100 + s.ef F.CMP_CFG_MARGIN * fixed ≤ 100 * fixed then own else none
  | 2 | 3 => own
  | _ => none

/-- After a grain (R300, R301): its symbols enter the histograms, the end of its block among them, and the tables are rebuilt after REBUILD
grains; host tables never change (R302). The stream becomes the latest writer. -/
def afterGrain (s : State) (x : Stream) (toks : List Tok) (inBytes outBytes : Nat) : State :=
  let due := s.ef F.CMP_CFG_REBUILD ≤ x.since + 1
  let ll := (toks.map Tok.symbol ++ [256]).foldl countSymbol x.llHist
  let dd := (toks.filterMap Tok.distSymbol).foldl countSymbol x.dHist
  let fresh := due && x.mode ≠ 3
  let y : Stream := { x with
    grains := x.grains + 1, inBytes := x.inBytes + inBytes, outBytes := x.outBytes + outBytes, heat := s.heat
    since := if due then 0 else x.since + 1
    llHist := ll, dHist := dd, llLen := if fresh then rebuilt ll else x.llLen, dLen := if fresh then rebuilt dd else x.dLen }
  { s with cmp := (s.cmp.filter fun z => !(z.vol == x.vol && z.cntlid == x.cntlid)) ++ [y] }

/-- A stream record as a compressor loads it (R301): one whose CRC fails is reset to an empty stream in mode dynamic by rule. -/
def loadStream (s : State) (x : Stream) : State × Stream :=
  if s.upset = 0 then (s.drawn, x) else (s.drawn.raise 455 0x0000, blankStream x.vol x.cntlid 1 s.heat none)

/-- Slot of a privileged volume in CRW_PVOL_p: by order of volume number. -/
def pvolSlot (s : State) (v : Nat) : Nat := (s.crw.vols.filter fun x => x.priv && decide (x.v < v)).length

/-- Count a stored grain of `n` bytes (CMP_VOLSTAT_p, CMP_RAW, R490). -/
def countGrain (s : State) (v n : Nat) (g : StoredGrain) : State :=
  let p := s.pvolSlot v
  let s := (s.countOpen 0x380 3 0x0000 n).countOpen 0x380 4 0x0000 (4096 * (g.len + 1))
  if g.raw then ((s.wr F.CMP_VOLSTAT_RAW (s.rd F.CMP_VOLSTAT_RAW p + 1) p).bump F.CMP_RAW_COUNT).countOpen 0x380 2 0x0000
  else ((s.wr F.CMP_VOLSTAT_GRAINS (s.rd F.CMP_VOLSTAT_GRAINS p + 1) p).wr F.CMP_VOLSTAT_SECT
    (s.rd F.CMP_VOLSTAT_SECT p + g.len + 1) p).countOpen 0x380 1 0x0000

/-- A compressor's output goes through its checker before it is released (R303, R312): the grain decompressed must be the input, and so must
CHK be, which is checked with it. A grain that overflows, or that differs, is stored raw. -/
def checkedGrain (s : State) (ext : Bool) (bs : List Nat) (made : Option StoredGrain) : State × StoredGrain :=
  match made, s.pickUnit .compressor none with
  | some g, some u =>
    let h := g.struck s.upset
    if loadGrain ext h.sectors 3 == some bs then (s.drawn, h) else (s.drawn.slip .compressor u, storeRaw bs)
  | _, _ => (s, storeRaw bs)

/-- Store a grain of a volume (R294, R299, R303 to R306): none while it waits for its stream's mode or for its chain in H6. `used` counts the
buffers of H6 that hold the owner's grains already; those of this grain stay until its heat's checkpoint, and the rest of the chain is
released (R186; log entry 143). -/
def storeFor (s : State) (x : Vol) (cntlid : Nat) (owner : Nat × Nat × Nat) (used : Nat) (bs : List Nat) : State × Option StoredGrain :=
  if !x.comp then (s, some (storeRaw bs))
  else if s.rd F.CMP_STATUS_CUNITS = 0 then (s.countGrain x.v (4 * unitBytes (s.fmtOf x.v)) (storeRaw bs), some (storeRaw bs))
  else
    let s1 := match s.streamOf x.v cntlid with | some _ => s | none => s.beginStream x.v cntlid (bs.getD 0 0)
    match s1.streamOf x.v cntlid with
    | none => (s1, some (storeRaw bs))
    | some st =>
      if st.item.isSome then (s1, none)
      else
        let (s2, ok) := s1.acquireFor 6 owner (used + 3)
        if !ok then (s2, none)
        else
          let (s3, y) := s2.loadStream st
          let total := 4 * unitBytes (s.fmtOf x.v)
          let input := joinBlocks (unitBytes (s.fmtOf x.v)) bs
          let toks := grainTokens (s3.ef F.CMP_CFG_DEPTH) (s3.ef F.CMP_CFG_LAZY == 1) total input
          let ext := s.fmtOf x.v == 1
          let (s4, g) := s3.checkedGrain ext bs (storeGrain ext bs (s3.tableFor y (bytesOf total input)) toks)
          let s5 := s4.keepBuffers 6 owner (used + if g.raw then 0 else g.len + 1)
          ((s5.afterGrain y toks total ((g.len + 1) * 4096)).countGrain x.v total g, some g)

/-- Decode a compressed grain (R307 to R309): a second unit decodes it again where the first fails, and a unit that fails twice within 1 s
what a second decodes correctly is withdrawn (EV0453). DESIGN CHOICE: with no unit in service the grain fails (log entry 145). -/
def decodeGrain (s : State) (ext : Bool) (sectors : List Nat) (last : Nat) : State × Option (List Nat) :=
  let good (t : State) : Option (List Nat) := if t.upset = 0 then loadGrain ext sectors last else none
  match s.pickUnit .decompressor none with
  | none => (s, none)
  | some u => match good s with
    | some bs => (s.drawn, some bs)
    | none =>
      let s1 := s.drawn
      match (s1.unitsIn .decompressor).filter (· != u) with
      | [] => (s1, none)
      | _ => match good s1 with
        | some bs => (s1.drawn.slip .decompressor u, some bs)
        | none => (s1.drawn, none)

end State

end Sys2Proof.Machine
end

