-- ==== Sys2Proof/Machine/Stripes.lean ====
section
/-!
DEFINITION. Privileged volumes (R221 to R233 of spec/07_crews_and_parity.md): map entries, free stripes, grains placed in
open stripes, the write of a stripe, and the records of its grains.
-/

namespace Sys2Proof.Machine

/-- Fields of a map entry (R224). -/
def entryState (e : Nat) : Nat := e / 2 ^ 62
def entryLen (e : Nat) : Nat := e / 2 ^ 60 % 4
def entryRaw (e : Nat) : Bool := e.testBit 59
def entryLog (e : Nat) : Nat := e % 2 ^ 48

/-- The entry of a mapped grain, and of a torn one. -/
def mapped (len : Nat) (raw : Bool) (log : Nat) : Nat := 2 ^ 62 + len * 2 ^ 60 + (if raw then 2 ^ 59 else 0) + log
def tornEntry : Nat := 2 ^ 63

/-- A grain's entry; an unlisted grain is unmapped. -/
def Vol.entry (x : Vol) (g : Nat) : Nat := (x.map.lookup g).getD 0

/-- Sectors of a stripe that map entries point to (R230). -/
def Vol.live (x : Vol) (w stripe : Nat) : Nat :=
  x.map.foldl (fun n e => if entryState e.2 = 1 && entryLog e.2 / w = stripe then n + entryLen e.2 + 1 else n) 0

/-- Stripes that are not free. -/
def Vol.taken (x : Vol) : List Nat :=
  x.full ++ x.drained.map (·.1) ++ x.closing.map (·.num) ++ x.host.toList.map (·.num) ++ x.reloc.toList.map (·.num)

/-- A summary entry (R223): grain, first sector, LEN. -/
def summaryEntry (p : Placed) : Nat := p.grain % 2 ^ 32 + 2 ^ 32 * p.first + 2 ^ 48 * p.len

namespace State

/-- Data stripes of a privileged volume (R226), how many are free, and the lowest free one. -/
def dataStripes (s : State) (x : Vol) : Nat := x.rows - s.mapRows x
def freeStripes (s : State) (x : Vol) : Nat := s.dataStripes x - x.taken.length
def freeStripe (s : State) (x : Vol) : Option Nat :=
  (List.range (x.taken.length + 1)).find? fun k => !x.taken.contains k && decide (k < s.dataStripes x)

/-- Show the privileged volumes in CRW_PVOL_p: slots in order of volume number. -/
def showPvols (s : State) : State :=
  let ps := (List.range 4096).filterMap fun v => s.crw.vols.find? fun x => x.v == v && x.priv
  (List.range 16).foldl (fun t p =>
    match ps[p]? with
    | some x => (((t.wr F.CRW_PVOL_VALID 1 p).wr F.CRW_PVOL_VOL x.v p).wr F.CRW_PVOL_FREE (s.freeStripes x) p).wr F.CRW_PVOL_PASS x.pass p
    | none => (((t.wr F.CRW_PVOL_VALID 0 p).wr F.CRW_PVOL_VOL 0 p).wr F.CRW_PVOL_FREE 0 p).wr F.CRW_PVOL_PASS 0 p) s

/-- Show FREE and PASS of one privileged volume. -/
def showPvol (s : State) (v : Nat) : State :=
  match s.volOf v with
  | some x => (s.wr F.CRW_PVOL_FREE (s.freeStripes x) (s.pvolSlot v)).wr F.CRW_PVOL_PASS x.pass (s.pvolSlot v)
  | none => s

/-- Collection starts when FREE falls below LOW, and stops when it reaches HIGH (R230). HIGH is at least LOW + 1. -/
def gcLevel (s : State) (v : Nat) : State :=
  match s.volOf v with
  | none => s
  | some x =>
    let total := s.dataStripes x
    let free := s.freeStripes x
    let low := s.ef F.CRW_GC_LOW
    let high := max (low + 1) (min 50 (s.ef F.CRW_GC_HIGH))
    if !x.gc && decide (free * 100 < low * total) then (s.setVol { x with gc := true }).raise 266 (crewUnit x.crew)
    else if x.gc && decide (high * total ≤ free * 100) then s.setVol { x with gc := false, victims := [] }
    else s

/-- Change a map entry (R224): where a stripe loses its last live grain, the heat is noted (R230), and
while the host answers map misses it is told of the change (R227). -/
def setEntry (s : State) (v g e : Nat) : State :=
  match s.volOf v with
  | none => s
  | some x =>
    let old := x.entry g
    if old = e then s
    else
      let m := (x.map.filter fun p => p.1 != g) ++ (if e = 0 then [] else [(g, e)])
      let y := { x with map := m }
      let w := s.wOf x.crew
      let st := entryLog old / w
      let y1 := if entryState old = 1 && y.live w st = 0 then
          { y with emptied := (y.emptied.filter (·.1 != st)) ++ [(st, s.heat)] } else y
      let s1 := (s.setVol y1).showPvol v
      let s2 := if s1.assisted 2 then s1.notice 2 [v, g, e] else s1
      s2.gcLevel v

/-- Stripes whose last live grain went in a heat whose checkpoint has completed are free (R230). -/
def freeDrained (s : State) (n heat : Nat) : State :=
  (s.crw.vols.filter fun x => x.priv && x.crew == n && x.drained.any fun d => d.2 ≤ heat).foldl (fun t x =>
    ((t.modVol x.v fun y => { y with drained := y.drained.filter fun d => decide (heat < d.2) }).showPvol x.v).gcLevel x.v) s

/-- Stored sectors of a grain that are still in H3, in an open or closing stripe. -/
def inMemory (s : State) (x : Vol) (e : Nat) : Option (List Nat) :=
  let w := s.wOf x.crew
  ((x.host.toList ++ x.reloc.toList ++ x.closing).find? (·.num == entryLog e / w)).bind fun st =>
    (st.grains.find? fun p => p.first == entryLog e % w && p.len == entryLen e).map (·.sectors)

/-- Where stored sector `k` of an entry lies: seat and drive LBA (R208, R224). -/
def sectorPlace (s : State) (x : Vol) (e k : Nat) : Nat × Nat :=
  let w := s.wOf x.crew
  let c := s.chunkOf x.crew
  let row := s.stripeRow x (entryLog e / w)
  let at_ := entryLog e % w + k
  (dataSeat (s.nOf x.crew) row (at_ / c), s.lbaOf x.crew row (at_ % c))

/-- Encrypt and decrypt stored sector `k` of a grain (R316, R317). -/
def sealSector (s : State) (x : Vol) (g k : Nat) (raw : Bool) (v : Nat) : State × Option Nat :=
  s.xtsSeal x.slot (tweak x.v (unitOfGrain g k)) (if raw then unitBytes (s.fmtOf x.v) else 4096) v
def openSector (s : State) (x : Vol) (g k : Nat) (raw : Bool) (v : Nat) : State × Option Nat :=
  s.xtsOpen x.slot (tweak x.v (unitOfGrain g k)) (if raw then unitBytes (s.fmtOf x.v) else 4096) v

/-- Numbered list. -/
def indexed {α : Type} (l : List α) : List (Nat × α) := (List.range l.length).zip l

/-- The data sectors of a full stripe in order: its grains, padding, and the summary (R222, R223). Padding is what the
buffers hold, a free value, under the volume's key (R200). DESIGN CHOICE: with no XTS pipeline in service the sector of padding is a free
value (log entry 146). -/
def stripeSectors (s : State) (x : Vol) (st : Stripe) : State × List Nat :=
  let w := s.wOf x.crew
  let u := s.uOf x.crew
  let used := st.grains.flatMap (·.sectors)
  let (s1, pads) := (List.range (u - st.used)).foldl (fun (a : State × List Nat) i =>
    let left := a.1.fresh % 256 ^ 4096
    let (t, v) := a.1.tick.xtsSeal x.slot (tweak x.v (unitOfPadding (st.used + i))) 4096 left
    (t.tick, a.2 ++ [v.getD (t.fresh % 256 ^ 4096)])) (s, [])
  let entries := st.grains.map summaryEntry
  let summary := (List.range (w - u)).map fun k =>
    (entries.drop (512 * k)).take 512 |>.foldr (fun e a => e + 2 ^ 64 * a) 0
  (s1, used ++ pads ++ summary)

/-- Write a stripe whole with its P and Q (R216, R222). -/
def writeStripe (s : State) (x : Vol) (st : Stripe) : State :=
  let (s1, sec) := s.stripeSectors x st
  let n := x.crew
  let row := s.stripeRow x st.num
  let c := s.chunkOf n
  let k := s.kOf n
  let ns := s.nOf n
  let put := (List.range c).flatMap fun off =>
    let ds := (List.range k).map fun d => (d, sec.getD (d * c + off) 0)
    let lba := s.lbaOf n row off
    ds.map (fun d => ((dataSeat ns row d.1, lba), d.2)) ++
      [((pSeat ns row, lba), parityP ds), ((qSeat ns row, lba), parityQ ds)]
  let j : Job := ⟨0, 2, n, row, x.v, none, [], [], [], [], put, 1, false, false, s.heat, [], [], st.num⟩
  let (s2, id) := s1.startJob j
  (s2.startWrites id s.heat true).countOpen 0x280 1 (crewUnit n)

/-- Close an open stripe (R188 step 3, R222): grains whose path is open take the stripe path, or the journal path where a
seat is out of service or at easy; then the stripe is written. -/
def closeStripe (s : State) (v : Nat) (reloc : Bool) : State :=
  match s.volOf v with
  | none => s
  | some x =>
    match (if reloc then x.reloc else x.host) with
    | none => s
    | some st =>
      let healthy := match s.crewOf x.crew with | some c => c.healthy | none => false
      let st1 := { st with grains := st.grains.map fun p => if p.path = 0 then { p with path := if healthy then 1 else 2 } else p }
      let y := if reloc then { x with reloc := none, closing := x.closing ++ [st1] } else { x with host := none, closing := x.closing ++ [st1] }
      (s.setVol y).writeStripe y st1

/-- Place a stored grain at the next free sectors of an open stripe (R221, R222). The result is its entry; none where no
stripe is free (R233). -/
def placeGrain (s : State) (v : Nat) (reloc : Bool) (g len : Nat) (raw : Bool) (sectors : List Nat) (cmd : Option CmdId)
    (expected : Option Nat) : State × Option Nat :=
  match s.volOf v with
  | none => (s, none)
  | some x0 =>
    let full := match (if reloc then x0.reloc else x0.host) with
      | some st => decide (s.uOf x0.crew < st.used + len + 1)
      | none => false
    let s1 := if full then s.closeStripe v reloc else s
    match s1.volOf v with
    | none => (s1, none)
    | some x =>
      let cur := if reloc then x.reloc else x.host
      let st? : Option Stripe := match cur with
        | some st => some st
        | none => (s1.freeStripe x).map fun k => Stripe.mk k 0 [] false
      match st? with
      | none => (s1.raiseOnce 267 v (crewUnit x.crew), none)
      | some st =>
        let healthy := match s1.crewOf x.crew with | some c => c.healthy | none => false
        let p : Placed := ⟨g, st.used, len, raw, sectors, cmd, if healthy then 0 else 2, expected, s1.now⟩
        let st1 := { st with used := st.used + len + 1, grains := st.grains ++ [p] }
        let y := if reloc then { x with reloc := some st1 } else { x with host := some st1 }
        ((s1.setVol y).showPvol v |>.gcLevel v, some (mapped len raw (st.num * s1.wOf x.crew + p.first)))

/-- The placed grains of a command, with the stripe that holds each. -/
def grainsOf (_s : State) (x : Vol) (id : CmdId) : List (Nat × Placed) :=
  (x.host.toList ++ x.closing).flatMap fun st => (st.grains.filter (·.cmd == some id)).map fun p => (st.num, p)

/-- The record of a placed grain (R222, R236): LS_MAP on the stripe path, LS_DATA with the grain on the journal path, and RELOCATE for one
that is collected (R231). -/
def grainRec (s : State) (x : Vol) (stripe : Nat) (p : Placed) : JRec :=
  let e := mapped p.len p.raw (stripe * s.wOf x.crew + p.first)
  match p.expected with
  | some old => ⟨0x06, false, false, x.v, 0, p.grain, e, 1, 8, [old]⟩
  | none =>
    if p.path = 2 then
      ⟨0x02, false, false, x.v, 0, p.grain, e, 1, (p.len + 1) * (if p.raw then unitBytes (s.fmtOf x.v) else 4096), p.sectors⟩
    else ⟨0x03, false, false, x.v, 0, p.grain, e, 1, 0, []⟩

end State

end Sys2Proof.Machine
end

