-- ==== Sys2Proof/Machine/Target.lean ====
section
/-!
DEFINITION. The NVMe target (spec/05_nvme_target.md): associations and visibility (R136 to R144), command contexts (R145 to
R148), statuses and answers (R170, R173, R175), cancelling a command (R161, R176), and reservations (R172 to R174).
-/

namespace Sys2Proof.Machine

namespace State

/-- An association; store a changed one. -/
def assocOf (s : State) (cntlid : Nat) : Option Assoc := s.nvt.assocs.find? (·.cntlid == cntlid)
def setAssoc (s : State) (a : Assoc) : State :=
  { s with nvt := { s.nvt with assocs := s.nvt.assocs.map fun x => if x.cntlid = a.cntlid then a else x } }

/-- Show contexts in use and associations served (NVT_CTX_USED, NVT_ASSOC). -/
def showTarget (s : State) : State :=
  (s.wr F.NVT_CTX_USED_USED (s.nvt.cmds.filter (·.ctx)).length).wr F.NVT_ASSOC_COUNT s.nvt.assocs.length

/-- A volume that is the secondary of a cross-shelf mirror (R286). -/
def secondary (s : State) (v : Nat) : Bool :=
  (List.range 256).any fun m => s.ef F.TWN_XM_VALID m == 1 && s.ef F.TWN_XM_ROLE m == 1 && s.ef F.TWN_XM_VOL m == v

/-- A namespace entry with an impossible format (R158). -/
def impossible (s : State) (v : Nat) : Bool :=
  s.rd F.NVT_NS_PITYPE v == 2 || (s.rd F.NVT_NS_FMT v == 0 && s.rd F.NVT_NS_PITYPE v != 0)

/-- Writes of a crew's replay have not ended (R213). -/
def crewReplays (s : State) (n : Nat) : Bool := match s.crewOf n with | some c => c.replaying | none => false

/-- Namespace v + 1 exists (R157, R158, R213, R286). -/
def nsExists (s : State) (v : Nat) : Bool :=
  s.ef F.NVT_NS_VALID v == 1 && s.ef F.CRW_VOL_VALID v == 1 && (match s.volOf v with | some x => !s.crewReplays x.crew | none => false) &&
    !s.impossible v && !s.secondary v

/-- A namespace is visible to an association (R141, R270). -/
def visible (s : State) (a : Assoc) (v : Nat) : Bool :=
  s.nsExists v && s.ef F.NVT_NS_SUB v == a.sub &&
    (match s.volOf v with | some x => s.prefers x.crew != a.adopted | none => false)

/-- Whether admission has stopped: a fatal fault (R178), or a power-fail drain (R195). -/
def admissionHalted (s : State) : Bool := s.fatal || s.is F.NVT_STATUS_HALT || s.rd F.HMP_PFAIL_STATE != 0

/-- Put an answer on the wire (R122, R137): placements, then the response capsule on the same flow, under the slot of the
command's capsule. -/
def sendAnswer (s : State) (k : Cmd) (st : Status) (dw0 : Nat) (bodies : List SentBody) : State :=
  let (s1, m) := s.newMsgid k.flow.ip k.flow.ptag
  let s2 := s1.setCmd { k with phase := 3, answer := some (st, dw0), rmsgid := m, due := none, placed := !bodies.isEmpty }
  let s3 := if st = stOk then s2 else s2.noteError k.id st
  (s3.countOpen 0x200 (st.sct * 256 + st.sc) 0x8000).sendOn k.flow (bodies ++ [.response k.id m st dw0 k.sqhd k.enc])

/-- A caught command whose answer has not gone out yet: the Abort, or the Acquire that preempts and aborts, answers after it (R171, R174). -/
def caughtFirst (s : State) (k : Cmd) : Bool :=
  s.nvt.cmds.any fun t => t.id != k.id && (match t.due with | some (st, _) => st == stAbortRequested | none => false) &&
    (match k.req with
      | .abort sqid cid => t.id.cntlid == k.id.cntlid && t.id.qid == sqid && t.id.cid == cid
      | .rsvAcquire n 2 .. => t.req.nsid == n
      | _ => false)

/-- What an answer waits for has come: the twin has its record and its state (R273), and the commands that it caught are answered. -/
def answerFree (s : State) (k : Cmd) : Bool := s.mirrored k.recFrame && s.mirrored k.gate && !s.caughtFirst k

/-- Buffers of H10 for an answer: its placements and its response capsule (R182). -/
def answerBuffers (bodies : List SentBody) : Nat :=
  1 + buffersFor (bodies.foldl (fun n b => n + (match b with | .place _ _ _ len _ _ => len | _ => 0)) 0)

/-- An answer goes out once it may and H10 has buffers for it (R185); until then it is due. -/
def putAnswer (s : State) (k : Cmd) (st : Status) (dw0 : Nat) (bodies : List SentBody) : State :=
  if !s.answerFree k then s.setCmd { k with due := some (st, dw0, bodies) }
  else
    let (t, ok) := s.acquireFor 10 (cmdOwner k.id) (answerBuffers bodies)
    if ok then t.sendAnswer k st dw0 bodies else t.setCmd { k with due := some (st, dw0, bodies) }

/-- Answer a command once (R175). In a twin the answer waits until the partner holds its record, and for a write its new
state (R273). After a fatal fault of a single NP32 every answer is Command Interrupted (R178). Nothing is sent for a command whose
association has ended (R144). -/
def answer (s : State) (c : CmdId) (st : Status) (dw0 : Nat) (bodies : List SentBody) : State :=
  match s.cmdOf c with
  | none => s
  | some k =>
    if k.phase = 3 || k.due.isSome || k.req.silent then s
    else if k.mute then (if k.ended then s.dropCmd c else s.setCmd { k with phase := 3 })
    else
      let (st, dw0, bodies) := if s.is F.NVT_STATUS_HALT then (stInterrupted, 0, []) else (st, dw0, bodies)
      let (s1, fr) := if s.mirrors && !k.req.free then s.mirror (.cmdState (stateRec c 2 (some (st, dw0)) k.group)) else (s, none)
      s1.putAnswer { k with gate := if k.req.access = 2 || k.req.reserves then fr else none } st dw0 bodies

/-- Answers that waited go out (R185, R273). -/
def answersDue (s : State) : State :=
  s.nvt.cmds.foldl (fun t k => match k.due with
    | some (st, dw0, bodies) => t.putAnswer k st dw0 bodies
    | none => t) s

/-- An answer that is due becomes another, with no placements (R176, R178). -/
def takeBack (s : State) (c : CmdId) (st : Status) : State :=
  match s.cmdOf c with
  | some k => if k.due.isSome then ((s.dropWait 10 (cmdOwner c)).setCmd { k with due := none }).answer c st 0 [] else s
  | none => s

/-- Items of a command no longer wait for an answer; a later answer is late (R30). -/
def endItems (s : State) (tags : List Nat) : State :=
  tags.foldl (fun t g => match t.itemOf g with
    | some it =>
      let u := t.endItem g
      { u with wrg := { u.wrg with fallen := u.wrg.fallen ++ [(g, it.cox, u.now)] } }
    | none => t) s

/-- The reservation state of a namespace. -/
def rsvOf (s : State) (nsid : Nat) : Reservation :=
  (s.nvt.reservations.find? (·.nsid == nsid)).getD ⟨nsid, 0, [], 0, none, false⟩
def setRsv (s : State) (r : Reservation) : State :=
  { s with nvt := { s.nvt with reservations := (s.nvt.reservations.filter fun x => x.nsid != r.nsid) ++ [r] } }

/-- A reservation command that is not done is undone (R144, R176): the state is that before it, with what later commands make of that.
Where a later one has placed its record, another gives the state as it now is. -/
def undoRsv (s : State) (k : Cmd) : State :=
  match k.undo with
  | none => s
  | some old =>
    let later := sortOn (fun m => m.order)
      (s.nvt.cmds.filter fun m => m.undo.isSome && m.req.nsid == k.req.nsid && decide (k.order < m.order))
    let again (x : State × Reservation) (m : Cmd) : State × Reservation :=
      let host := match x.1.assocOf m.id.cntlid with | some a => a.hostid | none => 0
      (x.1.setCmd { m with undo := some x.2 }, (rsvEffect m.req x.2 host).new)
    let (t, r) := later.foldl again (s.setCmd { k with undo := none }, old)
    match later.isEmpty, t.volOf (k.req.nsid - 1) with
    | false, some x => (t.setRsv r).placeLoose x.crew (rsvRec x.v r)
    | _, _ => t.setRsv r

/-- Stop everything that a command has under way (R144, R161, R171, R176): items, rows, fetches, waits and buffers of its
stages. A group that it has placed is cancelled (R237). -/
def stopWork (s : State) (c : CmdId) : State :=
  match s.cmdOf c with
  | none => s
  | some k =>
    let s1 := s.endItems k.items
    let s2 := (s1.crw.jobs.filter fun j => j.cmd == some c).foldl (fun t j => t.orphan j.id) s1
    let s3 := match k.group with | some (n, h, g) => if k.phase < 2 then s2.cancelGroup n h g else s2 | none => s2
    let s3 := if k.phase < 2 then s3.undoRsv k else s3
    let s4 := { s3 with
      nvt := { s3.nvt with fetches := s3.nvt.fetches.filter fun x => x.cmd != c }
      crw := { s3.crw with misses := s3.crw.misses.filter fun x => x.2.2.1 != c }
      hmp := { s3.hmp with waits := s3.hmp.waits.filter fun w => w.owner != cmdOwner c }
      twn := { s3.twn with waits := s3.twn.waits.filter fun w => w.cmd != some c || (k.tokens.contains w.token && 2 ≤ k.phase) } }
    let free (p : Placed) : Placed := if p.cmd = some c then { p with cmd := none, path := 3 } else p
    let drop (st : Stripe) : Stripe := { st with grains := st.grains.map free }
    let vols := s4.crw.vols.map fun (x : Vol) => { x with host := x.host.map drop, closing := x.closing.map drop }
    let s4 := { s4 with crw := { s4.crw with vols := vols } }
    let s5 := [2, 3, 5, 6].foldl (fun t h => t.freeBuffers h (cmdOwner c)) s4
    match s5.cmdOf c with
    | some k2 => s5.setCmd { k2 with step := 6, items := [], group := none, unchecked := false }
    | none => s5

/-- Stop a command and answer it. -/
def refuse (s : State) (c : CmdId) (st : Status) : State := (s.stopWork c).answer c st 0 []

/-- Contexts that a controller holds, and those held beyond reserves (R146). A Connect to the admin queue has no association yet: it draws
on the shared pool. -/
def ctxHeld (s : State) (cntlid : Nat) : Nat := (s.nvt.cmds.filter fun k => k.ctx && k.id.cntlid == cntlid).length
def sharedUsed (s : State) : Nat :=
  s.nvt.assocs.foldl (fun n a => n + (s.ctxHeld a.cntlid - s.ef F.NVT_CTX_RSV))
    (s.nvt.cmds.filter fun k => k.ctx && decide (0xFFFF < k.id.cntlid)).length

/-- Contexts for commands of hosts: 65,536, less the reserve of a federation (R145); and those of them that no association reserves. -/
def ctxTotal (s : State) : Nat := 65536 - (if s.is F.SKF_SHELF_FED_EN then 1024 else 0) - s.lostBuffers .contexts
def sharedTotal (s : State) : Nat := s.ctxTotal - s.ef F.NVT_CTX_RSV * s.nvt.assocs.length

/-- The most contexts of one association (NVT_CTX.CAP): 0 is 65,536, any other value is held to 64 or more. -/
def ctxCap (s : State) : Nat := if s.ef F.NVT_CTX_CAP = 0 then 65536 else max 64 (s.ef F.NVT_CTX_CAP)

/-- A context that a controller may take now is free (R145, R146): of its reserve, or of the shared pool. -/
def ctxReserved (s : State) (cntlid : Nat) : Bool := decide (cntlid ≤ 0xFFFF) && decide (s.ctxHeld cntlid < s.ef F.NVT_CTX_RSV)
def ctxFree (s : State) (cntlid : Nat) : Bool :=
  decide ((s.nvt.cmds.filter fun k => k.ctx && !k.req.silent).length < s.ctxTotal) && decide (s.ctxHeld cntlid < s.ctxCap) &&
    (s.ctxReserved cntlid || decide (s.sharedUsed < s.sharedTotal))

/-- A capsule that waits for a context (R147). -/
def Cmd.waits (k : Cmd) : Bool := k.phase == 0 && !k.req.free && !k.adopted && k.due.isNone

/-- The waiting capsule to which a free context goes (R146). -/
def nextWaiting (s : State) : Option Cmd :=
  let waiting := s.nvt.cmds.filter fun k => Cmd.waits k && s.ctxFree k.id.cntlid
  match waiting.find? fun k => s.ctxReserved k.id.cntlid with
  | some k => some k
  | none => waiting.head?

/-- Give notice to an association, by the DW0 of its Asynchronous Event Request (R151, R157, R174). -/
def giveNotice (s : State) (cntlid dw0 : Nat) : State :=
  match s.assocOf cntlid with
  | none => s
  | some a =>
    match a.aers with
    | c :: rest => (s.setAssoc { a with aers := rest }).answer c stOk dw0 []
    | [] => s.setAssoc { a with notices := addTo a.notices dw0 }

/-- A registration or reservation of a host has been preempted or released (R174): log entry and notice. Types 1, 2 and 3
are registration preempted, reservation released and reservation preempted; the mask has a bit for each. -/
def rsvNotice (s : State) (host nsid type : Nat) : State :=
  (s.nvt.assocs.filter (·.hostid == host)).foldl (fun t a =>
    match t.assocOf a.cntlid with
    | none => t
    | some b =>
      if ((b.rsvMask.lookup nsid).getD 0).testBit type then t
      else (t.setAssoc { b with
          rsvLog := b.rsvLog ++ [(b.rsvCount + 1, type, nsid)], rsvCount := b.rsvCount + 1 }).giveNotice a.cntlid 0x00800006) s

/-- The command of a packet that its target sends: a placement, a response capsule or a fetch. -/
def bodyOf (b : SentBody) : Option CmdId :=
  match b with
  | .place c .. | .response c .. | .fetch c .. => some c
  | _ => none

/-- What the end of an association makes of one of its commands (R144). Buffers in H4 and H10 of one whose response has gone out are
released when that is acknowledged (R186). -/
def endWith (s : State) (k : Cmd) : State :=
  let drop (t : State) : State := (t.freeBuffers 4 (cmdOwner k.id)).freeBuffers 10 (cmdOwner k.id)
  if k.phase = 3 then
    let out := s.skf.flows.any fun f => f.sent.any fun p => match p.2 with | .response c .. => c == k.id | _ => false
    let t := if k.step = 5 then s.setCmd { k with mute := true, ctx := false, acked := true } else s.dropCmd k.id
    if out then t else drop t
  else if k.phase = 2 then
    drop ((s.dropWait 10 (cmdOwner k.id)).setCmd { k with mute := true, ctx := false, due := none, phase := 3, acked := true })
  else drop ((s.stopWork k.id).dropCmd k.id)

/-- An association ends (R144): what becomes of its commands, and what is released. Packets that have not been sent are given up, and
capsules that have been delivered are discarded (R179). -/
def endAssoc (s : State) (cntlid : Nat) : State :=
  match s.assocOf cntlid with
  | none => s
  | some a =>
    let s1 := (s.nvt.cmds.filter (·.id.cntlid == cntlid)).foldl endWith s
    let s2 := { s1 with nvt := { s1.nvt with
      assocs := s1.nvt.assocs.filter (·.cntlid != cntlid)
      errors := s1.nvt.errors.filter (·.2.1.cntlid != cntlid)
      freed := s1.nvt.freed ++ [(cntlid, s1.now)] } }
    let s3 := (s2.endStreams fun x => x.cntlid == cntlid).dropQueued fun b =>
      match bodyOf b with | some c => c.cntlid == cntlid | none => false
    let (s4, _) := s3.mirror (.assoc (s3.assocRec a true))
    let gone (d : Delivered) : Bool := match d.cap with | some c => c.1 == cntlid | none => false
    let s5 := (s4.skf.delivered.filter gone).foldl (fun t d => t.freeMsg ⟨d.ip, d.port, d.ptag⟩ d.msgid) s4
    { s5 with skf := { s5.skf with
      delivered := s4.skf.delivered.filter fun d => !gone d
      discarded := s4.skf.discarded ++ s4.skf.delivered.filter gone } }.showTarget

/-- The content of a capsule agrees with the submission queue entry of the SUBMIT that delivered it (R127): opcode, CID, NSID, and the
first LBA and number of blocks (log entry 125). -/
def agreesSqe (q : Nat) (c : Capsule) (req : Req) : Bool :=
  let at_ (a n : Nat) : Nat := q / 256 ^ a % 256 ^ n
  (c.alien || at_ 0 1 == req.opcode) && at_ 2 2 == c.cid && (!req.isIo || at_ 4 4 == req.nsid) &&
    (match req with
      | .read io | .compare io | .write io | .writeZeroes io => at_ 40 8 == io.slba && at_ 48 2 == io.nlb
      | _ => true)

/-- Take the delivery of a capsule that its command handles now: none where it has not been delivered before. The flag says that it was
discarded with its association (R179). -/
def takeCapsule (s : State) (c : Capsule) (req : Req) : State × Option (Delivered × Bool) :=
  let mine (d : Delivered) : Bool :=
    d.mtype == 0 && d.msgid == c.msgid && d.cap == some (c.cntlid, c.qid, c.cid) && d.ip == c.flow.ip && d.port == c.flow.port &&
      d.ptag == c.flow.ptag && (match d.sqe with | some q => agreesSqe q c req | none => true)
  match s.skf.delivered.find? mine, s.skf.discarded.find? mine with
  | some d, _ => (({ s with skf := { s.skf with delivered := s.skf.delivered.filter (· != d) } }).freeMsg c.flow c.msgid, some (d, false))
  | none, some d => ({ s with skf := { s.skf with discarded := s.skf.discarded.filter (· != d) } }, some (d, true))
  | none, none => (s, none)

/-- The identifier of a capsule's command. -/
def capId (c : Capsule) : CmdId := connId c.flow ⟨c.cntlid, c.qid, c.cid, c.msgid⟩

/-- Answer a capsule that is not executed, on the flow on which it arrived (R138, R142). -/
def refuseOn (s : State) (c : Capsule) (st : Status) : State := s.refuseCapsule c.flow (capId c) st c.enc

/-- SQHD of a queue rises by one for each capsule taken (R142). -/
def nextSqhd (a : Assoc) (qid : Nat) : Assoc × Nat :=
  let size := ((a.queues.lookup qid).getD 0) + 1
  let n := (((a.sqhd.lookup qid).getD 0) + 1) % size
  ({ a with sqhd := (a.sqhd.filter (·.1 != qid)) ++ [(qid, n)] }, n)

/-- Hold a delivered command under R125 and R145. `at_` and `point` are the times of its delivery and of its answer point (R175). -/
def holdCmd (s : State) (c : Capsule) (req : Req) (sqhd at_ point : Nat) : State :=
  let id := capId c
  let stop := if req = .aer then 0 else point
  let (s1, fr) := if req.free then (s, none)
    else s.mirror (.cmd (cmdRec id c.flow c.keyhi c.enc req (s.tod - (s.now - at_)) (s.tod + stop - s.now)))
  let err := if c.alien then some stInvalidOpcode else if c.bad then some stInvalidField else none
  let k : Cmd := { Cmd.fresh id c.flow c.keyhi c.enc req at_ stop s.nvt.nextOrder sqhd s.heat with recFrame := fr, err := err }
  { s1 with nvt := { s1.nvt with cmds := s1.nvt.cmds ++ [k], nextOrder := s1.nvt.nextOrder + 1 } }

end State

end Sys2Proof.Machine
end

