-- ==== Sys2Proof/Machine/Blocks.lean ====
section
/-!
DEFINITION. Blocks of a namespace: protection information (R158), what deallocated LBAs read as (R150), and how a transfer
is cut into placements and fetches (R122, R123, R153 to R155 of spec/05_nvme_target.md and spec/04_skiff_transport.md).
-/

namespace Sys2Proof.Machine

/-- A number with its `n` bytes in the opposite order: protection information is big-endian in its metadata. -/
def swapBytes (n v : Nat) : Nat := (List.range n).foldl (fun a i => a * 256 + v / 256 ^ i % 256) 0

/-- The 4,096 B of data of a block, and its metadata above them. -/
def blockData (b : Nat) : Nat := b % 256 ^ 4096
def blockMeta (b : Nat) : Nat := b / 256 ^ 4096

/-- Protection information in 16 B of metadata: guard, application tag and reference tag (R158). -/
def piMeta (guard app ref : Nat) : Nat := swapBytes 8 guard + 2 ^ 64 * swapBytes 2 app + 2 ^ 80 * swapBytes 6 ref
def piGuard (m : Nat) : Nat := swapBytes 8 (m % 2 ^ 64)
def piApp (m : Nat) : Nat := swapBytes 2 (m / 2 ^ 64 % 2 ^ 16)
def piRef (m : Nat) : Nat := swapBytes 6 (m / 2 ^ 80 % 2 ^ 48)

/-- A block with metadata. -/
def withMeta (data m : Nat) : Nat := data + 256 ^ 4096 * m

/-- Parts of at most `most` bytes of a run of `len` bytes: offset and length of each. -/
def cutRun (most len : Nat) : Nat → List (Nat × Nat)
  | 0 => []
  | n + 1 => cutRun most len n ++ (if n * most < len then [(n * most, min most (len - n * most))] else [])

/-- Part of a transfer's bytes. -/
def sliceOf (data off len : Nat) : Nat := data / 256 ^ off % 256 ^ len

/-- Total of keyed lengths. -/
def sglBytes (bs : List (Nat × Nat × Nat)) : Nat := bs.foldl (fun a b => a + b.2.1) 0

/-- Each descriptor with the place of its first byte in the transfer. -/
def sglPlaces : List (Nat × Nat × Nat) → Nat → List (Nat × Nat × Nat × Nat)
  | [], _ => []
  | b :: rest, at_ => (at_, b) :: sglPlaces rest (at_ + b.2.1)

namespace State

/-- Capacity of a namespace in LBAs (R215). -/
def nsSize (s : State) (v : Nat) : Nat := match s.volOf v with | some x => x.cap * 64 | none => 0

/-- A namespace whose blocks carry protection information (R158). -/
def protects (s : State) (v : Nat) : Bool := s.fmtOf v == 1 && s.rd F.NVT_NS_PITYPE v != 0

/-- What a deallocated LBA reads as (R150). -/
def blankBlock (s : State) (v : Nat) : Nat := if s.protects v then withMeta 0 (2 ^ 64 - 1) else 0

/-- Bytes that move for each block (R158). -/
def movedBytes (s : State) (v : Nat) (pract : Bool) : Nat :=
  if s.fmtOf v = 0 || (s.protects v && pract) then 4096 else 4112

/-- The reference tag of block `i`: it rises by one with each block under type 1. -/
def refTagOf (s : State) (v reftag i : Nat) : Nat :=
  if s.rd F.NVT_NS_PITYPE v = 1 then (reftag + i) % 2 ^ 48 else reftag % 2 ^ 48

/-- The checks that PRCHK selects (R158): guard, application tag under its mask, and, under type 1, reference tag. -/
def checkPi (s : State) (v : Nat) (io : IoReq) (i b : Nat) : Option Status :=
  let m := blockMeta b
  if io.prchk.testBit 2 && piGuard m != crc64 4096 (blockData b) then some stGuard
  else if io.prchk.testBit 1 && (piApp m &&& io.lbatm) != (io.lbat &&& io.lbatm) then some stAppTag
  else if io.prchk.testBit 0 && s.rd F.NVT_NS_PITYPE v == 1 && piRef m != s.refTagOf v io.reftag i then some stRefTag
  else none

/-- A block with inserted protection information. -/
def insertPi (s : State) (v : Nat) (io : IoReq) (i data : Nat) : Nat :=
  withMeta data (piMeta (crc64 4096 data) (io.lbat % 65536) (s.refTagOf v io.reftag i))

/-- Block `i` as it comes from the host (R158): its stored form before the cipher, and the check that fails. -/
def fromHost (s : State) (v : Nat) (io : IoReq) (i buf : Nat) : Nat × Option Status :=
  let u := s.movedBytes v io.pract
  let raw := sliceOf buf (u * i) u
  if !s.protects v then (raw, none)
  else if io.pract then (s.insertPi v io i raw, none)
  else (raw, s.checkPi v io i raw)

/-- Block `i` of a Write Zeroes (R149, R220). With PRACT = 0 under protection information the host supplies none, and the
spec states none: it is a free value. -/
def zeroBlock (s : State) (v : Nat) (io : IoReq) (i : Nat) : Nat :=
  if io.deac then s.blankBlock v
  else if !s.protects v then 0
  else if io.pract then s.insertPi v io i 0
  else withMeta 0 (Config.freeValue (s.free + i) % 2 ^ 128)

/-- Block `i` as it goes to the host, and the check that fails (R158). -/
def toHost (s : State) (v : Nat) (io : IoReq) (i b : Nat) : Nat × Option Status :=
  if !s.protects v then (b, none)
  else (if io.pract then blockData b else b, s.checkPi v io i b)

/-- Bytes of a command's transfer: to or from the host (R154). None where it moves none. -/
def transferBytes (s : State) (req : Req) : Option Nat :=
  match req with
  | .read io | .write io | .compare io => some ((io.nlb + 1) * s.movedBytes (io.nsid - 1) io.pract)
  | .rsvReport _ numd .. => some (4 * (numd + 1))
  | .getLog _ _ _ numd _ => some (4 * (numd + 1))
  | .identify .. => some 4096
  | .getFeatures 0x81 .. => some 16
  | .dsm _ nr true .. => some (16 * (nr + 1))
  | .rsvRegister .. | .rsvAcquire .. => some 16
  | .rsvRelease .. => some 8
  | _ => none

/-- The most payload bytes of one placement: the MTU, less the envelope with ENC set (R319). -/
def placeMost (s : State) (enc : Option Nat) : Nat := s.mtu - (if enc.isSome then 32 else 0)

/-- The placements of a command's data over its keyed descriptors (R122, R155). -/
def placements (s : State) (k : Cmd) (blocks : List (Nat × Nat × Nat)) (data : Nat) : List SentBody :=
  let most := s.placeMost k.enc
  (sglPlaces blocks 0).flatMap fun d =>
    (cutRun most d.2.2.1 (d.2.2.1 / most + 1)).map fun c =>
      SentBody.place k.id (d.2.1 + c.1) (k.keyhi * 2 ^ 32 + d.2.2.2) c.2 (sliceOf data (d.1 + c.1) c.2) k.enc

/-- Answer with data (R122): what a descriptor names is placed, and then the response goes. -/
def answerData (s : State) (c : CmdId) (data : Nat) : State :=
  match s.cmdOf c with
  | none => s
  | some k => match k.req.sgl with
    | some (.keyed bs) => s.answer c stOk 0 (s.placements k bs data)
    | _ => s.answer c stOk 0 []

/-- Fetch the data of a write or Compare (R123): one FETCH with a fresh FTAG for each keyed descriptor. -/
def fetchData (s : State) (c : CmdId) (blocks : List (Nat × Nat × Nat)) : State :=
  match s.cmdOf c with
  | none => s
  | some k =>
    let places := (sglPlaces blocks 0).filter fun d => d.2.2.1 != 0
    let s0 := s.setCmd { k with want := sglBytes blocks, buf := 0 }
    let (s1, bodies) := places.foldl (fun (a : State × List SentBody) d =>
      let ftag := a.1.skf.nextFtag
      let t := { a.1 with
        skf := { a.1.skf with nextFtag := ftag + 1 }
        nvt := { a.1.nvt with fetches := a.1.nvt.fetches ++ [Fetch.mk c ftag d.1 d.2.2.1 0] } }
      (t, a.2 ++ [SentBody.fetch c d.2.1 (k.keyhi * 2 ^ 32 + d.2.2.2) d.2.2.1 ftag])) (s0, [])
    s1.sendOn k.flow bodies

end State

end Sys2Proof.Machine
end

