-- ==== Sys2Proof/Machine/SkiffCmds.lean ====
section
/-!
DEFINITION. The commands of Skiff that act on flows, reach keys and chains alone (spec/04_skiff_transport.md): ACK and
NAK packets, delivered control messages, and the ends of a flow's intervals.
-/

namespace Sys2Proof.Machine

namespace State

/-- A packet that is not sequenced: Skiff traffic (R97), well formed (R103), handled under R106. -/
def bareArrive (s : State) (h : SkHdr) (b : PktBody) : State :=
  if !s.isSkiff h then s
  else
    let (t, ce) := s.fromSwitch h
    if headBad h false then t.malformed else (t.arrive h b ce).fireDue

/-- A NAK packet arrives. -/
def nakArrive (s : State) (h : SkHdr) (code nseq : Nat) : State := s.bareArrive h (.nak code nseq)

/-- A delivered message of Skiff control is taken: it leaves the deliveries and gives back its buffers (R113, R186). The
result is the sequence number of its packet, 0 where the delivery is not held. -/
def takeControl (s : State) (r : FlowRef) (mtype msgid : Nat) : State × Nat :=
  let mine (d : Delivered) : Bool := d.ip == r.ip && d.port == r.port && d.ptag == r.ptag && d.mtype == mtype && d.msgid == msgid
  let seq := match s.skf.delivered.find? mine with | some d => d.seq | none => 0
  (({ s with skf := { s.skf with delivered := s.skf.delivered.filter fun d => !mine d } }).freeMsg r msgid, seq)

/-- Whether the reach-key table holds an entry of an address and tag. -/
def hasKey (s : State) (ip ptag : Nat) : Bool := s.skf.keys.any fun k => k.1 == ip && k.2.1 == ptag

/-- Release a reach-key entry with its chains (R120, R128). -/
def releaseKey (s : State) (ip ptag : Nat) : State :=
  ({ s with skf := { s.skf with
    keys := s.skf.keys.filter fun k => !(k.1 == ip && k.2.1 == ptag)
    chains := s.skf.chains.filter fun c => !(c.ip == ip && c.ptag == ptag) } }).dropPeer ip

/-- Set the reach-key entry of an address and tag. -/
def setKey (s : State) (ip ptag key : Nat) : State :=
  { s with skf := { s.skf with
    keys := (s.skf.keys.filter fun k => !(k.1 == ip && k.2.1 == ptag)) ++ [(ip, ptag, key)] } }

/-- Entries of all armed chains (R128). -/
def chainEntries (s : State) : Nat := s.skf.chains.foldl (fun n c => n + c.entries.length) 0

/-- Whether a chain of an address and tag is armed. -/
def armed (s : State) (ip ptag chainId : Nat) : Bool :=
  s.skf.chains.any fun c => c.ip == ip && c.ptag == ptag && c.chainId == chainId

/-- Whether a CHAINPOST exceeds a limit of R128 or repeats an armed CHAINID. -/
def chainFull (s : State) (ip ptag chainId n : Nat) : Bool :=
  s.armed ip ptag chainId || decide (262144 < s.chainEntries + n) ||
    decide (1024 ≤ (s.skf.chains.filter fun c => c.ip == ip && c.ptag == ptag).length)

/-- The unit of the events of a federation peer (R477). -/
def fedUnit (s : State) (ip : Nat) : Nat := 0xA001 + (s.fedAt ip).getD 0

end State

open State

/-- ACK_RECEIVE (R114). -/
def actAckReceive (h : SkHdr) (s : State) : Host.Outcome State Fault Refusal := .next (s.bareArrive h .ack)

/-- NAK_SEQ (R112). -/
def actNakSeq (h : SkHdr) (nseq : Nat) (s : State) : Host.Outcome State Fault Refusal := .next (s.nakArrive h 1 nseq)

/-- NAK_GEN (R112). -/
def actNakGen (h : SkHdr) (nseq : Nat) (s : State) : Host.Outcome State Fault Refusal := .next (s.nakArrive h 2 nseq)

/-- NAK_PENDING (R112). -/
def actNakPending (h : SkHdr) (nseq : Nat) (s : State) : Host.Outcome State Fault Refusal := .next (s.nakArrive h 3 nseq)

/-- NAK_REFUSED (R112). -/
def actNakRefused (h : SkHdr) (nseq : Nat) (s : State) : Host.Outcome State Fault Refusal := .next (s.nakArrive h 4 nseq)

/-- NAK_SHELF (R112). -/
def actNakShelf (h : SkHdr) (nseq : Nat) (s : State) : Host.Outcome State Fault Refusal := .next (s.nakArrive h 5 nseq)

/-- NAK_KEYFULL (R112). -/
def actNakKeyfull (h : SkHdr) (nseq : Nat) (s : State) : Host.Outcome State Fault Refusal := .next (s.nakArrive h 6 nseq)

/-- NAK_CHAINFULL (R112). -/
def actNakChainfull (h : SkHdr) (nseq : Nat) (s : State) : Host.Outcome State Fault Refusal := .next (s.nakArrive h 7 nseq)

/-- KEYREG (R120): it is applied in every mode of the function REACH. -/
def actKeyreg (flow : FlowRef) (msgid key : Nat) (s : State) : Host.Outcome State Fault Refusal :=
  let t := s.takeControl flow 2 msgid
  .next (if t.1.hasKey flow.ip flow.ptag || decide (t.1.skf.keys.length < 65536) then
      t.1.setKey flow.ip flow.ptag (key % 2 ^ 64)
    else (t.1.sendNak flow 6 t.2 0 none).raise 70 0x8000)

/-- KEYREVOKE (R120). Commands in flight keep the key that they were checked against (R121). -/
def execKeyrevoke (flow : FlowRef) (msgid : Nat) (s : State) : Host.Outcome State Fault Refusal :=
  .next ((s.takeControl flow 3 msgid).1.releaseKey flow.ip flow.ptag)

/-- CHAINPOST (R128). A chain whose kind or number of entries R126 does not list is not armed. -/
def actChainpost (flow : FlowRef) (msgid kind chainId : Nat) (trigger : Nat × Nat × Nat) (entries : List ChainEntry)
    (enc : Option Nat) (s : State) : Host.Outcome State Fault Refusal :=
  let t := s.takeControl flow 4 msgid
  .next (if kind = 0 || 3 < kind || entries.isEmpty || 8 < entries.length then t.1
    else if t.1.chainFull flow.ip flow.ptag chainId entries.length then (t.1.sendNak flow 7 t.2 0 none).raise 71 0x8000
    else { t.1 with skf := { t.1.skf with
      chains := t.1.skf.chains ++ [Chain.mk flow.ip flow.port flow.ptag kind chainId trigger entries enc] } })

/-- CHAINCANCEL (R127). -/
def execChaincancel (flow : FlowRef) (msgid chainId : Nat) (s : State) : Host.Outcome State Fault Refusal :=
  let t := (s.takeControl flow 5 msgid).1
  .next { t with skf := { t.skf with
    chains := t.skf.chains.filter fun c => !(c.ip == flow.ip && c.ptag == flow.ptag && c.chainId == chainId) } }

/-- ACK_DELAY_EXPIRY (R111). -/
def actAckDelayExpiry (flow : FlowRef) (s : State) : Host.Outcome State Fault Refusal :=
  .next (match s.flowAt flow with
    | some f => if 0 < f.ackDue then s.sendAck flow else s
    | none => s)

/-- RETRANSMISSION_TIMEOUT (R115): the packet at SND_UNA has gone unacknowledged for BASE × 2^n µs, CAP at most, with the BASE and CAP
with which its timer started (R134). A flow whose consecutive timeouts reach LIMIT is lost (R116); toward a federation peer that raises
EV0074 as well (R133). -/
def actRetransmissionTimeout (flow : FlowRef) (s : State) : Host.Outcome State Fault Refusal :=
  .next (match s.flowAt flow with
    | none => s
    | some f =>
      match f.sent with
      | [] => s
      | p :: _ =>
        match f.times.lookup p.1 with
        | none => s
        | some (sent, base, cap) =>
        let s1 := s.passTo (sent + 1000 * min cap (base * 2 ^ f.timeouts))
        if s1.ef F.SKF_RTO_LIMIT ≤ f.timeouts + 1 then
          let t := (s1.loseFlow f).raise 67 0x8000
          (if flow.ptag = 0xFFFF then t.raise 74 (s1.fedUnit flow.ip) else t).fireDue
        else (s1.setFlow { f with timeouts := f.timeouts + 1, cwnd := max 16 (f.cwnd / 2) }).retransmit flow p.1)

/-- FLOW_IDLE_DROP (R108). -/
def execFlowIdleDrop (flow : FlowRef) (s : State) : Host.Outcome State Fault Refusal :=
  .next (match s.flowAt flow with
    | some f => if idleFlow f then s.dropFlow flow else s
    | none => s)

/-- REACH_KEY_RELEASE (R120): 1 s after the last flow of an address and tag was dropped. -/
def execReachKeyRelease (ip ptag : Nat) (s : State) : Host.Outcome State Fault Refusal :=
  .next (if s.skf.flows.any fun f => f.ip == ip && f.ptag == ptag then s else s.releaseKey ip ptag)

end Sys2Proof.Machine
end

