-- ==== Sys2Proof/Machine/Mirror.lean ====
section
/-!
DEFINITION. Cross-shelf mirrored volumes: what a primary sends and what it remembers (R133, R286 to R289 of
spec/08_degradation_rebuild_takeover.md).
-/

namespace Sys2Proof.Machine.State

/-- The pairing in which a volume is primary. -/
def pairingOf (s : State) (v : Nat) : Option Nat :=
  (List.range 256).find? fun m => s.ef F.TWN_XM_VALID m == 1 && s.ef F.TWN_XM_ROLE m == 0 && s.ef F.TWN_XM_VOL m == v

/-- The pairing in which a volume is secondary. -/
def secondaryPairing (s : State) (v : Nat) : Option Nat :=
  (List.range 256).find? fun m => s.ef F.TWN_XM_VALID m == 1 && s.ef F.TWN_XM_ROLE m == 1 && s.ef F.TWN_XM_VOL m == v

/-- The entry of the federation peer table for a shelf (R133). -/
def fedPeer (s : State) (shelf : Nat) : Option Nat :=
  (List.range 256).find? fun n => s.ef F.SKF_FED_VALID n == 1 && s.ef F.SKF_FED_SHELF_ID n == shelf

/-- The GCM slot of federation traffic to a peer (R328). -/
def fedSlot (s : State) (n : Nat) : Option Nat :=
  if s.ef F.CIP_FEDKEY_EN n = 1 then some (s.ef F.CIP_FEDKEY_SLOT n) else none

/-- The flow to a peer: one that exists, or one that this NP32 opens from its own Skiff port (R133). -/
def fedFlow (s : State) (n : Nat) : State × Option FlowRef :=
  match s.anyFlow (s.fedAddr n) 0xFFFF with
  | some f => (s, some f.ref)
  | none => s.openFed n

/-- Send one mirrored-write message to a peer, in parts of an MTU (R102, R286). Where no flow to the peer can be opened it
is not sent. -/
def sendFed (s : State) (n : Nat) (msg : FedMsg) (dataBytes : Nat) : State :=
  match s.fedFlow n with
  | (s1, none) => s1
  | (s1, some r) =>
    let (s2, m) := s1.newMsgid r.ip r.ptag
    let most := s2.placeMost (s2.fedSlot n)
    let parts := (32 + dataBytes + most - 1) / most
    s2.sendOn r ((List.range parts).map fun p => SentBody.fed m msg (s2.fedSlot n) p parts)

/-- Units of 256 KiB that a range touches. -/
def unitsOf (slba count : Nat) : List Nat :=
  (List.range ((slba + count - 1) / 64 - slba / 64 + 1)).map (· + slba / 64)

/-- Set units dirty (R288). A RESYNC of such a unit that is under way no longer clears it. -/
def setDirty (s : State) (m : Nat) (us : List Nat) : State :=
  let stale (w : XmWait) : Bool := w.pairing == m && (match w.unit_ with | some u => us.contains u | none => false)
  { s with twn := { s.twn with
    dirty := us.foldl (fun l u => if l.contains (m, u) then l else l ++ [(m, u)]) s.twn.dirty
    waits := s.twn.waits.filter fun w => !stale w } }

/-- Send a write of a primary to its secondary (R287, R288), or only note it while the mirror is split. -/
def mirrorWrite (s : State) (c : CmdId) (v slba count : Nat) (zero dealloc : Bool) (data dataBytes : Nat) : State :=
  match s.pairingOf v with
  | none => s
  | some m =>
    let split := s.is F.TWN_XM_SPLIT m
    let s1 := if split || !s.is F.HMP_ALIGN_STAT_ALIGNED then s.setDirty m (unitsOf slba count) else s
    if split then s1
    else match s1.fedPeer (s1.ef F.TWN_XM_PEER_SHELF m) with
      | none => s1
      | some n =>
        let tok := s1.twn.nextToken
        let s2 := { s1 with twn := { s1.twn with
          nextToken := (tok + 1) % 2 ^ 32
          waits := s1.twn.waits ++ [XmWait.mk tok m (some c) none] } }
        let s3 := match s2.cmdOf c with | some k => s2.setCmd { k with tokens := k.tokens ++ [tok] } | none => s2
        s3.sendFed n ⟨1, zero, dealloc, s3.ef F.TWN_XM_PEER_VOL m, tok, s3.heat, slba, count - 1, data⟩ (if zero then 0 else dataBytes)

/-- Whether the secondary has acknowledged what a command sent, or the mirror has split (R288). -/
def mirrorAcked (s : State) (k : Cmd) : Bool := k.tokens.all fun t => !s.twn.waits.any fun w => w.token == t && w.cmd == some k.id

/-- As a secondary, send the ACK of a copy that has passed its commit point (R288). -/
def sendXmAck (s : State) (c : CmdId) : State :=
  match s.twn.owed.find? (·.2.2 == c) with
  | none => s
  | some (m, tok, _) =>
    let s1 := { s with twn := { s.twn with owed := s.twn.owed.filter (·.2.2 != c) } }
    match s1.fedPeer (s1.ef F.TWN_XM_PEER_SHELF m) with
    | some n => s1.sendFed n ⟨2, false, false, s1.ef F.TWN_XM_PEER_VOL m, tok, s1.heat, 0, 0, 0⟩ 0
    | none => s1

end Sys2Proof.Machine.State
end

