-- ==== Sys2Proof/Machine/Rows.lean ====
section
/-!
DEFINITION. Reads and read-modify-write of rows (R209, R218, R220), chunks that are lost (R263), and the end of a row's
writes (R257) of spec/07_crews_and_parity.md and spec/08_degradation_rebuild_takeover.md.
-/

namespace Sys2Proof.Machine

/-- Distinct members of a list, in order. -/
def distinct (l : List Nat) : List Nat := l.foldl addTo []

/-- Runs of consecutive numbers in an ascending list: first and number. -/
def runsOf (l : List Nat) : List (Nat × Nat) :=
  l.foldl (fun acc n => match acc.getLast? with
    | some (a, k) => if a + k = n then acc.dropLast ++ [(a, k + 1)] else acc ++ [(n, 1)]
    | none => [(n, 1)]) []

namespace State

/-- Jobs of a command. -/
def jobsOf (s : State) (c : CmdId) : List Job := s.crw.jobs.filter fun j => j.cmd == some c

/-- Jobs of a command are gone, with their locks; the next job of each row takes its lock (R219). -/
def dropJobs (s : State) (c : CmdId) : State :=
  (s.jobsOf c).foldl (fun t j => (t.orphan j.id).grantRow j.crew j.row) s

/-- Rows of an ordinary volume that LBAs touch. -/
def rowsOf (s : State) (x : Vol) (slba count : Nat) : List Nat :=
  distinct ((List.range count).map fun i => (s.placeOf x (slba + i)).1)

/-- Seat and drive LBA of a sector of an ordinary volume (R209). -/
def seatAndLba (s : State) (x : Vol) (l : Nat) : Nat × Nat :=
  let p := s.placeOf x l
  (dataSeat (s.nOf x.crew) p.1 p.2.1, s.lbaOf x.crew p.1 p.2.2)

/-- Start the reads of a command on an ordinary volume: one job for each row. -/
def startRowReads (s : State) (x : Vol) (c : CmdId) (slba count : Nat) : State :=
  (s.rowsOf x slba count).foldl (fun t row =>
    let ls := ((List.range count).map (· + slba)).filter fun l => (s.placeOf x l).1 == row
    let j : Job := ⟨0, 0, x.crew, row, x.v, some c, ls.map (s.seatAndLba x), [], [], [], [], 0, false, false, t.heat, [], [], 0⟩
    (t.startJob j).1) s

/-- The stored content of a sector that a command's jobs have read. -/
def readSectorOf (s : State) (x : Vol) (c : CmdId) (l : Nat) : Option Nat :=
  ((s.jobsOf c).find? fun j => j.row == (s.placeOf x l).1).bind fun j => j.got.lookup (s.seatAndLba x l)

/-- Encrypt and decrypt the sector of an LBA of an ordinary volume (R316, R317). -/
def sealLba (s : State) (x : Vol) (b : Nat × Nat) : State × Option (Nat × Nat) :=
  match s.xtsSeal x.slot (tweak x.v (unitOfLba b.1)) (unitBytes (s.fmtOf x.v)) b.2 with
  | (t, some v) => (t, some (b.1, v))
  | (t, none) => (t, none)
def openLba (s : State) (x : Vol) (b : Nat × Nat) : State × Option Nat :=
  s.xtsOpen x.slot (tweak x.v (unitOfLba b.1)) (unitBytes (s.fmtOf x.v)) b.2

/-- A command finds no XTS pipeline in service, or its volume's key unusable (R336, R339): the event, once per volume and heat. -/
def noCipher (s : State) (x : Vol) : State := s.raiseOnce 468 x.v (keyUnit x.slot)

/-- Offsets that a write covers, in order (R218 stage 4). -/
def offsOf (s : State) (n : Nat) (fresh : List ((Nat × Nat) × Nat)) : List Nat :=
  (List.range (s.chunkOf n)).filter fun o => fresh.any fun f => f.1.2 == o

/-- A write that covers every data sector of its row (R218 stage 2). -/
def wholeRow (s : State) (n : Nat) (fresh : List ((Nat × Nat) × Nat)) : Bool := fresh.length == s.wOf n

/-- The read-modify-write of one row (R218). -/
def rmwJob (s : State) (x : Vol) (c : Option CmdId) (row : Nat) (fresh : List ((Nat × Nat) × Nat)) : Job :=
  let n := x.crew
  let ns := s.nOf n
  let want := if s.wholeRow n fresh then [] else
    (fresh.map fun f => (dataSeat ns row f.1.1, s.lbaOf n row f.1.2)) ++
      (s.offsOf n fresh).flatMap fun o => [(pSeat ns row, s.lbaOf n row o), (qSeat ns row, s.lbaOf n row o)]
  ⟨0, 1, n, row, x.v, c, want, [], [], [], [], 0, false, false, s.heat, [], fresh, 0⟩

/-- Start the read-modify-writes of a write: stored sectors by LBA, row by row in order. -/
def startRmw (s : State) (x : Vol) (c : CmdId) (sectors : List (Nat × Nat)) : State :=
  let rows := distinct (sectors.map fun b => (s.placeOf x b.1).1)
  rows.foldl (fun t row =>
    let mine := sectors.filter fun b => (s.placeOf x b.1).1 == row
    let fresh := mine.map fun b => let p := s.placeOf x b.1; ((p.2.1, p.2.2), b.2)
    (t.startJob (s.rmwJob x (some c) row fresh)).1.countOpen 0x280 4 (crewUnit x.crew)) s

/-- New data, P and Q of a row (R218 stage 3): none where a sector that it needs could not be had. -/
def newRow (s : State) (j : Job) : Option (List ((Nat × Nat) × Nat)) :=
  let n := j.crew
  let ns := s.nOf n
  let lba (o : Nat) : Nat := s.lbaOf n j.row o
  let old (seat o : Nat) : Option Nat := j.got.lookup (seat, lba o)
  let offs := s.offsOf n j.fresh
  let news (o : Nat) : List (Nat × Nat) := (j.fresh.filter fun f => f.1.2 == o).map fun f => (f.1.1, f.2)
  let data := j.fresh.map fun f => ((dataSeat ns j.row f.1.1, lba f.1.2), f.2)
  if s.wholeRow n j.fresh then
    some (data ++ (offs.map fun o => ((pSeat ns j.row, lba o), parityP (news o))) ++
      offs.map fun o => ((qSeat ns j.row, lba o), parityQ (news o)))
  else if !(j.want.all fun w => (j.got.lookup w).isSome) then none
  else
    let delta (o : Nat) : List (Nat × Nat) :=
      (news o).map fun d => (d.1, (old (dataSeat ns j.row d.1) o).getD 0 ^^^ d.2)
    some (data ++ (offs.map fun o => ((pSeat ns j.row, lba o), (old (pSeat ns j.row) o).getD 0 ^^^ parityP (delta o))) ++
      offs.map fun o => ((qSeat ns j.row, lba o), (old (qSeat ns j.row) o).getD 0 ^^^ parityQ (delta o)))

/-- Runs of consecutive LBAs that a row's write covers: first and number. -/
def rowRuns (s : State) (x : Vol) (j : Job) : List (Nat × Nat) :=
  runsOf (sortOn id (j.fresh.map fun f => s.sectorAt x j.row f.1.1 f.1.2))

/-- The RMW records of a row (R218 stage 4, R236): one for each run of LBAs, with its data, and P and Q at its offsets. -/
def rmwRecs (s : State) (x : Vol) (j : Job) : List JRec :=
  let ns := s.nOf j.crew
  let lbaAt (f : (Nat × Nat) × Nat) : Nat := s.sectorAt x j.row f.1.1 f.1.2
  (s.rowRuns x j).map fun r =>
    let mine := sortOn lbaAt (j.fresh.filter fun f => decide (r.1 ≤ lbaAt f) && decide (lbaAt f < r.1 + r.2))
    let at_ (seat o : Nat) : Nat := (j.put.lookup (seat, s.lbaOf j.crew j.row o)).getD 0
    let offs := s.offsOf j.crew mine
    let payload := mine.map (·.2) ++ offs.map (at_ (pSeat ns j.row)) ++ offs.map (at_ (qSeat ns j.row))
    ⟨0x01, false, false, x.v, 0, r.1, 0, r.2, payload.length * unitBytes (s.fmtOf x.v), payload⟩

/-- Buffers of H5 for the read-modify-writes of a list of LBAs (R182, R184). -/
def rmwBuffers (s : State) (x : Vol) (ls : List Nat) : Nat :=
  let rows := distinct (ls.map fun l => (s.placeOf x l).1)
  let wants (row : Nat) : Nat :=
    let fresh := (ls.filter fun l => (s.placeOf x l).1 == row).map fun l => let p := s.placeOf x l; ((p.2.1, p.2.2), 0)
    (s.rmwJob x none row fresh).want.length
  buffersFor (unitBytes (s.fmtOf x.v) * rows.foldl (fun n row => n + wants row) 0)

/-- Data chunks of a row that a job has found lost: at some offset that it wants, a data sector that can be had neither
from its seat nor by reconstruction (R263). -/
def lostChunks (s : State) (j : Job) (c : Crew) : List Nat :=
  let bad := j.lbas.filter fun lba => s.lbaStatus j c lba == 2
  (List.range (c.seats.length - 2)).filter fun d =>
    bad.any fun lba => !j.has (dataSeat c.seats.length j.row d) lba

/-- A grain of a privileged volume whose sectors lie in a lost chunk is set torn, and its LBAs enter page 0xC1 (R263). -/
def tearGrains (s : State) (x : Vol) (cause : Nat) (grains : List Nat) : State :=
  let s1 := grains.foldl (fun t g => t.setEntry x.v g tornEntry) s
  let sorted := (List.range (x.cap * 16)).filter fun g => grains.contains g
  (runsOf sorted).foldl (fun t r =>
    let (u, num) := t.takeEntry 0xC1 (x.v + 1)
    { u with nvt := { u.nvt with
      ptorn := TornEntry.mk num (x.v + 1) cause (4 * r.1) (4 * r.2 - 1) u.heat :: u.nvt.ptorn } }) s1

/-- The LBAs of lost chunks are marked torn (R263). -/
def tearChunks (s : State) (n row : Nat) (lost : List Nat) : State :=
  match s.volAtRow n row with
  | none => s
  | some x =>
    let c := s.chunkOf n
    if !x.priv then
      (runsOf lost).foldl (fun t r =>
        let first := s.sectorAt x row r.1 0
        let stop := min (first + r.2 * c) (x.cap * 64)
        if first < stop then t.tear n x.v 3 first (stop - first) else t) s
    else if row < x.base + s.mapRows x then s
    else
      let stripe := row - x.base - s.mapRows x
      let w := s.wOf n
      let hit := x.map.filter fun e => entryState e.2 == 1 && entryLog e.2 / w == stripe &&
        lost.any fun d => decide (entryLog e.2 % w < (d + 1) * c) && decide (d * c < entryLog e.2 % w + entryLen e.2 + 1)
      s.tearGrains x 3 (hit.map (·.1))

/-- Chunks of a row are lost (R263): they are torn, and a repair writes them as zeros with new P and Q. -/
def loseChunks (s : State) (n row : Nat) (lost : List Nat) : State :=
  if lost.isEmpty then s
  else
    let s1 := ((s.tearChunks n row lost).log kLost 2 ([n, row] ++ lost)).raise 298 (crewUnit n)
    let ns := s.nOf n
    let want := ((List.range (s.kOf n)).filter fun d => !lost.contains d).flatMap fun d =>
      (List.range (s.chunkOf n)).map fun o => (dataSeat ns row d, s.lbaOf n row o)
    let j : Job := ⟨0, 10, n, row, 0, none, want, [], [], [], [], 0, false, false, s1.heat, [], lost.map fun d => ((d, 0), 0), 0⟩
    (s1.startJob j).1

/-- A read-modify-write that found its row lost reads again after the row's repair (R248). -/
def rereadRow (s : State) (j : Job) (lost : List Nat) : State :=
  let fresh := { j with got := [], bad := [], slow := [], phase := 0, lock := false, lockWait := false }
  let s1 := (s.setJob fresh).loseChunks j.crew j.row lost
  ((s1.lockRow fresh).1).advanceReads j.id

/-- The repair of a row has read what is left of it: zeros for lost chunks, and P and Q over the result (R263). -/
def repairRow (s : State) (j : Job) : State :=
  let n := j.crew
  let ns := s.nOf n
  let lost := j.fresh.map (·.1.1)
  let put := (List.range (s.chunkOf n)).flatMap fun o =>
    let lba := s.lbaOf n j.row o
    let ds := (List.range (s.kOf n)).map fun d =>
      (d, if lost.contains d then 0 else (j.got.lookup (dataSeat ns j.row d, lba)).getD 0)
    (lost.map fun d => ((dataSeat ns j.row d, lba), 0)) ++
      [((pSeat ns j.row, lba), parityP ds), ((qSeat ns j.row, lba), parityQ ds)]
  (s.setJob { j with put := put, phase := 2 }).startWrites j.id s.heat false

/-- Whether a row was written too narrowly (R257): it is held on fewer seats than it has data seats. -/
def tooFew (s : State) (j : Job) : Bool := decide (s.heldOn j < s.kOf j.crew)

end State

end Sys2Proof.Machine
end

