-- ==== Sys2Proof/Machine/Grains.lean ====
section
/-!
DEFINITION. Grains of privileged volumes as commands read and write them (R221 to R227 of spec/07_crews_and_parity.md, R306
to R309 of spec/09_inline_compression.md).
-/

namespace Sys2Proof.Machine.State

/-- Grains that LBAs touch. -/
def grainsTouched (slba count : Nat) : List Nat :=
  (List.range ((slba + count - 1) / 4 - slba / 4 + 1)).map (· + slba / 4)

/-- Whether a range covers a grain whole. -/
def coversGrain (slba count g : Nat) : Bool := decide (slba ≤ 4 * g) && decide (4 * g + 4 ≤ slba + count)

/-- The stroke engine that serves a command. -/
def engineOf (k : Cmd) : Nat := Config.engineOf k.order

/-- Note the use of a map entry by an engine: each holds the 512 that it used last (R227). -/
def useEntry (s : State) (e v g : Nat) : State :=
  let mine := ((e, v, g) :: s.crw.recent.filter fun x => x.1 == e && x.2 != (v, g)).take 512
  { s with crw := { s.crw with recent := mine ++ s.crw.recent.filter fun x => x.1 != e } }

/-- A command has the entry of a grain. -/
def giveEntry (s : State) (c : CmdId) (v g e : Nat) : State :=
  match s.cmdOf c with
  | some k => (s.setCmd { k with blocks := k.blocks ++ [(g, e)] }).useEntry (engineOf k) v g
  | none => s

/-- Look up one grain for a command (R224, R227): a miss is an item while MAPMISS is in effect. -/
def lookupGrain (s : State) (x : Vol) (c : CmdId) (g : Nat) : State :=
  match s.cmdOf c with
  | none => s
  | some k =>
    if k.blocks.any (·.1 == g) || s.crw.misses.any (fun m => m.1 == x.v && m.2.1 == g && m.2.2.1 == c) then s
    else if s.crw.recent.contains (engineOf k, x.v, g) || !s.assisted 2 then s.giveEntry c x.v g (x.entry g)
    else
      let (s1, handed) := s.handOver 2 x.v g [x.v, g] [] 0 (s.itemPoint (some k))
      if !handed then s1.giveEntry c x.v g (x.entry g)
      else
        let tag := s1.wrg.nextItem - 1
        ({ s1 with crw := { s1.crw with misses := s1.crw.misses ++ [(x.v, g, c, x.entry g)] } }).setCmd
          { k with items := k.items ++ [tag] }

/-- A command has the entries of all grains of a list. -/
def hasEntries (s : State) (c : CmdId) (gs : List Nat) : Bool :=
  match s.cmdOf c with
  | some k => gs.all fun g => k.blocks.any (·.1 == g)
  | none => false

/-- Start the read of a grain for a command (R224): none where it is unmapped, torn, or still in H3. -/
def startGrainRead (s : State) (x : Vol) (c : CmdId) (g e : Nat) : State :=
  if entryState e ≠ 1 || (s.inMemory x e).isSome then s
  else
    let want := (List.range (entryLen e + 1)).map fun k => s.sectorPlace x e k
    let j : Job := ⟨0, 9, x.crew, s.stripeRow x (entryLog e / s.wOf x.crew), x.v, some c, want, [], [], [], [], 0, false, false,
      s.heat, [], [], g⟩
    (s.startJob j).1

/-- How a grain stands for a command. -/
inductive GrainView where
  /-- Its plain blocks. -/
  | blocks (bs : List Nat)
  /-- Its stored sectors, and whether they are raw. -/
  | sectors (l : List Nat) (raw : Bool)
  | waiting
  | torn
  /-- Its sectors cannot be had (R252, R263). -/
  | lost
deriving DecidableEq, Repr

/-- What decrypting and decoding a grain gives. -/
inductive Plain where
  | blocks (bs : List Nat)
  /-- It fails the checks of R309. -/
  | bad
  /-- No XTS pipeline is in service (R339). -/
  | noCipher
deriving DecidableEq, Repr

/-- The plain blocks of a grain from its stored sectors (R224, R307), up to block `last`. -/
def plainGrain (s : State) (x : Vol) (g last : Nat) (raw : Bool) (sectors : List Nat) : State × Plain :=
  match eachOf (fun t p => t.openSector x g p.1 raw p.2) s (indexed sectors) with
  | (t, none) => (t, .noCipher)
  | (t, some plain) =>
    if raw then (t, .blocks plain)
    else match t.decodeGrain (t.fmtOf x.v == 1) plain last with
      | (u, some bs) => (u, .blocks bs)
      | (u, none) => (u, .bad)

/-- The read of a grain for a command. -/
def grainJob (s : State) (c : CmdId) (g : Nat) : Option Job := (s.jobsOf c).find? fun j => j.kind == 9 && j.arg == g

/-- View a grain by the entry that the command has. -/
def viewGrain (s : State) (x : Vol) (c : CmdId) (g : Nat) : GrainView :=
  match (s.cmdOf c).bind fun k => k.plain.lookup g, (s.cmdOf c).bind fun k => k.blocks.lookup g with
  | some bs, _ => .blocks bs
  | none, none => .waiting
  | none, some e =>
    match entryState e with
    | 0 => .blocks (List.replicate 4 (s.blankBlock x.v))
    | 1 =>
      match s.grainJob c g with
      | some j =>
        if j.phase = 0 then .waiting
        else
          let got := (List.range (entryLen e + 1)).filterMap fun k => j.got.lookup (s.sectorPlace x e k)
          if got.length = entryLen e + 1 then .sectors got (entryRaw e) else .lost
      | none => match s.inMemory x e with
        | some l => .sectors l (entryRaw e)
        | none => .lost
    | _ => .torn

/-- A grain that fails is read again with the chunk of one more of its seats reconstructed (R309); false where no attempt is
left. -/
def retryGrain (s : State) (c : CmdId) (g : Nat) : State × Bool :=
  match s.grainJob c g with
  | none => (s, false)
  | some j =>
    let outs := match s.crewOf j.crew with | some w => (w.seats.filter (·.out)).length | none => 2
    match (distinct (j.want.map (·.1))).find? fun i => !j.failed.contains i with
    | some i =>
      if 2 ≤ outs then (s, false)
      else
        let k := { j with got := [], phase := 0, failed := j.failed ++ [i], slow := j.want.filter fun w => w.1 == i }
        ((s.setJob k).advanceReads j.id, true)
    | none => (s, false)

/-- A reconstruction has passed every check (R309): the sectors of the seat that failed are rewritten. -/
def healGrain (s : State) (x : Vol) (c : CmdId) (g : Nat) : State :=
  match s.grainJob c g with
  | none => s
  | some j => match j.failed.getLast? with
    | none => s
    | some i =>
      let mine := j.got.filter fun p => p.1.1 == i && j.want.contains p.1
      (mine.foldl (fun t p => t.issueIo j.crew i (.write p.1.2 p.2 false) t.heat 0)
        (s.setJob { j with failed := [] })).raise 454 (crewUnit x.crew)

/-- A grain has failed for good (R309). -/
def failGrain (s : State) (x : Vol) (g : Nat) : State :=
  ((s.bump F.CMP_ERR_READ).log kGrainFail 2 [x.v, g]).raise 450 (crewUnit x.crew)

/-- Release of a command's buffers in H2, H3 and H6 to the heat that carries its data (R186). -/
def buffersToHeat (s : State) (c : CmdId) (n heat : Nat) : State :=
  [2, 3, 6].foldl (fun t h => t.passBuffers h (cmdOwner c) (heatOwner n heat)) s

/-- Buffers of H6 that hold the grains that a command has placed (R306). -/
def chainUsed (s : State) (x : Vol) (c : CmdId) : Nat :=
  (s.grainsOf x c).foldl (fun n p => if p.2.raw then n else n + p.2.len + 1) 0

/-- Mark the grains of a command in a volume as recorded. -/
def markRecorded (s : State) (v : Nat) (mine : Placed → Bool) : State :=
  s.modVol v fun x =>
    let mark (st : Stripe) : Stripe := { st with grains := st.grains.map fun p => if mine p then { p with path := 3 } else p }
    { x with host := x.host.map mark, reloc := x.reloc.map mark, closing := x.closing.map mark }

/-- The writes of a stripe have ended: a ROW_WRITTEN record enters the segment of this heat where the row is held on enough seats (R223,
R257). -/
def stripeEnded (s : State) (x : Vol) (num : Nat) (whole : Bool) : State :=
  let r : JRec := ⟨0x04, true, false, x.v, 0, num, 0, 0, 0, []⟩
  let t := s.modVol x.v fun y => { y with closing := y.closing.map fun st => if st.num = num then { st with ended := true } else st }
  if whole then t.placeLoose x.crew r else t

/-- A stripe has been written and every record of its grains is placed: it is full. -/
def stripeFull (s : State) (x : Vol) (num : Nat) : State :=
  s.modVol x.v fun y => { y with closing := y.closing.filter (·.num != num), full := y.full ++ [num] }

/-- Records of a group of a segment, in order. -/
def groupRecs (s : State) (n heat num : Nat) : List JRec :=
  match s.segmentOf n heat with
  | some g => (g.ofKind 0).flatMap fun b => b.recs.filter (·.group == num)
  | none => []

/-- The map effects of the records of a committed group (R236): LS_DATA, LS_MAP, DEALLOC of whole grains, RELOCATE. -/
def applyMap (s : State) (recs : List JRec) : State :=
  recs.foldl (fun t r =>
    match r.kind with
    | 0x02 | 0x03 => t.setEntry r.vol r.addr r.aux
    | 0x05 => (((t.volOf r.vol).map fun x =>
        if x.priv then (grainsTouched r.addr r.count).foldl (fun u g => if coversGrain r.addr r.count g then u.setEntry r.vol g 0 else u) t
        else t)).getD t
    | 0x06 => match t.volOf r.vol with
      | some x => if x.entry r.addr = r.payload.getD 0 0 then t.setEntry r.vol r.addr r.aux else t
      | none => t
    | _ => t) s

end Sys2Proof.Machine.State
end

