-- ==== Sys2Proof/Machine/Internal.lean ====
section
/-!
DEFINITION. What the crew engine does of its own with a row that it has read or written: patrol (R244, R245), rebuild
(R266, R269), collection (R231), stripes (R222, R223), map passes (R228), and old segments (R240).
-/

namespace Sys2Proof.Machine.State

/-- Owner of the buffers of a job of the engine's own, and the hamper that they lie in: rebuild and patrol in H9, collection
in H14 (R182). -/
def jobOwner (n row kind : Nat) : Nat × Nat × Nat := (2 ^ 66 + n, row, kind)
def jobHamper (kind : Nat) : Nat := if kind = 6 || kind = 11 then 14 else 9

/-- The owner of what a collected grain holds of H3, where its relocation stripe is built (R221). -/
def relocOwner (v g : Nat) : Nat × Nat × Nat := (2 ^ 73 + v, g, 0)

/-- A job of the engine's own is done: its lock goes to the next (R219), and its buffers are released (R186). -/
def retire (s : State) (j : Job) : State :=
  let s1 := (s.orphan j.id).grantRow j.crew j.row
  if s1.hmp.holds.any fun h => h.owner == jobOwner j.crew j.row (j.kind + 16 * j.arg) then
    s1.freeBuffers (jobHamper j.kind) (jobOwner j.crew j.row (j.kind + 16 * j.arg))
  else s1

/-- The index z below K for which Sq = g^z · Sp at every byte (R245). -/
def oneBad (k sp sq : Nat) : Option Nat := (List.range k).find? fun z => mulGPow z sp == sq

/-- The patrol's decision at one offset of a row whose sectors are all there (R245): what is written, and the event. -/
def patrolAt (s : State) (j : Job) (o : Nat) : List ((Nat × Nat) × Nat) × Option Nat :=
  let n := j.crew
  let ns := s.nOf n
  let lba := s.lbaOf n j.row o
  let at_ (seat : Nat) : Nat := (j.got.lookup (seat, lba)).getD 0
  let ds := (List.range (s.kOf n)).map fun d => (d, at_ (dataSeat ns j.row d))
  let p := parityP ds
  let q := parityQ ds
  let sp := at_ (pSeat ns j.row) ^^^ p
  let sq := at_ (qSeat ns j.row) ^^^ q
  let wp := ((pSeat ns j.row, lba), p)
  let wq := ((qSeat ns j.row, lba), q)
  if sp = 0 && sq = 0 then ([], none)
  else if sq = 0 then ([wp], some 281)
  else if sp = 0 then ([wq], some 281)
  else match oneBad (s.kOf n) sp sq with
    | some z => ([((dataSeat ns j.row z, lba), at_ (dataSeat ns j.row z) ^^^ sp)], some 280)
    | none => ([wp, wq], some 282)

/-- A patrol row has been read (R245). Offsets at which a sector could not be read have been recovered already. -/
def patrolRead (s : State) (j : Job) (c : Crew) : State :=
  let lost := s.lostChunks j c
  if !lost.isEmpty && !c.stopped then (s.retire j).loseChunks j.crew j.row lost
  else
    let ns := s.nOf j.crew
    let whole := (List.range (s.chunkOf j.crew)).filter fun o =>
      let lba := s.lbaOf j.crew j.row o
      (List.range ns).all (fun i => j.has i lba) && !(j.bad.any (·.2 == lba)) && (List.range ns).all fun i => match c.seats[i]? with
        | some x => x.source j.row lba != .missing
        | none => false
    let acts := whole.map (s.patrolAt j)
    let put := acts.flatMap (·.1)
    let evs := acts.filterMap (·.2)
    let s1 := evs.foldl (fun t e => t.raise e (crewUnit j.crew)) s
    let s2 := if evs.contains 282 then s1.log kPatrolRow 1 [j.crew, j.row] else s1
    let s3 := if j.bad.isEmpty then s2 else s2.raise 283 (crewUnit j.crew)
    if put.isEmpty then s3.retire j
    else (s3.setJob { j with put := put, phase := 2 }).startWrites j.id s3.heat false

/-- Seats whose rebuild takes a row now. -/
def rebuildTargets (c : Crew) (row : Nat) : List Nat :=
  (List.range c.seats.length).filter fun i => match c.seats[i]? with
    | some x => x.st == 5 && x.running && !x.passed row
    | none => false

/-- A row has been read for a rebuild (R266): the sectors of every target go to it. -/
def rebuildRead (s : State) (j : Job) (c : Crew) : State :=
  let lost := s.lostChunks j c
  if !lost.isEmpty then (if c.stopped then s.retire j else s.rereadRow j lost)
  else
    let targets := rebuildTargets c j.row
    let put := j.lbas.flatMap fun lba => targets.filterMap fun i => (j.got.lookup (i, lba)).map fun v => ((i, lba), v)
    let s1 := s.setJob { j with put := put, phase := 3 }
    (put.foldl (fun t p => t.issueIo j.crew p.1.1 (.write p.1.2 p.2 false) t.heat j.id) s1).checkWrites j.id

/-- A row out of a list of ranges. -/
def dropRow (plan : List (Nat × Nat)) (row : Nat) : List (Nat × Nat) := minusRanges plan [(row, row + 1)]

/-- A frontier that has gained a hundredth goes to the logbook (R269), and to the partner (R273). -/
def passFrontier (s : State) (n i : Nat) : State :=
  match s.crewOf n with
  | some c => ((s.logFrontier n i).mirror (.crew (s.crewRec n c))).1
  | none => s

/-- A rebuilt row passes the frontier of one seat (R266, R269): each further hundredth goes to the logbook, and at the end
the seat is in service. -/
def passRow (s : State) (n i row : Nat) : State :=
  match s.seatOf n i with
  | none => s
  | some x =>
    let plan := dropRow x.plan row
    let rows := s.rd F.CRW_CREW_ROWS n
    let left := plan.foldl (fun a r => a + (r.2 - r.1)) 0
    let done := if rows = 0 then 100 else 100 * (rows - left) / rows
    let s1 := s.modSeat n i fun y => { y with plan := plan, logged := max y.logged done }
    let s2 := if x.logged < done then s1.passFrontier n i else s1
    if plan.isEmpty then
      ((s2.modSeat n i fun y => { y with st := 0, running := false, e := none, logged := 0 }).labelChange n).seatEvent 295 n i
    else s2

/-- The writes of a rebuilt row have ended. -/
def rebuildWritten (s : State) (j : Job) (c : Crew) : State :=
  let s1 := (rebuildTargets c j.row).foldl (fun t i => if j.failed.contains i then t else t.passRow j.crew i j.row) s
  (s1.countOpen 0x280 7 (crewUnit j.crew)).retire j

/-- A grain has been read for collection (R231): it takes its place in the relocation stripe, in H3 (R221). A grain that has been
lost is torn already; with no buffer or no free stripe it waits. -/
def collectRead (s : State) (j : Job) (c : Crew) : State :=
  match s.volOf j.vol with
  | none => s.retire j
  | some x =>
    let e := x.entry j.arg
    let got := (List.range (entryLen e + 1)).filterMap fun k => j.got.lookup (s.sectorPlace x e k)
    if entryState e ≠ 1 || s.stripeRow x (entryLog e / s.wOf x.crew) ≠ j.row then s.retire j
    else if got.length ≠ entryLen e + 1 then
      let lost := s.lostChunks j c
      if c.stopped then s.retire j else (s.retire j).loseChunks j.crew j.row lost
    else
      let unit := if entryRaw e then unitBytes (s.fmtOf x.v) else 4096
      let (s0, ok) := s.acquireFor 3 (relocOwner x.v j.arg) (buffersFor (unit * (entryLen e + 1)))
      if !ok then s0
      else
        let (s1, r) := s0.placeGrain x.v true j.arg (entryLen e) (entryRaw e) got none (some e)
        match r with
        | some _ => s1.retire j
        | none => s1

/-- Take the buffers of a job of the engine's own, or wait for them in order of request (R185). -/
def ownBuffers (s : State) (n row kind arg count : Nat) : State × Bool :=
  let unit := match s.volAtRow n row with | some x => unitBytes (s.fmtOf x.v) | none => 4096
  s.acquireFor (jobHamper kind) (jobOwner n row (kind + 16 * arg)) (buffersFor (unit * count))

/-- Read a grain of a victim (R231). -/
def collectGrain (s : State) (n row grain : Nat) : State :=
  match s.crw.vols.find? fun x => x.priv && x.crew == n && x.victims.contains (entryLog (x.entry grain) / s.wOf n) &&
      s.stripeRow x (entryLog (x.entry grain) / s.wOf n) == row with
  | none => s
  | some x =>
    let e := x.entry grain
    if entryState e ≠ 1 || s.crw.jobs.any (fun j => j.kind == 6 && j.vol == x.v && j.arg == grain) then s
    else
      let (s1, ok) := s.ownBuffers n row 6 grain (entryLen e + 1)
      if !ok then s1
      else
        let want := (List.range (entryLen e + 1)).map fun k => s.sectorPlace x e k
        (s1.startJob ⟨0, 6, n, row, x.v, none, want, [], [], [], [], 0, false, false, s1.heat, [], [], grain⟩).1

/-- Where the summary of a stripe lies (R223): its last sectors, by seat and drive LBA. -/
def summaryPlaces (s : State) (x : Vol) (st : Nat) : List (Nat × Nat) :=
  let c := s.chunkOf x.crew
  let row := s.stripeRow x st
  (List.range (s.wOf x.crew - s.uOf x.crew)).map fun k =>
    let at_ := s.uOf x.crew + k
    (dataSeat (s.nOf x.crew) row (at_ / c), s.lbaOf x.crew row (at_ % c))

/-- Read the summary of a victim (R231). -/
def collectStripe (s : State) (n row st : Nat) : State :=
  match s.crw.vols.find? fun x => x.priv && x.crew == n && x.victims.contains st && s.stripeRow x st == row with
  | none => s
  | some x =>
    if s.crw.jobs.any fun j => j.kind == 11 && j.vol == x.v && j.arg == st then s
    else
      let want := s.summaryPlaces x st
      let (s1, ok) := s.ownBuffers n row 11 st want.length
      if !ok then s1
      else (s1.startJob ⟨0, 11, n, row, x.v, none, want, [], [], [], [], 0, false, false, s1.heat, [], [], st⟩).1

/-- Grains that a summary lists and whose entries still point where it says (R223, R231). -/
def summaryGrains (x : Vol) (w st : Nat) (sectors : List Nat) : List Nat :=
  let es := sectors.flatMap fun v => (List.range 512).map fun i => v / 2 ^ (64 * i) % 2 ^ 64
  distinct ((es.filter fun e =>
    let now := x.entry (e % 2 ^ 32)
    entryState now == 1 && entryLog now == st * w + e / 2 ^ 32 % 2 ^ 16 && entryLen now == e / 2 ^ 48 % 4).map fun e => e % 2 ^ 32)

/-- The summary of a victim has been read (R231): each grain whose entry still points into it is read. DESIGN CHOICE (log entry 141): where
the summary cannot be had, the map says which grains these are. -/
def summaryRead (s : State) (j : Job) : State :=
  match s.volOf j.vol with
  | none => s.retire j
  | some x =>
    let places := s.summaryPlaces x j.arg
    let got := places.filterMap fun p => j.got.lookup p
    let w := s.wOf x.crew
    let gs := if got.length = places.length then summaryGrains x w j.arg got
      else (x.map.filter fun e => entryState e.2 == 1 && entryLog e.2 / w == j.arg).map (·.1)
    gs.foldl (fun t g => t.collectGrain x.crew j.row g) (s.retire j)

/-- Grains of relocation stripes whose path is decided are recorded, one group each (R231, R237). A RELOCATE holds no grain, so that its
commit waits for the writes of its stripe on either path. DEDUCED from R222 and R236 (log entry 139). -/
def recordRelocs (s : State) (v : Nat) : State :=
  match s.volOf v with
  | none => s
  | some x =>
    (x.reloc.toList ++ x.closing).foldl (fun t st =>
      (st.grains.filter fun p => p.expected.isSome && (p.path == 1 || p.path == 2)).foldl (fun u p =>
        let (w, g) := u.placeGroup x.crew none [u.grainRec x st.num p] [intentEntry 1 v p.grain] [(v, st.num)]
        match g with
        | some _ => (w.markRecorded v fun q => q.expected.isSome && q.grain == p.grain && q.first == p.first).passBuffers 3
            (relocOwner v p.grain) (heatOwner x.crew (match w.crewOf x.crew with | some c => c.seg.heat | none => w.heat))
        | none => w) t) s

/-- Groups that belong to no command commit by themselves (R231). -/
def commitRelocs (s : State) (n : Nat) : State :=
  match s.crewOf n with
  | none => s
  | some c =>
    (c.old ++ [c.seg]).foldl (fun t g =>
      (g.groups.filter fun x => x.cmd.isNone && !x.committed && !x.cancelled).foldl (fun u x =>
        if u.groupSafe n g.heat x.num then (u.markCommitted n g.heat x.num).applyMap (u.groupRecs n g.heat x.num) else u) t) s

/-- The volume's mode decides how a failed media write is told (R166, R167): in deferred mode the LBAs are torn, an entry is
recorded and EV0195 raised. -/
def stripeFailed (s : State) (x : Vol) (st : Stripe) (heat : Nat) : State :=
  let w := s.wOf x.crew
  st.grains.foldl (fun t p =>
    let e := mapped p.len p.raw (st.num * w + p.first)
    let held := match t.volOf x.v with | some y => y.entry p.grain == e | none => false
    let t1 : State := match p.cmd with
      | some c => match t.cmdOf c with
        | some k => t.setCmd { k with err := some stWriteFault }
        | none => t
      | none => t
    if held && t.deferredMode x.v then (t1.tearGrains x 1 [p.grain]).deferError x.v 1 (4 * p.grain) 4 heat else t1) s

/-- A stripe to which a map entry may still come to point (R230): it is open or being written, or a record of a group that has not reached
its commit point names it. -/
def awaited (s : State) (x : Vol) (st : Nat) : Bool :=
  x.host.toList.any (·.num == st) || x.reloc.toList.any (·.num == st) || x.closing.any (·.num == st) ||
    match s.crewOf x.crew with
    | none => true
    | some c => (c.old ++ [c.seg]).any fun g => g.groups.any fun p => !p.committed && !p.cancelled &&
        (s.groupRecs x.crew g.heat p.num).any fun r =>
          r.vol == x.v && [2, 3, 6].contains r.kind && entryLog r.aux / s.wOf x.crew == st

/-- Stripes that hold no live grain and await none are free once the checkpoint of the heat in which the last one went has completed
(R230); where none was ever live, that of this heat. -/
def drainEmpty (s : State) (v : Nat) : State :=
  match s.volOf v with
  | none => s
  | some x =>
    let gone := x.full.filter fun st => x.live (s.wOf x.crew) st == 0 && !s.awaited x st
    if gone.isEmpty then s
    else s.modVol v fun y => { y with
      full := y.full.filter fun st => !gone.contains st
      emptied := y.emptied.filter fun e => !gone.contains e.1
      drained := y.drained ++ gone.map fun (st : Nat) => (st, (y.emptied.lookup st).getD s.heat) }

/-- Stripes whose chunks have been written (R222, R223). -/
def endStripes (s : State) (v : Nat) : State :=
  match s.volOf v with
  | none => s
  | some x =>
    x.closing.foldl (fun t st =>
      let job := t.crw.jobs.find? fun j => j.kind == 2 && j.vol == v && j.arg == st.num
      let t1 := match job with
        | some j => if j.phase = 4 then
            let few := t.tooFew j
            ((if few then t.stripeFailed x st j.heat else t).retire j).stripeEnded x st.num !few
          else t
        | none => t
      let runs := t1.crw.jobs.any fun j => j.kind == 2 && j.vol == v && j.arg == st.num
      if !runs && st.grains.all fun p => p.path == 3 then t1.stripeFull x st.num else t1) s

/-- A heat whose media writes have all ended (R240): no write is outstanding, waits, or lies in a catch-up log. -/
def heatWritten (s : State) (n heat : Nat) : Bool :=
  !(s.crw.ios.any fun o => o.crew == n && o.heat == heat && (match o.op with | .write .. => true | _ => false)) &&
    !(s.crw.jobs.any fun j => j.crew == n && j.heat == heat && j.phase == 3) &&
    !(s.nvt.cmds.any fun k => k.step == 5 && k.heat == heat && (match k.group with | some g => g.1 == n | none => false)) &&
    (match s.crewOf n with
      | some c => c.seats.all (fun x => !x.log.any fun e => e.heat == heat) && (match (c.old ++ [c.seg]).find? (·.heat == heat) with
        | some g => g.groups.all fun x => x.committed || x.cancelled
        | none => true)
      | none => true) &&
    !(s.crw.vols.any fun x => x.crew == n && x.closing.any fun st => !st.grains.isEmpty)

/-- The checkpoint of a segment has completed on its seats (R186, R230). -/
def checkpointHeld (s : State) (g : Segment) : Bool := g.sealed && (g.ofKind 1).all fun b => s.blockSafe g b

/-- Flush every seat of a crew whose volatile write cache is enabled (R240). -/
def flushSeats (s : State) (n heat : Nat) : State :=
  match s.crewOf n with
  | none => s
  | some c => (List.range c.seats.length).foldl (fun t i =>
      match c.seats[i]? with
      | some x => if x.st ≠ 4 && x.st ≠ 6 && (t.crw.drives.any fun d => x.bay == some d.bay && d.cache) then
          t.issueIo n i .flush heat 0 else t
      | none => t) s

/-- The blocks of a segment in H7, and their mirror in the partner's H12, are released (R186). -/
def releaseSegment (s : State) (n : Nat) (g : Segment) : State :=
  if g.released then s
  else (((s.modSegment n g.heat fun h => { h with released := true }).freeBuffers 7 (heatOwner n g.heat)).mirror (.release n g.heat)).1

/-- What has completed about a segment that is sealed (R186, R230, R240): buffers of its heat and drained stripes are
released, and one Flush goes to each seat with a volatile write cache. -/
def settleOld (s : State) (n : Nat) (g : Segment) : State :=
  if !s.checkpointHeld g then s
  else
    let s1 := s.freeDrained n g.heat
    if !s1.heatWritten n g.heat then s1
    else
      let s2 := [2, 3, 6].foldl (fun t h =>
        if t.hmp.holds.any (fun x => x.hamper == h && x.owner == heatOwner n g.heat) then t.freeBuffers h (heatOwner n g.heat) else t) (s1.releaseSegment n g)
      if g.flushed then s2
      else
        let s3 := s2.modSegment n g.heat fun h => { h with flushed := true }
        s3.flushSeats n g.heat

/-- A segment is on media (R240). -/
def onMedia (s : State) (n : Nat) (g : Segment) : Bool :=
  s.checkpointHeld g && s.heatWritten n g.heat && g.flushed &&
    !(s.crw.ios.any fun o => o.crew == n && o.heat == g.heat && o.op == .flush)

/-- Heat under which the Flushes after replay are kept: no heat has this number. -/
abbrev replayHeat := 2 ^ 64

/-- Writes of replay have ended: its namespaces become available (R213), and the Flushes that put them on media are issued (R240, R241). -/
def settleReplay (s : State) (n : Nat) : State :=
  match s.crewOf n with
  | none => s
  | some c0 =>
    let s := if c0.replaying && !s.crw.jobs.any (fun j => j.crew == n && j.kind == 8) then s.modCrew n fun d => { d with replaying := false } else s
    let c := { c0 with replaying := false }
    if c.replayed.isSome && !c.replayFlushed && !s.crw.jobs.any (fun j => j.crew == n && j.kind == 8) then
      (s.modCrew n fun d => { d with replayFlushed := true }).flushSeats n replayHeat
    else s

/-- The clean mark of replay's own, written once every write that replay applied is on media (R241). -/
def replayMark (s : State) (n : Nat) : State :=
  match s.crewOf n with
  | none => s
  | some c => match c.replayed with
    | none => s
    | some b0 =>
      if !c.replayFlushed || s.crw.ios.any fun o => o.crew == n && o.heat == replayHeat && o.op == .flush then s
      else
        let s1 := s.modCrew n fun d => { d with replayed := none }
        let live := liveOf c
        let b := { b0 with entries := b0.entries.take 3 ++ [live.1, live.2] }
        (s1.modSegment n c.seg.heat fun g => { g with blocks := g.blocks ++ [b] }).settleSegment n c.seg.heat

/-- A replayed row is held on too few seats: in deferred mode its LBAs are torn and recorded (R167, R257). -/
def replayWritten (s : State) (j : Job) : State :=
  let mark := intentEntry 0 j.vol j.row
  let s0 := s.retire j
  let s1 := match s0.crewOf j.crew with
    | some c => if c.pendingRows.contains mark then s0.modCrew j.crew fun d => { d with pendingRows := dropFrom d.pendingRows mark } else s0
    | none => s0
  match s.volOf j.vol with
  | none => s1
  | some x =>
    if s.tooFew j && s.deferredMode x.v then
      let ls := (j.fresh.map fun f => s.sectorAt x j.row f.1.1 f.1.2)
      let sorted := (List.range (s.wOf x.crew)).map (· + s.sectorAt x j.row 0 0) |>.filter ls.contains
      (runsOf sorted).foldl (fun t r => (t.tear x.crew x.v 1 r.1 r.2).deferError x.v 1 r.1 r.2 j.heat) s1
    else s1

/-- Carry on one job of the engine's own. -/
def settleJob (s : State) (id : Nat) : State :=
  match s.jobOf id with
  | none => s
  | some j =>
    match s.crewOf j.crew with
    | none => s.dropJob id
    | some c =>
      if j.phase = 1 then
        match j.kind with
        | 3 => s.patrolRead j c
        | 4 => s.rebuildRead j c
        | 6 => s.collectRead j c
        | 11 => s.summaryRead j
        | 10 =>
          let more := (s.lostChunks j c).filter fun d => !j.fresh.any fun f => f.1.1 == d
          let s1 := if more.isEmpty then s else s.tearChunks j.crew j.row more
          s1.repairRow { j with fresh := j.fresh ++ more.map fun d => ((d, 0), 0) }
        | _ => s
      else if j.phase = 4 then
        match j.kind with
        | 4 => s.rebuildWritten j c
        | 8 => s.replayWritten j
        | 3 | 5 | 10 => s.retire j
        | _ => s
      else s

/-- Carry on everything that the crew engine does of its own. -/
def settleCrews (s : State) : State :=
  let s := (s.crw.jobs.filter (·.lockWait)).foldl (fun t j => t.grantRow j.crew j.row) s
  let s0 := (s.crw.jobs.filter fun j => j.phase == 0 && (match j.cmd with
    | some c => s.hmp.waits.any fun w => w.hamper == 5 && w.owner == cmdOwner c
    | none => false)).foldl (fun t j => t.advanceReads j.id) s
  let s1 := (s0.crw.jobs.filter fun j => j.kind ≥ 3 && j.kind != 9).foldl (fun t j => t.settleJob j.id) s0
  let s2 := (s1.crw.vols.filter (·.priv)).foldl (fun t x => ((t.recordRelocs x.v).endStripes x.v).drainEmpty x.v) s1
  s2.crw.crews.foldl (fun t e =>
    e.2.old.foldl (fun u g => u.settleOld e.1 g) (((t.placeOwed e.1).commitRelocs e.1).settleReplay e.1)) s2

end Sys2Proof.Machine.State
end

