-- ==== Sys2Proof/Machine/Engine.lean ====
section
/-!
DEFINITION. How an admitted command goes on (R158 to R178 of spec/05_nvme_target.md, R218 to R225 and R237 of
spec/07_crews_and_parity.md, R257 of spec/08_degradation_rebuild_takeover.md): its data, its place in the order, its rows or
grains, its commit point, its media writes and its answer. `settle` carries everything on after each happening.
-/

namespace Sys2Proof.Machine.State

/-- Whether an earlier command holds a later one back (R159, R161). -/
def heldBack (s : State) (k : Cmd) : Bool :=
  let a := k.req.access
  s.nvt.cmds.any fun e =>
    decide (1 ≤ e.phase) && decide (e.order < k.order) && !e.ended && e.req.nsid == k.req.nsid &&
      e.req.access != 0 && (e.req.access == 2 || a == 2) && (e.req.unknown || overlap e.req.ranges k.req.ranges)

/-- Rows and grains of a volume that LBAs touch, as intent entries name them (R238). -/
def entriesOf (s : State) (x : Vol) (slba count : Nat) : List Nat :=
  if x.priv then (grainsTouched slba count).map (intentEntry 1 x.v) else (s.rowsOf x slba count).map (intentEntry 0 x.v)

/-- LBAs of a command's ranges, each once. -/
def lbasOf (k : Cmd) : List Nat :=
  match k.req with
  | .dsm .. => distinct (k.req.ranges.flatMap fun r => (List.range r.2).map (· + r.1))
  | _ => k.req.ranges.flatMap fun r => (List.range r.2).map (· + r.1)

/-- A command touches a row or grain that is still carried over from a lost partner (R279). -/
def touchesPending (s : State) (x : Vol) (k : Cmd) : Bool :=
  match s.crewOf x.crew with
  | some c => !c.pendingRows.isEmpty &&
      k.req.ranges.any fun r => (s.entriesOf x r.1 r.2).any fun e => c.pendingRows.contains e
  | none => false

/-- Whether a command deallocates (R150, R220, R225). -/
def deallocates (r : Req) : Bool :=
  match r with
  | .dsm _ _ ad .. => ad
  | .writeZeroes io => io.deac
  | .mirrored _ _ _ _ d _ => d
  | _ => false

/-- The stored form, before the cipher, of each LBA that a command writes, and the first check that fails (R158, R220). -/
def newBlocks (s : State) (x : Vol) (k : Cmd) : List (Nat × Nat) × Option Status :=
  match k.req with
  | .write io =>
    let l := (List.range (io.nlb + 1)).map fun i => (io.slba + i, s.fromHost x.v io i k.buf)
    (l.map fun b => (b.1, b.2.1), l.findSome? fun b => b.2.2)
  | .writeZeroes io => ((List.range (io.nlb + 1)).map fun i => (io.slba + i, s.zeroBlock x.v io i), none)
  | .dsm .. => ((lbasOf k).map fun l => (l, s.blankBlock x.v), none)
  | .mirrored _ slba nlb zero dealloc data =>
    let u := unitBytes (s.fmtOf x.v)
    ((List.range (nlb + 1)).map fun i =>
      (slba + i, if zero || dealloc then (if dealloc then s.blankBlock x.v else 0) else sliceOf data (u * i) u), none)
  | _ => ([], none)

/-- Set the step of a command. -/
def toStep (s : State) (c : CmdId) (n : Nat) : State :=
  match s.cmdOf c with
  | some k => s.setCmd { k with step := n }
  | none => s

/-- A command has no more effect to come: its jobs end, and what is neither to be acknowledged nor answered is forgotten
(R125, R144, R161). -/
def endCmd (s : State) (c : CmdId) : State :=
  let s1 := ((s.dropJobs c).toStep c 6).freeBuffers 5 (cmdOwner c)
  match s1.cmdOf c with
  | some k => if k.acked || (k.mute && k.phase == 3) then (s1.dropCmd c).showTarget else s1
  | none => s1

/-- Stop a command that has not committed and answer it. -/
def failCmd (s : State) (c : CmdId) (st : Status) : State := (s.dropJobs c).refuse c st

/-- The pool that holds the write data of a volume (R182). -/
def dataPool (s : State) (v : Nat) : Nat := match s.volOf v with | some x => if x.priv then 3 else 2 | none => 2

/-- Step 0: the reach key has passed; a command with data takes its buffers and its data (R123, R153, R184). DESIGN CHOICE: ranges and
keys, for which R182 names no hamper, take the buffers of write data (log entry 133). -/
def takeData (s : State) (k : Cmd) : State :=
  if !k.passed then s
  else
    let go (hamper : Nat) (g : Sgl) : State :=
      let (t, ok) := s.acquireFor hamper (cmdOwner k.id) (buffersFor ((s.transferBytes k.req).getD 0))
      if !ok then t
      else match g with
        | .keyed bs => (t.toStep k.id 1).fetchData k.id bs
        | .inCapsule _ data => match t.cmdOf k.id with
          | some c => t.setCmd { c with step := 2, buf := data, want := 0 }
          | none => t
        | .unsupported => t
    match k.req with
    | .write io => go (s.dataPool (io.nsid - 1)) io.sgl
    | .compare io => go 4 io.sgl
    | .dsm n _ true g _ => go (s.dataPool (n - 1)) g
    | .rsvRegister n _ _ _ g _ _ => go (s.dataPool (n - 1)) g
    | .rsvAcquire n _ _ _ g _ _ => go (s.dataPool (n - 1)) g
    | .rsvRelease n _ _ _ g _ => go (s.dataPool (n - 1)) g
    | .mirrored v _ nlb zero dealloc _ =>
      let bytes := if zero || dealloc then 0 else unitBytes (s.fmtOf v) * (nlb + 1)
      let (t, ok) := s.acquireFor (s.dataPool v) (cmdOwner k.id) (buffersFor bytes)
      if ok then t.toStep k.id 2 else t
    | _ => s.toStep k.id 2

/-- Step 1: all of its data has come. Ranges and keys are read from it, and their buffers are released; the ranges of a Dataset
Management are held to the size of the namespace (R150, R170). -/
def dataWhole (s : State) (k : Cmd) : State :=
  if k.want ≠ 0 then s
  else if !k.req.wantsData then s.toStep k.id 2
  else
    let req := k.req.withData k.buf
    let t := (s.setCmd { k with req := req, buf := 0, step := 2 }).freeBuffers (s.dataPool (req.nsid - 1)) (cmdOwner k.id)
    if req.ranges.any fun x => decide (s.nsSize (req.nsid - 1) < x.1 + x.2) then t.failCmd k.id stLbaRange else t

/-- The command begins on its rows or grains (step 2): its place in the order (R159), torn LBAs (R243), a stopped crew
(R252), a torn table without room (R243), its key (R333, R336) and its buffers. -/
def begin_ (s : State) (k : Cmd) : State :=
  match s.volOf (k.req.nsid - 1) with
  | none => s.failCmd k.id stInvalidNs
  | some x =>
    let c := k.id
    let writes := k.req.access == 2
    let torn := !x.priv && k.req.ranges.any fun r => s.tornIn x.crew x.v r.1 (r.1 + r.2)
    let stopped := match s.crewOf x.crew with | some w => w.stopped | none => true
    let spill := match s.crewOf x.crew with | some w => !w.spill.isEmpty | none => false
    let onlyTorn := !x.priv && (lbasOf k).all fun l => s.tornIn x.crew x.v l (l + 1)
    if s.heldBack k || s.touchesPending x k || s.crewReplays x.crew then s
    else if !writes && torn then s.failCmd c stReadError
    else if writes && (stopped || (spill && !onlyTorn)) then s.failCmd c stWriteFault
    else
      let (s1, use) := s.useXts x.slot
      match use with
      | .waiting => s1
      | .unusable => (s1.noCipher x).failCmd c stInterrupted
      | .ready =>
        let count := (lbasOf k).length
        let data := buffersFor (unitBytes (s1.fmtOf x.v) * count)
        let (s2, ok) :=
          if !writes then
            s1.acquireFor 4 (cmdOwner c) (data + (match k.req with | .compare _ => buffersFor ((s1.transferBytes k.req).getD 0) | _ => 0))
          else
            -- the data itself, or the whole grains of a privileged volume, are held in H2 or H3 (R182, R221)
            let (t, ok) := s1.acquireFor (if x.priv then 3 else 2) (cmdOwner c)
              (if x.priv then buffersFor (4 * unitBytes (s1.fmtOf x.v) * (distinct ((lbasOf k).map (· / 4))).length) else data)
            if !ok || x.priv then (t, ok) else t.acquireFor 5 (cmdOwner c) (t.rmwBuffers x (lbasOf k))
        if !ok then s2
        else
          let (blocks, bad) := s2.newBlocks x k
          match bad with
          | some st => s2.failCmd c st
          | none =>
            let slba := match k.req.ranges with | r :: _ => r.1 | [] => 0
            let mirror (t : State) : State :=
              k.req.ranges.foldl (fun u r =>
                let part := blocks.filter fun b => decide (r.1 ≤ b.1) && decide (b.1 < r.1 + r.2)
                let zero := deallocates k.req || part.all fun b => b.2 == 0
                let len := unitBytes (s.fmtOf x.v)
                u.mirrorWrite c x.v r.1 r.2 zero (deallocates k.req) (if zero then 0 else joinBlocks len (part.map (·.2)))
                  (len * r.2)) t
            let free := match k.req with
              | .writeZeroes io => if !io.pract && !io.deac && s2.protects x.v then { s2 with free := s2.free + count } else s2
              | _ => s2
            if !x.priv then
              if writes then match eachOf (fun t b => t.sealLba x b) free blocks with
                | (t, some sealed) => ((mirror t).startRmw x c sealed).toStep c 3
                | (t, none) => (t.noCipher x).failCmd c stInterrupted
              else (s2.startRowReads x c slba count).toStep c 3
            else
              let gs := distinct ((lbasOf k).map (· / 4))
              let need := gs.filter fun g =>
                !writes || !((List.range 4).all fun i => (lbasOf k).contains (4 * g + i))
              let s3 := need.foldl (fun t g => t.lookupGrain x c g) s2
              if !s3.hasEntries c need then s3
              else
                let reads := match s3.cmdOf c with | some m => m.blocks | none => []
                -- a torn grain is answered at once, with no drive I/O (R224)
                if reads.any fun e => 2 ≤ entryState e.2 then s3.failCmd c stReadError else
                let s4 := reads.foldl (fun t e => t.startGrainRead x c e.1 e.2) s3
                let s5 := if writes then mirror s4 else s4
                s5.toStep c 3

/-- Answer a read or Compare with the blocks that it has read (R149, R158). -/
def answerRead (s : State) (k : Cmd) (x : Vol) (blocks : List Nat) : State :=
  let done (t : State) : State := t.endCmd k.id
  let out (io : IoReq) : List (Nat × Option Status) := (indexed blocks).map fun b => s.toHost x.v io b.1 b.2
  match k.req with
  | .read io =>
    match (out io).findSome? (·.2) with
    | some st => done (s.answer k.id st 0 [])
    | none => done (s.answerData k.id (joinBlocks (s.movedBytes x.v io.pract) ((out io).map (·.1))))
  | .compare io =>
    match (out io).findSome? (·.2) with
    | some st => done (s.answer k.id st 0 [])
    | none =>
      let u := s.movedBytes x.v io.pract
      let same := (indexed (out io)).all fun b => b.2.1 == sliceOf k.buf (u * b.1) u
      done (s.answer k.id (if same then stOk else stCompare) 0 [])
  | _ => s

/-- A read of an ordinary volume: its rows stand (R217, R252, R263). -/
def finishRowRead (s : State) (k : Cmd) (x : Vol) : State :=
  let js := s.jobsOf k.id
  if !js.all (fun j => decide (1 ≤ j.phase)) then s
  else
    let ls := lbasOf k
    let got := ls.map fun l => (s.readSectorOf x k.id l).map fun v => (l, v)
    if got.all (·.isSome) then match eachOf (fun t b => t.openLba x b) s (got.filterMap id) with
      | (t, some blocks) => t.answerRead k x blocks
      | (t, none) => (t.noCipher x).failCmd k.id stInterrupted
    else
      let s1 := match s.crewOf x.crew with
        | some c => if c.stopped then s else
            js.foldl (fun (t : State) (j : Job) => t.loseChunks j.crew j.row (s.lostChunks j c)) s
        | none => s
      s1.failCmd k.id stReadError

/-- The grains that a command reads, all of them: it waits for one, it has their plain blocks, or it is answered with a status. -/
inductive GrainsRead where
  | waiting
  | whole (l : List (Nat × List Nat))
  | fails (st : Status)
deriving DecidableEq, Repr

/-- Decrypt and decode the grains that a command has read, once each (R307): a grain that fails is read again or fails the command
(R309). -/
def decodeGrains (s : State) (c : CmdId) (x : Vol) : List (Nat × Nat × GrainView) → State × GrainsRead
  | [] => (s, .whole [])
  | (g, last, v) :: rest =>
    let done (t : State) (bs : List Nat) : State × GrainsRead :=
      match t.decodeGrains c x rest with
      | (u, .whole l) => (u, .whole ((g, bs) :: l))
      | r => r
    match v with
    | .blocks bs => done s bs
    | .sectors l raw => match s.plainGrain x g last raw l with
      | (t, .blocks bs) => match t.cmdOf c with
        | some m => done ((t.setCmd { m with plain := m.plain ++ [(g, bs)] }).healGrain x c g) bs
        | none => (t, .waiting)
      | (t, .bad) => match t.retryGrain c g with
        | (u, true) => (u, .waiting)
        | (u, false) => (u.failGrain x g, .fails stReadError)
      | (t, .noCipher) => (t.noCipher x, .fails stInterrupted)
    | _ => (s, .waiting)

/-- How the grains that a command reads stand; a retry may have begun (R309). -/
def grainsReady (s : State) (k : Cmd) (x : Vol) (need : List (Nat × Nat)) : State × GrainsRead :=
  let views := need.map fun g => (g.1, g.2, s.viewGrain x k.id g.1)
  if views.any fun v => v.2.2 == .waiting then (s, .waiting)
  else if views.any fun v => v.2.2 == .torn then (s, .fails stReadError)
  else match views.find? fun v => v.2.2 == .lost with
    | some v =>
      let s1 := match s.crewOf x.crew, s.grainJob k.id v.1 with
        | some c, some j => if c.stopped then s else s.loseChunks j.crew j.row (s.lostChunks j c)
        | _, _ => s
      (s1, .fails stReadError)
    | none => s.decodeGrains k.id x views

/-- A read of a privileged volume (R224). -/
def finishGrainRead (s : State) (k : Cmd) (x : Vol) : State :=
  let ls := lbasOf k
  let need := (distinct (ls.map (· / 4))).map fun g => (g, (ls.filter fun l => l / 4 == g).foldl (fun m l => max m (l % 4)) 0)
  match s.grainsReady k x need with
  | (s1, .waiting) => s1
  | (s1, .fails st) => s1.failCmd k.id st
  | (s1, .whole gs) => s1.answerRead k x (ls.map fun l => ((gs.lookup (l / 4)).getD []).getD (l % 4) 0)

/-- Place a command's group (R237) and go on to its commit point. Where H7 has no room it waits. -/
def placeCmd (s : State) (k : Cmd) (n : Nat) (recs : List JRec) (entries : List Nat) (stripes : List (Nat × Nat)) : State × Bool :=
  match s.crewOf n with
  | none => (s, false)
  | some c =>
    let (s1, r) := s.placeGroup n (some k.id) recs entries stripes
    match r, s1.cmdOf k.id with
    | some g, some m => (s1.setCmd { m with group := some (n, c.seg.heat, g), heat := c.seg.heat, step := 4 }, true)
    | _, _ => (s1, false)

/-- A write of an ordinary volume: P and Q of its rows are computed, and its records placed (R218 stages 3 and 4). -/
def finishRmw (s : State) (k : Cmd) (x : Vol) : State :=
  let stopped := match s.crewOf x.crew with | some c => c.stopped | none => true
  let s1 := (s.jobsOf k.id).foldl (fun t j =>
    if j.phase ≠ 1 then t
    else match t.newRow j with
      | some put => t.setJob { j with put := put, phase := 2 }
      | none => if stopped then t else match t.crewOf j.crew with
        | some c => t.rereadRow j (t.lostChunks j c)
        | none => t) s
  let js := s1.jobsOf k.id
  if stopped then s1.failCmd k.id stWriteFault
  else if !js.all (fun j => j.phase == 2) then s1
  else (s1.placeCmd k x.crew (js.flatMap (s1.rmwRecs x)) (js.map fun j => intentEntry 0 x.v j.row) []).1

/-- The stored and encrypted form of the next grain of a write, once (R294, R316): none while it waits, or where the command has failed for
want of a pipeline (R339). -/
def storeNext (s : State) (k : Cmd) (x : Vol) (g : Nat) (bs : List Nat) : State × Option (List Nat × Nat × Bool) :=
  match (s.cmdOf k.id).bind (·.stored) with
  | some (h, sec, len, raw) => if h = g then (s, some (sec, len, raw)) else (s, none)
  | none =>
    let (s1, st) := s.storeFor x k.id.cntlid (cmdOwner k.id) (s.chainUsed x k.id) bs
    match st with
    | none => (s1, none)
    | some sg => match eachOf (fun t p => t.sealSector x g p.1 sg.raw p.2) s1 (indexed sg.sectors) with
      | (t, none) => ((t.noCipher x).failCmd k.id stInterrupted, none)
      | (t, some sec) => match t.cmdOf k.id with
        | some m => (t.setCmd { m with stored := some (g, sec, sg.len, sg.raw) }, some (sec, sg.len, sg.raw))
        | none => (t, none)

/-- Place the next grain of a write in the open stripe (R221, R294). The counter in `want` says how many are placed. -/
def placeNext (s : State) (k : Cmd) (x : Vol) (old : List (Nat × List Nat)) (blocks : List (Nat × Nat)) (gs : List Nat) :
    Nat → State
  | 0 => s
  | n + 1 =>
    match s.cmdOf k.id with
    | none => s
    | some m =>
      match gs[m.want]? with
      | none => s
      | some g =>
        let now := (old.lookup g).getD (List.replicate 4 0)
        let bs := (List.range 4).map fun i => (blocks.lookup (4 * g + i)).getD (now.getD i 0)
        match s.storeNext k x g bs with
        | (s1, none) => s1
        | (s1, some (sec, len, raw)) =>
          let (s2, r) := s1.placeGrain x.v false g len raw sec (some k.id) none
          match r, s2.cmdOf k.id with
          | some _, some m2 => (s2.setCmd { m2 with want := m2.want + 1, stored := none }).placeNext k x old blocks gs n
          | _, _ => s2

/-- Grains that a command deallocates whole (R225). -/
def wholeGone (k : Cmd) (gs : List Nat) : List Nat :=
  if deallocates k.req then gs.filter fun g => (List.range 4).all fun i => (lbasOf k).contains (4 * g + i) else []

/-- A write of a privileged volume (R221, R222, R225): its partly covered grains have been read, its grains are placed, and
its records are placed once the path of each is decided. -/
def finishGrains (s : State) (k : Cmd) (x : Vol) : State :=
  let ls := lbasOf k
  let gs := distinct (ls.map (· / 4))
  let partly := gs.filter fun g => !((List.range 4).all fun i => ls.contains (4 * g + i))
  match s.grainsReady k x (partly.map fun g => (g, 3)) with
  | (s1, .waiting) => s1
  | (s1, .fails st) => s1.failCmd k.id st
  | (s1, .whole old) =>
    let (blocks, _) := s1.newBlocks x k
    let gone := wholeGone k gs
    let placing := gs.filter fun g => !gone.contains g
    let s2 := s1.placeNext k x old blocks placing placing.length
    match s2.cmdOf k.id, s2.volOf x.v with
    | some m, some y =>
      let mine := s2.grainsOf y k.id
      if m.want < placing.length || mine.any (fun p => p.2.path == 0) then s2
      else
        let deallocs := if gone.isEmpty then [] else
          (runsOf (sortOn id ls)).map fun r => JRec.mk 0x05 false false x.v 0 r.1 0 r.2 0 []
        let recs := (mine.map fun p => s2.grainRec y p.1 p.2) ++ deallocs
        let stripes := (distinct ((mine.filter fun p => p.2.path == 1).map (·.1))).map fun st => (x.v, st)
        let (s3, ok) := s2.placeCmd m x.crew recs (gs.map (intentEntry 1 x.v)) stripes
        if ok then s3.markRecorded x.v fun p => p.cmd == some k.id else s3
    | _, _ => s2

/-- What a commit point waits for has come (R162, R237, R273, R288). -/
def commitReady (s : State) (k : Cmd) : Bool :=
  match k.group with
  | some (n, h, g) => k.phase == 1 && k.step == 4 && s.groupSafe n h g && s.mirrorAcked k
  | none => false

/-- A command passes its commit point (R162): what follows it, and the answer in deferred mode (R166). A stripe that has
failed already leaves the write unsafe, so it is not committed. -/
def commit (s : State) (c : CmdId) : State :=
  match s.cmdOf c with
  | none => s
  | some k =>
    match k.group with
    | none => s
    | some (n, h, g) =>
      if k.err.isSome then s.failCmd c stWriteFault
      else
        let (s1, fr) := s.mirror (.cmdState (stateRec c 1 none (some (n, h, g))))
        let s2 := ((s1.setCmd { k with phase := 2, step := 5, gate := fr, undo := none }).markCommitted n h g).buffersToHeat c n h
        let s3 := s2.sendXmAck c
        match k.req, s3.volOf (k.req.nsid - 1) with
        | .rsvRegister .., _ | .rsvAcquire .., _ | .rsvRelease .., _ => (s3.answer c stOk 0 []).endCmd c
        | _, some x =>
          let deferred := s3.deferredMode x.v
          if x.priv then
            let s4 := s3.applyMap (s3.groupRecs n h g)
            if deferred then (s4.answer c stOk 0 []).endCmd c else s4
          else
            let s4 := (s3.jobsOf c).foldl (fun t j => t.startWrites j.id h false) s3
            if deferred then s4.answer c stOk 0 [] else s4
        | _, none => (s3.answer c stOk 0 []).endCmd c

/-- The media writes of a committed write have ended (R166, R167, R243, R257). -/
def finishWrite (s : State) (k : Cmd) : State :=
  match s.volOf (k.req.nsid - 1) with
  | none => s.endCmd k.id
  | some x =>
    if s.touchesPending x k then s
    else if x.priv then
      if (s.grainsOf x k.id).isEmpty then (s.answer k.id (k.err.getD stOk) 0 []).endCmd k.id else s
    else
      let js := s.jobsOf k.id
      if !js.all (fun j => j.phase == 4) then s
      else
        let bad := js.filter fun j => s.tooFew j
        let s1 := ((js.filter fun j => !s.tooFew j).flatMap (s.rowRuns x)).foldl (fun t r => t.untear x.crew x.v r.1 (r.1 + r.2)) s
        if s.deferredMode x.v then
          ((bad.flatMap (s.rowRuns x)).foldl (fun t r =>
            (t.tear x.crew x.v 1 r.1 r.2).deferError x.v 1 r.1 r.2 k.heat) s1).endCmd k.id
        else (s1.answer k.id (if bad.isEmpty then stOk else stWriteFault) 0 []).endCmd k.id

/-- A mirrored write has no response: once it has committed and ended, it is forgotten with its context (R145, R287). -/
def dropMirrored (s : State) (c : CmdId) : State :=
  match s.cmdOf c with
  | some k => match k.req with
    | .mirrored .. => if k.step = 6 then (s.dropCmd c).showTarget else s
    | _ => s
  | none => s

/-- Carry a command one step on. -/
def stepCmd (s : State) (c : CmdId) : State :=
  match s.cmdOf c with
  | none => s
  | some k =>
    if k.phase = 0 || k.unchecked || (k.req.access = 0 && (!k.req.wantsData || 2 ≤ k.step)) || (k.phase = 3 && k.step ≠ 5) then s
    else
      let x? := s.volOf (k.req.nsid - 1)
      match k.step with
      | 0 => s.takeData k
      | 1 => s.dataWhole k
      | 2 => s.begin_ k
      | 3 => match x? with
        | none => s.failCmd c stInvalidNs
        | some x => match x.priv, k.req.access == 2 with
          | false, false => s.finishRowRead k x
          | true, false => s.finishGrainRead k x
          | false, true => s.finishRmw k x
          | true, true => s.finishGrains k x
      | 5 => if 2 ≤ k.phase then s.finishWrite k else s
      | _ => s

/-- Carry a command on as far as it goes now. -/
def runCmd (s : State) (c : CmdId) : State :=
  ([0, 1, 2, 3, 4, 5].foldl (fun t _ => t.stepCmd c) s).dropMirrored c

/-- A fatal fault on a single NP32 (R178): admission halts, and what has not passed its commit point is answered. In a twin
it sends FATAL, stops admission and takes its network links down (R277). -/
def settleFatal (s : State) : State :=
  if !s.fatal then s
  else if s.twinShelf then
    if s.twn.stopped then s
    else
      let s1 := s.sendTwin .fatal
      let s2 := { s1 with twn := { s1.twn with stopped := true } }
      (List.range 32).foldl (fun t p => t.lportDown p) s2
  else if s.is F.NVT_STATUS_HALT then s
  else
    let s1 := (s.wr F.NVT_STATUS_HALT 1).raise 200 0x8000
    s1.nvt.cmds.foldl (fun t k =>
      if k.due.isSome then t.takeBack k.id stInterrupted else if k.phase < 2 then t.failCmd k.id stInterrupted else t) s1

/-- One round over everything that may go on. -/
def settleOnce (s : State) : State :=
  let s1 := s.settleCrews
  let s2 := s1.nvt.cmds.foldl (fun t k => t.runCmd k.id) s1
  s2.answersDue.labelsDue

/-- Everything goes on that can: after each happening that touches the data path or raises a fatal fault. -/
def settle (s : State) : State := [0, 1, 2, 3].foldl (fun t _ => t.settleOnce) s.settleFatal

end Sys2Proof.Machine.State
end

