-- ==== Sys2Proof/Machine/Pages.lean ====
section
/-!
DEFINITION. What Identify and Get Log Page return (R151, R156, R169 of spec/05_nvme_target.md). The spec names fields and
values; the places of the fields are those of the NVMe Base Specification 2.0, which it names. Data stands as one
little-endian number.
-/

namespace Sys2Proof.Machine

/-- A text as bytes, its first character lowest, padded with spaces to a length. -/
def textOf (cs : List Char) (len : Nat) : Nat :=
  (List.range len).foldr (fun i a => (match cs[i]? with | some c => c.toNat | none => 0x20) + 256 * a) 0

/-- Eight hexadecimal digits. -/
def hexText (v : Nat) : List Char :=
  (List.range 8).map fun i =>
    let d := v / 16 ^ (7 - i) % 16
    Char.ofNat (if d < 10 then 48 + d else 55 + d)

/-- The model number (R156). -/
def modelName : List Char :=
  ['Q', 'u', 'a', 'r', 'e', 'l', ' ', 'N', 'a', 'l', 'p', 'o', 'l', ' ', 'N', 'P', '3', '2']

namespace State

/-- Serial number (R156): the 12 characters of the fused unique identifier, padded with spaces to 20. -/
def serialNo : Nat := Config.uniqueId % 256 ^ 12 + 256 ^ 12 * textOf [] 8

/-- The Identify Controller data structure (R156). -/
def identController (s : State) : Nat :=
  pageOf [(0, 2, s.rd F.NVT_IDENT_VID), (2, 2, s.rd F.NVT_IDENT_SSVID), (4, 20, serialNo), (24, 40, textOf modelName 40),
    (64, 8, textOf (hexText s.cox.fwVersion) 8), (73, 3, s.rd F.NVT_OUI_OUI), (76, 1, 0x03), (77, 1, 8), (80, 4, 0x00020000),
    (96, 4, 0x00000001), (111, 1, 0x01), (256, 2, 0), (258, 1, 15), (259, 1, 7), (260, 1, 0x03), (261, 1, 0x06),
    (262, 1, 63), (320, 2, 1), (512, 1, 0x66), (513, 1, 0x44), (514, 2, 1024), (516, 4, 4096), (520, 2, 0x002D),
    (525, 1, 0x06), (526, 2, 63), (528, 2, 63), (536, 4, 0x00100005), (768, 256, Config.subsystemNqn), (1792, 4, 8196),
    (1796, 4, 1), (1800, 2, 0), (1802, 1, 0), (1803, 1, 16)]

/-- The Identify Namespace data structure of namespace v + 1 (R156). LBA formats are 4 B each: MS, LBADS, RP. -/
def identNamespace (s : State) (v : Nat) : Nat :=
  let n := s.nsSize v
  let dps := match s.rd F.NVT_NS_PITYPE v with | 1 => 0x01 | 3 => 0x03 | _ => 0x00
  pageOf [(0, 8, n), (8, 8, n), (16, 8, n), (24, 1, 0x02), (25, 1, 1), (26, 1, 0x10 + s.fmtOf v), (27, 1, 0x01),
    (28, 1, 0x15), (29, 1, dps), (30, 1, 0x01), (31, 1, 0x7F), (33, 1, 0x09), (34, 2, 63), (36, 2, 63), (40, 2, 63),
    (42, 2, 0), (44, 2, 63), (104, 16, Config.uniqueId % 256 ^ 12 + (v + 1) * 256 ^ 12),
    (128, 4, 12 * 65536), (132, 4, 16 + 12 * 65536)]

/-- Visible namespaces of an association by NSID. -/
def visibleNs (s : State) (a : Assoc) : List Nat := ((List.range 4096).filter fun v => s.visible a v).map (· + 1)

/-- Identify by CNS (R151, R156): the data, or the status that refuses it. -/
def identify (s : State) (a : Assoc) (cns nsid csi : Nat) : Nat ⊕ Status :=
  let seen := decide (1 ≤ nsid) && decide (nsid ≤ 4096) && s.visible a (nsid - 1)
  match cns with
  | 0x00 => if nsid = 0xFFFFFFFF then .inl (pageOf [(25, 1, 1), (128, 4, 12 * 65536), (132, 4, 16 + 12 * 65536)])
    else if seen then .inl (s.identNamespace (nsid - 1)) else .inr stInvalidNs
  | 0x01 => .inl s.identController
  | 0x02 => .inl (pageOf ((indexed (((s.visibleNs a).filter (nsid < ·)).take 1024)).map fun e => (4 * e.1, 4, e.2)))
  | 0x03 => if seen then
      .inl (pageOf [(0, 1, 2), (1, 1, 16), (4, 16, Config.uniqueId % 256 ^ 12 + nsid * 256 ^ 12)])
    else .inr stInvalidNs
  | 0x05 => if csi ≠ 0 then .inr stInvalidField
    else if seen then .inl (pageOf [(16, 4, 2 * 2 ^ 7)]) else .inr stInvalidNs
  | 0x06 => if csi ≠ 0 then .inr stInvalidField else .inl 0
  | _ => .inr stInvalidField

/-- The highest die temperature in °C (COX_TEMP_n, bytes in two's complement). -/
def hottest (s : State) : Int :=
  let bytes := (List.range 12).flatMap fun n => (List.range 4).map fun j => s.rd F.COX_TEMP_T n / 256 ^ j % 256
  let signed (b : Nat) : Int := if b < 128 then b else (b : Int) - 256
  bytes.foldl (fun m b => max m (signed b)) (signed (bytes.getD 0 0))

/-- The SMART / Health page (R151): the composite temperature in kelvins, the spare status and the life used. -/
def smartPage (s : State) : Nat :=
  let spare := Config.smartSpare (s.rd F.SPR_STATUS_ENGINES + 256 * s.rd F.SPR_STATUS_PHASES)
  pageOf [(1, 2, (s.hottest + 273).toNat), (3, 1, spare), (5, 1, min 255 (s.rd F.SPR_LIFE_USED / 100))]

/-- The Firmware Slot page: slot 1 is Copy A, slot 2 Copy B. -/
def firmwarePage (s : State) : Nat :=
  let act := s.rd F.BOOT_STATUS_ACTIVE
  pageOf [(0, 1, act), (8 * (if act = 2 then 2 else 1), 8, textOf (hexText s.cox.fwVersion) 8)]

/-- The Commands Supported and Effects page (R149, R151): CSUPP, and LBCC for commands that change logical blocks. -/
def effectsPage : Nat :=
  let admin := [0x02, 0x06, 0x08, 0x09, 0x0A, 0x0C, 0x18, 0x7F].map fun o => (4 * o, 4, 1)
  let reads := [0x00, 0x02, 0x05, 0x0D, 0x0E, 0x11, 0x15].map fun o => (1024 + 4 * o, 4, 1)
  let writes := [0x01, 0x08, 0x09].map fun o => (1024 + 4 * o, 4, 3)
  pageOf (admin ++ reads ++ writes)

/-- The Error Information page, newest first: error count, queue, command and status of up to 64 errors. -/
def errorPage (s : State) (cntlid : Nat) : Nat :=
  let mine := (s.nvt.errors.filter fun e => e.2.1.cntlid == cntlid).take 64
  pageOf ((indexed mine).map fun e =>
    let st := e.2.2.2
    (64 * e.1, 64, e.2.1 + 2 ^ 64 * e.2.2.1.qid + 2 ^ 80 * e.2.2.1.cid +
      2 ^ 96 * ((st.sc + 256 * st.sct + (if st.dnr then 2 ^ 14 else 0)) * 2)))

/-- The entries of page 0xC1 of a namespace (R169): ranges still torn, newest first. In a privileged volume a range shows
the runs of its grains that are still torn. -/
def tornEntries (s : State) (v : Nat) : List TornEntry :=
  match s.volOf v with
  | none => []
  | some x =>
    let table := match s.crewOf x.crew with
      | some c => ((c.torn ++ c.spill).filter (·.vol == v)).map fun t => TornEntry.mk t.num (v + 1) t.cause t.slba t.nlb t.heat
      | none => []
    let grains := (s.nvt.ptorn.filter (·.nsid == v + 1)).flatMap fun e =>
      let gs := (List.range ((e.nlb + 1) / 4)).map (· + e.slba / 4)
      (runsOf (gs.filter fun g => entryState (x.entry g) == 2)).map fun r => { e with slba := 4 * r.1, nlb := 4 * r.2 - 1 }
    (sortOn (fun e => e.num) (if x.priv then grains else table)).reverse

/-- Log pages 0xC0 and 0xC1 (R169). -/
def tornPage (s : State) (page v : Nat) : Nat :=
  let es := (if page = 0xC0 then s.nvt.deferred.filter (·.nsid == v + 1) else s.tornEntries v).take 256
  pageOf ([(0, 4, es.length), (8, 8, (s.nvt.latest.lookup (page, v + 1)).getD 0)] ++
    (indexed es).map fun e => (16 + 32 * e.1, 32, entryBytes e.2))

/-- A log page as one number, and the state once it has been read (R151): the Changed Namespace List is then empty, and the
oldest reservation notification is gone. -/
def logPage (s : State) (a : Assoc) (lid nsid : Nat) : (State × Nat) ⊕ Status :=
  match lid with
  | 0x01 => .inl (s, s.errorPage a.cntlid)
  | 0x02 => .inl (s, s.smartPage)
  | 0x03 => .inl (s, s.firmwarePage)
  | 0x04 => .inl (s.setAssoc { a with changed := [] }, pageOf ((indexed (a.changed.take 1024)).map fun e => (4 * e.1, 4, e.2)))
  | 0x05 => .inl (s, effectsPage)
  | 0x80 => match a.rsvLog with
    | e :: rest => .inl (s.setAssoc { a with rsvLog := rest },
        pageOf [(0, 8, e.1), (8, 1, e.2.1), (9, 1, min 255 rest.length), (12, 4, e.2.2)])
    | [] => .inl (s, 0)
  | 0xC0 | 0xC1 => if 1 ≤ nsid && nsid ≤ 4096 && s.visible a (nsid - 1) then .inl (s, s.tornPage lid (nsid - 1)) else .inr stInvalidNs
  | _ => .inr stInvalidField

end State

end Sys2Proof.Machine
end

