-- ==== Sys2Proof/Machine/Reserve.lean ====
section
/-!
DEFINITION. Reservation commands as they act on the state (R172 to R174 of spec/05_nvme_target.md): their effect, notices, and
record.
-/

namespace Sys2Proof.Machine

/-- Reservation Report, extended data structure: header of 64 B, and 64 B for each registered controller. -/
def rsvReportData (s : State) (r : Reservation) : Nat :=
  let ctls := r.regs.flatMap fun e =>
    let mine := s.nvt.assocs.filter (·.hostid == e.1)
    if mine.isEmpty then [(0xFFFF, e)] else mine.map fun a => (a.cntlid, e)
  pageOf ([(0, 4, r.gen), (4, 1, r.rtype), (5, 2, ctls.length), (9, 1, if r.ptpl then 1 else 0)] ++
    (State.indexed ctls).map fun c => (64 + 64 * c.1, 64,
      pageOf [(0, 2, c.2.1), (2, 1, if State.holdsRsv r c.2.2.1 then 1 else 0), (8, 8, c.2.2.2), (16, 16, c.2.2.1)]))

namespace State

/-- Whether an Abort catches a command (R171). -/
def caught (k : Cmd) : Bool :=
  if k.req.free || k.due.isSome then false
  else if k.phase = 0 then true
  else if k.phase ≠ 1 then false
  else match k.req.access with
    | 1 => !k.placed
    | 2 => true
    | _ => false

/-- Notices that follow a reservation command (R174): registration preempted to each host that lost its registration, and
reservation released to the other registrants. -/
def rsvNotices (s : State) (nsid host : Nat) (e : RsvEnd) (cleared : Bool) : State :=
  let s1 := e.lost.foldl (fun t h => t.rsvNotice h nsid (if cleared then 3 else 1)) s
  if e.released then ((e.new.regs.filter (·.1 != host)).map (·.1)).foldl (fun t h => t.rsvNotice h nsid 2) s1 else s1

/-- Commands of preempted hosts to a namespace that were admitted before are aborted under R171, where they can be caught (R174). -/
def preemptAbort (s : State) (nsid order : Nat) (hosts : List Nat) : State :=
  (s.nvt.cmds.filter fun k => decide (k.phase = 1) && k.req.nsid == nsid && k.req.access != 0 && decide (k.order < order) &&
      (match s.assocOf k.id.cntlid with | some a => hosts.contains a.hostid | none => false)).foldl
    (fun t k => if caught k then t.failCmd k.id stAbortRequested else t) s

/-- A reservation command takes effect at its admission (R172, R173): its new state goes to the journal, and its answer
waits for that. -/
def reserve (s : State) (k : Cmd) (host nsid : Nat) (e : RsvEnd) (abort cleared : Bool) : State :=
  if e.status ≠ stOk then s.answer k.id e.status 0 []
  else
    let m := match s.cmdOf k.id with | some m => { m with undo := some (s.rsvOf nsid) } | none => k
    let s1 := ((s.setCmd m).setRsv e.new).rsvNotices nsid host e cleared
    let s2 := if abort then s1.preemptAbort nsid k.order e.lost else s1
    match s2.volOf (nsid - 1) with
    | none => (s2.setCmd { m with undo := none }).answer k.id stOk 0 []
    | some x => (s2.placeCmd m x.crew [rsvRec x.v e.new] [] []).1

/-- The reservation state of a namespace goes to the journal by itself (R173): Set Features has changed its persistence. -/
def recordRsv (s : State) (nsid : Nat) : State :=
  match s.volOf (nsid - 1) with
  | some x => s.placeLoose x.crew (rsvRec x.v (s.rsvOf nsid))
  | none => s

end State

end Sys2Proof.Machine
end

