-- ==== Sys2Proof/Machine/Admit.lean ====
section
/-!
DEFINITION. From a delivered capsule to its execution (R125, R138 to R149, R151 to R155, R168, R171, R172 of
spec/05_nvme_target.md): acceptance, contexts, the checks of admission, and the commands that touch no media.
-/

namespace Sys2Proof

/-- How a reservation regards a command: 1 as a read, 2 as a write; Flush and Dataset Management count as writes. -/
def Req.rsvAccess : Req → Nat
  | .read _ | .compare _ => 1
  | .write _ | .writeZeroes _ | .flush _ | .dsm .. => 2
  | _ => 0

end Sys2Proof

namespace Sys2Proof.Machine.State

/-- Limits of the operands (R149). -/
def reqBad (r : Req) : Bool :=
  match r with
  | .read io | .write io | .compare io => decide (256 < io.nlb + 1)
  | .writeZeroes io => decide (65536 < io.nlb + 1)
  | .dsm _ nr .. => decide (256 ≤ nr)
  | .rsvReport _ _ eds _ => !eds
  | _ => false

/-- What is wrong with a data descriptor (R153 to R155): none where it is good or the command has none. -/
def sglBad (s : State) (r : Req) : Option Status :=
  match r.sgl, s.transferBytes r with
  | some (.keyed bs), some n =>
    if bs.isEmpty || 16 < bs.length then some stInvalidField
    else if sglBytes bs ≠ n then some stSglLength
    else if 1048576 < n then some stInvalidField
    else none
  | some (.inCapsule len _), some n =>
    match r with
    | .write _ | .compare _ => if 131072 < len then some stInvalidField else if len ≠ n then some stSglLength else none
    | _ => some stInvalidField
  | some .unsupported, _ => some stInvalidField
  | _, _ => none

/-- The oldest deferred write error of some namespaces that an association has not been told of (R168). -/
def unreported (s : State) (a : Assoc) (nsids : List Nat) : Option Nat :=
  let open_ (e : TornEntry) : Bool := nsids.contains e.nsid && decide ((a.reported.lookup e.nsid).getD 0 < e.num)
  match (s.nvt.deferred.filter open_).map (·.num) with
  | [] => none
  | n :: rest => some (rest.foldl min n)

/-- Every entry of some namespaces counts as reported (R168). -/
def allReported (s : State) (a : Assoc) (nsids : List Nat) : Assoc :=
  let newest (n : Nat) : Nat := (s.nvt.deferred.filter (·.nsid == n)).foldl (fun m e => max m e.num) 0
  { a with reported := (a.reported.filter fun r => !nsids.contains r.1) ++ nsids.map fun n => (n, newest n) }

/-- The order of the checks of admission (R141, R149, R153 to R155, R168, R172): the status that refuses a command, with
DW0. -/
def admissionCheck (s : State) (a : Assoc) (k : Cmd) : State × Option (Status × Nat) :=
  let r := k.req
  let every := match r with | .flush n => n == 0xFFFFFFFF | _ => false
  let nsid := r.nsid
  let nsids := if every then s.visibleNs a else [nsid]
  if r.isIo != (k.id.qid != 0) && r != .disconnect then (s, some (stInvalidOpcode, 0))
  else if k.err.isSome then (s, k.err.map fun st => (st, 0))
  else if reqBad r then (s, some (stInvalidField, 0))
  else if r.isIo then
    if !every && (nsid = 0 || 4096 < nsid || !s.visible a (nsid - 1)) then (s, some (stInvalidNs, 0))
    else match s.unreported a nsids with
      | some old => (s.setAssoc (s.allReported a nsids), some (stDeferred, old % 2 ^ 32))
      | none =>
        if every then (s, none)
        else if rsvDenies (s.rsvOf nsid) a.hostid r.rsvAccess then (s, some (stRsvConflict, 0))
        else if r.ranges.any fun x => decide (s.nsSize (nsid - 1) < x.1 + x.2) then (s, some (stLbaRange, 0))
        else (s, (s.sglBad r).map fun st => (st, 0))
  else (s, (s.sglBad r).map fun st => (st, 0))

/-- Held keep-alive time in ms (R143). A MIN above MAX acts as MAX. -/
def holdKato (s : State) (kato : Nat) : Nat :=
  let top := 1000 * s.ef F.NVT_KATO_MAX
  let low := min top (100 * s.ef F.NVT_KATO_MIN)
  if kato = 0 then top else max low (min top kato)

/-- Set Features (R151): the new association and DW0. -/
def setFeature (s : State) (a : Assoc) (fid nsid value : Nat) : State × Status × Nat :=
  match fid with
  | 0x07 =>
    if a.ioConnected then (s, stInvalidField, 0)
    else
      let n := min 64 (min (value % 65536) (value / 65536 % 65536) + 1)
      (s.setAssoc { a with ioQueues := n }, stOk, (n - 1) * 65537)
  | 0x0B => (s.setAssoc { a with aenConfig := value }, stOk, 0)
  | 0x0F => (s.setAssoc { a with kato := s.holdKato value }, stOk, 0)
  | 0x82 =>
    let ns := if nsid = 0xFFFFFFFF then s.visibleNs a else [nsid]
    if ns.all fun n => 1 ≤ n && n ≤ 4096 && s.visible a (n - 1) then
      (s.setAssoc { a with rsvMask := (a.rsvMask.filter fun m => !ns.contains m.1) ++ ns.map fun n => (n, value) }, stOk, 0)
    else (s, stInvalidNs, 0)
  | 0x83 =>
    if 1 ≤ nsid && nsid ≤ 4096 && s.visible a (nsid - 1) then
      ((s.setRsv { s.rsvOf nsid with ptpl := value.testBit 0 }).recordRsv nsid, stOk, 0)
    else (s, stInvalidNs, 0)
  | _ => (s, stInvalidField, 0)

/-- Get Features (R143, R151): DW0; the Host Identifier moves as data. -/
def getFeature (s : State) (a : Assoc) (fid nsid : Nat) : Status × Nat :=
  let seen := decide (1 ≤ nsid) && decide (nsid ≤ 4096) && s.visible a (nsid - 1)
  match fid with
  | 0x07 => (stOk, (a.ioQueues - 1) * 65537)
  | 0x0B => (stOk, a.aenConfig)
  | 0x0F => (stOk, a.kato)
  | 0x82 => if seen then (stOk, (a.rsvMask.lookup nsid).getD 0) else (stInvalidNs, 0)
  | 0x83 => if seen then (stOk, if (s.rsvOf nsid).ptpl then 1 else 0) else (stInvalidNs, 0)
  | _ => (stInvalidField, 0)

/-- Properties (R152): CAP, VS, CC, CSTS. -/
def propertyValue (a : Assoc) (offset : Nat) : Option Nat :=
  match offset with
  | 0x00 => some (1023 + 2 ^ 16 + 2 ^ 24 + 2 ^ 37)
  | 0x08 => some 0x00020000
  | 0x14 => some a.cc
  | 0x1C => some (a.cc % 2 + 4 * a.shst)
  | _ => none

/-- Abort (R171): the caught command is answered first. -/
def abortCmd (s : State) (k : Cmd) (sqid cid : Nat) : State :=
  match s.nvt.cmds.find? fun t => t.id.cntlid == k.id.cntlid && t.id.qid == sqid && t.id.cid == cid && !t.acked && t.id != k.id with
  | some t => if caught t then (s.failCmd t.id stAbortRequested).answer k.id stOk 0 [] else s.answer k.id stOk 1 []
  | none => s.answer k.id stOk 1 []

/-- Execute a command that touches no media, whose checks have passed (R150 to R152, R156, R171 to R174). -/
def executePlain (s : State) (a : Assoc) (k : Cmd) : State :=
  let c := k.id
  let ok (t : State) : State := t.answer c stOk 0 []
  match k.req with
  | .flush _ | .dsm .. | .keepAlive => ok s
  | .rsvRegister n .. => s.reserve k a.hostid n (rsvEffect k.req (s.rsvOf n) a.hostid) false false
  | .rsvAcquire n act .. => s.reserve k a.hostid n (rsvEffect k.req (s.rsvOf n) a.hostid) (act == 2) false
  | .rsvRelease n act .. => s.reserve k a.hostid n (rsvEffect k.req (s.rsvOf n) a.hostid) false (act == 1)
  | .rsvReport n numd _ _ => s.answerData c (sliceOf (rsvReportData s (s.rsvOf n)) 0 (4 * (numd + 1)))
  | .getLog lid nsid off numd _ =>
    match s.logPage a lid nsid with
    | .inl (t, page) => t.answerData c (sliceOf page off (4 * (numd + 1)))
    | .inr st => s.answer c st 0 []
  | .identify cns nsid _ csi _ =>
    match s.identify a cns nsid csi with
    | .inl page => s.answerData c page
    | .inr st => s.answer c st 0 []
  | .abort sqid cid => s.abortCmd k sqid cid
  | .setFeatures fid nsid value =>
    let r := s.setFeature a fid nsid value
    r.1.answer c r.2.1 r.2.2 []
  | .getFeatures fid nsid _ =>
    if fid = 0x81 then s.answerData c a.hostid
    else
      let r := s.getFeature a fid nsid
      s.answer c r.1 r.2 []
  | .aer =>
    match a.notices with
    | n :: rest => (s.setAssoc { a with notices := rest }).answer c stOk n []
    | [] => if 8 ≤ a.aers.length then s.answer c stInvalidField 0 [] else s.setAssoc { a with aers := a.aers ++ [c] }
  | .propertySet off value =>
    if off = 0x14 then
      ok (s.setAssoc { a with cc := value % 2 ^ 32, shst := if value / 2 ^ 14 % 4 ≠ 0 then 2 else if value % 2 = 0 then 0 else a.shst })
    else s.answer c stInvalidField 0 []
  | .propertyGet off =>
    match propertyValue a off with
    | some v => s.answer c stOk v []
    | none => s.answer c stInvalidField 0 []
  | .disconnect =>
    if c.qid = 0 then ok s
    else ok (s.setAssoc { a with queues := a.queues.filter (·.1 != c.qid), closing := addTo a.closing c.qid })
  | _ => s

/-- Whether a command goes to media. -/
def isMedia (r : Req) : Bool := r.access != 0

/-- The reach keys of a command have passed: it is executed, or goes on with its data. -/
def keysPassed (s : State) (c : CmdId) : State :=
  match s.cmdOf c with
  | none => s
  | some k =>
    let s1 := s.setCmd { k with passed := true }
    if isMedia k.req || k.req.wantsData then s1
    else match s1.assocOf c.cntlid with
      | some a => s1.executePlain a { k with passed := true }
      | none => s1

/-- The reach key of an address and process tag (R120, R121). -/
def keyMatches (s : State) (r : FlowRef) (key : Nat) : Bool :=
  s.skf.keys.any fun k => k.1 == r.ip && k.2.1 == r.ptag && k.2.2 == key

/-- A reach key does not match (R121). -/
def keyFails (s : State) (c : CmdId) : State := (s.failCmd c stReachKey).raise 69 0x8000

/-- Compare the keys of a command's keyed descriptors (R121, R130): each comparison is an item while REACH is in effect. -/
def checkKeys (s : State) (c : CmdId) : State :=
  match s.cmdOf c with
  | none => s
  | some k =>
    match k.req.sgl with
    | some (.keyed bs) =>
      let keys := bs.map fun b => k.keyhi * 2 ^ 32 + b.2.2
      if !s.assisted 1 then
        if keys.all (s.keyMatches k.flow) then s.keysPassed c else s.keyFails c
      else
        let (s1, bad, tags) := keys.foldl (fun (x : State × Bool × List Nat) key =>
          let (t, handed) := x.1.handOver 1 key k.id.cid [k.flow.ip, k.flow.ptag, key] [] 0 (x.1.itemPoint (some k))
          if handed then (t, x.2.1, x.2.2 ++ [t.wrg.nextItem - 1])
          else (t, x.2.1 || !t.keyMatches k.flow key, x.2.2)) (s, false, [])
        let s2 := match s1.cmdOf c with | some m => s1.setCmd { m with items := m.items ++ tags } | none => s1
        if bad then s2.keyFails c else if tags.isEmpty then s2.keysPassed c else s2
    | _ => s.keysPassed c

/-- The checks of an admitted command, and what follows from them. -/
def checked (s : State) (a : Assoc) (k : Cmd) : State :=
  let (s1, no) := (s.setCmd { k with unchecked := false }).admissionCheck a k
  match no with
  | some (st, dw0) => (s1.stopWork k.id).answer k.id st dw0 []
  | none => s1.checkKeys k.id

/-- A reservation command admitted earlier has yet to take effect on the namespace of a command: its keys have not come (R155, R172). -/
def rsvOpen (s : State) (k : Cmd) : Bool :=
  k.req.isIo && s.nvt.cmds.any fun e => e.req.reserves && e.req.wantsData && e.req.nsid == k.req.nsid && e.phase == 1 &&
    decide (e.order < k.order) && e.step != 6 && decide (e.step < 3) && e.due.isNone

/-- Commands whose checks waited for a reservation command are checked, in their order (R172). -/
def checkWaiting (s : State) : State :=
  (sortOn (fun k => k.order) (s.nvt.cmds.filter (·.unchecked))).foldl (fun t e =>
    match t.cmdOf e.id, t.assocOf e.id.cntlid with
    | some k, some a => if k.unchecked && !t.rsvOpen k then t.checked a k else t
    | _, _ => t) s

/-- Aborts of a controller that are not answered (R171). -/
def abortsOpen (s : State) (cntlid : Nat) : Nat :=
  (s.nvt.cmds.filter fun k => k.id.cntlid == cntlid && decide (k.phase < 3) && (match k.req with | .abort .. => true | _ => false)).length

/-- The entry of NVT_HOST that a HOSTID matches: the lowest (R139). -/
def hostEntry (s : State) (hostid : Nat) : Option Nat :=
  (List.range 4096).find? fun n => s.ef F.NVT_HOST_VALID n == 1 &&
    hostid == (List.range 4).foldr (fun w a => s.ef F.NVT_HOST_HOSTID n w + 2 ^ 32 * a) 0

/-- The first CNTLID of this NP32's range (R140), and the lowest that may be assigned. -/
def firstCntlid (s : State) : Nat := if s.twinShelf && !s.is F.SYS_STRAP_BAY_MASTER then 0x1001 else 0x0001
def nextCntlid (s : State) : Option Nat :=
  let taken := s.nvt.assocs.map (·.cntlid) ++
    (s.nvt.freed.filter fun f => decide (s.now < f.2 + 10000000000)).map (·.1)
  ((List.range (min 4096 (taken.length + 1))).map (· + s.firstCntlid)).find? fun n => !taken.contains n

/-- Associations homed on this NP32. -/
def homed (s : State) : Nat := (s.nvt.assocs.filter fun a => !a.adopted).length

/-- A queue of an association that exists, or that has been deleted while its commands run (R144). -/
def queueBusy (s : State) (a : Assoc) (qid : Nat) : Bool :=
  a.queues.any (·.1 == qid) || (a.closing.contains qid &&
    s.nvt.cmds.any fun k => k.id.cntlid == a.cntlid && k.id.qid == qid && decide (k.phase < 3))

/-- The outcome of a Connect, as the first row of R139's table that applies: a status, and the event that it raises. -/
def connectCheck (s : State) (a? : Option Assoc) (c : CmdId) (qid sqsize hostid dataCntlid : Nat) (nqnMatches : Bool) :
    Option (Status × Option Nat) :=
  let ioQueue := qid != 0
  if !ioQueue && (decide (4096 ≤ s.homed) || s.nextCntlid.isNone) then some (stConnectBusy, some 192)
  else if (if ioQueue then 1023 else 31) < sqsize then some (stConnectParams, none)
  else if ioQueue && (match a? with | some a => decide (a.ioQueues < qid) || s.queueBusy a qid | none => false) then
    some (stConnectParams, none)
  else if (if ioQueue then dataCntlid != c.cntlid else dataCntlid != 0xFFFF) then some (stConnectParams, none)
  else if ioQueue && (match a? with | some a => !a.cc.testBit 0 | none => true) then some (stSequence, none)
  else match s.hostEntry hostid with
    | none => some (stConnectHost, some 194)
    | some _ =>
      if ioQueue && (match a? with | some a => a.hostid != hostid | none => false) then some (stConnectParams, none)
      else if !nqnMatches then some (stConnectParams, none)
      else none

/-- Answer a Connect. `frame` is the twin frame of its association. -/
def connectAnswer (s : State) (k : Cmd) (sqhd : Nat) (st : Status) (dw0 : Nat) (frame : Option Nat) : State :=
  (s.setCmd { k with step := 6, sqhd := sqhd, recFrame := match frame with | some f => some f | none => k.recFrame }).answer
    k.id st dw0 []

/-- A Connect that has its context is executed (R136, R138 to R141). -/
def connect (s : State) (k : Cmd) (qid sqsize kato hostid dataCntlid : Nat) (nqnMatches : Bool) : State :=
  let a? := s.assocOf k.id.cntlid
  if k.err.isSome then s.connectAnswer k 0 (k.err.getD stInvalidField) 0 none
  else match s.connectCheck a? k.id qid sqsize hostid dataCntlid nqnMatches with
    | some (st, ev) =>
      let s1 := match ev with | some e => s.raise e 0x8000 | none => s
      s1.connectAnswer k 0 st 0 none
    | none =>
      if qid = 0 then
        match s.nextCntlid, s.hostEntry hostid with
        | some n, some e =>
          let a : Assoc :=
            { cntlid := n, hostid := hostid, sub := s.ef F.NVT_HOST_SUB e, flow := k.flow, kato := s.holdKato kato, cc := 0,
              shst := 0, queues := [(0, sqsize)], closing := [], sqhd := [(0, 1 % (sqsize + 1))], ioQueues := 64,
              ioConnected := false, aers := [], aenConfig := 0, notices := [], rsvMask := [], rsvLog := [], rsvCount := 0, changed := [],
              reported := [], adopted := false }
          let s1 := { s with nvt := { s.nvt with
            assocs := s.nvt.assocs ++ [a]
            freed := s.nvt.freed.filter fun f => f.1 != n } }
          let (s2, fr) := s1.mirror (.assoc (s1.assocRec a false))
          s2.showTarget.connectAnswer k (1 % (sqsize + 1)) stOk n fr
        | _, _ => s
      else match a? with
        | some a =>
          let b := { a with
            queues := a.queues ++ [(qid, sqsize)], closing := dropFrom a.closing qid, ioConnected := true, flow := k.flow
            sqhd := (a.sqhd.filter (·.1 != qid)) ++ [(qid, 1 % (sqsize + 1))] }
          let (s1, fr) := (s.setAssoc b).mirror (.assoc (s.assocRec b false))
          s1.connectAnswer k (1 % (sqsize + 1)) stOk k.id.cntlid fr
        | none => s.connectAnswer k 0 stSequence 0 none

/-- A command admitted is counted by its opcode, for opcodes 0x00 to 0x15 (R490). -/
def countAdmitted (s : State) (k : Cmd) : State :=
  if s.counting && !k.req.silent && decide (k.req.opcode ≤ 0x15) then s.count (0x010 + k.req.opcode) 0x8000 else s

/-- A command is admitted (R145 to R147): it takes a context and its place in the order, is checked, and executed. -/
def giveContext (s : State) (c : CmdId) : State :=
  match s.cmdOf c with
  | none => s
  | some k =>
    let k1 := { k with phase := 1, ctx := !k.req.free, order := s.nvt.nextAdmit }
    let k2 := { k1 with unchecked := s.rsvOpen k1 }
    let s1 := (({ s with nvt := { s.nvt with nextAdmit := s.nvt.nextAdmit + 1 } }.setCmd k2).showTarget).countAdmitted k2
    match k.req, s1.assocOf c.cntlid with
    | .connect qid sqsize kato hostid dataCntlid nqn, _ => s1.connect k2 qid sqsize kato hostid dataCntlid nqn
    | _, some a => if k2.unchecked then s1 else s1.checked a k2
    | _, none => s1

/-- A capsule begins to wait for a context (R147, R490). -/
def beginWait (s : State) : State := (s.countOpen 0x200 0x1002 0x8000).raiseOnce 196 0 0x8000

/-- A held capsule is executed at once where it takes no context, or where a context is free and goes to it; otherwise it waits (R145 to
R147). -/
def start (s : State) (c : CmdId) : State :=
  match s.cmdOf c with
  | none => s
  | some k =>
    if k.req.free then s.giveContext c
    else match s.nextWaiting with
      | some w => if w.id = c then s.giveContext c else s.beginWait
      | none => s.beginWait

/-- A delivered capsule (R125, R138, R142, R178, R179, R195, R280, R283). -/
def takeCmd (s : State) (c : Capsule) (req : Req) : State :=
  let (s0, held) := s.takeCapsule c req
  let (s1, run) := match held with
    | some (_, gone) => (s0, !gone)
    | none => s0.matchCapsule c.flow (capId c) c.enc
  let at_ := match held with | some (d, _) => d.at_ | none => s1.now
  let point := match held with | some (d, _) => d.point | none => s1.now + s1.deadline
  let assoc? := s1.assocOf c.cntlid
  if !run || s1.twn.stopped then s1
  else if s1.admissionHalted then s1.refuseOn c stInterrupted
  else match req with
    | .connect qid .. =>
      let wrongFlow := match assoc? with | some a => a.flow.ptag != c.flow.ptag | none => true
      if qid ≠ 0 && wrongFlow then s1.refuseOn c stSequence else (s1.holdCmd c req 0 at_ point).start (capId c)
    | _ =>
      match assoc? with
      | none => s1.refuseOn c stSequence
      | some a =>
        if a.flow.ptag ≠ c.flow.ptag || !(a.queues.any (·.1 == c.qid)) then s1.refuseOn c stSequence
        else match s1.cmdOf (capId c) with
          | some k =>
            -- The first copy of an adopted command is executed as if delivered at the original delivery (R280).
            (s1.setCmd { k with flow := c.flow, enc := c.enc, keyhi := c.keyhi, req := req, adopted := false,
                                err := if c.alien then some stInvalidOpcode else if c.bad then some stInvalidField else none }).start k.id
          | none =>
            let open_ := (s1.nvt.cmds.filter fun k => k.id.cntlid == c.cntlid && k.id.qid == c.qid && !k.acked).length
            if ((a.queues.lookup c.qid).getD 0) ≤ open_ then (s1.refuseOn c stSequence).raiseOnce 198 0 0x8000
            else
              let (b, sqhd) := nextSqhd { a with flow := c.flow } c.qid
              let limit := (match req with | .abort .. => true | _ => false) && decide (16 ≤ s1.abortsOpen c.cntlid)
              let s2 := (s1.setAssoc b).holdCmd c req sqhd at_ point
              if limit then (s2.stopWork (capId c)).answer (capId c) stAbortLimit 0 [] else s2.start (capId c)

/-- A Disconnect on the admin queue has been answered with success, and its response has been sent (R144). -/
def disconnected (s : State) (k : Cmd) : Bool :=
  let mine (b : SentBody) : Bool := match b with | .response c .. => c == k.id | _ => false
  k.req == .disconnect && k.id.qid == 0 && k.phase == 3 && (match k.answer with | some (st, _) => st == stOk | none => false) &&
    !(s.skf.flows.any fun f => f.queue.any mine) && !(s.skf.lost.any fun l => mine l.2.2)

/-- Associations whose Disconnect has been answered end (R144). -/
def endDisconnected (s : State) : State :=
  (s.nvt.cmds.filter s.disconnected).foldl (fun t k => t.endAssoc k.id.cntlid) s

/-- A reservation command whose record found no room in H7 tries again (R185). -/
def retryReserve (s : State) : State :=
  (s.nvt.cmds.filter fun k => decide (k.phase = 1) && k.undo.isSome && k.group.isNone && k.due.isNone).foldl
    (fun t k => match t.volOf (k.req.nsid - 1) with
      | some x => (t.placeCmd k x.crew [rsvRec x.v (t.rsvOf k.req.nsid)] [] []).1
      | none => t) s

/-- Commands whose ranges or keys have come are executed (R150, R155, R172). -/
def runWithData (s : State) : State :=
  (s.nvt.cmds.filter fun k => k.phase == 1 && k.req.reserves && k.req.wantsData && k.step == 2 && k.due.isNone && k.undo.isNone).foldl
    (fun t k => match t.cmdOf k.id, t.assocOf k.id.cntlid with
      | some m, some a => if m.phase = 1 && m.step = 2 then (t.toStep m.id 3).executePlain a m else t
      | _, _ => t) s

/-- One round over what may go on beside the data path. -/
def carryOnce (s : State) : State := s.fireDue.settle.runWithData.checkWaiting.retryReserve

/-- Everything goes on (R175): fired chains are carried out (R127), and associations whose Disconnect has been answered end. -/
def carryOn (s : State) : State := s.carryOnce.carryOnce.endDisconnected.fireDue

/-- A fatal fault whose consequences are still to come. -/
def fatalDue (s : State) : Bool := s.fatal && (if s.twinShelf then !s.twn.stopped else !s.is F.NVT_STATUS_HALT)

/-- A fatal fault that a command has raised acts at once (R178, R277, R487). -/
def atOnce (s : State) : State := if s.fatalDue then s.carryOn else s

end Sys2Proof.Machine.State

namespace Sys2Proof.Machine

/-- The outcome of a command, with what a fatal fault that it raised does at once. -/
def settled (r : Host.Outcome State Fault Refusal) : Host.Outcome State Fault Refusal :=
  match r with
  | .next t => .next t.atOnce
  | o => o

end Sys2Proof.Machine
end

