-- ==== Sys2Proof/Machine/Volumes.lean ====
section
/-!
DEFINITION. The configuration of volumes (R214, R215, R226 of spec/07_crews_and_parity.md) and of namespaces (R157, R158 of
spec/05_nvme_target.md).
-/

namespace Sys2Proof.Machine.State

/-- A volume as its CRW_VOL_v fields in effect describe it. -/
def volConfig (s : State) (v : Nat) : Vol :=
  { v := v, priv := s.ef F.CRW_VOL_PRIV v == 1, comp := s.ef F.CRW_VOL_COMP v == 1, slot := s.ef F.CRW_VOL_KEYSLOT v,
    crew := s.ef F.CRW_VOL_CREW v, base := s.ef F.CRW_VOL_BASE_ROW v, rows := s.ef F.CRW_VOL_ROWS v, cap := s.ef F.CRW_VOL_CAP v,
    map := [], host := none, reloc := none, closing := [], full := [], emptied := [], drained := [], pass := 0, passHeat := 0,
    copy := 0, passRun := none, passDue := false, gc := false, victims := [], gcItem := none }

/-- MiB of the map region that a privileged volume takes (R226): its map starts on a 1 MiB boundary. -/
def mapMib (x : Vol) : Nat := (x.cap * 128 + 1048575) / 1048576

/-- Bytes of H14 that a privileged volume takes (R226): live counts, and 16 MiB of working space. -/
def gcBytes (s : State) (x : Vol) : Nat := 4 * s.dataStripes x + 16777216

/-- Privileged volumes that count against the limits of R215 and R226, those of a twin's partner among them (R276). -/
def privileged (s : State) : List Vol :=
  s.crw.vols.filter (·.priv) ++
    ((s.twn.maps.filter fun m => !s.crw.vols.any (·.v == m.1)).map fun m => s.volConfig m.1).filter (·.priv)

/-- Whether a volume may be configured (R215, R226). -/
def volumeFits (s : State) (x : Vol) : Bool :=
  let w := s.wOf x.crew
  let others := s.crw.vols.filter fun y => y.v != x.v
  let privs := s.privileged.filter fun y => y.v != x.v
  (s.crewOf x.crew).isSome && decide (x.base + x.rows ≤ s.rd F.CRW_CREW_ROWS x.crew) &&
    (others.all fun y => y.crew != x.crew || decide (x.base + x.rows ≤ y.base) || decide (y.base + y.rows ≤ x.base)) &&
    (!x.comp || x.priv) &&
    (if x.priv then
      decide (s.mapRows x ≤ x.rows) && decide (x.cap * 64 * 8 ≤ 7 * (x.rows - s.mapRows x) * s.uOf x.crew) &&
        decide (privs.length < 16) &&
        decide ((privs ++ [x]).foldl (fun a y => a + mapMib y) 0 ≤ 1024 * s.ef F.HMP_MAP_GIB) &&
        decide ((privs ++ [x]).foldl (fun a y => a + s.gcBytes y) 0 ≤ 4096 * s.buffersOf 14)
    else decide (x.cap * 64 ≤ x.rows * w))

/-- The owner of what a privileged volume holds of H14: live counts and working space (R226). -/
def volumeOwner (v : Nat) : Nat × Nat × Nat := (2 ^ 74 + v, 0, 0)

/-- A volume is configured; a privileged one holds its share of H14 (R226). -/
def addVolume (s : State) (x : Vol) : State :=
  let t := { s with crw := { s.crw with vols := s.crw.vols ++ [x] } }
  (if x.priv then t.keepBuffers 14 (volumeOwner x.v) (buffersFor (s.gcBytes x)) else t).showPvols

/-- Volumes go; what they hold of H14 is released, with what a relocation stripe of theirs holds of H3. -/
def dropVolumes (s : State) (gone : Vol → Bool) : State :=
  let vs := s.crw.vols.filter gone
  let t := { s with
    crw := { s.crw with vols := s.crw.vols.filter fun x => !gone x }
    hmp := { s.hmp with holds := s.hmp.holds.filter fun h => !(h.hamper == 3 && vs.any fun x => h.owner.1 == 2 ^ 73 + x.v) } }
  ((vs.filter (·.priv)).foldl (fun u x => u.freeBuffers 14 (volumeOwner x.v)) t).showPvols.endStreams fun x => vs.any (·.v == x.vol)

/-- Two descriptions of a volume are the same (R214). -/
def sameConfig (x y : Vol) : Bool :=
  x.v == y.v && x.priv == y.priv && x.comp == y.comp && x.slot == y.slot && x.crew == y.crew && x.base == y.base &&
    x.rows == y.rows && x.cap == y.cap

/-- Configure a volume, or refuse it with EV0259 (R215). A volume with the same fields as before finds its data (R214). -/
def configureVolume (s : State) (v : Nat) : State :=
  let x := s.volConfig v
  if s.volumeFits x then
    let y := (s.crw.parked.find? (sameConfig x)).getD x
    { s with crw := { s.crw with parked := s.crw.parked.filter (·.v != v) } }.addVolume y
  else s.raise 259 (crewUnit x.crew)

/-- A volume's crew has not ended its assembly: the volume waits (R214). -/
def stillAssembling (s : State) (n : Nat) : Bool := s.rd F.CRW_CREW_STATE n == 1

/-- Volumes whose VALID is in effect, in order of number. -/
def validVolumes (s : State) : List Nat := (List.range 4096).filter fun v => s.ef F.CRW_VOL_VALID v == 1

/-- A command that has been admitted, or a stripe that is being written, still uses a volume (R157, R248). -/
def volumeBusy (s : State) (x : Vol) : Bool :=
  (s.nvt.cmds.any fun k => decide (1 ≤ k.phase) && !k.ended && k.req.access != 0 && k.req.nsid == x.v + 1) ||
    x.host.isSome || x.reloc.isSome || !x.closing.isEmpty || s.crw.jobs.any fun j => j.vol == x.v && j.crew == x.crew && j.kind != 8

/-- Volumes at a turn (R214, R248): unconfigured where VALID is 0 and no admitted command uses them, configured where it is 1.
`changed` lists the volumes of which the turn has sampled a field anew. -/
def turnVolumes (s : State) (changed : List Nat) : State :=
  let gone := s.crw.vols.filter fun x => s.ef F.CRW_VOL_VALID x.v == 0 && !s.volumeBusy x
  let s1 := if gone.isEmpty then s else
    { s with crw := { s.crw with parked := s.crw.parked ++ gone.filter fun (x : Vol) => x.priv } }.dropVolumes fun x => gone.any (·.v == x.v)
  s1.validVolumes.foldl (fun t v =>
    match t.volOf v with
    | some x => if sameConfig x (t.volConfig v) || !changed.contains v then t else t.raise 259 (crewUnit x.crew)
    | none => if t.stillAssembling (t.volConfig v).crew || !changed.contains v then t else t.configureVolume v) s1

/-- Volumes whose crew's assembly has ended are checked (R214). -/
def crewVolumes (s : State) (n : Nat) : State :=
  (s.validVolumes.filter fun v => (s.volConfig v).crew == n && (s.volOf v).isNone).foldl (fun t v => t.configureVolume v) s

/-- Namespaces that exist. -/
def namespaces (s : State) : List Nat := (List.range 4096).filter s.nsExists

/-- Namespaces that a turn makes exist or cease (R157): a notice to each association that sees or saw them, and an entry of
page 0x04. `saw` says which associations saw a namespace before the turn. -/
def turnNamespaces (s : State) (saw : List (Nat × Nat)) : State :=
  let now := s.namespaces
  let changed := (now.filter fun v => !s.nvt.existing.contains v) ++ s.nvt.existing.filter fun v => !now.contains v
  let s1 := { s with nvt := { s.nvt with existing := now } }
  let s2 := changed.foldl (fun t v =>
    (t.nvt.assocs.filter fun a => saw.contains (a.cntlid, v) || t.visible a v).foldl (fun u a =>
      match u.assocOf a.cntlid with
      | some b => (u.setAssoc { b with changed := addTo b.changed (v + 1) }).giveNotice a.cntlid 0x00040002
      | none => u) t) s1
  if (List.range 4096).any s2.impossible then s2.raise 199 0x8000 else s2

end Sys2Proof.Machine.State
end

