-- ==== Sys2Proof/Machine/Replay.lean ====
section
/-!
DEFINITION. Map restore and replay (R229, R236, R241, R242 of spec/07_crews_and_parity.md), and the carrying of a lost
partner's committed groups (R279 step 5).
-/

namespace Sys2Proof.Machine

/-- A record as the media hold it. -/
def foundRec (r : FoundRec) : JRec := ⟨r.kind, r.last, r.set, r.vol, r.group, r.addr, r.aux, r.count, r.len, r.payload⟩

/-- A segment as replay assembles it (R241, R242): whether it carries a clean mark, whether its journal can be read, whether a block came
from a second or third seat, its records that are whole, and its intent entries where any is readable; and of its checkpoints their
number and the CRC of the last, of its journal blocks their number and the CHAIN of the last. -/
structure FoundSeg where
  start : Nat
  heat : Nat
  clean : Bool
  readable : Bool
  fromOther : Bool
  recs : List JRec
  intents : Option (List Nat)
  marks : Nat
  markCrc : Nat
  count : Nat
  chain : Nat
deriving DecidableEq, Repr

/-- The order of segments (R241): START, then HEAT. -/
def keyLt (a b : Nat × Nat) : Bool := decide (a.1 < b.1) || (a.1 == b.1 && decide (a.2 < b.2))

/-- The newest checkpoint found (R241), by START, HEAT and RSEQ. -/
def newestMark (bs : List FoundBlock) : Option FoundBlock :=
  (bs.filter (·.kind == 1)).foldl (fun a b => match a with
    | none => some b
    | some c =>
      if keyLt (c.start, c.heat) (b.start, b.heat) || ((c.start, c.heat) == (b.start, b.heat) && before c.rseq b.rseq) then some b
      else some c) none

/-- The head of a ring (R241): the highest RSEQ in serial arithmetic. -/
def ringHead (bs : List FoundBlock) : Option Nat :=
  bs.foldl (fun a b => match a with
    | none => some b.rseq
    | some r => if before r b.rseq then some b.rseq else some r) none

/-- Records that lie whole in a number of bytes. -/
def wholeRecs (room : Nat) : List JRec → List JRec
  | [] => []
  | r :: rest => if r.bytes ≤ room then r :: wholeRecs (room - r.bytes) rest else []

/-- Assemble a segment from the blocks found (R241): each from any seat that has it, up to the first index that none has. The first
journal seat is the first in the order of R234 that the labels show in service. DEDUCED. -/
def assembleSeg (seats : Nat) (was : List Nat) (bs : List FoundBlock) (key : Nat × Nat) : FoundSeg :=
  let mine := bs.filter fun b => (b.start, b.heat) == key
  let journal (i : Nat) : Option FoundBlock := mine.find? fun b => b.kind == 0 && b.index == i
  let len := ((List.range (mine.length + 1)).find? fun i => (journal i).isNone).getD 0
  let got := (List.range len).filterMap journal
  let room := got.foldl (fun n b => n + (b.used - headBytes)) 0
  let marks := mine.filter (·.kind == 1)
  let first := ((List.range seats).map fun i => (3 * key.2 + i) % seats).find? fun i => was.getD i 0 == 0
  let lists := mine.filter (·.kind == 2)
  { start := key.1, heat := key.2
    clean := marks.any fun b => (b.entries.getD 2 0).testBit 0
    readable := (journal 0).isSome || marks.any fun b => b.entries.getD 1 0 == 0
    fromOther := got.any fun b => !mine.any fun d => d.kind == 0 && d.index == b.index && some d.seat == first
    recs := wholeRecs room (got.flatMap fun b => b.recs.map foundRec)
    intents := if lists.isEmpty then none else some (distinct (lists.flatMap (·.entries)))
    marks := marks.foldl (fun n b => max n (b.index + 1)) 0
    markCrc := match marks.foldl (fun (a : Option FoundBlock) b => match a with
        | none => some b
        | some c => if c.index < b.index then some b else some c) none with
      | some b => b.crc
      | none => 0
    count := len
    chain := match got.getLast? with | some b => b.chain | none => 0 }

/-- The segments that replay considers, in order (R241): those not older than LIVE of the newest checkpoint. -/
def foundSegs (seats : Nat) (was : List Nat) (bs : List FoundBlock) : List FoundSeg :=
  let live := match newestMark bs with | some b => (b.entries.getD 3 0, b.entries.getD 4 0) | none => (0, 0)
  let kept := bs.filter fun b => !keyLt (b.start, b.heat) live
  let keys := kept.foldl (fun l b => if l.contains (b.start, b.heat) then l else insert (b.start, b.heat) l) []
  keys.map (assembleSeg seats was kept)
where
  /-- Insert a segment in order. -/
  insert (k : Nat × Nat) : List (Nat × Nat) → List (Nat × Nat)
    | [] => [k]
    | q :: l => if keyLt k q then k :: q :: l else q :: insert k l

/-- Records that replay applies: those of groups with END and without CANCEL, and those that belong to no group (R237, R241). -/
def appliedRecs (recs : List JRec) : List JRec :=
  recs.filter fun r => r.kind != 9 &&
    (r.group == 0 || ((recs.any fun q => q.group == r.group && q.last && q.kind != 9) && !recs.any fun q => q.group == r.group && q.kind == 9))

/-- A reservation state from a RESERVE record's payload. -/
def foundReservation (nsid : Nat) (p : List Nat) : Reservation :=
  let pairs := (List.range ((p.length - 4) / 2)).map fun i => (p.getD (4 + 2 * i) 0, p.getD (5 + 2 * i) 0)
  ⟨nsid, p.getD 0 0, pairs, p.getD 1 0, if p.getD 1 0 = 0 then none else some (p.getD 3 0), p.getD 2 0 == 1⟩

/-- A torn range from a TORN record's payload. -/
def foundTorn (p : List Nat) : Torn := ⟨p.getD 0 0, p.getD 1 0 - 1, p.getD 2 0, p.getD 3 0, p.getD 4 0, p.getD 5 0⟩

namespace State

/-- The row of an RMW record, and its sectors by seat and drive LBA (R236): data in LBA order, then P, then Q. -/
def rmwSectors (s : State) (x : Vol) (r : JRec) : Nat × List ((Nat × Nat) × Nat) × List ((Nat × Nat) × Nat) :=
  let n := x.crew
  let ns := s.nOf n
  let row := (s.placeOf x r.addr).1
  let ls := (List.range r.count).map (· + r.addr)
  let offs := (List.range (s.chunkOf n)).filter fun o => ls.any fun l => (s.placeOf x l).2.2 == o
  let keys := ls.map (s.seatAndLba x) ++ (offs.map fun o => (pSeat ns row, s.lbaOf n row o)) ++
    offs.map fun o => (qSeat ns row, s.lbaOf n row o)
  (row, keys.zip r.payload, (ls.zip r.payload).map fun p => let q := s.placeOf x p.1; ((q.2.1, q.2.2), p.2))

/-- A replayed row: one job for each row, later sectors in the place of earlier ones. -/
def addRow (s : State) (x : Vol) (row : Nat) (put fresh : List ((Nat × Nat) × Nat)) : State :=
  let merge (old new : List ((Nat × Nat) × Nat)) : List ((Nat × Nat) × Nat) :=
    (old.filter fun p => !new.any fun q => q.1 == p.1) ++ new
  match s.crw.jobs.find? fun j => j.crew == x.crew && j.row == row && j.kind == 8 && decide (j.phase < 3) with
  | some j => s.setJob { j with put := merge j.put put, fresh := merge j.fresh fresh }
  | none =>
    (s.startJob ⟨0, 8, x.crew, row, x.v, none, [], [], [], [], put, 2, true, false, s.heat, [], fresh, 0⟩).1

/-- A RESERVE record (R173): the state that it carries, or none where it has not persisted. -/
def takeRsvRec (s : State) (keep : Bool) (r : JRec) : State :=
  let q := foundReservation (r.vol + 1) r.payload
  if keep || q.ptpl then s.setRsv q
  else { s with nvt := { s.nvt with reservations := s.nvt.reservations.filter fun x => x.nsid != q.nsid } }

/-- Torn ranges that a crew's media held have their entries on page 0xC1 (R169): later entries take higher numbers. -/
def noteTorn (s : State) (l : List Torn) : State :=
  l.foldl (fun t u =>
    let key := (0xC1, u.vol + 1)
    { t with nvt := { t.nvt with
      nextEntry := max t.nvt.nextEntry (u.num + 1)
      latest := (t.nvt.latest.filter fun e => e.1 != key) ++ [(key, max u.num ((t.nvt.latest.lookup key).getD 0))] } }) s

/-- Apply one record whose group is applied (R236). `rest` holds the records that follow it; `keep` says that reservations
without Persist Through Power Loss survive (R173). -/
def replayRec (s : State) (n : Nat) (rest : List JRec) (keep : Bool) (r : JRec) : State :=
  match r.kind with
  | 0x01 => match s.volOf r.vol with
    | some x => if x.priv then s else let q := s.rmwSectors x r; s.addRow x q.1 q.2.1 q.2.2
    | none => s
  | 0x02 => match s.volOf r.vol with
    | some x =>
      if rest.any fun q => q.kind == 4 && q.vol == r.vol && q.addr == entryLog r.aux / s.wOf x.crew then
        s.setEntry r.vol r.addr r.aux
      else match s.placeGrain r.vol false r.addr (entryLen r.aux) (entryRaw r.aux) r.payload none none with
        | (t, some e) => (t.setEntry r.vol r.addr e).markRecorded r.vol fun p =>
            p.grain == r.addr && p.first == entryLog e % s.wOf x.crew
        | (t, none) => t
    | none => s
  | 0x07 => s.takeRsvRec keep r
  | 0x08 =>
    let t := foundTorn r.payload
    s.modCrew n fun c => { c with torn := (c.torn.filter (· != t)) ++ (if r.set then [t] else []) }
  | _ => s.applyMap [r]

/-- Apply the records of one segment in order; `later` holds those of the segments that follow it. -/
def replayRecs (s : State) (n : Nat) (keep : Bool) (later : List JRec) : List JRec → State
  | [] => s
  | r :: rest => (s.replayRec n (rest ++ later) keep r).replayRecs n keep later rest

/-- The writes of the rows that replay has gathered begin. -/
def startReplayed (s : State) (n : Nat) : State :=
  (s.crw.jobs.filter fun j => j.crew == n && j.kind == 8 && decide (j.phase < 3)).foldl (fun t j => t.startWrites j.id t.heat false) s

/-- Map effects of the records of a segment on one volume (R229), where only the map is restored: those of R236. `later` holds the
records of the segments that follow it. -/
def restoreRecs (s : State) (v n : Nat) (keep : Bool) (later : List JRec) : List JRec → State
  | [] => s
  | r :: rest =>
    let t := if r.vol = v && [2, 3, 5, 6].contains r.kind then s.replayRec n (rest ++ later) keep r else s
    t.restoreRecs v n keep later rest

/-- Stripes of a volume that hold grains, or that records to be applied name: they are not free while replay runs. -/
def markFull (s : State) (v : Nat) (recs : List JRec) : State :=
  s.modVol v fun x =>
    let w := s.wOf x.crew
    let named := (recs.filter fun r => r.vol == v && (r.kind == 2 || r.kind == 3 || r.kind == 6)).map fun r => entryLog r.aux / w
    let held := (x.map.filter fun e => entryState e.2 == 1).map fun e => entryLog e.2 / w
    { x with full := distinct (held ++ named) }

/-- After replay a stripe is full where map entries point into it (R230). Only passes of this start free segments (R240). -/
def keepLive (s : State) (v : Nat) : State :=
  s.modVol v fun x => { x with passHeat := 0, full := x.full.filter fun st => decide (0 < x.live (s.wOf x.crew) st) }

/-- Rows and grains of a lost segment are torn (R242), with cause 2. -/
def tearIntents (s : State) (n : Nat) (entries : List Nat) : State :=
  let vols := distinct (entries.map fun e => e / 2 ^ 50 % 4096)
  vols.foldl (fun t v =>
    match t.volOf v with
    | none => t
    | some x =>
      let xs := (entries.filter fun e => e / 2 ^ 50 % 4096 == v).map fun e => e % 2 ^ 48
      let w := t.wOf n
      if x.priv then
        let gs := (List.range (x.cap * 16)).filter xs.contains
        let t1 := t.tearGrains x 2 gs
        if t.deferredMode v then (runsOf gs).foldl (fun u r => u.deferError v 2 (4 * r.1) (4 * r.2) u.heat) t1 else t1
      else
        let rows := (List.range x.rows).filter fun i => xs.contains (x.base + i)
        (runsOf rows).foldl (fun u r =>
          let first := r.1 * w
          let stop := min ((r.1 + r.2) * w) (x.cap * 64)
          if stop ≤ first then u
          else
            let u1 := u.tear n v 2 first (stop - first)
            if u.deferredMode v then u1.deferError v 2 first (stop - first) u.heat else u1) t) s

/-- Units of primaries that the intent blocks of the last two heats list are set dirty (R289). -/
def dirtyIntents (s : State) (n : Nat) (entries : List Nat) : State :=
  entries.foldl (fun t e =>
    let v := e / 2 ^ 50 % 4096
    let k := e % 2 ^ 48
    match t.volOf v, t.pairingOf v with
    | some x, some m =>
      if e / 2 ^ 62 = 1 then t.setDirty m (unitsOf (4 * k) 4)
      else t.setDirty m (unitsOf ((k - x.base) * t.wOf n) (t.wOf n))
    | _, _ => t) s

/-- The copy of a privileged volume's map that is loaded (R229): of those whose header checks, the one with the higher pass number. A header
of another CAP is no header of this volume. DEDUCED from R228. -/
def bestMap (x : Vol) (ms : List MapCopy) : Option MapCopy :=
  (ms.filter fun m => m.vol == x.v && m.crcOk && m.cap == x.cap).foldl (fun a m => match a with
    | none => some m
    | some b => if b.pass < m.pass then some m else some b) none

/-- Load a privileged volume's map (R229). A volume with no copy stays unmapped. -/
def loadMap (s : State) (x : Vol) (ms : List MapCopy) : State :=
  match bestMap x ms with
  | some m => s.setVol { x with map := m.entries.filter fun e => e.2 != 0, pass := m.pass, passHeat := m.heat, copy := m.copy }
  | none => s

/-- Segments whose map effects are applied to a volume: those of the heats from the one in which its last pass began (R229). -/
def mapSegs (segs : List FoundSeg) (heat : Nat) : List FoundSeg :=
  match (indexed segs).reverse.find? fun p => p.2.heat == heat with
  | some p => segs.drop p.1
  | none => segs.filter fun g => decide (heat ≤ g.heat)

/-- Segments after the last one that carries a clean mark (R241). -/
def dirtySegs (segs : List FoundSeg) : List FoundSeg :=
  match (indexed segs).reverse.find? fun p => p.2.clean with
  | some p => segs.drop (p.1 + 1)
  | none => segs

/-- A segment of which no journal seat yields block 0, while blocks of later heats exist (R242). -/
def lostSeg (segs : List FoundSeg) (g : FoundSeg) : Bool :=
  !g.readable && segs.any fun h => keyLt (g.start, g.heat) (h.start, h.heat)

/-- Volumes that records or map copies name and whose VALID is 0 keep their data too (R214): they are configured for replay, and a turn
unconfigures them. -/
def hiddenVolumes (s : State) (n : Nat) (media : CrewMedia) : State :=
  let named := distinct ((media.maps.map (·.vol)) ++
    (media.blocks.flatMap fun b => (b.recs.filter fun r => [1, 2, 3, 5, 6].contains r.kind).map (·.vol)))
  named.foldl (fun t v =>
    let x := t.volConfig v
    if x.crew = n && (t.volOf v).isNone && t.volumeFits x then t.addVolume x else t) s

/-- The clean mark that ends replay (R241), for the last segment replayed. -/
def replayMarkOf (g : FoundSeg) : JBlock :=
  ⟨3, g.marks, headBytes + 40, [], [g.recs.length, g.count, 1, 0, 0], true, [], [], none, some ⟨g.start, g.heat, g.markCrc, g.chain⟩⟩

/-- What the blocks found on each seat's ring say (R235, R241): the seat's next RSEQ, one after its head's, and its slots that are not
free. -/
def seatRings (s : State) (n : Nat) (media : CrewMedia) (segs : List FoundSeg) : State :=
  let ring (p : Nat × Seat) : Seat :=
    let mine := media.blocks.filter (·.seat == p.1)
    let kept := mine.filter fun b => segs.any fun g => g.start == b.start && g.heat == b.heat
    match ringHead mine with
    | some h => { p.2 with rseq := (h + 1) % 2 ^ 32, slots := kept.map fun b => (b.slot, b.start, b.heat) }
    | none => p.2
  s.modCrew n fun c => { c with seats := (indexed c.seats).map ring }

/-- Map restore and replay of a crew (R229, R241, R242); false where intent blocks that it needs are unreadable too. `was` gives the state
of each seat in the labels. -/
def replay (s : State) (n : Nat) (media : CrewMedia) (was : List Nat) (keep : Bool) : State × Bool :=
  let torn := media.torn.map fun t => Torn.mk t.num t.vol t.cause t.slba t.nlb t.heat
  let segs := foundSegs (s.nOf n) was media.blocks
  let s1 := ((s.modCrew n fun c => { c with torn := torn }).crewVolumes n).hiddenVolumes n media
  let s2 := (s1.crw.vols.filter fun x => x.priv && x.crew == n).foldl (fun t x => t.loadMap x media.maps) s1
  let todo := dirtySegs segs
  let recsOf (g : FoundSeg) : List JRec := appliedRecs g.recs
  let all := segs.flatMap recsOf
  let mine := s2.crw.vols.filter fun x => x.priv && x.crew == n
  let s3 := mine.foldl (fun t x => t.markFull x.v all) s2
  -- maps of segments that are not replayed again
  let s4 := mine.foldl (fun t x =>
    (indexed (mapSegs segs x.passHeat)).foldl (fun u p =>
      if todo.contains p.2 then u
      else u.restoreRecs x.v n keep ((mapSegs segs x.passHeat).drop (p.1 + 1) |>.flatMap recsOf) (recsOf p.2)) t) s3
  -- reservation states that persist, in whatever segment is retained (R173; log entry 136)
  let s4 := (segs.filter fun g => !todo.contains g).foldl (fun t g =>
    ((recsOf g).filter (·.kind == 7)).foldl (fun u r => u.takeRsvRec keep r) t) s4
  let lost := todo.filter (lostSeg todo)
  match lost.find? fun g => g.intents.isNone with
  | some g => (((s4.raise 312 (crewUnit n)).log kLost 2 [n, g.heat]), false)
  | none =>
    let s5 := (indexed todo).foldl (fun t p =>
      let g := p.2
      if lostSeg todo g then (t.raise 312 (crewUnit n)).tearIntents n (g.intents.getD [])
      else t.replayRecs n keep ((todo.drop (p.1 + 1)).flatMap recsOf) (recsOf g)) s4
    let s6 := mine.foldl (fun t x => t.keepLive x.v) s5
    let s7 := if todo.any fun g => !(recsOf g).isEmpty then s6.raise 263 (crewUnit n) else s6
    let s8 := if todo.any (·.fromOther) then s7.raise 264 (crewUnit n) else s7
    let last2 := (segs.reverse.take 2).flatMap fun g => g.intents.getD []
    let s9 := (s8.dirtyIntents n last2).startReplayed n
    let s10 := s9.noteTorn (torn ++ (match s9.crewOf n with | some c => c.torn | none => []))
    let mark := (todo.filter fun g => !lostSeg todo g).getLast?.map replayMarkOf
    ((s10.modCrew n fun c => { c with
      replayed := mark, replayFlushed := false, found := segs.map fun g => (g.start, g.heat)
      replaying := s10.crw.jobs.any fun j => j.crew == n && j.kind == 8 }).showTorn, true)

end State

end Sys2Proof.Machine
end

