-- ==== Sys2Proof/Machine/Assembly.lean ====
section
/-!
DEFINITION. Finding the seats of a crew by their labels, initialising blank seats, and assembling the crew (R210 to R213 of
spec/07_crews_and_parity.md; R269, R271, R285 of spec/08_degradation_rebuild_takeover.md).
-/

namespace Sys2Proof.Machine.State

/-- The valid labels that carry a crew's number, by bay. -/
def labelsOf (s : State) (n : Nat) : List (Nat × Label) :=
  s.crw.drives.filterMap fun d => match d.label with
    | some l => if l.crew = n then some (d.bay, l) else none
    | none => none

/-- Bays that carry a fingerprint, its highest generation, and the lowest of those bays with it. -/
def printRank (ls : List (Nat × Label)) (p : Nat) : Nat × Nat × Nat :=
  let mine := ls.filter (·.2.print == p)
  (mine.length, mine.foldl (fun a l => max a l.2.gen) 0, mine.foldl (fun a l => min a l.1) 63)

/-- One fingerprint ranks before another (R211). -/
def ranksFirst (a b : Nat × Nat × Nat) : Bool :=
  decide (b.1 < a.1) || (a.1 == b.1 && (decide (b.2.1 < a.2.1) || (a.2.1 == b.2.1 && decide (a.2.2 < b.2.2))))

/-- The crew's fingerprint (R211). -/
def crewPrint (ls : List (Nat × Label)) : Option Nat :=
  ls.foldl (fun a l => match a with
    | none => some l.2.print
    | some p => if ranksFirst (printRank ls l.2.print) (printRank ls p) then some l.2.print else some p) none

/-- The labels that count: the crew's fingerprint at the highest generation found (R211). -/
def countedLabels (ls : List (Nat × Label)) : List (Nat × Label) :=
  match crewPrint ls with
  | none => []
  | some p =>
    let mine := ls.filter (·.2.print == p)
    let top := mine.foldl (fun a l => max a l.2.gen) 0
    mine.filter (·.2.gen == top)

/-- A seat as its label and the counted labels describe it (R210, R211). -/
def foundSeat (counted : List (Nat × Label)) (states : List Nat) (i : Nat) : Seat :=
  match counted.find? fun l => l.2.seat == i with
  | none => Seat.fresh none (if states.getD i 0 = 1 then 4 else 6)
  | some l => Seat.fresh (some l.1) (match states.getD i 0 with | 1 => 4 | 2 => 5 | 3 => 6 | _ => 0)

/-- Seats missing or marked failed. -/
def badSeats (seats : List Seat) : Nat := (seats.filter fun x => x.st == 4 || x.st == 6).length

/-- The crew is not assembled (R211, R212, R242): its volumes do not exist. -/
def notAssembled (s : State) (n : Nat) : State :=
  let crews := s.crw.crews.filter fun e => e.1 != n
  let s0 := s.dropVolumes fun x => x.crew == n
  let s1 := { s0 with crw := { s0.crw with crews := crews } }.wr F.CRW_CREW_STATE 4 n
  (s1.raise 257 (crewUnit n)).crewVolumes n

/-- Bays that carry the crew's number with another fingerprint (R211). -/
def strangers (s : State) (n print : Nat) : State :=
  ((s.labelsOf n).filter fun l => l.2.print != print).foldl (fun t l => t.raise 258 (0x4000 + l.1)) s

/-- The owner of a crew registers on its drives and holds their reservations (R271). -/
def reserveSeats (s : State) (n : Nat) : State :=
  if !s.twinShelf then s
  else match s.crewOf n with
    | none => s
    | some c => (List.range c.seats.length).foldl (fun t i =>
        let key := Config.uniqueId % 2 ^ 64
        (t.issueIo n i (.register key) t.heat 0).issueIo n i (.acquire key (t.twinState == 4)) t.heat 0) s

/-- A rebuild resumes from the last frontier in the logbook (R269), or from the start of the fixed order. -/
def resumeRebuild (s : State) (n i : Nat) : State :=
  let order := s.fixedOrder n
  let mark := s.cox.log.find? fun r => r.kind == kFrontier && r.payload.take 2 == [n, i]
  let plan := match mark with
    | some r => fromRow (r.payload.getD 2 0) order
    | none => order
  s.modSeat n i fun x => { x with running := true, rate := s.ef F.CRW_RBLD_RATE, plan := plan.filter fun r => r.1 < r.2 }

/-- A new crew record. -/
def newCrew (print gen smin : Nat) (seats : List Seat) (start heat : Nat) : Crew :=
  { print := print, gen := gen, smin := smin, seats := seats, seg := Segment.empty start heat [] [], old := [], torn := [],
    spill := [], replayed := none, replayFlushed := false, found := [], replaying := false, skipped := [], windows := [],
    days := 0, patrolItem := none, written := [], before_ := [], noSpare := [], pendingRows := [], labelDue := false,
    labelFrame := none, owed := [], marks := [] }

/-- The crew takes up its work: ownership, reservations, journal seats, replay, volumes, rebuilds and spares. `was` gives the states
in the labels, and `changed` says that a seat's state differs from them. -/
def enterCrew (s : State) (n : Nat) (c : Crew) (media : CrewMedia) (was : List Nat) (changed keep : Bool) : State :=
  let rows := s.rowsFor n c.smin
  let seats := c.seats
  let s0 := ((s.wr F.CRW_CREW_ROWS rows n).setCrew n c).wrBit F.TWN_OWN_OWN n true
  let (s1, _) := s0.mirror (.crew (s0.crewRec n c))
  let s2 := ((s1.reserveSeats n).seatRings n media (foundSegs (s.nOf n) was media.blocks)).openSegment n
  let (s3, ok) := s2.replay n media was keep
  if !ok then s3.notAssembled n
  else
    let s4 := if 0 < badSeats c.seats then s3.raise 256 (crewUnit n) else s3
    let s5 := if changed then s4.labelChange n else s4
    let s6 := (List.range seats.length).foldl (fun t i => match t.seatOf n i with
      | some x => if x.st = 5 then t.resumeRebuild n i else if x.st = 4 || x.st = 6 then t.takeSpare n i else t
      | none => t) s5
    match s6.crewOf n with
    | some d => if d.torn.map (fun t => TornRange.mk t.num t.vol t.cause t.slba t.nlb t.heat) = media.torn then s6 else s6.writeTorn n
    | none => s6

/-- A crew with blank seats is initialised (R207, R212). The fingerprint is random. -/
def initialise (s : State) (n : Nat) (ds : List Drive) : State :=
  let smin := match ds with | d :: rest => rest.foldl (fun a x => min a x.lbas) d.lbas | [] => 0
  if s.rowsFor n smin = 0 then s.notAssembled n
  else
    let c := newCrew (s.fresh % 2 ^ 128) 0 smin (ds.map fun d => Seat.fresh (some d.bay) 0) s.startNo s.heat
    (s.tick.enterCrew n c ⟨[], [], []⟩ [] true true).writeTorn n

/-- The bays that the seat bytes of a crew name, where they are as many as its seats: a bay is one seat (R204). -/
def namedBays (s : State) (n : Nat) : Option (List Nat) :=
  let bs := (List.range (s.nOf n)).map (s.seatByte n)
  if (distinct bs).length = bs.length then some bs else none

/-- The drives that the seat bytes of a crew name, where every one of them is ready (R212). -/
def namedDrives (s : State) (n : Nat) : Option (List Drive) :=
  (s.namedBays n).bind fun bs => bs.mapM fun b => s.crw.drives.find? (·.bay == b)

/-- A bay is a seat of a crew of either twin (R204). -/
def seatTaken (s : State) (nn : Nat) : Bool := (s.seatInBay nn).isSome || s.twn.seats.any fun r => r.bays.contains nn

/-- Bays among those that the seat bytes name whose drives carry a label, or are seats of another crew (R204, R212). -/
def namedLabels (s : State) (n : Nat) : List Nat :=
  (s.crw.drives.filter fun d => (d.label.isSome || s.seatTaken d.bay) && (List.range (s.nOf n)).any fun i => d.bay == s.seatByte n i).map (·.bay)

/-- Whether this NP32 assembles a crew (R284, R285): every one outside a twin; in a twin those that it prefers, none before
the link has trained or while it joins, and every one that it has no mirror of once it is alone after a takeover. -/
def mayAssemble (s : State) (n : Nat) : Bool :=
  s.configured n && (s.crewOf n).isNone && s.rd F.CRW_CREW_STATE n == 1 &&
    (!s.twinShelf || (s.twinState == 4 && !s.twn.unlike) || (s.prefers n && [2, 3, 4, 6].contains s.twinState))

/-- Assemble a crew from its labels, or initialise it, where that can be done now; `late` says that CRW_ASM.WAIT_S has passed
(R211, R212). -/
def assemble (s : State) (n : Nat) (media : CrewMedia) (late : Bool) : State :=
  if !s.mayAssemble n then s
  else
    let ls := s.labelsOf n
    if ls.isEmpty && s.is F.CRW_CREW_INIT n then
      if !(s.namedLabels n).isEmpty then ((s.namedLabels n).foldl (fun t b => t.raise 258 (0x4000 + b)) s).notAssembled n
      else match s.namedDrives n with
        | some ds => s.initialise n ds
        | none => if late then s.notAssembled n else s
    else
      let counted := countedLabels ls
      match counted with
      | [] => if late then s.notAssembled n else s
      | (_, l) :: _ =>
        let seats := (List.range (s.nOf n)).map (foundSeat counted l.states)
        let whole := (List.range (s.nOf n)).all fun i => counted.any fun k => k.2.seat == i
        if whole || (late && decide (badSeats seats ≤ 2)) then
          let changed := (indexed seats).any fun p => labelState p.2.st != l.states.getD p.1 0
          (s.strangers n l.print).enterCrew n (newCrew l.print l.gen l.smin seats s.startNo s.heat) media l.states changed false
        else if late then (s.strangers n l.print).notAssembled n
        else s

end Sys2Proof.Machine.State
end

