-- ==== Sys2Proof/Machine/Pace.lean ====
section
/-!
DEFINITION. The pace controller (R75 to R78 of spec/03_self_timed_core_and_clocks.md).
-/

namespace Sys2Proof.Machine

open State

/-- Canaries of each pace domain (R74's table of pace domains). -/
def canaries (d : Nat) : Nat := [8, 8, 8, 8, 8, 6, 2].getD d 0

/-- Insertion into a rising list. -/
def insertSorted (x : Nat) : List Nat → List Nat
  | [] => [x]
  | y :: ys => if x ≤ y then x :: y :: ys else y :: insertSorted x ys

/-- A list in rising order. -/
def sortNats (l : List Nat) : List Nat := l.foldr insertSorted []

/-- Twice the median of a list of numbers: the middle element doubled, or the sum of the two middle ones. -/
def twiceMedian (l : List Nat) : Nat :=
  let t := sortNats l
  let n := t.length
  if n = 0 then 0
  else if n % 2 = 1 then 2 * t.getD (n / 2) 0
  else t.getD (n / 2 - 1) 0 + t.getD (n / 2) 0

namespace State

/-- The target that the controller works to, in 1/50 slot per µs (R75, R78): the rate less what heat has taken off it, at least
2,000 slots per µs. -/
def workTarget50 (s : State) : Nat := max 100000 (50 * s.ef F.PACE_TARGET_RATE - s.clk.thermCut)

/-- The same in whole slots per µs. -/
def workTarget (s : State) : Nat :=
  s.workTarget50 / 50

/-- The ceiling of a pace domain in steps of 5 mV above 0.55 V (PACE_LIMIT.VCEIL, lowered under R503). -/
def ceiling (s : State) (d : Nat) : Nat := s.ef F.PACE_LIMIT_VCEIL - 10 * s.clk.ceilCut.getD d 0

/-- Exclude the canaries of domain `d` that lie more than 15 % from the median of those still read (R77). -/
def excludeCanaries (s : State) (d : Nat) (rs : List Nat) : State :=
  let idx := (List.range (canaries d)).filter fun k => !s.clk.excluded.contains (d, k)
  let m2 := twiceMedian (idx.map fun k => rs.getD k 0)
  let bad := idx.filter fun k =>
    let r2 := 2 * rs.getD k 0
    (if r2 < m2 then m2 - r2 else r2 - m2) * 100 > 15 * m2
  bad.foldl (fun t k =>
    (({ t with clk := { t.clk with excluded := t.clk.excluded ++ [(d, k)] } }).bump F.PACE_DOM_EXCL 1 d).raise 21 (0xD000 + d)) s

/-- One 10 µs decision for domain `d` (R75, R76). -/
def paceDomain (rs : List Nat) (s : State) (d : Nat) : State :=
  let s := s.excludeCanaries d rs
  let live := ((List.range (canaries d)).filter fun k => !s.clk.excluded.contains (d, k)).map fun k => rs.getD k 0
  let longest := live.foldl max 0
  let ceil := s.ceiling d
  let v := s.rd F.PACE_DOM_VOLT d
  let tgt := s.workTarget50
  let s := s.wr F.PACE_DOM_CYCLE longest d
  let since := s.clk.sinceUp.getD d 0
  let setSince (t : State) (n : Nat) : State := { t with clk := { t.clk with sinceUp := t.clk.sinceUp.set d n } }
  let s :=
    if live.isEmpty then setSince (s.wr F.PACE_DOM_VOLT ceil d) (since + 1)
    else if 50000000 < longest * tgt then
      if v < ceil then setSince (s.wr F.PACE_DOM_VOLT (v + 1) d) 0 else setSince (s.wr F.PACE_DOM_VOLT ceil d) (since + 1)
    else if live.all (fun r => r * 100 * tgt ≤ 98 * 50000000) && 10 ≤ since then
      setSince (s.wr F.PACE_DOM_VOLT (min ceil (v - 1)) d) (since + 1)
    else setSince (s.wr F.PACE_DOM_VOLT (min ceil v) d) (since + 1)
  let short := !live.isEmpty && 50000000 < longest * tgt && ceil ≤ v
  if short then
    if s.clk.below.contains d then s
    else ({ s with clk := { s.clk with below := s.clk.below ++ [d] } }).raise 20 (0xD000 + d)
  else { s with clk := { s.clk with below := dropFrom s.clk.below d } }

end State

/-- PACE_CONTROL_TICK (R75 to R77): the readings of each domain's canaries, as engine cycles in ps. -/
def actPaceControlTick (readings : List (List Nat)) (s : State) : Host.Outcome State Fault Refusal :=
  let s1 := (List.range 7).foldl (fun t d => State.paceDomain (readings.getD d []) t d) s
  let slowest := (List.range 7).foldl (fun m d => max m (s1.rd F.PACE_DOM_CYCLE d)) 0
  .next ((s1.wr F.PACE_STATUS_CEIL (if s1.clk.below.isEmpty then 0 else 1)).wr F.PACE_STATUS_RATE
    (if slowest = 0 then 0 else 1000000 / slowest))

/-- PACE_THERMAL_STEP (R78): the highest die sensor in °C at the end of a 1 ms interval. -/
def actPaceThermalStep (highest : Int) (s : State) : Host.Outcome State Fault Refusal :=
  let lim : Int := s.ef F.PACE_LIMIT_TLIMIT
  let rate := s.ef F.PACE_TARGET_RATE
  if lim < highest then
    let s1 := { s with clk := { s.clk with thermCut := min (50 * rate - 100000) (s.clk.thermCut + rate) } }
    .next (if s.is F.PACE_STATUS_TLIM then s1 else (s1.wr F.PACE_STATUS_TLIM 1).raise 22 0x0000)
  else if highest < lim - 3 then
    let n := min (50 * rate - 100000) s.clk.thermCut - rate
    let s1 := { s with clk := { s.clk with thermCut := n } }
    .next (if n = 0 then s1.wr F.PACE_STATUS_TLIM 0 else s1)
  else .next s

end Sys2Proof.Machine
end

