-- ==== Sys2Proof/Machine/DriveEnds.lean ====
section
/-!
DEFINITION. How a drive command ends (R253, R254 of spec/08_degradation_rebuild_takeover.md, R235 of
spec/07_crews_and_parity.md), and the work that the crew engine begins of its own.
-/

namespace Sys2Proof.Machine.State

/-- An outstanding drive command. -/
def ioOf (s : State) (id : Nat) : Option Io := s.crw.ios.find? (·.id == id)
def setIo (s : State) (o : Io) : State :=
  { s with crw := { s.crw with ios := s.crw.ios.map fun p => if p.id = o.id then o else p } }

/-- A completion that counts moves the seat's latency average (R258). -/
def countLatency (s : State) (o : Io) (latency : Nat) : State :=
  if s.countsForE o.crew o.op then s.modSeat o.crew o.seat fun x => { x with e := some (nextE x.e latency) } else s

/-- A completed read or write of a sector is counted (R490): its bytes, and latencies above 100 µs, 1 ms and 10 ms. -/
def countDrive (s : State) (o : Io) (read : Bool) (latency : Nat) : State :=
  let u := 0x4000 + o.bay
  let s1 := s.countOpen 0x3C0 (if read then 2 else 3) u 4096
  [(4, 100000), (5, 1000000), (6, 10000000)].foldl (fun t e => if e.2 < latency then t.countOpen 0x3C0 e.1 u else t) s1

/-- A read has delivered its sector: the first result counts, another is discarded (R254). -/
def readDone (s : State) (o : Io) (lba v : Nat) : State :=
  match s.jobOf o.job with
  | some j => if j.phase = 0 && !j.has o.seat lba then
      (s.setJob { j with got := j.got ++ [((o.seat, lba), v)] }).advanceReads j.id else s
  | none => s

/-- A write has ended. A catch-up write takes its entry out of the log (R259). -/
def writeDone (s : State) (o : Io) (lba : Nat) : State :=
  if o.job ≠ 0 then s.checkWrites o.job
  else match s.seatOf o.crew o.seat with
    | none => s
    | some x =>
      if x.log.any fun e => e.lba == lba && e.busy then
        ((s.modSeat o.crew o.seat fun y => { y with log := y.log.filter fun e => !(e.lba == lba && e.busy) }).freeBuffers
          8 (logOwner o.crew o.seat lba)).logChanged o.crew o.seat
      else s

/-- A block is held by a seat (R235). -/
def blockDone (s : State) (o : Io) (kind heat index : Nat) : State :=
  s.modSegment o.crew heat fun g => { g with blocks := g.blocks.map fun b =>
    if b.kind = kind && b.index = index then { b with held := addTo b.held o.seat } else b }

/-- A drive carries a label (R210). -/
def labelDone (s : State) (nn sector : Nat) : State :=
  { s with crw := { s.crw with drives := s.crw.drives.map fun (d : Drive) => if d.bay = nn then { d with label := readLabel sector } else d } }

/-- An unreadable sector (R253, R263): counted for the seat, and given up as a source. -/
def unreadable (s : State) (o : Io) (lba : Nat) : State :=
  let hour := 3600000000000
  let s1 := s.modSeat o.crew o.seat fun x => { x with media := (x.media.filter fun t => s.now < t + hour) ++ [s.now] }
  let many := match s1.seatOf o.crew o.seat with | some x => decide (s1.ef F.CRW_FAIL_MEDIA_MAX < x.media.length) | none => false
  let s2 := match s1.jobOf o.job with
    | some j => (s1.setJob { j with bad := j.bad ++ [(o.seat, lba)] }).advanceReads j.id
    | none => s1
  if many then s2.failSeat o.crew o.seat else s2

/-- The seat keeps the NVMe status of its drive's last error (R413). -/
def noteStatus (s : State) (o : Io) (status : Nat) : State :=
  s.modSeat o.crew o.seat fun x => { x with lastStatus := status % 65536 }

/-- A drive command ends (R253). -/
def ioEnds (s : State) (o : Io) (e : DriveEnd) (latency : Nat) : State :=
  match e, o.op with
  | .path, _ => s.setIo { o with path := true }
  | .ok v, .read lba => (((s.dropIo o.id).countLatency o latency).countDrive o true latency).readDone o lba v
  | .ok _, .write lba _ _ => (((s.dropIo o.id).countLatency o latency).countDrive o false latency).writeDone o lba
  | .ok _, .block _ kind heat index _ => (s.dropIo o.id).blockDone o kind heat index
  | .ok _, .label _ sector => (s.dropIo o.id).labelDone o.bay sector
  | .ok _, _ => s.dropIo o.id
  | .media st, .read lba => (((s.dropIo o.id).countLatency o latency).noteStatus o st).unreadable o lba
  | .media st, _ => (s.noteStatus o st).commandFails o
  | .other st, _ => (s.noteStatus o st).commandFails o

/-- Patrol, rebuild, collection and map passes stop with a power-fail drain (R195 step 5, R248, R269). -/
def engineRests (s : State) : Bool := s.rd F.HMP_PFAIL_STATE != 0

/-- Seats of a crew that are out of service. -/
def outCount (c : Crew) : Nat := (c.seats.filter (·.out)).length

/-- A crew whose rebuild goes before this crew's (R266): two seats out of service before one. -/
def rebuildFirst (s : State) (n : Nat) (c : Crew) : Bool :=
  decide (2 ≤ outCount c) || !s.crw.crews.any fun e => e.1 != n && decide (2 ≤ outCount e.2) && e.2.seats.any (·.running)

/-- The row that a crew's rebuild takes next (R266, R267). -/
def nextRebuildRow (c : Crew) : Option Nat :=
  ((c.seats.filter fun x => x.st == 5 && x.running).flatMap (·.plan)).head?.map (·.1)

/-- Rebuild one row (R266). -/
def rebuildRow (s : State) (n : Nat) : State :=
  match s.crewOf n with
  | none => s
  | some c =>
    match nextRebuildRow c with
    | none => s
    | some row =>
      if s.engineRests || !s.rebuildFirst n c || s.crw.jobs.any (fun j => j.crew == n && j.kind == 4) then s
      else
        let (s1, ok) := s.ownBuffers n row 4 0 (c.seats.length * s.chunkOf n)
        if !ok then s1
        else
          let want := (rebuildTargets c row).flatMap fun i => (List.range (s.chunkOf n)).map fun o => (i, s.lbaOf n row o)
          (s1.startJob ⟨0, 4, n, row, 0, none, want, [], [], [], [], 0, false, false, s.heat, [], [], 0⟩).1

/-- Entries of a map as the sectors of its copy hold them: 512 entries of 8 B in each (R226, R228). -/
def mapSector (x : Vol) (k : Nat) : Nat :=
  x.map.foldl (fun a e => if e.1 / 512 = k then a + e.2 * 2 ^ (64 * (e.1 % 512)) else a) 0

/-- Begin a map pass (R228): every row of the copy that does not hold the last completed pass. -/
def beginPass (s : State) (x : Vol) : State :=
  let n := x.crew
  let pass := x.pass + 1
  let half := s.mapRows x / 2
  let w := s.wOf n
  let ns := s.nOf n
  let c := s.chunkOf n
  let s1 := s.setVol { x with passRun := some (pass, s.heat), passDue := false }
  (List.range half).foldl (fun t i =>
    let row := x.base + (1 - x.copy) * half + i
    let put := (List.range c).flatMap fun off =>
      let ds := (List.range (t.kOf n)).map fun d => (d, mapSector x (i * w + d * c + off))
      let lba := t.lbaOf n row off
      ds.map (fun d => ((dataSeat ns row d.1, lba), d.2)) ++ [((pSeat ns row, lba), parityP ds), ((qSeat ns row, lba), parityQ ds)]
    let (u, id) := t.startJob ⟨0, 5, n, row, x.v, none, [], [], [], [], put, 1, true, false, t.heat, [], [], 0⟩
    u.startWrites id u.heat false) s1

/-- Victims in order (R231): full stripes with the lowest live counts, the lower number on a tie. -/
def byLive (s : State) (x : Vol) : List (Nat × Nat) :=
  let w := s.wOf x.crew
  x.full.foldl (fun l st => insert (st, x.live w st) l) []
where
  /-- Insert a stripe by its live count, then by its number. -/
  insert (e : Nat × Nat) : List (Nat × Nat) → List (Nat × Nat)
    | [] => [e]
    | q :: l => if e.2 < q.2 || (e.2 = q.2 && e.1 < q.1) then e :: q :: l else q :: insert e l

/-- Collect from victims (R231): the summary of each is read. -/
def collect (s : State) (v : Nat) (victims : List Nat) : State :=
  match s.volOf v with
  | none => s
  | some x =>
    let mine := victims.filter x.full.contains
    mine.foldl (fun t st => t.collectStripe x.crew (t.stripeRow x st) st) (s.setVol { x with victims := mine })

/-- The engine chooses the victims of a round (R231). -/
def collectOwn (s : State) (v : Nat) : State :=
  match s.volOf v with
  | some x => s.collect v (((s.byLive x).take (max 1 (s.ef F.CRW_GC_ROUND))).map (·.1))
  | none => s

/-- A round of collection begins (R231, R232). -/
def gcRound (s : State) (v : Nat) : State :=
  match s.volOf v with
  | none => s
  | some x =>
    if !x.gc || x.gcItem.isSome || s.engineRests || s.crw.jobs.any (fun j => (j.kind == 6 || j.kind == 11) && j.vol == v) then s
    else if s.assisted 3 then
      let low := (s.byLive x).take 64
      let (s1, handed) := s.handOver 3 v 0 [v, 1000 * s.freeStripes x / s.dataStripes x] (low.flatMap fun p => [p.1, p.2]) 512
        (s.itemPoint none)
      if handed then s1.modVol v fun y => { y with gcItem := some (s1.wrg.nextItem - 1) } else s1.collectOwn v
    else s.collectOwn v

/-- A row that the patrol passes over (R244, R248): a write of it is in flight or queued, or it was written in this heat or the
one before. -/
def patrolSkips (s : State) (n row : Nat) (c : Crew) : Bool :=
  c.written.contains row || c.before_.contains row || s.crw.jobs.any fun j => j.crew == n && j.row == row && j.kind != 3

/-- Minutes of the PTP day (R246). -/
def minuteOfDay (s : State) : Nat := s.tod / 60000000000 % 1440

/-- Whether the patrol of a crew may run now (R246). -/
def patrolOpen (s : State) (c : Crew) : Bool :=
  c.windows.isEmpty || c.windows.any fun w =>
    let m := s.minuteOfDay
    if w.1 ≤ w.2 then decide (w.1 ≤ m) && decide (m < w.2) else decide (w.1 ≤ m) || decide (m < w.2)

/-- Start the patrol's read of one row (R244). -/
def patrolRow (s : State) (n row : Nat) (c : Crew) : State × Bool :=
  let (s1, ok) := s.ownBuffers n row 3 0 (c.seats.length * s.chunkOf n)
  if !ok then (s1, false)
  else
    let seats := (List.range c.seats.length).filter fun i => match c.seats[i]? with
      | some x => (List.range (s.chunkOf n)).all fun o => x.source row (s.lbaOf n row o) != .missing
      | none => false
    let want := seats.flatMap fun i => (List.range (s.chunkOf n)).map fun o => (i, s.lbaOf n row o)
    ((s1.startJob ⟨0, 3, n, row, 0, none, want, [], [], [], [], 0, false, false, s.heat, [], [], 0⟩).1, true)

/-- A pass begins (R244, R246): its length, and, while PATROL is in effect, its item. -/
def beginPatrol (s : State) (n : Nat) : State :=
  let plain := s.modCrew n fun c => { c with days := s.ef F.CRW_PATROL_DAYS, windows := [] }
  if !s.assisted 5 then plain
  else
    let (s1, handed) := plain.handOver 5 n 0 [n, s.rd F.CRW_CREW_ROWS n] [] 0 (plain.itemPoint none)
    if handed then s1.modCrew n fun c => { c with patrolItem := some (s1.wrg.nextItem - 1) } else s1

/-- The patrol takes its next row (R244). `days` is 0 between two passes. -/
def patrol (s : State) (n : Nat) : State :=
  match s.crewOf n with
  | none => s
  | some c0 =>
    if s.ef F.CRW_PATROL_EN = 0 || s.engineRests || c0.patrolItem.isSome then s
    else
      let s0 := if c0.days = 0 then s.beginPatrol n else s
      match s0.crewOf n with
      | none => s0
      | some c =>
        let next := s0.rd F.CRW_CREW_PATROL_ROW n
        let rows := s0.rd F.CRW_CREW_ROWS n
        if c.patrolItem.isSome || !s0.patrolOpen c || s0.crw.jobs.any (fun j => j.crew == n && j.kind == 3) then s0
        else if next < rows then
          if s0.patrolSkips n next c then
            (s0.modCrew n fun d => { d with skipped := addTo d.skipped next }).wr F.CRW_CREW_PATROL_ROW (next + 1) n
          else
            let (s1, ok) := s0.patrolRow n next c
            if ok then s1.wr F.CRW_CREW_PATROL_ROW (next + 1) n else s1
        else match c.skipped.find? fun r => !s0.patrolSkips n r c with
          | some r =>
            let (s1, ok) := s0.patrolRow n r c
            if ok then s1.modCrew n fun d => { d with skipped := dropFrom d.skipped r } else s1
          | none =>
            if c.skipped.isEmpty then
              ((s0.modCrew n fun d => { d with days := 0, windows := [] }).wr F.CRW_CREW_PATROL_ROW 0 n).raise 284 (crewUnit n)
            else s0

/-- Every map pass that a segment waits for has completed (R240). -/
def passedSince (s : State) (n heat : Nat) : Bool :=
  (s.crw.vols.filter fun x => x.priv && x.crew == n).all fun x => decide (heat < x.passHeat)

/-- Reservation states that persist through a power loss stay in the journal (R173): where no segment that remains holds the record of one,
it is placed again. DESIGN CHOICE (log entry 136). `gone` says which segments do not remain. -/
def keepRsv (s : State) (n : Nat) (gone : Segment → Bool) : State :=
  match s.crewOf n with
  | none => s
  | some c =>
    let segs := (c.old ++ [c.seg]).filter fun g => !gone g
    let held (v : Nat) : Bool := segs.any fun g => (g.ofKind 0).any fun b => b.recs.any fun r => r.kind == 7 && r.vol == v
    (s.nvt.reservations.filter fun r => r.ptpl).foldl (fun t r =>
      match t.volOf (r.nsid - 1) with
      | some x => if x.crew = n && !held x.v then t.placeLoose n (rsvRec x.v r) else t
      | none => t) s

/-- A segment of this start is free (R240): what its blocks in H7 and their mirror still hold is released. -/
def freeSegment (s : State) (n heat : Nat) : State :=
  match s.crewOf n with
  | none => s
  | some c =>
    match c.old.find? (·.heat == heat) with
    | none => s
    | some g =>
      if s.onMedia n g && s.passedSince n heat then
        (((s.releaseSegment n g).keepRsv n fun h => h.heat == heat).modCrew n fun d => { d with old := d.old.filter (·.heat != heat) }).freeSlots n
          [(g.start, g.heat)]
      else s

/-- Segments of earlier starts are free once replay's clean mark is held, and map passes have gone over them (R240, R241). -/
def freeFound (s : State) (n : Nat) : State :=
  match s.crewOf n with
  | none => s
  | some c =>
    if !c.found.isEmpty && c.replayed.isNone && s.passedSince n 0 &&
        ((c.old ++ [c.seg]).all fun g => (g.ofKind 1).all fun b => s.blockSafe g b) then
      ((s.keepRsv n fun _ => false).modCrew n fun d => { d with found := [] }).freeSlots n c.found
    else s

/-- Median of the latency averages of a crew, twice its value (R258); none while fewer than three seats have one. -/
def medianE2 (c : Crew) : Option Nat :=
  let es := (c.seats.filter fun x => x.st == 0 || x.st == 3).filterMap (·.e)
  if es.length < 3 then none else some (twiceMedian es)

/-- The laggard check of one seat (R258, R260, R261). -/
def checkLaggard (s : State) (n : Nat) (m2 : Option Nat) (i : Nat) : State :=
  match s.crewOf n, s.seatOf n i with
  | some c, some x =>
    match x.e, m2 with
    | some e, some m =>
      if x.st = 0 && s.ef F.CRW_EASY_EN = 1 && s.ef F.CRW_EASY_FACTOR * m < 2 * e then
        let since := x.above.getD s.now
        let s1 := s.modSeat n i fun y => { y with above := some since }
        if s.now < since + 1000000 * s.ef F.CRW_EASY_HOLD_MS || !mayRest c i || x.lagItem.isSome then s1
        else if s1.assisted 6 then
          let (s2, handed) := s1.handOver 6 n i [n, i, e / 10, m / 20] [] 0 (s1.itemPoint none)
          if handed then s2.modSeat n i fun y => { y with lagItem := some (s2.wrg.nextItem - 1) } else s2.easySeat n i
        else s1.easySeat n i
      else if x.st = 1 then
        s.modSeat n i fun y => { y with below := if 2 * e ≤ 2 * m then some (y.below.getD s.now) else none }
      else s.modSeat n i fun y => { y with above := none }
    | _, _ => s.modSeat n i fun y => { y with above := none, below := none }
  | _, _ => s

end Sys2Proof.Machine.State
end

