-- ==== Sys2Proof/Machine/TargetCmds.lean ====
section
/-!
DEFINITION. The commands of the NVMe target (spec/05_nvme_target.md) and the packets that bring capsules and data
(spec/04_skiff_transport.md).
-/

namespace Sys2Proof.Machine

namespace State

/-- The slot that an FDATA packet must use (R325): that of the command whose FETCH it answers. -/
def fdataSlot (s : State) (ftag : Nat) : Option (Option Nat) :=
  (s.nvt.fetches.find? (·.ftag == ftag)).bind fun f => (s.cmdOf f.cmd).map (·.enc)

/-- A sequenced packet arrives (R97, R103, R324): not Skiff traffic, malformed, dropped by its envelope, waiting for the
unwrap of its slot, or handled under R106 and R110. -/
def packetIn (s : State) (h : SkHdr) (b : PktBody) (hostBad : Bool) : State :=
  if !s.isSkiff h then s
  else
    let (s0, ce) := s.fromSwitch h
    if headBad h hostBad then s0.malformed
    else
      let want := match b with | .fdata ftag .. => s0.fdataSlot ftag | _ => none
      let (s1, use) := s0.checkEnvelope h want
      match use with
      | .ready => s1.arrive h b ce
      | .unusable => s1
      | .waiting => { s1 with cip := { s1.cip with
          waiting := s1.cip.waiting ++ [((match h.enc with | some e => e.slot | none => 0), { h with ce := ce }, b)] } }

/-- An MTYPE that only the NP32 sends, or one that the table of R102 does not list (R103). -/
def mtypeBad (h : SkHdr) (mtype : Nat) : Bool :=
  decide (6 < mtype) || (h.ptag != 0xFFFF && (mtype == 1 || mtype == 6))

end State

open State

/-- MSG_RECEIVE (R110). -/
def execMsgReceive (h : SkHdr) (part : MsgPart) (s : State) : Host.Outcome State Fault Refusal :=
  .next (s.packetIn h (.msg part) (mtypeBad h part.mtype)).carryOn

/-- FDATA_RECEIVE (R123). -/
def execFdataReceive (h : SkHdr) (ftag offset data : Nat) (s : State) : Host.Outcome State Fault Refusal :=
  let bytes := h.payLen - (if h.enc.isSome then 32 else 0)
  .next (s.packetIn h (.fdata ftag offset bytes data) false).carryOn

/-- RECORD_RESTORE (R118): the record is back on die, parked packets are handled in order of SEQ, and packets that waited in its queue
go out. DESIGN CHOICE: while no record on die is eligible to make room, the record stays in HBM with its packets parked (log entry 122). -/
def execRecordRestore (flow : FlowRef) (s : State) : Host.Outcome State Fault Refusal :=
  .next (match s.flowAt flow with
    | none => s
    | some f =>
      if f.onDie then s
      else
        let t := s.restore f
        (match t.flowAt flow with | some g => if g.onDie then (t.unpark flow).pumpFlow flow 600 else t | none => t).carryOn)

/-- CONNECT (R139). -/
def execConnect (c : Capsule) (qid sqsize kato hostid dataCntlid : Nat) (nqnMatches : Bool) (s : State) :
    Host.Outcome State Fault Refusal :=
  .next (s.takeCmd c (.connect qid sqsize kato hostid dataCntlid nqnMatches)).carryOn

/-- PROPERTY_SET (R152). -/
def execPropertySet (c : Capsule) (offset value : Nat) (s : State) : Host.Outcome State Fault Refusal :=
  .next (s.takeCmd c (.propertySet offset value)).carryOn

/-- PROPERTY_GET (R152). -/
def execPropertyGet (c : Capsule) (offset : Nat) (s : State) : Host.Outcome State Fault Refusal :=
  .next (s.takeCmd c (.propertyGet offset)).carryOn

/-- DISCONNECT (R144). -/
def execDisconnect (c : Capsule) (s : State) : Host.Outcome State Fault Refusal := .next (s.takeCmd c .disconnect).carryOn

/-- FLUSH (R150). -/
def execFlush (c : Capsule) (nsid : Nat) (s : State) : Host.Outcome State Fault Refusal :=
  .next (s.takeCmd c (.flush nsid)).carryOn

/-- WRITE (R162). -/
def execWrite (c : Capsule) (io : IoReq) (s : State) : Host.Outcome State Fault Refusal := .next (s.takeCmd c (.write io)).carryOn

/-- READ (R160). -/
def execRead (c : Capsule) (io : IoReq) (s : State) : Host.Outcome State Fault Refusal := .next (s.takeCmd c (.read io)).carryOn

/-- COMPARE (R149). -/
def execCompare (c : Capsule) (io : IoReq) (s : State) : Host.Outcome State Fault Refusal :=
  .next (s.takeCmd c (.compare io)).carryOn

/-- WRITE_ZEROES (R149). -/
def execWriteZeroes (c : Capsule) (io : IoReq) (s : State) : Host.Outcome State Fault Refusal :=
  .next (s.takeCmd c (.writeZeroes io)).carryOn

/-- DATASET_MANAGEMENT (R150). -/
def execDatasetManagement (c : Capsule) (nsid nr : Nat) (ad : Bool) (sgl : Sgl) (s : State) : Host.Outcome State Fault Refusal :=
  .next (s.takeCmd c (.dsm nsid nr ad sgl [])).carryOn

/-- RESERVATION_REGISTER (R173). -/
def execReservationRegister (c : Capsule) (nsid action : Nat) (ignoreKey : Bool) (cptpl : Nat) (sgl : Sgl) (s : State) :
    Host.Outcome State Fault Refusal :=
  .next (s.takeCmd c (.rsvRegister nsid action ignoreKey cptpl sgl 0 0)).carryOn

/-- RESERVATION_REPORT (R149). -/
def execReservationReport (c : Capsule) (nsid numd : Nat) (eds : Bool) (sgl : Sgl) (s : State) : Host.Outcome State Fault Refusal :=
  .next (s.takeCmd c (.rsvReport nsid numd eds sgl)).carryOn

/-- RESERVATION_ACQUIRE (R174). -/
def execReservationAcquire (c : Capsule) (nsid action rtype : Nat) (ignoreKey : Bool) (sgl : Sgl) (s : State) :
    Host.Outcome State Fault Refusal :=
  .next (s.takeCmd c (.rsvAcquire nsid action rtype ignoreKey sgl 0 0)).carryOn

/-- RESERVATION_RELEASE (R172). -/
def execReservationRelease (c : Capsule) (nsid action rtype : Nat) (ignoreKey : Bool) (sgl : Sgl) (s : State) :
    Host.Outcome State Fault Refusal :=
  .next (s.takeCmd c (.rsvRelease nsid action rtype ignoreKey sgl 0)).carryOn

/-- GET_LOG_PAGE (R151). -/
def execGetLogPage (c : Capsule) (lid nsid offset numd : Nat) (sgl : Sgl) (s : State) : Host.Outcome State Fault Refusal :=
  .next (s.takeCmd c (.getLog lid nsid offset numd sgl)).carryOn

/-- IDENTIFY (R156). -/
def execIdentify (c : Capsule) (cns nsid cntid csi : Nat) (sgl : Sgl) (s : State) : Host.Outcome State Fault Refusal :=
  .next (s.takeCmd c (.identify cns nsid cntid csi sgl)).carryOn

/-- ABORT (R171). -/
def execAbort (c : Capsule) (sqid cid : Nat) (s : State) : Host.Outcome State Fault Refusal :=
  .next (s.takeCmd c (.abort sqid cid)).carryOn

/-- SET_FEATURES (R151). -/
def execSetFeatures (c : Capsule) (fid nsid value : Nat) (s : State) : Host.Outcome State Fault Refusal :=
  .next (s.takeCmd c (.setFeatures fid nsid value)).carryOn

/-- GET_FEATURES (R151). -/
def execGetFeatures (c : Capsule) (fid nsid : Nat) (sgl : Sgl) (s : State) : Host.Outcome State Fault Refusal :=
  .next (s.takeCmd c (.getFeatures fid nsid sgl)).carryOn

/-- ASYNCHRONOUS_EVENT_REQUEST (R151). -/
def execAsynchronousEventRequest (c : Capsule) (s : State) : Host.Outcome State Fault Refusal := .next (s.takeCmd c .aer).carryOn

/-- KEEP_ALIVE (R143). -/
def execKeepAlive (c : Capsule) (s : State) : Host.Outcome State Fault Refusal := .next (s.takeCmd c .keepAlive).carryOn

/-- CONTEXT_ASSIGN (R146): a context is free, and goes to a waiting capsule. While admission has stopped none is admitted (R178, R195,
R283). -/
def execContextAssign (s : State) : Host.Outcome State Fault Refusal :=
  .next (
    if s.admissionHalted || s.twn.stopped then s
    else match s.nextWaiting with
      | some k => (s.giveContext k.id).carryOn
      | none => s)

/-- KEEP_ALIVE_EXPIRY (R144). -/
def execKeepAliveExpiry (cntlid : Nat) (s : State) : Host.Outcome State Fault Refusal :=
  .next (match s.assocOf cntlid with
    | some _ => ((s.endAssoc cntlid).raise 193 0x8000).carryOn
    | none => s)

/-- CUT_POINT (R176, R177): elapsed time has come to the cut point of a command. One that has not been answered is answered with Command
Interrupted, in place of an answer that is due. A write past its commit point goes on to media. CNTLID of a Connect to the admin queue
is 0xFFFF. -/
def execCutPoint (cntlid qid cid msgid : Nat) (s : State) : Host.Outcome State Fault Refusal :=
  .next (match s.nvt.cmds.find? fun k =>
      k.id.cntlid % 65536 == cntlid && k.id.qid == qid && k.id.cid == cid && k.id.msgid == msgid with
    | none => s
    | some k =>
      if k.phase = 3 || k.req = .aer || k.req.silent then s
      else
        let s0 := s.passTo (s.cutPoint k)
        let t := if k.due.isSome then s0.takeBack k.id stInterrupted
          else if k.phase = 2 then s0.answer k.id stInterrupted 0 [] else s0.failCmd k.id stInterrupted
        ((t.countOpen 0x200 0x1001 0x8000).raiseOnce 197 0 0x8000).carryOn)

/-- COMMIT_POINT (R237): everything that the command's commit point waits for has completed. -/
def execCommitPoint (cntlid qid cid msgid : Nat) (s : State) : Host.Outcome State Fault Refusal :=
  let c : CmdId := ⟨cntlid, qid, cid, msgid⟩
  .next (match s.cmdOf c with
    | some k => if s.commitReady k then (s.commit c).carryOn else s
    | none => s)

end Sys2Proof.Machine
end

