-- ==== Sys2Proof/Machine/CrewCmds.lean ====
section
/-!
DEFINITION. The commands of the crew engine (spec/07_crews_and_parity.md, spec/08_degradation_rebuild_takeover.md): assembly, drive
commands, the journal, maps, collection, patrol, the recovery ladder, laggards and rebuild. An instant that the spec names by an
interval is taken as having come; what the state must hold for it is checked.
-/

namespace Sys2Proof.Machine

open State

/-- CREW_ASSEMBLY (R211): the crew's drives have become ready. -/
def execCrewAssembly (crew : Nat) (media : CrewMedia) (s : State) : Host.Outcome State Fault Refusal :=
  .next (if crew < 8 then (s.assemble crew media false).carryOn else s)

/-- ASSEMBLY_WAIT_EXPIRY (R211, R212): CRW_ASM.WAIT_S has passed since bay power-up. -/
def execAssemblyWaitExpiry (crew : Nat) (media : CrewMedia) (s : State) : Host.Outcome State Fault Refusal :=
  .next (if crew < 8 then (s.assemble crew media true).carryOn else s)

/-- REPLAY_CLEAN_MARK (R241). -/
def execReplayCleanMark (crew : Nat) (s : State) : Host.Outcome State Fault Refusal := .next (s.replayMark crew).carryOn

/-- ROW_LOCK_GRANT (R219): a row's lock is free and goes to the next job that waits for it. -/
def execRowLockGrant (crew row : Nat) (s : State) : Host.Outcome State Fault Refusal := .next (s.grantRow crew row).carryOn

/-- DRIVE_COMMAND_COMPLETION (R253). -/
def execDriveCommandCompletion (io : Nat) (result : DriveEnd) (latency : Nat) (s : State) : Host.Outcome State Fault Refusal :=
  .next (match s.ioOf io with
    | some o => (s.ioEnds o result latency).carryOn
    | none => s)

/-- DRIVE_COMMAND_TIMEOUT (R253): the command has not completed within CRW_FAIL.CMD_MS. -/
def execDriveCommandTimeout (io : Nat) (s : State) : Host.Outcome State Fault Refusal :=
  .next (match s.ioOf io with
    | some o => (s.commandFails o).carryOn
    | none => s)

/-- DRIVE_PATH_ERROR_WAIT_END (R253): the seat has not become absent, so the error is handled as any other. -/
def execDrivePathErrorWaitEnd (io : Nat) (s : State) : Host.Outcome State Fault Refusal :=
  .next (match s.ioOf io with
    | some o => if o.path then (s.commandFails { o with path := false }).carryOn else s
    | none => s)

/-- READ_HEDGE (R254): a read has not completed within CRW_FAIL.HEDGE_US. Its sectors are reconstructed from the rest of the row
where no more than two chunks would then be missing. -/
def execReadHedge (io : Nat) (s : State) : Host.Outcome State Fault Refusal :=
  .next (match s.ioOf io with
    | some o => match o.op, s.jobOf o.job, s.crewOf o.crew with
      | .read lba, some j, some c =>
        let missing := (List.range c.seats.length).filter fun i => i == o.seat || !j.avail c i lba
        if o.hedged || j.phase ≠ 0 || 2 < missing.length then s
        else
          let s1 := (s.setIo { o with hedged := true }).setJob { j with slow := j.slow ++ [(o.seat, lba)] }
          (((s1.countOpen 0x280 5 (crewUnit o.crew)).seatOnce 301 0 o.crew o.seat).advanceReads j.id).carryOn
      | _, _, _ => s
    | none => s)

/-- RECOVERY_LADDER_STEP (R255): the step that runs has succeeded or failed. -/
def execRecoveryLadderStep (crew seat : Nat) (success : Bool) (s : State) : Host.Outcome State Fault Refusal :=
  .next (match s.seatOf crew seat with
    | some x => match x.ladder, x.ladderItem with
      | some k, none => (if success then s.ladderDone crew seat else s.nextLadder crew seat (k + 1)).carryOn
      | _, _ => s
    | none => s)

/-- LAGGARD_CHECK (R258): every 1 ms. -/
def execLaggardCheck (crew : Nat) (s : State) : Host.Outcome State Fault Refusal :=
  .next (match s.crewOf crew with
    | some c =>
      let m := medianE2 c
      ((List.range c.seats.length).foldl (fun t i => t.checkLaggard crew m i) s).carryOn
    | none => s)

/-- CATCH_UP_WRITE (R259): the oldest entry of a seat's catch-up log, in heat order, goes to the seat. -/
def actCatchUpWrite (crew seat : Nat) (s : State) : Host.Outcome State Fault Refusal :=
  .next (match s.seatOf crew seat with
    | some x =>
      if x.st ≠ 1 && x.st ≠ 3 || x.log.any (·.busy) then s
      else
        let first := x.log.foldl (fun a e => match a with
          | none => some e
          | some b => if e.heat < b.heat then some e else some b) (none : Option CatchUp)
        match first with
        | some e =>
          (s.modSeat crew seat fun y => { y with log := y.log.map fun q => if q == e then { q with busy := true } else q }).issueIo
            crew seat (.write e.lba e.value false) e.heat 0 |>.countOpen 0x280 6 (crewUnit crew)
        | none => s
    | none => s)

/-- EASY_CLEAR (R260): E has stayed at or below twice the median for CRW_EASY.CLEAR, and the catch-up log is empty. -/
def execEasyClear (crew seat : Nat) (s : State) : Host.Outcome State Fault Refusal :=
  .next (match s.seatOf crew seat with
    | some x => match x.below with
      | some t =>
        if x.st = 1 && !x.byLadder && x.log.isEmpty && t + 100000000 * s.ef F.CRW_EASY_CLEAR ≤ s.now then
          (s.backInService crew seat true).carryOn
        else s
      | none => s
    | none => s)

/-- EASY_LIMIT_EXPIRY (R260): the seat has been at easy for longer than CRW_EASY.LIMIT. -/
def execEasyLimitExpiry (crew seat : Nat) (s : State) : Host.Outcome State Fault Refusal :=
  .next (match s.seatOf crew seat with
    | some x => if x.st = 1 then (s.failSeat crew seat 293).carryOn else s
    | none => s)

/-- CATCH_UP_FULL_EXPIRY (R260): a write has waited CRW_EASY.FULL for room in the seat's catch-up log. -/
def execCatchUpFullExpiry (crew seat : Nat) (s : State) : Host.Outcome State Fault Refusal :=
  .next (if s.hmp.waits.any fun w => w.hamper == 8 && w.owner.1 == 2 ^ 65 + crew && w.owner.2.1 == seat then
    (s.failSeat crew seat 293).carryOn else s)

/-- REBUILD_ROW (R266). -/
def execRebuildRow (crew : Nat) (s : State) : Host.Outcome State Fault Refusal := .next (s.rebuildRow crew).carryOn

/-- HOLD_EXPIRY (R222): a grain has waited CRW_LS.HOLD in its open stripe; it takes the journal path. -/
def execHoldExpiry (vol grain : Nat) (s : State) : Host.Outcome State Fault Refusal :=
  let late (st : Stripe) : Stripe :=
    { st with grains := st.grains.map fun p => if p.grain = grain && p.path = 0 then { p with path := 2 } else p }
  .next (s.modVol vol fun x => { x with host := x.host.map late, reloc := x.reloc.map late }).carryOn

/-- JOURNAL_BLOCK_FLUSH (R235): a part-filled block has waited CRW_JRNL.FLUSH_US since its first record. -/
def execJournalBlockFlush (crew : Nat) (s : State) : Host.Outcome State Fault Refusal :=
  .next (match s.crewOf crew with
    | some c => ((s.closeBlocks crew c.seg.heat 0).closeBlocks crew c.seg.heat 2).carryOn
    | none => s)

/-- JOURNAL_BLOCK_WRITTEN (R235): a block write has ended on one seat, with the NVMe status of the drive; 0 is success. -/
def execJournalBlockWritten (io status : Nat) (s : State) : Host.Outcome State Fault Refusal :=
  .next (match s.ioOf io with
    | some o => match o.op with
      | .block .. => (s.ioEnds o (if status = 0 then .ok 0 else .other status) 0).carryOn
      | _ => s
    | none => s)

/-- SEGMENT_FREE (R240). -/
def execSegmentFree (crew heat : Nat) (s : State) : Host.Outcome State Fault Refusal :=
  .next ((s.freeSegment crew heat).freeFound crew).carryOn

/-- MAP_PASS (R228): CRW_MAP.SWEEP_MS has passed since the last pass began. A pass that still runs delays the next. -/
def execMapPass (vol : Nat) (s : State) : Host.Outcome State Fault Refusal :=
  .next (match s.volOf vol with
    | some x =>
      if !x.priv || s.engineRests then s
      else if x.passRun.isSome then (s.setVol { x with passDue := true }).raise 268 (crewUnit x.crew)
      else (s.beginPass x).carryOn
    | none => s)

/-- MAP_PASS_COMPLETE (R228): every row of the copy is written; its header is written last, with FUA, and the pass is complete with it.
DESIGN CHOICE (log entry 142): the place of the header sector is a free value. -/
def execMapPassComplete (vol : Nat) (s : State) : Host.Outcome State Fault Refusal :=
  .next (match s.volOf vol with
    | some x => match x.passRun with
      | some (p, h) =>
        if s.crw.jobs.any fun j => j.kind == 5 && j.vol == vol then s
        else
          let copy := 1 - x.copy
          let at_ := Config.mapHeaderAt vol copy
          let y := { x with pass := p, passHeat := h, copy := copy, passRun := none }
          let s0 := s.issueIo x.crew (at_.1 % s.nOf x.crew) (.write at_.2 (mapHeader p h x.cap) true) s.heat 0
          let s1 := (s0.setVol y).showPvol vol
          (if x.passDue && !s1.engineRests then s1.beginPass y else s1).carryOn
      | none => s
    | none => s)

/-- GC_ROUND (R231). -/
def execGcRound (vol : Nat) (s : State) : Host.Outcome State Fault Refusal := .next (s.gcRound vol).carryOn

/-- PATROL_ROW (R244, R245). -/
def execPatrolRow (crew : Nat) (s : State) : Host.Outcome State Fault Refusal := .next (s.patrol crew).carryOn

/-- STREAM_IDLE_END (R298): a stream has written no grain for CMP_LIMIT.IDLE_MS. -/
def execStreamIdleEnd (vol cntlid : Nat) (s : State) : Host.Outcome State Fault Refusal :=
  .next (s.endStreams fun x => x.vol == vol && x.cntlid == cntlid)

/-- A stage of the crew engine's own that has its buffers begins (R185): a row of a rebuild or of the patrol, or a
summary or grain to be collected.
They are released where it is not to be done any more. -/
def State.beginOwn (s : State) (h : Nat) (owner : Nat × Nat × Nat) : State :=
  let n := owner.1 - 2 ^ 66
  let kind := owner.2.2 % 16
  let s1 := if kind = 4 then s.rebuildRow n else if kind = 3 then s.patrol n
    else if kind = 11 then s.collectStripe n owner.2.1 (owner.2.2 / 16) else s.collectGrain n owner.2.1 (owner.2.2 / 16)
  if s1.crw.jobs.any fun j => j.crew == n && jobOwner n j.row (j.kind + 16 * j.arg) == owner then s1 else s1.freeBuffers h owner

/-- HAMPER_BUFFER_GRANT (R184, R185): buffers have been released, and the oldest stage that waits for the hamper takes them. -/
def execHamperBufferGrant (hamper : Nat) (s : State) : Host.Outcome State Fault Refusal :=
  .next (match s.grantBuffers hamper with
    | (_, none) => s
    | (s1, some owner) =>
      let n := owner.1 - 2 ^ 65
      let key := (owner.2.1, owner.2.2)
      let job := if hamper = 8 then s1.crw.jobs.find? fun j => j.crew == n && j.phase == 3 && (j.put.lookup key).isSome else none
      (match job with
        | some j => (s1.addLog n key.1 key.2 ((j.put.lookup key).getD 0) j.heat).checkWrites j.id
        | none => if hamper = 9 || hamper = 14 then s1.beginOwn hamper owner else s1).carryOn)

/-- DRIVE_READY (R375): the controller of a bay's drive shows CSTS.RDY = 1. Its capacity, format, cache and the two copies of its label are known. In a
twin each NP32 registers on it (R271). -/
def execDriveReady (bay lbas : Nat) (meta16 cache : Bool) (labelA labelB : Nat) (s : State) : Host.Outcome State Fault Refusal :=
  .next (if bay < 32 && s.bayUp bay && !(s.bayAt bay).ready then
    let drives := (s.crw.drives.filter fun (d : Drive) => d.bay != bay) ++ [Drive.mk bay lbas meta16 cache (chooseLabel labelA labelB)]
    let s1 := { s.modBay bay fun b => { b with ready := true } with crw := { s.crw with drives := drives } }
    let s2 := if s1.twinShelf then s1.issueBay bay (.register (Config.uniqueId % 2 ^ 64)) else s1
    (s2.driveArrives bay).carryOn
  else s)

namespace State

/-- A key operation of CIP_KLOAD_CMD (R331), where the word names it. -/
def kloadOp (s : State) (op : Nat) (value : Word) : State :=
  if value.toNat / 16384 % 4 = op then (s.kloadCmd value.toNat).carryOn else s

/-- An unwrap has ended: packets that waited for it go on, or fail their tag where the slot is not ready (R324); commands whose
slot stays wrapped are answered (R336). -/
def afterUnwrap (s : State) (k : Nat) : State :=
  let mine := s.cip.waiting.filter (·.1 == k)
  let s1 := { s with cip := { s.cip with waiting := s.cip.waiting.filter (·.1 != k) } }
  let s2 : State := mine.foldl (fun t p => if t.slotState k = 2 then t.packetIn p.2.1 p.2.2 false else t.failTag) s1
  let s3 := if s2.slotState k = 1 then
      (s2.nvt.cmds.filter fun c => c.phase == 1 && c.step == 2).foldl (fun t c =>
        match t.volOf (c.req.nsid - 1) with
        | some x => if x.slot = k && !t.heldBack c then (t.raiseOnce 468 x.v (keyUnit x.slot)).failCmd c.id stInterrupted else t
        | none => t) s2
    else s2
  s3.carryOn

/-- The cipher's own unwrap (R333): the key encryption key that the slot names must be loaded. -/
def unwrapOwn (s : State) (k : Nat) (tagOk : Bool) (material : Nat) : State :=
  let kek := s.rd F.CIP_SLOT_KEKID k
  let t := (s.endUnwrap k (s.cox.keks.any (·.1 == kek)) tagOk material).afterUnwrap k
  if t.cox.kekClears.contains kek && !t.kekRuns kek then t.kekCleared kek else t

end State

/-- LOAD (R331). -/
def actLoad (value : Word) (s : State) : Host.Outcome State Fault Refusal := .next (s.kloadOp 1 value)

/-- CLEAR (R331). -/
def actClear (value : Word) (s : State) : Host.Outcome State Fault Refusal := .next (s.kloadOp 2 value)

/-- PREPARE (R331). -/
def actPrepare (value : Word) (s : State) : Host.Outcome State Fault Refusal := .next (s.kloadOp 3 value)

/-- UNWRAP (R333): an unwrap in the cipher ends. Whether the tag verifies, and the key material, are results of AES-256-GCM. -/
def actUnwrap (slot : Nat) (tagOk : Bool) (material : Nat) (s : State) : Host.Outcome State Fault Refusal :=
  .next (if s.cip.unwraps.any fun u => u.1 == slot && u.2.isNone then s.unwrapOwn slot tagOk material else s)

end Sys2Proof.Machine
end

