-- ==== Sys2Proof/Machine/Views.lean ====
section
/-!
DEFINITION. Register fields that count lists of the state.
-/

namespace Sys2Proof.Machine.State

/-- The retry period left of a bay in RETRY (state 9), in units of 10 ms (R383). -/
def remain (s : State) (nn : Nat) : Nat :=
  match s.bay.bays[nn]? with
  | some b => if s.rd F.BAY_PSTAT_STATE nn = 9 then min 65535 ((b.retryEnd - s.now + 9999999) / 10000000) else 0
  | none => 0

/-- Read-only fields that follow from other state: flow records on die and in HBM, parked packets, the power limit of a slot
in W, and the retry period left. -/
def moreView (s : State) (f : Field) (i : Nat) : Option Nat :=
  if f = F.SKF_FLOWS_DIE_COUNT then some (s.skf.flows.filter (·.onDie)).length
  else if f = F.SKF_FLOWS_HBM_COUNT then some (s.skf.flows.filter (fun r => !r.onDie)).length
  else if f = F.SKF_PARK_PARKED then some (s.skf.flows.foldl (fun n r => n + r.parked.length) 0)
  else if f = F.BAY_SLTCAP_SPLV then some (12 * s.ef F.BAY_PCFG_LIMIT i % 256)
  else if f = F.BAY_PSTAT_REMAIN then some (s.remain i)
  else none

end Sys2Proof.Machine.State
end

