-- ==== Sys2Proof/Machine/RegAccess.lean ====
section
/-!
DEFINITION. Reading and writing whole registers (R8 to R15, R66, R95): what a word reads as, what a read changes,
the B-class refusal, and where the fields of a written word go. The registers whose write is an operation of its own
are dispatched in Registers.lean.
-/

namespace Sys2Proof.Machine

/-- The fields of the register at an internal address, with their indices. -/
def fieldsAt (addr : Nat) : List (Field × Nat × Nat) :=
  (F.block (addr / 0x100000)).filterMap fun f => (f.index addr).map fun ij => (f, ij.1, ij.2)

/-- The bits of a field within its word, as a mask. -/
def Field.mask (f : Field) : Nat := (2 ^ f.width - 1) * 2 ^ f.lo

/-- A field's bits of a word. -/
def Field.slice (f : Field) (w : Nat) : Nat := w / 2 ^ f.lo % 2 ^ f.width

namespace State

/-- Read-only fields that are views of other state: fault queue, heat number, time of day, severities. -/
def view (s : State) (f : Field) (i : Nat) : Option Nat :=
  if f = F.EVT_SEV_SEV then some (sevWord i)
  else if f = F.EVT_FQ_STAT_LEVEL then some s.ev.hand.length
  else if f = F.EVT_FQ_STAT_QUEUED then some s.ev.queue.length
  else if f = F.EVT_FQ_CUR0_TAG then some (match s.ev.hand with | e :: _ => e.tag | [] => 0)
  else if f = F.EVT_FQ_CUR0_SEV then some (match s.ev.hand with | e :: _ => e.sev | [] => 0)
  else if f = F.EVT_FQ_CUR0_EV then some (match s.ev.hand with | e :: _ => e.ev | [] => 0)
  else if f = F.EVT_FQ_CUR1_COUNT then some (match s.ev.hand with | e :: _ => e.count | [] => 0)
  else if f = F.EVT_FQ_CUR1_UNIT then some (match s.ev.hand with | e :: _ => e.unit | [] => 0)
  else if f.base = F.HMP_HEAT_NUM_LO_NUM.base then some (s.heat % 2 ^ 32)
  else if f.base = F.HMP_HEAT_NUM_HI_NUM.base then some (s.heat / 2 ^ 32)
  else if f.base = F.SCH_TOD_NS_TOD.base then some (s.tod % 1000000000)
  else if f.base = F.SCH_TOD_SEC_LO_TOD.base then some (s.tod / 1000000000 % 2 ^ 32)
  else if f.base = F.SCH_TOD_SEC_HI_TOD.base then some (s.tod / 1000000000 / 2 ^ 32)
  else s.moreView f i

/-- What a field reads as: a WO field reads 0, an H-class field its shadow (R13). -/
def readField (s : State) (f : Field) (i j : Nat) : Nat :=
  if f.kind = .wo then 0 else (s.view f i).getD (s.rd f i j) % 2 ^ f.width

/-- What a register reads as; an offset that holds no register reads 0, and so do reserved bits (R10, R19). -/
def readWord (s : State) (addr : Nat) : Nat :=
  (fieldsAt addr).foldl (fun w e => w + s.readField e.1 e.2.1 e.2.2 * 2 ^ e.1.lo) 0

/-- The high words that a read of a low word latches: HMP_HEAT_NUM, PMU_SNAP_HEAT, PMU_CNT_n, PMU_SNAP_n, and the seconds
of SCH_TOD_NS (R366). -/
def latchOf (addr : Nat) : List Nat :=
  if addr = 0x300004 || addr = 0xD00004 then [addr + 4]
  else if 0xD02000 ≤ addr && addr < 0xD04000 && addr % 8 == 0 then [addr + 4]
  else if addr = 0x78006C then [addr + 4, addr + 8]
  else []

/-- Clear the RC fields of a register after their read (R10's table of field types). -/
def clearRc (s : State) (addr : Nat) : State :=
  (fieldsAt addr).foldl (fun t e => if e.1.kind = .rc then t.wr e.1 0 e.2.1 e.2.2 else t) s

/-- Read a register: its value, and what the read changes. -/
def readReg (s : State) (addr : Nat) : State × Nat :=
  match s.latch.find? (·.1 == addr) with
  | some l => ({ s with latch := s.latch.filter (·.1 != addr) }, l.2)
  | none =>
    let v := s.readWord addr
    match latchOf addr with
    | [] => (s.clearRc addr, v)
    | his =>
      ({ s with latch := s.latch.filter (fun l => !his.contains l.1) ++ his.map fun hi => (hi, s.readWord hi) }, v)

/-- The gated unit that a register belongs to: a bay port's link status, a network port's settings, the twin link, the
endpoint. Registers of other blocks belong to no gated unit. -/
def unitOf (addr : Nat) : Option Nat :=
  if 0x700000 ≤ addr && addr < 0x700020 then some ((addr - 0x700000) / 4)
  else if 0xF00000 ≤ addr && addr < 0x1000000 then some 8
  else if 0xA00000 ≤ addr && addr < 0xB00000 then some 9
  else if 0x801018 ≤ addr && addr < 0x801400 && (addr - 0x801000) % 0x20 == 0x18 then some (32 + (addr - 0x801000) / 0x20)
  else none

/-- An access reaches a unit under a forced gate (R94). -/
def accessGated (s : State) (addr : Nat) : Bool :=
  match unitOf addr with
  | some u => s.gateForced u
  | none => false

/-- An access reopens the gate of the unit that it reaches (R92). -/
def wakeFor (s : State) (addr : Nat) : State :=
  match unitOf addr with
  | some u => s.wake u
  | none => s

/-- The fields that a write covers: those with a bit under the mask (R11). -/
def covered (addr mask : Nat) : List (Field × Nat × Nat) := (fieldsAt addr).filter fun e => e.1.mask &&& mask != 0

/-- The value a covered field would take: bits outside the mask keep the field's own. Bits [3:0] of EVT_MASK_0 stay 0
(EVT_MASK_n's register table). -/
def newBits (s : State) (f : Field) (i j mask value : Nat) : Nat :=
  let m := f.slice mask
  let old := s.rd f i j
  let v := (f.slice value &&& m) ||| (old &&& (2 ^ f.width - 1 - m))
  if f = F.EVT_MASK_MASK && i = 0 then v - v % 16 else v

/-- HMP_POOL_0.SIZE is read-only (R203's register table). -/
def fixedField (f : Field) (i : Nat) : Bool := f = F.HMP_POOL_SIZE && i == 0

/-- A write would change a B-class field that it covers (R11). -/
def changesB (s : State) (addr mask value : Nat) : Bool :=
  (covered addr mask).any fun e =>
    e.1.kind = .rwb && !fixedField e.1 e.2.1 && s.newBits e.1 e.2.1 e.2.2 mask value != s.rd e.1 e.2.1 e.2.2

/-- The SOURCE code of a path in BOOT_REFUSE. -/
def pathCode : Path → Nat
  | .window => 0
  | .ring => 1
  | .cox => 2
  | .pldm => 3

/-- Record a refused B-class write (R66): BOOT_REFUSE, and EV0012 where its COUNT was 0. -/
def refuseB (s : State) (path : Path) (addr : Nat) : State :=
  let first := s.rd F.BOOT_REFUSE_COUNT == 0
  let s1 := ((s.wr F.BOOT_REFUSE_SOURCE (pathCode path)).bump F.BOOT_REFUSE_COUNT).wr F.BOOT_REFUSE_ADDR addr
  let s2 := if first then s1.raise 12 0x0000 else s1
  match path with
  | .cox | .pldm => s2.emit (.bClassRefused path addr)
  | .window | .ring => s2

/-- Whether a field of a running ring, or of a gate list in operation, ignores writes (R363, R419, EVT_HOST_w). -/
def locked (s : State) (f : Field) (i : Nat) : Bool :=
  ([F.WRG_RING_KIND, F.WRG_RING_LOG2SIZE, F.WRG_RING_CQ, F.WRG_RING_BASE, F.WRG_RING_SHADOW, F.WRG_RING_DATA,
    F.WRG_RING_SLOT].contains f && s.is F.WRG_RING_EN i) ||
  ([F.EVT_HOST_LOG2SIZE, F.EVT_HOST_BASE].contains f && s.is F.EVT_HOST_EN) ||
  ([F.PMU_SBUF_LOG2SIZE, F.PMU_SBUF_BASE].contains f && s.is F.PMU_SBUF_EN) ||
  ([F.SCH_GCE_GATES, F.SCH_GCE_INTERVAL].contains f && s.rd F.SCH_GCL_OPER (i / 2) == i % 2)

/-- Store one covered field (R11 to R15): W1C clears the written ones, an H-class write goes to the shadow, RO, RC and
WO store nothing. -/
def storeField (s : State) (mask value : Nat) (e : Field × Nat × Nat) : State :=
  let f := e.1
  let i := e.2.1
  let j := e.2.2
  match f.kind with
  | .rw | .rwh =>
    let v := s.newBits f i j mask value
    if s.locked f i then
      if v ≠ s.rd f i j && F.WRG_RING_EN.base ≤ f.base && f.base < F.WRG_IDX_PI.base then s.raise 773 (0x9000 + i) else s
    else s.wr f v i j
  | .w1c => s.wr f (s.rd f i j &&& (2 ^ f.width - 1 - (f.slice value &&& f.slice mask))) i j
  | _ => s

/-- Store a word under a mask into the fields of its register. A write to the operational bank of a gate list is ignored
and raises EV0135 (R363). -/
def storeWord (s : State) (addr mask value : Nat) : State :=
  let es := covered addr mask
  match es.find? fun e => (e.1 = F.SCH_GCE_GATES || e.1 = F.SCH_GCE_INTERVAL) && s.locked e.1 e.2.1 with
  | some e => s.raise 135 (0x7040 + e.2.1 / 2)
  | none => es.foldl (fun t e => t.storeField mask value e) s

/-- An image entry sets a field and its value in effect, whatever its class (R64). -/
def applyField (s : State) (mask value : Nat) (e : Field × Nat × Nat) : State :=
  if fixedField e.1 e.2.1 then s else s.wrBoth e.1 (s.newBits e.1 e.2.1 e.2.2 mask value) e.2.1 e.2.2

/-- Apply one configuration entry (R64). -/
def applyWord (s : State) (addr mask value : Nat) : State :=
  (covered addr mask).foldl (fun t e => t.applyField mask value e) s

end State

end Sys2Proof.Machine
end

