-- ==== Sys2Proof/Machine/Rings.lean ====
section
/-!
DEFINITION. Work rings (spec/13_work_rings.md): indices and doorbells (R399, R400), arbitration (R414), taking entries in
(R403, R404) and their data in H13 (R185, R409), completions (R405, R406), no-operations and interrupt coalescing (R402).
-/

namespace Sys2Proof.Machine

open State

namespace State

/-- Ring kinds (WRG_RING_r.KIND). -/
abbrev inbound := 0
abbrev completionKind := 1
abbrev outbound := 2

/-- Entries of a ring. -/
def ringSize (s : State) (r : Nat) : Nat := 2 ^ s.ef F.WRG_RING_LOG2SIZE r

/-- An inbound ring completes in place from 8,192 entries on (R405). -/
def inPlace (s : State) (r : Nat) : Bool := 8192 ≤ s.ringSize r

/-- CI of the ring advances only past completed entries: in place (R405), or in NP16-compatible mode (R416). -/
def lateCi (s : State) (r : Nat) : Bool := s.inPlace r || s.is F.WRG_MODE_COMPAT

/-- The ring runs. No ring runs before ready (R40). -/
def ringRuns (s : State) (r : Nat) : Bool := s.ready && s.is F.WRG_RING_EN r && s.rd F.WRG_IDX_STATE r == 1

/-- Serial distance from `a` to `b` modulo 2^32 (R399). -/
def serial (a b : Nat) : Nat := (b + 2 ^ 32 - a % 2 ^ 32) % 2 ^ 32

/-- Entries of ring `r` taken in and not yet in effect. -/
def takenOf (s : State) (r : Nat) : List Taken := s.wrg.taken.filter (·.ring == r)

/-- The index of the next entry that ring `r` takes in. -/
def nextIdx (s : State) (r : Nat) : Nat :=
  if s.lateCi r then (s.rd F.WRG_IDX_CI r + (s.takenOf r).length) % 2 ^ 32 else s.rd F.WRG_IDX_CI r

/-- Slots of completion ring `q` reserved for entries taken in (R404). -/
def reservedIn (s : State) (q : Nat) : Nat :=
  (s.wrg.taken.filter fun t => !s.inPlace t.ring && s.rd F.WRG_RING_CQ t.ring == q).length

/-- The completion ring of an inbound ring can take one more completion (R404). -/
def cqRoom (s : State) (r : Nat) : Bool :=
  s.inPlace r ||
    (let q := s.rd F.WRG_RING_CQ r
     s.ringRuns q && s.rd F.WRG_RING_KIND q == completionKind && s.reservedIn q < s.ringRoom q)

/-- Rings whose EN field is listed as 1. -/
def enabledRings (s : State) : List Nat :=
  (s.regs.filter fun kv => kv.2 == 1 && kv.1 % 1024 == F.WRG_RING_EN.key 0 0 % 1024 &&
    (F.WRG_RING_EN.key 0 0 ≤ kv.1 && kv.1 ≤ F.WRG_RING_EN.key 1023 0)).map fun kv => (kv.1 - F.WRG_RING_EN.key 0 0) / 1024

/-- The owner of an entry's data in H13, and the wait for it (R185, R409). -/
def ringOwner (r idx : Nat) : Nat × Nat × Nat := (2 ^ 71 + r, idx, 0)
def awaitsData (s : State) (t : Taken) : Bool := s.waitsBuffers (ringOwner t.ring t.idx)

/-- Ring `r` is eligible for service (R414); in NP16-compatible mode it executes one entry at a time (R415). -/
def eligible (s : State) (r : Nat) : Bool :=
  s.ringRuns r && s.rd F.WRG_RING_KIND r == inbound && s.nextIdx r != s.rd F.WRG_IDX_PI r && s.cqRoom r &&
    !(s.takenOf r).any s.awaitsData && !(s.is F.WRG_MODE_COMPAT && !(s.takenOf r).isEmpty)

/-- The credits of a ring in the current round. -/
def creditOf (s : State) (r : Nat) : Nat := ((s.wrg.credit.find? (·.1 == r)).map (·.2)).getD 0

/-- Whether a ring belongs to cox (R397). -/
def coxRing (r : Nat) : Bool := coxOwned r

/-- The eligible rings of one host, in ascending order. -/
def eligibleOf (s : State) (cox : Bool) : List Nat := s.enabledRings.filter fun r => coxRing r == cox && s.eligible r

/-- Where no eligible ring of the host holds credit, a new round begins and every ring receives WEIGHT credits (R414). -/
def newRound (s : State) (cox : Bool) : State :=
  if (s.eligibleOf cox).any fun r => 0 < s.creditOf r then s
  else
    let keep := s.wrg.credit.filter fun c => coxRing c.1 != cox
    { s with wrg := { s.wrg with
      credit := keep ++ ((s.enabledRings.filter fun r => coxRing r == cox).map fun r => (r, s.ef F.WRG_RING_WEIGHT r)) } }

/-- The ring that the arbiter visits next: the first eligible ring with credit above the last one, wrapping (R414). -/
def arbNext (s : State) (cox : Bool) : Option Nat :=
  let c := (s.eligibleOf cox).filter fun r => 0 < s.creditOf r
  let last := if cox then s.wrg.lastCox else s.wrg.last
  match c.find? fun r => last < r with
  | some r => some r
  | none => c.head?

/-- Spend one credit of ring `r` and remember the visit. -/
def visit (s : State) (r : Nat) : State :=
  { s with wrg := { s.wrg with
    credit := s.wrg.credit.map (fun c => if c.1 = r then (r, c.2 - 1) else c)
    last := if coxRing r then s.wrg.last else r
    lastCox := if coxRing r then r else s.wrg.lastCox } }

/-- Entries taken in are in hand no longer; what they hold of H13 is released, or awaited no longer (R419). -/
def dropTaken (s : State) (gone : Taken → Bool) : State :=
  (s.wrg.taken.filter gone).foldl (fun t e =>
    let o := ringOwner e.ring e.idx
    let t1 := if t.awaitsData e then t.dropWait 13 o else t
    if t1.heldBy 13 o = 0 then t1 else t1.freeBuffers 13 o) { s with wrg := { s.wrg with taken := s.wrg.taken.filter fun e => !gone e } }

/-- Write the completion of entry `idx` of ring `r` (R404, R405, R406), and publish the index it moves (R402). -/
def complete (s : State) (r idx status result : Nat) : State :=
  let s := s.dropTaken fun t => t.ring == r && t.idx == idx
  let s := if s.inPlace r then
      s.emit (.completionInPlace r (idx % s.ringSize r) status result)
    else
      let q := s.rd F.WRG_RING_CQ r
      let pi := s.rd F.WRG_IDX_PI q
      ((s.emit (.completion q (pi % s.ringSize q) idx r status result)).wr F.WRG_IDX_PI (pi + 1) q).publish q ((pi + 1) % 2 ^ 32)
  let s := if s.lateCi r then (s.wr F.WRG_IDX_CI (idx + 1) r).publish r ((idx + 1) % 2 ^ 32) else s
  if status = 6 then s.raiseOnce 769 r (0x9000 + r) else s

/-- Complete the oldest entries of ring `r` while their opcode is none of the four (R406 status invalid). -/
def flushInvalid (s : State) (r : Nat) : Nat → State
  | 0 => s
  | n + 1 =>
    match s.takenOf r with
    | t :: _ => if 3 < t.entry.opcode then (s.complete r t.idx 6 0).flushInvalid r n else s
    | [] => s

/-- The oldest entry of ring `r` in hand with the given opcode, and with its data. Entries of one ring take effect in index order (R415). -/
def front (s : State) (r opcode : Nat) : Option Taken :=
  match s.takenOf r with
  | t :: _ => if s.ready && t.entry.opcode = opcode && !s.awaitsData t then some t else none
  | [] => none

/-- An entry ends with a completion, and entries of no known opcode that are now oldest end with it. -/
def finish (s : State) (t : Taken) (status result : Nat) : State := (s.complete t.ring t.idx status result).flushInvalid t.ring 64

/-- Take one copy in (R403, R404): CI moves past it at once, or later where R405 or R416 says so. An answer with host data takes buffers of
H13, or waits for them (R185, R409). -/
def takeIn (s : State) (r : Nat) (e : Entry) : State :=
  let idx := s.nextIdx r
  let s1 := { s with wrg := { s.wrg with taken := s.wrg.taken ++ [Taken.mk r idx e] } }
  let s2 := if s.lateCi r then s1 else (s1.wr F.WRG_IDX_CI (idx + 1) r).publish r ((idx + 1) % 2 ^ 32)
  let s3 := s2.countOpen 0x500 0x00 (0x9000 + r)
  if e.opcode = 3 && e.dlen ≠ 0 && e.dlen ≤ 65536 then (s3.acquireFor 13 (ringOwner r idx) (buffersFor e.dlen)).1 else s3

/-- Take the covered copies of a fetch in, at most `n`; a failed read leaves its entry untaken (R437). -/
def takeCopies (s : State) (r piRead : Nat) : List (Option Entry) → Nat → State
  | _, 0 => s
  | [], _ => s
  | c :: rest, n + 1 =>
    let idx := s.nextIdx r
    if serial idx piRead = 0 || 2 ^ 31 ≤ serial idx piRead || idx = s.rd F.WRG_IDX_PI r || !s.cqRoom r ||
        (s.takenOf r).any s.awaitsData then s
    else match c with
      | none => (s.bump F.EPT_ERR_READ).raiseOnce 819 r (0x9000 + r)
      | some e => (s.takeIn r e).takeCopies r piRead rest n

/-- An inbound ring finds its completion ring disabled: EV0775 once (R419). -/
def checkCq (s : State) (r : Nat) : State :=
  let q := s.rd F.WRG_RING_CQ r
  if s.inPlace r || s.ringRuns q || s.wrg.noCq.contains r then s
  else ({ s with wrg := { s.wrg with noCq := s.wrg.noCq ++ [r] } }).raise 775 (0x9000 + r)

/-- A host write of PI of ring `r` (R400, R418). -/
def writePi (s : State) (r pi : Nat) : State :=
  if s.rd F.WRG_RING_KIND r ≠ inbound || !s.ringRuns r then s
  else if 2 ^ 31 ≤ serial (s.rd F.WRG_IDX_PI r) pi || s.ringSize r < serial (s.rd F.WRG_IDX_CI r) pi then
    s.raise 768 (0x9000 + r)
  else (s.wr F.WRG_IDX_PI pi r).checkCq r

/-- A host write of CI of ring `r` (R400); a free entry of an outbound ring carries NOTICE_LOST first (R412). -/
def writeCi (s : State) (r ci : Nat) : State :=
  if s.rd F.WRG_RING_KIND r = inbound || !s.ringRuns r then s
  else if serial (s.rd F.WRG_IDX_CI r) (s.rd F.WRG_IDX_PI r) < serial (s.rd F.WRG_IDX_CI r) ci then s.raise 768 (0x9000 + r)
  else
    let s1 := s.wr F.WRG_IDX_CI ci r
    if s1.rd F.WRG_RING_KIND r = outbound && s1.rd F.WRG_IDX_LOST r ≠ 0 && 0 < s1.ringRoom r then
      s1.noticeLost r
    else s1

/-- Enable ring `r` by a write of its word 0 (R400): the other fields are stored, both indices become 0. -/
def enableRing (s : State) (r w0 : Nat) : State :=
  let s1 := s.storeWord (F.WRG_RING_EN.addr r 0) 0x7FFFFFFF w0
  let s2 := ((s1.wr F.WRG_IDX_PI 0 r).wr F.WRG_IDX_CI 0 r).wr F.WRG_RING_EN 1 r
  let s3 := { s2.dropTaken (fun t => t.ring == r) with wrg := { (s2.dropTaken fun t => t.ring == r).wrg with
    credit := s2.wrg.credit.filter (·.1 != r)
    noCq := s2.wrg.noCq.filter fun q => q != r && s2.rd F.WRG_RING_CQ q != r } }
  s3.wr F.WRG_IDX_STATE (if s3.rd F.WRG_RING_KIND r = 3 then 0 else 1) r

end State

/-- DOORBELL (R400, R403). `cox` says that cox firmware wrote; the steward host cannot write a cox ring (R398). -/
def actDoorbell (cox : Bool) (ring pi : Nat) (s : State) : Host.Outcome State Fault Refusal :=
  .next (
    if 1024 ≤ ring || !s.ready then s
    else if State.coxRing ring && !cox then s.raise 773 (0x9000 + ring)
    else s.writePi ring (pi % 2 ^ 32))

/-- CI_WRITE (R400). -/
def actCiWrite (cox : Bool) (ring ci : Nat) (s : State) : Host.Outcome State Fault Refusal :=
  .next (
    if 1024 ≤ ring || !s.ready then s
    else if State.coxRing ring && !cox then s.raise 773 (0x9000 + ring)
    else s.writeCi ring (ci % 2 ^ 32))

/-- ENTRY_FETCH (R403, R404, R414): the arbiter's next ring takes in the covered copies that have arrived. -/
def actEntryFetch (ring piRead : Nat) (copies : List (Option Entry)) (s : State) : Host.Outcome State Fault Refusal :=
  if 1024 ≤ ring then .next s
  else
    let s1 := s.newRound (State.coxRing ring)
    if s1.arbNext (State.coxRing ring) = some ring then
      .next (((s1.visit ring).takeCopies ring piRead copies (s1.rd F.WRG_RING_BURST ring + 1)).flushInvalid ring 64)
    else .next s

/-- NOP (R407): completes with status done; a field that must be zero and is not makes it invalid (R406). -/
def actNop (ring : Nat) (s : State) : Host.Outcome State Fault Refusal :=
  match s.front ring 0 with
  | some t =>
    let e := t.entry
    let bad := e.count != 0 || e.code != 0 || e.dlen != 0 || e.item != 0 || e.daddr != 0 || e.inline.any (· != 0)
    .next (s.finish t (if bad then 6 else 0) 0)
  | none => .next s

/-- RING_ENABLE (R400). Rings do not run before ready (R40). -/
def actRingEnable (ring : Nat) (w0 : Word) (s : State) : Host.Outcome State Fault Refusal :=
  .next (if ring < 1024 && s.ready && !s.is F.WRG_RING_EN ring && w0.getLsbD 31 then s.enableRing ring w0.toNat else s)

/-- COALESCE_EXPIRY (R402): an index that advanced during the gap is reported, and a new gap begins. -/
def actCoalesceExpiry (ring : Nat) (s : State) : Host.Outcome State Fault Refusal :=
  match s.wrg.gaps.find? (·.1 == ring) with
  | none => .next s
  | some g =>
    if g.2 then
      let s1 := { s with wrg := { s.wrg with gaps := s.wrg.gaps.map fun (x : Nat × Bool) => if x.1 = ring then (ring, false) else x } }
      .next (s1.irq (s1.rd F.WRG_RING_IVEC ring))
    else .next { s with wrg := { s.wrg with gaps := s.wrg.gaps.filter (·.1 != ring) } }

end Sys2Proof.Machine
end

