-- ==== Sys2Proof/Machine/Image.lean ====
section
/-!
DEFINITION. The boot image (R51 to R57, R61 to R63 of spec/02_startup_and_boot_image.md): its bytes, the checks of R55
and its configuration entries. An image lies in a byte store whose unlisted bytes read 0xFF, at a base address.
-/

namespace Sys2Proof.Machine

namespace Image

/-- One byte; an erased byte reads 0xFF. -/
def byte (c : Cells) (a : Nat) : Nat := (c.get a).getD 0xFF % 256

/-- `n` bytes, little-endian (R52). -/
def le (c : Cells) (a : Nat) : Nat → Nat
  | 0 => 0
  | n + 1 => byte c a + 256 * le c (a + 1) n

/-- Header fields (R52). -/
def magic (c : Cells) (b : Nat) : Nat := le c b 4
def format (c : Cells) (b : Nat) : Nat := le c (b + 4) 2
def stepping (c : Cells) (b : Nat) : Nat := byte c (b + 6)
def keyslot (c : Cells) (b : Nat) : Nat := byte c (b + 7)
def sequence (c : Cells) (b : Nat) : Nat := le c (b + 8) 8
def length (c : Cells) (b : Nat) : Nat := le c (b + 0x10) 4
def sections (c : Cells) (b : Nat) : Nat := le c (b + 0x14) 2
def settle (c : Cells) (b : Nat) : Nat := le c (b + 0x16) 2

/-- Checks 0x1 to 0x4 of R55, on the header alone: 0 where all pass (R45). -/
def headCheck (c : Cells) (b : Nat) : Nat :=
  if magic c b ≠ 0x4C504C4E then 1
  else if format c b ≠ 2 then 2
  else if stepping c b ≠ 0x42 then 3
  else if sequence c b = 0 || sequence c b = 2 ^ 64 - 1 then 4
  else 0

/-- A section-table entry (R53). -/
structure Section where
  type : Nat
  flags : Nat
  offset : Nat
  length : Nat
  version : Nat
  pad : Nat
deriving DecidableEq, Repr

/-- Entry `k` of the section table at offset 0x2000. -/
def sectionAt (c : Cells) (b k : Nat) : Section :=
  let a := b + 0x2000 + 32 * k
  ⟨le c a 4, le c (a + 4) 4, le c (a + 8) 4, le c (a + 12) 4, le c (a + 16) 4, le c (a + 20) 12⟩

/-- The section table. -/
def table (c : Cells) (b : Nat) : List Section := (List.range (sections c b)).map (sectionAt c b)

/-- The section of a type, if the image has it. -/
def find (c : Cells) (b type : Nat) : Option Section := (table c b).find? (·.type == type)

/-- Two sections do not overlap. -/
def apart (x y : Section) : Bool := x.offset + x.length ≤ y.offset || y.offset + y.length ≤ x.offset

/-- Every section lies apart from those after it. -/
def allApart : List Section → Bool
  | [] => true
  | x :: rest => rest.all (apart x) && allApart rest

/-- Check 0x9 of R55: the section table meets R53, sections lie within LENGTH and apart. -/
def tableOk (c : Cells) (b : Nat) : Bool :=
  let n := sections c b
  (n == 3 || n == 4) &&
  (let t := table c b
   t.all (fun s => s.flags == 0 && s.pad == 0 && 1 ≤ s.type && s.type ≤ 4 && s.offset + s.length ≤ length c b) &&
   [1, 2, 3].all (fun k => (t.filter (·.type == k)).length == 1) &&
   (t.filter (·.type == 4)).length ≤ 1 && allApart t)

/-- A configuration entry (R62): its four words. -/
structure CfgEntry where
  w0 : Nat
  mask : Nat
  value : Nat
  tag : Nat
deriving DecidableEq, Repr

/-- The target address, apply phase and class of an entry. -/
def CfgEntry.addr (e : CfgEntry) : Nat := e.w0 % 0x1000000
def CfgEntry.phase (e : CfgEntry) : Nat := e.w0 / 0x1000000 % 4
def CfgEntry.cls (e : CfgEntry) : Nat := e.w0 / 0x10000000 % 4

/-- The configuration entries of an image, after the 16 B directory (R62). -/
def entries (c : Cells) (b : Nat) : List CfgEntry :=
  match find c b 1 with
  | none => []
  | some s =>
    let a := b + s.offset
    (List.range (min (le c a 4) 65536)).map fun k =>
      let p := a + 16 + 16 * k
      ⟨le c p 4, le c (p + 4) 4, le c (p + 8) 4, le c (p + 12) 4⟩

/-- The class of a field type: 1 B, 2 H, 3 L; 0 for a type that has none. -/
def classOf (k : Kind) : Nat :=
  match k with
  | .rwb => 1
  | .rwh => 2
  | .rw | .w1c | .wo => 3
  | .ro | .rc => 0

/-- An entry meets R62 and R63: whole fields that exist, none RO, a phase of 0 to 2, and the class of every field. -/
def CfgEntry.ok (e : CfgEntry) : Bool :=
  let fs := State.covered e.addr e.mask
  e.mask != 0 && e.phase != 3 && e.w0 / 0x4000000 % 4 == 0 && e.w0 / 0x40000000 == 0 &&
  (e.value &&& (2 ^ 32 - 1 - e.mask)) == 0 &&
  fs.all (fun f => f.1.mask &&& e.mask == f.1.mask && classOf f.1.kind == e.cls && e.cls != 0 &&
    !State.fixedField f.1 f.2.1) &&
  fs.foldl (fun m f => m + f.1.mask) 0 == e.mask

/-- Check 0xA of R55, with the directory of R62: at most 65,536 entries, and its other bytes zero. -/
def configOk (c : Cells) (b : Nat) : Bool :=
  match find c b 1 with
  | none => false
  | some s => le c (b + s.offset) 4 ≤ 65536 && le c (b + s.offset + 4) 12 == 0 && (entries c b).all CfgEntry.ok

/-- The validity checks of R55, in order, stopping at the first failure: 0 where the copy is valid. -/
def check (c : Cells) (b longest : Nat) (fuses : Fuses) (facts : CopyFacts) : Nat :=
  let h := headCheck c b
  if h ≠ 0 then h
  else if length c b % 4096 ≠ 0 || length c b < 16384 || longest < length c b then 5
  else if 3 < keyslot c b || fuses.revoked.getD (keyslot c b) true || fuses.slots.getD (keyslot c b) 0 = 0 ||
      fuses.slots.getD (keyslot c b) 0 ≠ facts.pubkeyDigest then 6
  else if !facts.signatureVerifies then 7
  else if !facts.digestMatches then 8
  else if !tableOk c b then 9
  else if !configOk c b then 10
  else 0

end Image

namespace State

/-- The start of a copy in the NOR: 0 Copy A, 1 Copy B at half the capacity (R51). -/
def copyBase (s : State) (copy : Nat) : Nat := if copy = 0 then 0 else s.boot.norCap * 2 ^ 20 / 2

/-- The first byte of the logbook: the top 8 MiB (R51). -/
def logBase (s : State) : Nat := (s.boot.norCap - 8) * 2 ^ 20

/-- The longest image (R51): the lesser of 64 MiB and half the capacity less 8 MiB. -/
def longestImage (s : State) : Nat := min (64 * 2 ^ 20) (s.boot.norCap * 2 ^ 20 / 2 - 8 * 2 ^ 20)

/-- The active copy, where there is one. -/
def activeCopy (s : State) : Option Nat :=
  match s.rd F.BOOT_STATUS_ACTIVE with
  | 1 => some 0
  | 2 => some 1
  | _ => none

/-- The copy whose microcode runs (COX_UPD.RUNCOPY), where there is one. -/
def runCopy (s : State) : Option Nat :=
  match s.rd F.COX_UPD_RUNCOPY with
  | 1 => some 0
  | 2 => some 1
  | _ => none

/-- The section of a type in a copy. -/
def sectionIn (s : State) (copy type : Nat) : Option Image.Section := Image.find s.boot.nor (s.copyBase copy) type

/-- The section version of a type in a copy (R53); 0 where it has none. -/
def versionIn (s : State) (copy type : Nat) : Nat :=
  match s.sectionIn copy type with
  | some x => x.version
  | none => 0

/-- SHA3-512 of the section of a type in a copy (R469), a published function of its bytes; zero where it has none. -/
def digestIn (s : State) (copy type : Nat) : Nat :=
  match s.sectionIn copy type with
  | some x => Config.cryptoValue 1 type (Image.le s.boot.nor (s.copyBase copy + x.offset) x.length) x.length
  | none => 0

/-- SEQUENCE of the active copy; 0 where there is none. -/
def activeSequence (s : State) : Nat :=
  match s.activeCopy with
  | some c => Image.sequence s.boot.nor (s.copyBase c)
  | none => 0

/-- Erase the NOR bytes in [lo, hi). -/
def norErase (s : State) (lo hi : Nat) : State :=
  { s with boot := { s.boot with nor := s.boot.nor.filter fun kv => kv.1 < lo || hi ≤ kv.1 } }

/-- Program bytes from an address on. -/
def norProgram (s : State) (a : Nat) : List Nat → State
  | [] => s
  | b :: rest => ({ s with boot := { s.boot with nor := s.boot.nor.put 0xFF a (b % 256) } }).norProgram (a + 1) rest

end State

end Sys2Proof.Machine
end

