-- ==== Sys2Proof/Machine/Keep.lean ====
section
/-!
DEFINITION. What survives the resets of R67.
-/

namespace Sys2Proof.Machine.State

/-- Fields that the bay-power die shows (R68, R377): the verdict of presence, power status, measurements and
temperatures, and the feeds. PDC, PFD, ABP, DLLSC and a diode found invalid (R386) are cleared. -/
def bayDieField (f : Field) : Bool :=
  [F.BAY_SLTCTL_PDS, F.BAY_PSTAT_STATE, F.BAY_PSTAT_PG, F.BAY_PSTAT_FEED, F.BAY_PSTAT_OWNER, F.BAY_PSTAT_TIMER,
    F.BAY_PSTAT_RETRY, F.BAY_PSTAT_LAST, F.BAY_MEAS_CURRENT, F.BAY_MEAS_VBAY, F.BAY_THERM_TA, F.BAY_THERM_TB,
    F.BAY_FEED_STAT_A_GOOD, F.BAY_FEED_STAT_A_V, F.BAY_FEED_STAT_B_GOOD, F.BAY_FEED_STAT_B_V].contains f

/-- Whether a stored cell belongs to the bay-power die, which a system reset does not reset (R68). -/
def bayDieCell (k : Nat) : Bool :=
  match fieldAtKey k with
  | some (f, _, _) => bayDieField f
  | none => false

/-- What every start keeps: the waiting commands, what has been sent, the counters of the model, elapsed time, the fuses,
the NOR with its logbook, the pins (R41, R43), the life sum (R67, SPR_LIFE), the logbook blocks retired (R452), what the drives' Sanitize Status logs say (R472), and
whether a drain was cut short (R197). Fuses of SRAM repairs that a drain
put off are blown (R509). -/
def keepAlways (t s : State) : State :=
  let life := s.rd F.SPR_LIFE_USED
  let blocks := s.rd F.COX_LOG_BLOCKS
  ({ t with
    pending := s.pending, out := s.out, free := s.free, now := s.now, jtag := s.jtag
    fuses := { s.fuses with sramRepairs := s.fuses.sramRepairs ++ s.spr.soft }
    hmp := { t.hmp with drainCut := s.hmp.drainCut || (decide (0 < s.hmp.drain) && decide (s.hmp.drain < 8)) }
    boot := { t.boot with
      norOk := s.boot.norOk, norCap := s.boot.norCap, nor := s.boot.nor, perstLow := s.boot.perstLow
      pins := s.boot.pins, norOctal := s.boot.norOctal, hold := if s.boot.hold ≠ 0 || s.hmp.pfLow then 1 else 0 }
    cox := { t.cox with
      log := s.cox.log, sanitizing := s.cox.sanitizing, sanFailed := s.cox.sanFailed, sanActions := s.cox.sanActions }
    spr := { t.spr with lifeRest := s.spr.lifeRest } }.wr F.SPR_LIFE_USED life).wr F.COX_LOG_BLOCKS blocks

/-- A bay as a system reset leaves it (R68, R375, R386, R391): what the core die held is cleared, PERST is asserted. -/
def bayThroughReset (s : State) (nn : Nat) : Bay :=
  { s.bayAt nn with
    perst := true, diode := none, refusedBlink := false, buttonBlink := false, stopWanted := false, trains := 0
    ready := false, kept := s.is F.BAY_PSTAT_PG nn }

/-- What a system reset keeps besides: the bay-power die's state (R68), with PERST held until step 8, and the count of SRAM repairs since the last cold start. -/
def keepBays (t s : State) : State :=
  let t1 := (s.regs.filter fun kv => bayDieCell kv.1).foldl (fun u kv => { u with regs := u.regs.write kv.1 kv.2 }) t
  let t2 := t1.wr F.SPR_REPAIR_SRAM (s.rd F.SPR_REPAIR_SRAM)
  { t2 with bay := ⟨(List.range 32).map s.bayThroughReset, s.bay.released, true, false⟩ }

end Sys2Proof.Machine.State
end

