-- ==== Sys2Proof/Machine/Start.lean ====
section
/-!
DEFINITION. Start-up from 12 V good to a valid copy, the recovery mode and the system reset
(R37 to R61, R67, R68 of spec/02_startup_and_boot_image.md; R513, R528 of spec/18_electrical_and_package.md).
-/

namespace Sys2Proof.Machine

open State

namespace State

/-- Sample the straps' pins into SYS_STRAP (R43); BAY_MASTER says who drives the gates (R372). -/
def sampleStraps (s : State) (p : Straps) : State :=
  ((({ s with boot := { s.boot with pins := p } }.wr F.SYS_STRAP_SETTLE p.settle).wr F.SYS_STRAP_BAY_MASTER (if p.bayMaster then 1 else 0)).wr
    F.SYS_STRAP_TWIN_PRSNT (if p.twinPrsnt then 1 else 0)).settleOwner

/-- A copy is a candidate (R45). -/
def candidate (s : State) (copy : Nat) : Bool := s.boot.norOk && Image.headCheck s.boot.nor (s.copyBase copy) == 0

/-- SEQUENCE of a copy's header where it is a candidate, else 0. -/
def candSeq (s : State) (copy : Nat) : Nat :=
  if s.candidate copy then Image.sequence s.boot.nor (s.copyBase copy) else 0

/-- The copy checked first: the candidate with the higher sequence number, Copy A where they are equal (R45, R56). -/
def firstCopy (s : State) : Nat := if s.candSeq 0 < s.candSeq 1 then 1 else 0

/-- The NOR is reset by Reset Enable and Reset Memory in either form, whichever it listens to, and then answers in 1S-1S-1S form
(R527). -/
def resetNor (s : State) : State :=
  { (((s.emit (.norCommand 0x66 true)).emit (.norCommand 0x99 true)).emit (.norCommand 0x66 false)).emit (.norCommand 0x99 false) with
    boot := { s.boot with norOctal := false } }

/-- Until step 6 the XSP and TOD domains run from the watch oscillator, and the others are stopped (R81). -/
def watchDomains (s : State) : State := (s.setDom 5 2 false false).setDom 6 2 false false

/-- Step 4 of R38: the NOR is reset, and both headers are read. -/
def readHeaders (s : State) : State :=
  let s := s.resetNor
  (((s.wr F.BOOT_SEQ_A_LO_SEQ (s.candSeq 0 % 2 ^ 32)).wr F.BOOT_SEQ_A_HI_SEQ (s.candSeq 0 / 2 ^ 32)).wr
    F.BOOT_SEQ_B_LO_SEQ (s.candSeq 1 % 2 ^ 32)).wr F.BOOT_SEQ_B_HI_SEQ (s.candSeq 1 / 2 ^ 32)

/-- The strap's settle delay in ms (R44). -/
def strapSettle (n : Nat) : Nat := [0, 1, 2, 5, 10, 20, 50, 100].getD n 0

/-- The settle delay and its source (R45): the chosen candidate's override, or the strap. -/
def chooseSettle (s : State) : Nat × Nat :=
  let c := s.firstCopy
  let w := Image.settle s.boot.nor (s.copyBase c)
  if s.candidate c && w.testBit 15 then (w % 1024, c + 1) else (strapSettle (s.rd F.SYS_STRAP_SETTLE), 0)

/-- A hardware fault that no spare can replace stops start-up (R42): STAGE 0xD and a HALT record. -/
def haltStart (s : State) (tag unit : Nat) : State := (s.setStage 0xD).logOpen kHalt [0xD, tag, unit]

/-- A start step ends in what it does, or in the halt for a hardware fault of a unit (R42). -/
def orHalt (s : State) (fault : Option Nat) (act : State → State) : State :=
  match fault with
  | some u => s.haltStart 0 u
  | none => act s

/-- A sequence that begins while PWR_FAIL_N is asserted stops at the end of its first step (R41). -/
def holdIfFailing (s : State) : State := if s.boot.hold = 1 then { s with boot := { s.boot with hold := 2 } } else s

/-- An end of a start step takes effect unless PWR_FAIL_N has stopped the sequence; while it is asserted, the sequence
stops at the end of this step (R41). -/
def step1 (s : State) (act : State → State) : State :=
  if 2 ≤ s.boot.hold then s
  else
    (act s).holdIfFailing

/-- Enter recovery mode (R59): the console is served, and the endpoint trains once a reference has passed. No bay is powered: a bay
that a system reset has kept on goes OFF, and none leaves COOLING. -/
def enterRecovery (s : State) : State :=
  let s1 := { s with bay := { s.bay with released := false } }.setStage 0xE
  (List.range 32).foldl (fun t nn => if (t.bayAt nn).gate then t.bayOff nn else t) s1

/-- The state with nothing but what a system reset keeps (R67): fuses, NOR contents with the logbook, and the
bay-power die. BOOT_STATUS.SETTLE_MS still shows the last cold start. The model's own queue, record and counters stay too. -/
def systemClear (s : State) (cause : Nat) : State :=
  let s1 := (State.reset.keepAlways s |>.keepBays s).wr F.SYS_STATUS_CAUSE cause
  s1.wr F.BOOT_STATUS_SETTLE_MS (s.rd F.BOOT_STATUS_SETTLE_MS)

/-- Restart at step 3 without a settle delay (R47, R67): straps, headers, and the reference check begins. -/
def restart3 (s : State) (p : Straps) : State :=
  let s1 := (s.watchDomains.sampleStraps p).readHeaders
  { s1.setStage 2 with boot := { s1.boot with rstLow := false } }.holdIfFailing

/-- A whole system reset: clear, then restart. -/
def systemReset (s : State) (cause : Nat) (p : Straps) : State := (s.systemClear cause).restart3 p

/-- Everything stops for want of a valid VIN12 (R513): what a cold start clears is lost at once. -/
def powerLoss (s : State) : State := State.reset.keepAlways s

/-- A reference check's outcome (R48, R49, R59). -/
def referenceChecked (s : State) (a b : Nat) : State :=
  let c (v : Nat) : RefChecks := ⟨decide (3 ≤ v), v == 2, v == 1⟩
  let s1 := (((s.setRef 0 (min a 3)).setRef 1 (min b 3)).setChecks 0 (c a)).setChecks 1 (c b)
  if a = 0 || b = 0 then
    let t := if a = 0 then 0 else 1
    let s2 := (List.range 7).foldl (fun u d => u.setDom d t false false) (s1.setActive t)
    let s3 := { s2 with boot := { s2.boot with refPassed := true } }
    if s3.boot.norOk then
      { s3.setStage 3 with boot := { s3.boot with checking := some s3.firstCopy, norOctal := true } }
    else s3.enterRecovery
  else
    let s2 := { s1 with boot := { s1.boot with refFailed := true } }
    if !s2.boot.norOk then s2.enterRecovery
    else if s2.stage = 0xC then s2
    else
      let s3 := s2.setStage 0xC
      s3.logOpen kRefWait [s3.readWord 0x20004]

/-- Store a copy's failure code in BOOT_STATUS. -/
def setFail (s : State) (copy code : Nat) : State :=
  if copy = 0 then s.wr F.BOOT_STATUS_FAIL_A code else s.wr F.BOOT_STATUS_FAIL_B code

/-- A copy's result as BOOT_STATUS shows it; 0xF is not checked. -/
def failOf (s : State) (copy : Nat) : Nat :=
  if copy = 0 then s.rd F.BOOT_STATUS_FAIL_A else s.rd F.BOOT_STATUS_FAIL_B

/-- The check of copy `c` has ended (R55, R56). -/
def copyChecked (s : State) (c : Nat) (facts : CopyFacts) : State :=
  let code := Image.check s.boot.nor (s.copyBase c) s.longestImage s.fuses facts
  let s1 := s.setFail c code
  if code = 0 then
    { ((s1.wr F.BOOT_STATUS_ACTIVE (c + 1)).wr F.COX_UPD_RUNCOPY (c + 1)).setStage 4 with
      boot := { s1.boot with checking := none } }
  else if s1.failOf (1 - c) = 0xF then { s1 with boot := { s1.boot with checking := some (1 - c) } }
  else { s1.enterRecovery with boot := { s1.boot with checking := none } }

/-- A NOR range lies within one copy region (R51, R61): below half the capacity, or from there up to the logbook. -/
def inOneRegion (s : State) (lo hi : Nat) : Bool :=
  let half := s.copyBase 1
  s.boot.norOk && lo < hi && (hi ≤ half || (half ≤ lo && hi ≤ s.logBase))

/-- A recovery command is accepted (R60): in recovery mode, and by the endpoint only while its link is active, BAR0 is decoded, and
the command word holds the command's code. -/
def takesRecovery (s : State) (ep : Bool) (code : Nat) : Bool :=
  s.stage == 0xE && (!ep || (s.ept.dlActive && !s.ept.d3hot && s.ept.memSpace && s.boot.bar.cmd == code))

/-- Write words of 32 bits into the data buffer of BAR0 from an offset on, little-endian. -/
def bufWords (c : Cells) (a : Nat) : List Nat → Cells
  | [] => c
  | w :: rest =>
    bufWords ((List.range 4).foldl (fun (d : Cells) (k : Nat) => d.put 0 (a + k) (w / 256 ^ k % 256)) c) (a + 4) rest

/-- The outcome of a recovery command (R60, R61): a line on the console; by the endpoint, the status word, and what it returns as
words from the start of the buffer (DESIGN CHOICE, log entry 106). The command word returns to 0. -/
def answerRecovery (s : State) (ep : Bool) (status : Nat) (data : List Nat) : State :=
  if ep then
    let r := s.boot.bar
    { s with boot := { s.boot with bar := { r with cmd := 0, status := status, buf := bufWords r.buf 0 data } } }
  else s.emit (.recovery status data)

end State

/-- COLD_START (R38 steps 1 to 4). -/
def execColdStart (straps : Straps) (norAnswers : Bool) (norCap : Nat) (fault : Option Nat) (s : State) :
    Host.Outcome State Fault Refusal :=
  let s0 := (State.reset.keepAlways s).watchDomains.sampleStraps straps
  let s1 := { s0.setStage 1 with
    now := 0
    boot := { s0.boot with norOk := norAnswers && [64, 128, 256, 512].contains norCap, norCap := norCap } }
  match fault with
  | some u => .next (s1.haltStart 0 u)
  | none =>
    let s2 := s1.readHeaders
    let (ms, src) := s2.chooseSettle
    .next ((s2.wr F.BOOT_STATUS_SETTLE_MS ms).wr F.BOOT_STATUS_SETTLE_SRC src).holdIfFailing

/-- SETTLE_DELAY_END (R42, R47). -/
def execSettleDelayEnd (fault : Option Nat) (s : State) : Host.Outcome State Fault Refusal :=
  .next (if s.stage = 1 then s.step1 fun t => t.orHalt fault fun u => u.setStage 2 else s)

/-- REFERENCE_CHECK (R42, R48): the state that the monitor's checks give each reference; a good one passes. -/
def execReferenceCheck (aState bState : Nat) (fault : Option Nat) (s : State) : Host.Outcome State Fault Refusal :=
  .next (if s.stage = 2 then s.step1 fun t => t.orHalt fault fun u => u.referenceChecked aState bState else s)

/-- REFERENCE_CHECK_RETRY (R49): the repeat of the check in STAGE 0xC, or in recovery mode without a reference (R59). -/
def execReferenceCheckRetry (aState bState : Nat) (fault : Option Nat) (s : State) : Host.Outcome State Fault Refusal :=
  .next (if s.stage = 0xC || (s.stage = 0xE && !s.boot.refPassed) then
      s.step1 fun t => t.orHalt fault fun u => u.referenceChecked aState bState
    else s)

/-- COPY_CHECK_COMPLETE (R42, R55, R56). -/
def execCopyCheckComplete (facts : CopyFacts) (fault : Option Nat) (s : State) : Host.Outcome State Fault Refusal :=
  match s.boot.checking with
  | some c => .next (if s.stage = 3 then s.step1 fun t => t.orHalt fault fun u => u.copyChecked c facts else s)
  | none => .next s

/-- PWR_FAIL_BEFORE_READY (R41). -/
def execPwrFailBeforeReady (s : State) : Host.Outcome State Fault Refusal :=
  .next (if s.ready || s.boot.hold ≠ 0 then s else { s with boot := { s.boot with hold := 1 } })

/-- RECOVERY_STATUS (R60). `ep` says that the command comes by the endpoint's BAR0. -/
def execRecoveryStatus (ep : Bool) (s : State) : Host.Outcome State Fault Refusal :=
  .next (if s.takesRecovery ep 1 then s.answerRecovery ep 0 [s.readWord 0x10000, s.boot.norCap, s.failOf 0, s.failOf 1] else s)

/-- RECOVERY_ERASE (R60): offset 0 selects Copy A, any other offset Copy B. An offset in the logbook touches it (R61). By the endpoint,
which gives no operand here, BAR0 holds the offset. An ERASE when the NOR does not answer is refused with 0x2 (DESIGN CHOICE, log
entry 106). -/
def execRecoveryErase (offset : Option Nat) (s : State) : Host.Outcome State Fault Refusal :=
  let ep := offset.isNone
  let a := offset.getD s.boot.bar.offset
  .next (
    if !s.takesRecovery ep 2 then s
    else if !s.boot.norOk || s.logBase ≤ a then s.answerRecovery ep 2 []
    else (s.norErase (if a = 0 then 0 else s.copyBase 1) (if a = 0 then s.copyBase 1 else s.logBase)).answerRecovery ep 0 [])

/-- RECOVERY_WRITE (R60, R61). By the endpoint, BAR0 holds the offset, the length and the data. A WRITE of no byte, of more than
64 KiB, or when the NOR does not answer is refused with 0x2 (DESIGN CHOICE, log entry 106). -/
def execRecoveryWrite (data : Option (Nat × List Nat)) (s : State) : Host.Outcome State Fault Refusal :=
  let ep := data.isNone
  let r := s.boot.bar
  let a := (data.map (·.1)).getD r.offset
  let bytes := (data.map (·.2)).getD ((List.range (min r.length 65537)).map fun k => (r.buf.get k).getD 0)
  .next (
    if !s.takesRecovery ep 3 then s
    else if 65536 < bytes.length || !s.inOneRegion a (a + bytes.length) then s.answerRecovery ep 2 []
    else (s.norProgram a bytes).answerRecovery ep 0 [])

/-- RECOVERY_CHECK (R60): runs the checks of R55 on one copy and returns the code. By the endpoint, offset 0 selects Copy A and any
other offset Copy B, as for ERASE (DESIGN CHOICE, log entry 106). The code is kept in BOOT_STATUS too (log entry 107). -/
def execRecoveryCheck (copy : Option Nat) (facts : CopyFacts) (s : State) : Host.Outcome State Fault Refusal :=
  let ep := copy.isNone
  let c := if copy.getD s.boot.bar.offset = 0 then 0 else 1
  let code := Image.check s.boot.nor (s.copyBase c) s.longestImage s.fuses facts
  .next (if s.takesRecovery ep 4 then (s.setFail c code).answerRecovery ep 0 [code] else s)

/-- RECOVERY_RESTART (R60, R67). -/
def execRecoveryRestart (ep : Bool) (straps : Straps) (s : State) : Host.Outcome State Fault Refusal :=
  .next (if s.takesRecovery ep 5 then s.systemReset 3 straps else s)

/-- SYS_RST_N (R67, R528): the reset begins; the start resumes at the release of the pin. -/
def execSysRstN (s : State) : Host.Outcome State Fault Refusal :=
  let t := s.systemClear 1
  .next { t with boot := { t.boot with rstLow := true } }

/-- SYS_RST_N_RELEASE (R528, R534): a loaded EXTEST falls back to BYPASS, and the start resumes at step 3. -/
def execSysRstNRelease (straps : Straps) (s : State) : Host.Outcome State Fault Refusal :=
  if s.boot.rstLow then
    .next ({ s with jtag := if s.jtag = Jtag.idcode then Jtag.idcode else Jtag.bypass }.restart3 straps)
  else .next s

/-- SYS_RESET_SYSTEM (R67, R70's register table): keyed; with COX set as well it is still a system reset. -/
def execSysResetSystem (value : Word) (straps : Straps) (s : State) : Host.Outcome State Fault Refusal :=
  .next (if value.toNat / 65536 = 0x5A3C && value.getLsbD 0 then s.systemReset 2 straps else s)

/-- WATCH_MODE_RESTART (R89). -/
def execWatchModeRestart (straps : Straps) (s : State) : Host.Outcome State Fault Refusal :=
  .next (if s.is F.CLK_STATUS_WATCH && s.is F.CLK_CTRL_AUTO_RESTART then s.systemReset 2 straps else s)

/-- VIN12_UNDERVOLTAGE (R513): every regulator phase stops and every output becomes high impedance. -/
def execVin12Undervoltage (s : State) : Host.Outcome State Fault Refusal := .next s.powerLoss

/-- VIN12_OVERVOLTAGE (R513). -/
def execVin12Overvoltage (s : State) : Host.Outcome State Fault Refusal := .next s.powerLoss

/-- VIN12_EXCURSION (R513): VIN12 outside 10.5 V to 13.8 V, or a regulator domain more than 5 % from its set point. -/
def actVin12Excursion (domain : Option Nat) (s : State) : Host.Outcome State Fault Refusal :=
  .next (match domain with
    | some d => if d < 14 then s.raise 1 0x0000 else s
    | none => s.raise 1 0x0000)

end Sys2Proof.Machine
end

