-- ==== Sys2Proof/Machine/Twin.lean ====
section
/-!
DEFINITION. The twin pair (spec/08_degradation_rebuild_takeover.md, R270 to R285): frames of the twin link, the mirror of the
partner's state, the loss of the partner, takeover, planned handover and joining.
-/

namespace Sys2Proof

/-- The identifier of a command record, and of a command's state. -/
def CmdRec.id (r : CmdRec) : Machine.CmdId := ⟨r.cntlid, r.qid, r.cid, r.msgid⟩
def StateRec.id (r : StateRec) : Machine.CmdId := ⟨r.cntlid, r.qid, r.cid, r.msgid⟩

end Sys2Proof

namespace Sys2Proof.Machine

/-- The effect of a record on the map entries of its volume (R236, R276). -/
def mapEffect (m : List (Nat × Nat)) (r : JRec) : List (Nat × Nat) :=
  let put (g e : Nat) : List (Nat × Nat) := (m.filter fun p => p.1 != g) ++ (if e = 0 then [] else [(g, e)])
  match r.kind with
  | 2 | 3 => put r.addr r.aux
  | 5 => (State.grainsTouched r.addr r.count).foldl (fun a g => if State.coversGrain r.addr r.count g then a.filter (·.1 != g) else a) m
  | 6 => if (m.lookup r.addr).getD 0 = r.payload.getD 0 0 then put r.addr r.aux else m
  | _ => m

/-- The effect of records on the maps of several volumes. -/
def mapEffects (maps : List (Nat × List (Nat × Nat))) (recs : List JRec) : List (Nat × List (Nat × Nat)) :=
  recs.foldl (fun ms r =>
    if [2, 3, 5, 6].contains r.kind then
      (ms.filter (·.1 != r.vol)) ++ [(r.vol, mapEffect ((ms.lookup r.vol).getD []) r)]
    else ms) maps

/-- Two block images of one place. -/
def sameBlock (a b : BlockRec) : Bool :=
  a.crew == b.crew && a.start == b.start && a.kind == b.kind && a.heat == b.heat && a.index == b.index

namespace State

/-- The owner of the buffers of a block image in H12. -/
def imageOwner (r : BlockRec) : Nat × Nat × Nat := (2 ^ 67 + r.crew, r.heat, r.start * 2 ^ 40 + r.kind * 2 ^ 32 + r.index)

/-- Hold a block image of the partner in H12 (R273); false where H12 has no buffers for it. The reservation state that its
records carry is held too. -/
def holdBlock (s : State) (r : BlockRec) : State × Bool :=
  let rest := s.twn.blocks.filter fun b => !sameBlock b r
  let (s1, ok) := if rest.length = s.twn.blocks.length then s.takeBuffers 12 (imageOwner r) 16 else (s, true)
  if !ok then (s1, false)
  else
    let s2 := { s1 with twn := { s1.twn with blocks := rest ++ [r] } }
    ((r.recs.filter (·.kind == 7)).foldl (fun t q => t.setRsv (foundReservation (q.vol + 1) q.payload)) s2, true)

/-- Journal records of a segment of the partner as held, with the index of their block. -/
def heldRecs (s : State) (n heat : Nat) : List (Nat × JRec) :=
  (s.twn.blocks.filter fun b => b.crew == n && b.heat == heat && b.kind == 0).flatMap fun b => b.recs.map fun r => (b.index, foundRec r)

/-- A segment of the partner is released (R186, R240): its map effects stand in the maps (R276), and its images go. -/
def releaseHeld (s : State) (n heat : Nat) : State :=
  let gone := s.twn.blocks.filter fun b => b.crew == n && b.heat == heat
  let maps := mapEffects s.twn.maps (appliedRecs ((s.heldRecs n heat).map (·.2)))
  let s1 := { s with twn := { s.twn with maps := maps, blocks := s.twn.blocks.filter fun b => !(b.crew == n && b.heat == heat) } }
  gone.foldl (fun t b => t.freeBuffers 12 (imageOwner b)) s1

/-- The owner of the buffer of H12 that mirrors a command of the partner. -/
def recOwner (c : CmdId) : Nat × Nat × Nat := (2 ^ 70 + c.cntlid, c.qid * 65536 + c.cid, c.msgid)

/-- Hold a command record (R273); false where H12 has no buffer for it (R185). -/
def holdCmdRec (s : State) (r : CmdRec) : State × Bool :=
  let (s1, ok) := if s.twn.cmds.any (·.cmd.id == r.id) then (s, true) else s.takeBuffers 12 (recOwner r.id) 1
  if !ok then (s1, false)
  else
    ({ s1 with twn := { s1.twn with
      cmds := (s1.twn.cmds.filter fun (m : MirrorCmd) => m.cmd.id != r.id) ++ [⟨r, stateRec r.id 0 none none⟩] } }, true)

/-- The mirrored commands that a test names are forgotten, and their buffers of H12 are released. -/
def dropRecs (s : State) (gone : MirrorCmd → Bool) : State :=
  (s.twn.cmds.filter gone).foldl (fun t m => t.freeBuffers 12 (recOwner m.cmd.id))
    { s with twn := { s.twn with cmds := s.twn.cmds.filter fun m => !gone m } }

/-- Hold a command's new state; a released command is forgotten (R273). -/
def holdState (s : State) (r : StateRec) : State :=
  if r.state = 3 then s.dropRecs fun m => m.cmd.id == r.id
  else
    let put (m : MirrorCmd) : MirrorCmd :=
      if m.cmd.id = r.id then { m with state := { r with group := match r.group with
        | some g => some g
        | none => m.state.group } } else m
    { s with twn := { s.twn with cmds := s.twn.cmds.map put } }

/-- Hold an association record, or forget one that has ended. -/
def holdAssoc (s : State) (r : AssocRec) : State :=
  let rest := s.twn.assocs.filter (·.cntlid != r.cntlid)
  if r.gone then { s with twn := { s.twn with assocs := rest } }.dropRecs fun m => m.cmd.cntlid == r.cntlid
  else { s with twn := { s.twn with assocs := rest ++ [r] } }

/-- A seat of a crew of the partner, as its record gives it. Catch-up logs are not mirrored: what they hold is carried from
H12 again, so a seat at easy, in recovery or recalled is in service. -/
def seatFrom (s : State) (r : CrewRec) (i : Nat) : Seat :=
  let st := r.states.getD i 6
  let bay := r.bays.getD i 0x3F
  let x := Seat.fresh (if bay = 0x3F then none else some bay) (if st = 1 || st = 2 || st = 3 then 0 else st)
  if st = 5 then { x with running := true, plan := [(r.frontier, s.rd F.CRW_CREW_ROWS r.crew)], rate := s.ef F.CRW_RBLD_RATE } else x

/-- Seat states, spare assignments and frontiers of a crew of the partner show in this NP32's registers (R273). -/
def showPartner (s : State) (r : CrewRec) : State :=
  let seats := (List.range r.states.length).map fun i => { s.seatFrom r i with st := r.states.getD i 6 }
  s.showCrew r.crew (newCrew r.print r.gen r.smin seats 0 0)

/-- Hold the seats of a crew. A spare that both twins have taken stays with the BAY_MASTER twin (R290): an NP32 without
BAY_MASTER withdraws its own assignment, and its crew takes the next spare. A crew that this NP32 has handed over is adopted. -/
def holdCrew (s : State) (r : CrewRec) : State :=
  let s1 := ({ s with twn := { s.twn with seats := (s.twn.seats.filter fun (x : CrewRec) => x.crew != r.crew) ++ [r] } }.wr F.CRW_CREW_ROWS
    (s.rowsFor r.crew r.smin) r.crew).showPartner r
  let s2 := if s1.is F.SYS_STRAP_BAY_MASTER then s1 else
    s1.crw.crews.foldl (fun (t : State) (e : Nat × Crew) => (List.range e.2.seats.length).foldl (fun (u : State) (i : Nat) =>
      match u.seatOf e.1 i with
      | some x => match x.bay with
        | some nn => if x.st = 5 && r.bays.contains nn then u.absentSeat e.1 i else u
        | none => u
      | none => u) t) s1
  if s2.twn.handed.contains r.crew then
    let left := dropFrom s2.twn.handed r.crew
    let s3 := { s2 with twn := { s2.twn with handed := left, stopped := s2.twn.stopped && !(left.isEmpty && s2.twn.handBack) } }
    if left.isEmpty then s3.raise 964 0xA000 else s3
  else s2

/-- Frames that ACKSEQ acknowledges are no longer kept (R274). Once the partner has all that a joining NP32 needs, it is whole
(R284): EV0965, and with GIVEBACK set its crews are handed back at the next turn. -/
def ackTwin (s : State) (ackseq : Nat) : State :=
  let s1 := { s with twn := { s.twn with sent := s.twn.sent.filter fun f => !before f.1 ackseq } }
  match s1.twn.syncing with
  | none => s1
  | some n =>
    if s1.twn.sent.any (·.1 == n) then s1
    else
      let s2 := ({ s1 with twn := { s1.twn with syncing := none } }.wr F.TWN_STATUS_STATE 2).raise 965 0xA000
      let back := (List.range 8).filter fun c => s2.owns c && !s2.prefers c
      if s2.ef F.TWN_CFG_GIVEBACK = 1 && !back.isEmpty then { s2 with twn := { s2.twn with handing := some (back, true, s2.heat) } } else s2

/-- A frame arrives (R274). One with a bad CRC, or after a gap in SEQ, is answered with this NP32's ACKSEQ; a copy is dropped;
one that cannot be held yet is not acknowledged. -/
def rxFrame (s : State) (h : TwHdr) (act : State → State × Bool) : State :=
  if !s.twinShelf || !s.is F.TWN_STATUS_LINK then s
  else if !h.crcOk then s.sendTwin .heartbeat
  else
    let s1 := s.ackTwin h.ackseq
    if h.seq = s1.twn.rxNext then
      let (s2, ok) := act { s1 with twn := { s1.twn with rxNext := (h.seq + 1) % 2 ^ 32 } }
      if ok then s2 else { s2 with twn := { s2.twn with rxNext := h.seq } }
    else if before h.seq s1.twn.rxNext then s1
    else s1.sendTwin .heartbeat

/-- Kept frames are sent again from the one that the partner expects (R274). -/
def resendTwin (s : State) : State := s.twn.sent.foldl (fun t f => t.emit (.twin f.1 t.twn.rxNext f.2)) s

/-- Frame numbers of an earlier pairing no longer stand for anything. -/
def unframe (s : State) : State :=
  let cmds := s.nvt.cmds.map fun (k : Cmd) => { k with recFrame := none, gate := none }
  let clear (g : Segment) : Segment := { g with blocks := g.blocks.map fun (b : JBlock) => { b with frame := none } }
  let crews := s.crw.crews.map fun e => (e.1, { e.2 with labelFrame := none, seg := clear e.2.seg, old := e.2.old.map clear })
  { s with nvt := { s.nvt with cmds := cmds }, crw := { s.crw with crews := crews } }

/-- Send the closed blocks of a segment to a joining partner (R284). -/
def syncSegment (s : State) (n : Nat) (g : Segment) : State :=
  (g.blocks.filter fun b => b.closed && !g.released).foldl (fun t b =>
    let fr := t.twn.txNext
    (t.sendTwin (.sync (.block (blockRec n g b)))).modSegment n g.heat fun h => { h with blocks := h.blocks.map fun d =>
      if d.kind = b.kind && d.index = b.index then { d with frame := some fr } else d }) s

/-- The record of a command that this NP32 holds, its times in time of day. -/
def cmdRecOf (s : State) (k : Cmd) : CmdRec :=
  cmdRec k.id k.flow k.keyhi k.enc k.req (s.tod - (s.now - k.at_)) (s.tod + k.answerAt - s.now)
def stateRecOf (k : Cmd) : StateRec := stateRec k.id (if k.phase = 3 then 2 else if k.phase = 2 then 1 else 0) k.answer k.group

/-- A joining NP32 is sent the state that it needs to mirror (R284). -/
def syncPartner (s : State) : State :=
  let sync (t : State) (p : SyncPart) : State := t.sendTwin (.sync p)
  let s1 := s.nvt.assocs.foldl (fun t a => sync t (.assoc (t.assocRec a false))) s
  let s2 := (s1.nvt.cmds.filter fun k => !k.req.free).foldl (fun t k =>
    let u := sync t (.cmd (t.cmdRecOf k))
    if 2 ≤ k.phase then sync u (.state (stateRecOf k)) else u) s1
  let s3 := s2.crw.crews.foldl (fun t e => sync t (.crew (t.crewRec e.1 e.2))) s2
  let s4 := s3.crw.crews.foldl (fun t e => (e.2.old ++ [e.2.seg]).foldl (fun u g => u.syncSegment e.1 g) t) s3
  let s5 := (s4.crw.vols.filter fun x => x.priv && !s4.prefers x.crew).foldl (fun t x => sync t (.map x.v x.map)) s4
  let s6 := s5.nvt.reservations.foldl (fun t r => sync t (.reservation r.nsid r.gen r.regs r.rtype r.holder r.ptpl)) s5
  let last := s6.twn.txNext
  let s7 := sync s6 .done
  { s7 with twn := { s7.twn with syncing := some last } }

/-- A SYNC frame (R284): when the mirror is whole this NP32 is paired. -/
def takeSync (s : State) (p : SyncPart) : State × Bool :=
  match p with
  | .assoc r => (s.holdAssoc r, true)
  | .cmd r => s.holdCmdRec r
  | .state r => (s.holdState r, true)
  | .block r => s.holdBlock r
  | .crew r => (s.holdCrew r, true)
  | .map v es => ({ s with twn := { s.twn with maps := (s.twn.maps.filter (·.1 != v)) ++ [(v, es)] } }, true)
  | .reservation nsid gen regs rtype holder ptpl => (s.setRsv ⟨nsid, gen, regs, rtype, holder, ptpl⟩, true)
  | .done => if s.twinState = 1 then ((s.wr F.TWN_STATUS_STATE 2).raise 965 0xA000, true) else (s, true)

/-- The mirror of the partner's state is forgotten, and its buffers are released. -/
def clearMirror (s : State) : State :=
  let s1 := s.twn.blocks.foldl (fun t b => t.freeBuffers 12 (imageOwner b)) (s.dropRecs fun _ => true)
  { s1 with twn := { s1.twn with assocs := [], blocks := [], seats := [], maps := [] } }

/-- The twin link has trained (R192, R270, R284, R285): the twins exchange heat number, heat length, BAY_MASTER and PREF. -/
def linkTrained (s : State) (heat lenCode : Nat) (bayMaster : Bool) (pref : Nat) (running : Bool) : State :=
  if !s.twinShelf || s.is F.TWN_STATUS_LINK || !(s.stage == 5 || s.ready) || s.gateForced 8 || s.is F.CLK_STATUS_WATCH then s
  else
    let s1 := { s.wr F.TWN_STATUS_LINK 1 with twn := { s.twn with
      txNext := 0, rxNext := 0, sent := [], syncing := none, partnerMaster := some bayMaster } }.unframe
    if min 6 lenCode ≠ s.ef F.HMP_HEAT_LEN then
      (({ s1 with twn := { s1.twn with unlike := true } }.wr F.TWN_STATUS_STATE 4).wr F.HMP_ALIGN_STAT_LEAD 1).raise 32 0x0000
    else
      let leads := decide (heat < s.heat) || (heat == s.heat && s.is F.SYS_STRAP_BAY_MASTER)
      let s2 := { s1 with twn := { s1.twn with unlike := false } }.wr F.HMP_ALIGN_STAT_LEAD (if leads then 1 else 0)
      let s3 := if pref = s.rd F.TWN_OWN_PREF then s2
        else (if bayMaster then s2.wrBoth F.TWN_OWN_PREF pref else s2).raise 966 0xA000
      if !s.ready then
        if running then { s3 with sw := { s3.sw with ownOff := true } }.wr F.TWN_STATUS_STATE 1
        else s3.wr F.TWN_STATUS_STATE 2
      else if running then s3
      else s3.syncPartner

/-- Drives on which a takeover acquires the reservation (R279 step 2): those of the crews that the partner owned, as its records
give them, and, of a crew without a record, those whose labels name it. -/
def takeoverBays (s : State) : List (Nat × Nat) :=
  (s.twn.seats.flatMap fun r =>
    (r.bays.zip r.states).filterMap fun p => if p.1 = 0x3F || p.2 = 4 || p.2 = 6 then none else some (r.crew, p.1)) ++
  (List.range 8).flatMap fun n =>
    if s.configured n && !s.prefers n && (s.crewOf n).isNone && !s.twn.seats.any (·.crew == n) then
      (s.labelsOf n).map fun l => (n, l.1) else []

/-- The key under which this NP32 registers on every drive (R271). -/
abbrev drvKey := Config.uniqueId % 2 ^ 64

/-- Reservation Acquire goes to drives; `preempt` on a takeover, not on a handover (R279, R283). -/
def acquireBays (s : State) (l : List (Nat × Nat)) (preempt : Bool) : State :=
  let s1 := l.foldl (fun t b => t.issueBay b.2 (.acquire drvKey preempt)) s
  { s1 with twn := { s1.twn with taking := true, acquiring := l, deferring := false } }

/-- Step 2 of a takeover (R278, R279): the twin without BAY_MASTER drives the bay gates from now. -/
def startTakeover (s : State) : State :=
  let s1 := if s.is F.SYS_STRAP_BAY_MASTER then s else s.becomeOwner
  s1.acquireBays s1.takeoverBays true

/-- The crews that the partner owns, a bit for each (R413). -/
def partnerCrews (s : State) : Nat :=
  (List.range 8).foldl (fun w n => if s.configured n && !s.owns n then w + 2 ^ n else w) 0

/-- The partner is lost (R277, R278, R282), by `cause` as R413 codes it: 0 link lock, 1 silence, 2 FATAL. Without BAY_MASTER the takeover waits for TWN_CFG.DEFER, except on FATAL; with the
function assisted it is an item first. A loss during a handover turns it into a takeover (R283), and a partner that was
joining is dropped. -/
def partnerLost (s : State) (cause : Nat) : State :=
  let fatal := cause == 2
  if !s.twinShelf || s.twn.unlike then s
  else if s.twinState = 3 then
    -- FATAL ends a deferral (R290).
    if fatal && s.twn.deferring && s.twn.item.isNone then s.startTakeover else s
  else if s.twn.syncing.isSome then { s with twn := { s.twn with syncing := none, sent := [] } }
  else if !([0, 1, 2].contains s.twinState) then s
  else
    let s1 := if s.twinState = 2 then s else s.clearMirror
    let s2 := { (s1.wr F.HMP_ALIGN_STAT_LEAD 1).wr F.TWN_STATUS_STATE 3 with twn := { s1.twn with
      lostAt := some s.now, sent := [], handing := none, handed := [], stopped := s1.twn.stopped && s.fatal } }
    let s3 := s2.raise 960 0xA000
    let waits := !s3.is F.SYS_STRAP_BAY_MASTER && !fatal
    let (s4, handed) := if s3.assisted 11 then s3.handOver 11 cause 0 [cause, s3.partnerCrews] [] 0 (s3.now + 200000) else (s3, false)
    let s5 := { s4 with twn := { s4.twn with
      item := if handed then some (s4.wrg.nextItem - 1) else none
      deferring := waits || (handed && !s4.is F.SYS_STRAP_BAY_MASTER) } }
    if handed || waits then s5 else s5.startTakeover

/-- A takeover is to go on (R282): at once, or, without BAY_MASTER, at the end of DEFER. -/
def goTakeover (s : State) : State :=
  let s1 := { s with twn := { s.twn with item := none } }
  if s1.twinState ≠ 3 || s1.twn.taking then s1 else if s1.twn.deferring then s1 else s1.startTakeover

/-- A takeover is declined (R282): EV0967. -/
def declineTakeover (s : State) : State :=
  ({ s with twn := { s.twn with item := none } }.wr F.TWN_STATUS_STATE 6).raise 967 0xA000

/-- The end of DEFER (R278, R282): the bay gates are driven whatever has been answered; the takeover starts unless its item is
pending or it has been declined. -/
def deferEnds (s : State) : State :=
  if !s.twn.deferring then s
  else
    let s1 := { s.becomeOwner with twn := { s.twn with deferring := false } }
    if s1.twinState = 3 && s1.twn.item.isNone then s1.startTakeover else s1

/-- The Acquire of a takeover failed with Reservation Conflict (R278): this NP32 is fenced and resets. -/
def fence (s : State) (p : Straps) : State :=
  let s1 := { s with twn := { s.twn with stopped := true } }
  let s2 := (List.range 32).foldl (fun t lp => t.lportDown lp) s1
  ((s2.wr F.TWN_STATUS_STATE 5).raise 962 0xA000).systemReset 2 p

/-- Groups that the held records of a segment show (R237). One that belongs to a command is committed where its mirrored state
says so, one of relocations where it is whole; any other has not passed its commit point. -/
def heldGroups (s : State) (n heat : Nat) : List Group :=
  let recs := s.heldRecs n heat
  let nums := distinct ((recs.map fun r => r.2.group).filter (· != 0))
  nums.map fun num =>
    let mine := recs.filter fun r => r.2.group == num && r.2.kind != 9
    let whole := mine.any (·.2.last) && !recs.any fun r => r.2.group == num && r.2.kind == 9
    let known := s.twn.cmds.any fun m => 1 ≤ m.state.state && m.state.group == some (n, heat, num)
    let ok := whole && (known || mine.all (·.2.kind == 6))
    let first := match mine with | r :: _ => r.1 | [] => 0
    let last := match mine.getLast? with | some r => r.1 | none => 0
    ⟨num, none, first, last, [], !ok, ok, []⟩

/-- A segment of the partner continued from its held images (R279 step 5). `rewrite` says that they are written to the journal
seats again. -/
def heldSegment (s : State) (c : Crew) (n start heat : Nat) (rewrite : Bool) : Segment :=
  let (j, i) := chooseSeats c heat
  let mine := s.twn.blocks.filter fun b => b.crew == n && b.start == start && b.heat == heat
  let held (b : BlockRec) : List Nat := if rewrite then [] else if b.kind = 2 then i else j
  let groups := s.heldGroups n heat
  { start := start, heat := heat, jseats := j, iseats := i,
    blocks := mine.map fun b => ⟨b.kind, b.index, b.used, b.recs.map foundRec, b.entries, true, held b, [], none, none⟩
    groups := groups, nextGroup := groups.foldl (fun m g => max m (g.num + 1)) 1
    sealed := mine.any (·.kind == 1), flushed := false, released := false }

/-- Records to be carried from H12: those of committed groups, and those that belong to no group. -/
def carriedRecs (s : State) (n heat : Nat) : List JRec :=
  let ok := (s.heldGroups n heat).filter (·.committed)
  ((s.heldRecs n heat).map (·.2)).filter fun r => r.kind != 9 && (r.group == 0 || ok.any (·.num == r.group))

/-- The partner's start in which the images held of a crew were written, and the heats of that start, oldest first. An image of an earlier
start is the clean mark of a replay (R241). -/
def heldStart (s : State) (n : Nat) : Option Nat :=
  (s.twn.blocks.filter (·.crew == n)).foldl (fun a b => match a with | none => some b.start | some m => some (max m b.start)) none
def heldHeats (s : State) (n : Nat) : List Nat :=
  sortOn id (distinct ((s.twn.blocks.filter fun b => b.crew == n && some b.start == s.heldStart n).map (·.heat)))

/-- The oldest segment of a crew of the partner that is not free, where it is none of those whose images are held: LIVE of the newest
checkpoint held names it (R239). -/
def liveFrom (s : State) (n : Nat) : List (Nat × Nat) :=
  let mine := s.twn.blocks.filter (·.crew == n)
  match (mine.filter (·.kind == 1)).getLast? with
  | none => []
  | some b =>
    let live := (b.entries.getD 3 0, b.entries.getD 4 0)
    if mine.any fun x => (x.start, x.heat) == live then [] else [live]

/-- A crew of the partner is adopted (R279 step 5). `late` lists bays whose Acquire has not completed, `ranges` the torn table
read from its drives. Block images move from H12 to H7. -/
def adoptCrew (s : State) (r : CrewRec) (late : List Nat) (ranges : List TornRange) : State :=
  let n := r.crew
  let seats := (List.range r.states.length).map fun i => { s.seatFrom r i with rseq := Config.freeValue (s.free + i) % 2 ^ 32 }
  let c0 := newCrew r.print r.gen r.smin seats s.startNo s.heat
  let heats := s.heldHeats n
  let start := (s.heldStart n).getD s.startNo
  let segs := heats.map fun h => s.heldSegment c0 n start h (heats.getLast? == some h)
  let (j, i) := chooseSeats c0 s.heat
  let c1 := { c0 with
    seg := segs.getLast?.getD (Segment.empty s.startNo s.heat j i), old := segs.dropLast
    torn := ranges.map fun (t : TornRange) => Torn.mk t.num t.vol t.cause t.slba t.nlb t.heat
    found := s.liveFrom n }
  let mine := s.twn.blocks.filter (·.crew == n)
  let s1 := mine.foldl (fun t b => t.freeBuffers 12 (imageOwner b)) { s with free := s.free + seats.length }
  let s2 := { s1 with hmp := { s1.hmp with holds := s1.hmp.holds ++ segs.map fun (g : Segment) => Hold.mk 7 (heatOwner n g.heat) (16 * g.blocks.length) } }
  let s3 := ((s2.setCrew n c1).wrBit F.TWN_OWN_OWN n true).crewVolumes n
  let s3 := (List.range seats.length).foldl (fun t k => t.modSeat n k fun x =>
    if x.st = 5 then { x with plan := fromRow r.frontier (t.fixedOrder n) } else x) s3
  let privs := s3.crw.vols.filter fun x => x.priv && x.crew == n
  let s4 := privs.foldl (fun t x => t.modVol x.v fun y => { y with map := (s.twn.maps.lookup x.v).getD [] }) s3
  let recs := heats.flatMap (s.carriedRecs n)
  let s5 := privs.foldl (fun t x => t.markFull x.v recs) s4
  let s6 := privs.foldl (fun t x => t.keepLive x.v) (s5.replayRecs n true [] recs)
  -- the rows of the last two heats that are carried in the background are pending
  let named := ((heats.reverse.take 2).flatMap fun h =>
    (s.twn.blocks.filter fun b => b.crew == n && b.heat == h && b.kind == 2).flatMap (·.entries))
  let rows := named.filter fun e => s6.crw.jobs.any fun q => q.crew == n && q.kind == 8 && e == intentEntry 0 q.vol q.row
  let s7 := ((s6.modCrew n fun c => { c with pendingRows := distinct rows }).startReplayed n).noteTorn c1.torn
  let s8 := (List.range seats.length).foldl (fun t k => match t.seatOf n k with
    | some x => match x.bay with
      | some nn => if late.contains nn then t.failSeat n k else t
      | none => t
    | none => t) (s7.pushBlocks n)
  -- groups that have not passed their commit point are cancelled, so that a later replay leaves them out
  let s9 : State := match s8.crewOf n with
    | some (c : Crew) => (c.seg.groups.filter fun (g : Group) => g.cancelled).foldl (fun (t : State) (g : Group) => t.cancelGroup n c.seg.heat g.num) s8
    | none => s8
  { s9 with twn := { s9.twn with
    blocks := s9.twn.blocks.filter fun (b : BlockRec) => b.crew != n
    seats := s9.twn.seats.filter fun (x : CrewRec) => x.crew != n
    maps := s9.twn.maps.filter fun (m : Nat × List (Nat × Nat)) => !privs.any (·.v == m.1) } }

/-- An association is adopted (R279 step 7, R280): NAK GEN goes to its last flow. -/
def adoptAssoc (s : State) (r : AssocRec) : State :=
  let a : Assoc :=
    { cntlid := r.cntlid, hostid := r.hostid, sub := r.sub, flow := r.flow, kato := r.kato, cc := r.cc, shst := 0,
      queues := r.queues, closing := [], sqhd := r.sqhd, ioQueues := r.ioQueues, ioConnected := r.queues.any (·.1 != 0),
      aers := [], aenConfig := 0, notices := [], rsvMask := [], rsvLog := [], rsvCount := 0, changed := [], reported := [],
      adopted := !r.served }
  let p : Peer := ⟨r.flow.ip, r.mac, r.vlan, r.dscp, r.lport⟩
  let peers := if s.skf.peers.any (·.ip == p.ip) || 16384 ≤ s.skf.peers.length then s.skf.peers else s.skf.peers ++ [p]
  ({ s with skf := { s.skf with peers := peers }
            nvt := { s.nvt with assocs := (s.nvt.assocs.filter fun (x : Assoc) => x.cntlid != r.cntlid) ++ [a] } }).showTarget

/-- A command record is adopted (R280). -/
def adoptCmd (s : State) (m : MirrorCmd) : State :=
  let r := m.cmd
  if r.req.silent then s
  else
    let sqhd := match s.assocOf r.cntlid with | some a => (a.sqhd.lookup r.qid).getD 0 | none => 0
    let answered := m.state.state == 2
    let committed := m.state.state == 1 && (r.req.access == 2 || r.req.reserves)
    let (s1, msg) := if answered then s.newMsgid r.flow.ip r.flow.ptag else (s, 0)
    let answer := m.state.answer.map fun a => (Status.mk a.1 a.2.1 a.2.2.1, a.2.2.2)
    let k : Cmd :=
      { Cmd.fresh r.id r.flow r.keyhi r.enc r.req (s.now - (s.tod - r.deliveredAt)) (s.now + r.answerAt - s.tod) s.nvt.nextOrder sqhd s.heat with
        ctx := answered || committed
        phase := if answered then 3 else if committed then 2 else 0
        step := if answered then 6 else if committed then 5 else 0
        answer := if answered then answer else none
        rmsgid := msg
        adopted := !answered && !committed }
    let s2 := { s1 with nvt := { s1.nvt with
      cmds := (s1.nvt.cmds.filter fun (x : Cmd) => x.id != r.id) ++ [k], nextOrder := s1.nvt.nextOrder + 1 } }
    match answered, answer with
    | true, some (st, dw0) =>
      { s2 with skf := { s2.skf with lost := s2.skf.lost ++ [(r.flow.ip, r.flow.ptag, .response r.id msg st dw0 sqhd r.enc)] } }
    | _, _ => if committed && r.req.reserves then (s2.answer r.id stOk 0 []).toStep r.id 6 else s2

/-- A takeover or a handover from the partner ends (R279 steps 4 to 7, R283): addresses, crews, commands and associations are
adopted. A drive that has not completed its Acquire is failed: EV0963. -/
def adoptAll (s : State) (late : List Nat) (torn : List (Nat × List TornRange)) : State :=
  let lost := s.twinState == 3
  let crews := s.twn.seats.filter fun r => s.twn.acquiring.any (·.1 == r.crew)
  let s1 := { s with crw := { s.crw with ios := s.crw.ios.filter fun (o : Io) => match o.op with
    | .acquire .. => o.crew != 8
    | _ => true } }
  let s2 := (s.twn.acquiring.filter fun a => late.contains a.2).foldl (fun t a => t.raise 963 (0x4000 + a.2)) s1
  let s3 := if lost || !s.twn.handBack then ({ s2 with sw := { s2.sw with partnerOn := true } }).settleAddrs false else s2
  let s4 := crews.foldl (fun t r => t.adoptCrew r late ((torn.lookup r.crew).getD [])) s3
  let s5 := s.twn.assocs.foldl adoptAssoc s4
  let s6 := s.twn.cmds.foldl adoptCmd s5
  let s7 := s.twn.assocs.foldl (fun t a => t.nakTakeover a.flow) s6
  let s7 := s7.dropRecs fun _ => true
  let s8 := { s7 with
    twn := { s7.twn with assocs := [], taking := false, acquiring := [], stopped := false }
    nvt := { s7.nvt with existing := s7.namespaces } }
  if lost then
    let us := (s.now - s.twn.lostAt.getD s.now) / 1000
    (({ s8 with twn := { s8.twn with lostAt := none } }.wr F.TWN_STATUS_STATE 4).raise 961 0xA000).wr F.TWN_STATUS_LAST_US (min us 65535)
  else
    (crews.foldl (fun (t : State) (r : CrewRec) => match t.crewOf r.crew with
      | some c => (t.mirror (.crew (t.crewRec r.crew c))).1
      | none => t) s8).raise 964 0xA000

/-- What this NP32 holds of a crew that it hands over becomes its mirror of the partner's state. -/
def crewToMirror (s : State) (n : Nat) (c : Crew) : State :=
  let blocks := (c.old ++ [c.seg]).flatMap fun g => (g.blocks.filter fun b => b.closed && !g.released).map (blockRec n g)
  let maps := (s.crw.vols.filter fun x => x.priv && x.crew == n).map fun x => (x.v, x.map)
  let s1 := (c.old ++ [c.seg]).foldl (fun t g => t.freeBuffers 7 (heatOwner n g.heat)) s
  let s2 := { s1 with hmp := { s1.hmp with holds := s1.hmp.holds ++ blocks.map fun (b : BlockRec) => Hold.mk 12 (imageOwner b) 16 } }
  { s2 with twn := { s2.twn with
    seats := s2.twn.seats ++ [s2.crewRec n c], blocks := s2.twn.blocks ++ blocks, maps := s2.twn.maps ++ maps } }

/-- Everything that this NP32 has under way for a crew ends here: it goes on with the partner. -/
def dropCrew (s : State) (n : Nat) : State :=
  let jobs := s.crw.jobs.filter (·.crew == n)
  let s0 := s.dropVolumes fun x => x.crew == n
  let s1 := jobs.foldl (fun t j => t.freeBuffers (jobHamper j.kind) (jobOwner j.crew j.row (j.kind + 16 * j.arg))) s0
  let s2 := { s1 with crw := { s1.crw with
    crews := s1.crw.crews.filter fun (e : Nat × Crew) => e.1 != n
    jobs := s1.crw.jobs.filter fun (j : Job) => j.crew != n
    ios := s1.crw.ios.filter fun (o : Io) => o.crew != n || (match o.op with | .release _ => true | _ => false) } }
  s2.wrBit F.TWN_OWN_OWN n false

/-- The associations that go with a handover, and their commands, are kept as a mirror and served no longer. -/
def handAssocs (s : State) (back : Bool) : State :=
  let mine := s.nvt.assocs.filter fun a => !back || a.adopted
  let owned (k : Cmd) : Bool := mine.any (·.cntlid == k.id.cntlid)
  let cmds := (s.nvt.cmds.filter owned).filter fun k => !k.req.free
  let recs := mine.map fun a => { s.assocRec a false with served := !a.adopted }
  let s1 := (s.nvt.cmds.filter owned).foldl (fun t k =>
    let u := t.endItems k.items
    [1, 2, 3, 4, 5, 6, 10].foldl (fun w h => w.freeBuffers h (cmdOwner k.id))
      { u with nvt := { u.nvt with fetches := u.nvt.fetches.filter (·.cmd != k.id) }
               crw := { u.crw with misses := u.crw.misses.filter fun x => x.2.2.1 != k.id }
               hmp := { u.hmp with waits := u.hmp.waits.filter fun w => w.owner != cmdOwner k.id } }) s
  ({ s1 with
    hmp := { s1.hmp with holds := s1.hmp.holds ++ cmds.map fun (k : Cmd) => Hold.mk 12 (recOwner k.id) 1 }
    twn := { s1.twn with
      assocs := s1.twn.assocs ++ recs
      cmds := s1.twn.cmds ++ cmds.map fun k => MirrorCmd.mk (s.cmdRecOf k) (stateRecOf k) }
    nvt := { s1.nvt with
      cmds := s1.nvt.cmds.filter fun k => !owned k
      assocs := s1.nvt.assocs.filter fun a => !mine.any (·.cntlid == a.cntlid) } }).showTarget

/-- A planned handover at this NP32's turn (R283): admission stops, reservations are released, the partner is told, and what it
hands over goes on with the partner. The gates follow R372 and R389, the addresses R347. -/
def handOverCrews (s : State) (crews : List Nat) (back : Bool) : State :=
  let s0 := { s with twn := { s.twn with stopped := true, handing := none, handed := crews, handBack := back } }
  let held := s0.crw.crews.filter fun e => crews.contains e.1
  let s1 := held.foldl (fun t e => (List.range e.2.seats.length).foldl (fun u i => u.issueIo e.1 i (.release drvKey) u.heat 0) t) s0
  let s2 := s1.sendTwin (.handover crews back)
  let s3 := held.foldl (fun t e => t.crewToMirror e.1 e.2) s2
  let s4 := crews.foldl dropCrew (s3.handAssocs back)
  let s5 := { s4 with nvt := { s4.nvt with existing := s4.namespaces } }.showPvols
  let s6 := { s5 with sw := { s5.sw with partnerOn := s5.sw.partnerOn && !back, ownOff := s5.sw.ownOff || !back } }.settleAddrs false
  if s6.gateOwner then
    if back then (if s6.is F.SYS_STRAP_BAY_MASTER then s6 else { s6 with bay := { s6.bay with releasing := true } })
    else (if s6.is F.SYS_STRAP_BAY_MASTER then s6.loseOwner else s6)
  else s6

/-- A HANDOVER frame (R283): the receiver acquires the reservations of the crews. -/
def takeHandover (s : State) (crews : List Nat) (back : Bool) : State :=
  let master := s.is F.SYS_STRAP_BAY_MASTER
  let s1 := if master == back then s.becomeOwner else s
  let s2 := if back then ({ s1 with sw := { s1.sw with ownOff := false } }).settleAddrs true else s1
  let bays := s2.takeoverBays.filter fun b => crews.contains b.1
  ({ s2 with twn := { s2.twn with handBack := back } }).acquireBays bays false

end State

end Sys2Proof.Machine
end

