-- ==== Sys2Proof/Machine/Answers.lean ====
section
/-!
DEFINITION. How items of host-assisted work end (R27 to R33, R409, R413): hardware mode completes an item that has fallen back,
and an ANSWER acts on the item whose tag it carries. What each answer means is in its own function's chapter.
-/

namespace Sys2Proof.Machine

/-- Little-endian number of `n` bytes from offset `a` of a payload. -/
def payloadLe (bs : List Nat) (a n : Nat) : Nat := ((bs.drop a).take n).foldr (fun b v => b % 256 + 256 * v) 0

namespace State

/-- The command that waits on an item, if one does. -/
def cmdOfItem (s : State) (tag : Nat) : Option Cmd := s.nvt.cmds.find? (·.items.contains tag)

/-- A command no longer waits on an item. -/
def dropItem (s : State) (k : Cmd) (tag : Nat) : State := s.setCmd { k with items := k.items.filter (· != tag) }

/-- A flow whose admission was pending is admitted (R129). -/
def admitFlow (s : State) (tag : Nat) : State :=
  match s.skf.flows.find? (·.item == some tag) with
  | some f => (s.setFlow { f with state := 1, item := none }).unpark f.ref
  | none => s

/-- A flow whose admission was pending is refused (R129). -/
def refuseFlow (s : State) (tag : Nat) : State :=
  match s.skf.flows.find? (·.item == some tag) with
  | some f =>
    let seq := match f.parked with | p :: _ => p.hdr.seq | [] => 0
    (s.sendNak f.ref 4 seq f.gen none).dropFlow f.ref
  | none => s

/-- One key comparison has ended (R121, R130). -/
def keyCompared (s : State) (tag : Nat) (isMatch : Bool) : State :=
  match s.cmdOfItem tag with
  | none => s
  | some k =>
    if !isMatch then s.keyFails k.id
    else
      let s1 := s.dropItem k tag
      if k.items.all (· == tag) && !k.passed then s1.keysPassed k.id else s1

/-- A map miss ends (R227): the entry goes to the command that waits for it. `entry` is the host's, where it answered. -/
def missEnds (s : State) (it : Item) (entry : Option Nat) : State :=
  match s.cmdOfItem it.tag with
  | none => s
  | some k =>
    let s1 := s.dropItem k it.tag
    let held := (s1.crw.misses.find? fun m => m.1 == it.arg && m.2.1 == it.arg2 && m.2.2.1 == k.id).map (·.2.2.2)
    let s2 := { s1 with crw := { s1.crw with misses := s1.crw.misses.filter fun m =>
      !(m.1 == it.arg && m.2.1 == it.arg2 && m.2.2.1 == k.id) } }
    match s2.volOf it.arg with
    | none => s2
    | some x =>
      let now := x.entry it.arg2
      let used := match entry, held with
        | some e, some h =>
          if (entryState e = 0 || entryState e = 1) && decide (entryLog e / s2.wOf x.crew < s2.dataStripes x) && now == h then e else now
        | _, _ => now
      s2.giveEntry k.id it.arg it.arg2 used

/-- Collection goes on with victims (R232); a stripe that is free, open or outside the volume is skipped. -/
def victimsChosen (s : State) (it : Item) (victims : Option (List Nat)) : State :=
  match s.volOf it.arg with
  | some x =>
    if x.gcItem ≠ some it.tag then s
    else
      let s1 := s.modVol it.arg fun y => { y with gcItem := none }
      match victims with
      | some l => s1.collect it.arg (distinct (l.take (max 1 (s1.ef F.CRW_GC_ROUND))))
      | none => s1.collectOwn it.arg
  | none => s

/-- A rebuild whose plan was an item starts (R268). -/
def planChosen (s : State) (it : Item) (ranges : List (Nat × Nat)) (rate : Nat) : State :=
  match s.seatOf it.arg it.arg2 with
  | some x => if x.planItem = some it.tag then s.startRebuild it.arg it.arg2 ranges rate else s
  | none => s

/-- A pass of the patrol begins (R246). -/
def pacingChosen (s : State) (it : Item) (pace : Option (Nat × List (Nat × Nat))) : State :=
  s.modCrew it.arg fun c =>
    if c.patrolItem ≠ some it.tag then c
    else match pace with
      | some (days, windows) => { c with patrolItem := none, days := days, windows := windows }
      | none => { c with patrolItem := none }

/-- A seat that met the trigger of R258 is judged (R261): 1 easy, 2 keep, 3 fail. -/
def seatJudged (s : State) (it : Item) (code : Nat) : State :=
  match s.seatOf it.arg it.arg2 with
  | some x =>
    if x.lagItem ≠ some it.tag then s
    else
      let s1 := s.modSeat it.arg it.arg2 fun y => { y with lagItem := none, above := if code = 1 then y.above else none }
      if code = 1 then s1.easySeat it.arg it.arg2
      else if code = 3 then s1.failSeat it.arg it.arg2 else s1
  | none => s

/-- The mode of a stream is chosen (R302). -/
def modeChosen (s : State) (it : Item) (f : Stream → Stream) : State :=
  { s with cmp := s.cmp.map fun (x : Stream) => if x.item = some it.tag then { f x with item := none } else x }

/-- The recovery ladder goes on (R256): none resumes as though the last step had succeeded. -/
def ladderChosen (s : State) (it : Item) (step : Option Nat) : State :=
  match s.seatOf it.arg it.arg2 with
  | some x =>
    if x.ladderItem ≠ some it.tag then s
    else match step with
      | some k => s.ladderStep it.arg it.arg2 k
      | none => s.ladderDone it.arg it.arg2
  | none => s

/-- Hardware mode completes an item (R29, R436). -/
def completeOwn (s : State) (it : Item) : State :=
  match it.fn with
  | 0 => s.admitFlow it.tag
  | 1 => match s.cmdOfItem it.tag with
    | some k => s.keyCompared it.tag (s.keyMatches k.flow it.arg)
    | none => s
  | 2 => s.missEnds it none
  | 3 => s.victimsChosen it none
  | 4 => s.planChosen it [] (s.ef F.CRW_RBLD_RATE)
  | 5 => s.pacingChosen it none
  | 6 => s.seatJudged it 1
  | 7 =>
    let us := s.cip.unwraps.map fun (u : Nat × Option Nat) => if u.2 = some it.tag then (u.1, none) else u
    { s with cip := { s.cip with unwraps := us } }
  | 8 => s.modeChosen it fun x => { x with mode := s.tableMode }
  | 9 => match s.seatOf it.arg it.arg2 with
    | some x => s.ladderChosen it (some (x.ladder.getD 2))
    | none => s
  | 10 => if s.activeSrc = it.arg && s.refState it.arg ≠ 0 && s.wrongRef = it.arg then s.failover it.arg else s
  | 11 => if s.twn.item = some it.tag then s.goTakeover else s
  | _ => s

/-- An item falls back (R29): its event is raised, and hardware mode completes it. -/
def fallBack (s : State) (tag : Nat) : State :=
  match s.itemOf tag with
  | some it => (s.fallItem it).completeOwn it
  | none => s

/-- Every item that a test picks falls back, in order of handover (R31, R69, R417). -/
def fallAll (s : State) (which : Item → Bool) : State :=
  (s.wrg.items.filter which).foldl (fun t it => t.fallBack it.tag) s

/-- Functions whose work goes to a host that is lost, or to a ring that has shut down, are completed in hardware mode for the
rest of the heat (R31, R417). -/
def unroute (s : State) (lost : Nat → Nat → Bool) : State :=
  let now (f : Nat) : Nat := s.wrg.route.getD f 1
  let route := (List.range 12).map fun f => if now f ≠ 2 && lost f (s.itemRing f) then 2 else now f
  { s with wrg := { s.wrg with route := route } }

/-- The payload of an ANSWER (R409): inline bytes, or the host data that has been read. -/
def answerPayload (e : Entry) (data : Option (List Nat)) : Option (List Nat) :=
  if e.dlen = 0 then some e.inline else data.map (·.take e.dlen)

/-- An answer that carries no payload. -/
def noPayload (e : Entry) : Bool := e.dlen == 0 && e.inline.all (· == 0)

/-- Codes that a function accepts (R413). -/
def answerCodes (fn : Nat) : List Nat :=
  match fn with
  | 2 | 3 | 4 | 5 => [1]
  | 6 => [1, 2, 3]
  | 8 => [1, 2, 3, 4]
  | 9 => [1, 2, 3, 4, 5, 6]
  | _ => [1, 2]

/-- The status of an answer that finds no item that waits for this host (R409, R419): late within 20 ms of its fallback. -/
def lostStatus (s : State) (tag : Nat) (cox : Bool) : Nat :=
  if s.wrg.fallen.any fun f => f.1 == tag && f.2.1 == cox && decide (s.now < f.2.2 + 20000000) then 3 else 5

/-- The read of an answer's data has failed (R419, R437). -/
def hostReadFailed (s : State) (ring : Nat) : State :=
  ((s.bump F.EPT_ERR_READ).raiseOnce 819 ring (0x9000 + ring)).raise 772 (0x9000 + ring)

/-- An ANSWER completes; answers are counted by status (R490). -/
def finishAnswer (s : State) (t : Taken) (st : Nat) : State := (s.finish t st 0).countOpen 0x500 (16 + st) (0x9000 + t.ring)

/-- An ANSWER of one function and some of its codes is the oldest entry of a ring (R409). Host data that could not be read leaves the
item waiting (R419). One whose code or payload the function does not accept is invalid, and its item goes on waiting. -/
def answerWith (s : State) (ring fn : Nat) (codes : List Nat) (data : Option (List Nat)) (act : Entry → Item → State → Option State) :
    State :=
  match s.front ring 3 with
  | none => s
  | some t =>
    let e := t.entry
    let cox := coxRing ring
    match s.itemOf e.item with
    | none => s.finishAnswer t (s.lostStatus e.item cox)
    | some it =>
      if it.cox != cox then s.finishAnswer t 5
      else if it.fn ≠ fn then s
      else if e.count ≠ 0 || 65536 < e.dlen || !(answerCodes fn).contains e.code then s.finishAnswer t 6
      else if !codes.contains e.code then s
      else if e.dlen ≠ 0 && data.isNone then (s.hostReadFailed ring).finishAnswer t 7
      else match act e it (s.endItem it.tag) with
        | some s1 => (s1.finishAnswer t 0).carryOn
        | none => s.finishAnswer t 6

/-- An answer that carries nothing beside its code. -/
def answerPlain (s : State) (ring fn code : Nat) (act : Item → State → State) : State :=
  s.answerWith ring fn [code] none fun e it t => if noPayload e then some (act it t) else none

/-- Ranges of a rebuild plan (R413): first row and count, up to 16, held to the rows of the crew. -/
def planRanges (rows : Nat) (bs : List Nat) : List (Nat × Nat) :=
  (List.range ((bs.length - 4) / 8)).map fun i =>
    (min rows (payloadLe bs (4 + 8 * i) 4), min rows (payloadLe bs (4 + 8 * i) 4 + payloadLe bs (8 + 8 * i) 4))

/-- Daily windows (R413): start and end minute, up to 8. -/
def paceWindows (bs : List Nat) : List (Nat × Nat) :=
  (List.range (min 8 ((bs.length - 4) / 4))).map fun i => (payloadLe bs (4 + 4 * i) 2, payloadLe bs (6 + 4 * i) 2)

end State

open State

/-- FALLBACK_POINT (R28, R29): elapsed time has come to the fallback point of one item. -/
def execFallbackPoint (tag : Nat) (s : State) : Host.Outcome State Fault Refusal :=
  .next (match s.itemOf tag with
    | some it => ((s.passTo it.fallAt).fallBack tag).carryOn
    | none => s)

/-- ANSWER_ADMIT (R129). -/
def actAnswerAdmit (ring : Nat) (s : State) : Host.Outcome State Fault Refusal :=
  .next (s.answerPlain ring 0 1 fun it t => t.admitFlow it.tag)

/-- ANSWER_REFUSE (R129). -/
def actAnswerRefuse (ring : Nat) (s : State) : Host.Outcome State Fault Refusal :=
  .next (s.answerPlain ring 0 2 fun it t => t.refuseFlow it.tag)

/-- ANSWER_MATCH (R130). -/
def actAnswerMatch (ring : Nat) (s : State) : Host.Outcome State Fault Refusal :=
  .next (s.answerPlain ring 1 1 fun it t => t.keyCompared it.tag true)

/-- ANSWER_MISMATCH (R130). -/
def actAnswerMismatch (ring : Nat) (s : State) : Host.Outcome State Fault Refusal :=
  .next (s.answerPlain ring 1 2 fun it t => t.keyCompared it.tag false)

/-- ANSWER_MAP_ENTRY (R227): 8 B inline. -/
def actAnswerMapEntry (ring : Nat) (s : State) : Host.Outcome State Fault Refusal :=
  .next (s.answerWith ring 2 [1] none fun e it t => if e.dlen = 0 then some (t.missEnds it (some (payloadLe e.inline 0 8))) else none)

/-- ANSWER_VICTIMS (R232): 1 to 16 stripe numbers of 4 B, inline or as data. -/
def actAnswerVictims (ring : Nat) (data : Option (List Nat)) (s : State) : Host.Outcome State Fault Refusal :=
  .next (s.answerWith ring 3 [1] data fun e it t =>
    let bs := (answerPayload e data).getD []
    if bs.isEmpty || 64 < bs.length || bs.length % 4 ≠ 0 then none
    else some (t.victimsChosen it (some ((List.range (bs.length / 4)).map fun i => payloadLe bs (4 * i) 4))))

/-- ANSWER_REBUILD_PLAN (R268): a rate, 3 zero bytes and up to 16 ranges, as data. -/
def actAnswerRebuildPlan (ring : Nat) (data : Option (List Nat)) (s : State) : Host.Outcome State Fault Refusal :=
  .next (s.answerWith ring 4 [1] data fun e it t =>
    let bs := (answerPayload e data).getD []
    if e.dlen = 0 || bs.length < 4 || 132 < bs.length || (bs.length - 4) % 8 ≠ 0 || payloadLe bs 1 3 ≠ 0 then none
    else some (t.planChosen it (planRanges (t.rd F.CRW_CREW_ROWS it.arg) bs) (F.CRW_RBLD_RATE.range.hold (payloadLe bs 0 1))))

/-- ANSWER_PATROL_WINDOWS (R246): days, 3 zero bytes and up to 8 windows. A window of no length is none. -/
def actAnswerPatrolWindows (ring : Nat) (data : Option (List Nat)) (s : State) : Host.Outcome State Fault Refusal :=
  .next (s.answerWith ring 5 [1] data fun e it t =>
    let bs := (answerPayload e data).getD []
    let ws := paceWindows bs
    if bs.length < 4 || (36 < bs.length || (bs.length - 4) % 4 ≠ 0) && e.dlen ≠ 0 || payloadLe bs 1 3 ≠ 0 || payloadLe bs 0 1 = 0 ||
        ws.any (fun w => decide (1440 ≤ w.1) || decide (1440 ≤ w.2)) then none
    else some (t.pacingChosen it (some (payloadLe bs 0 1, ws.filter fun w => w.1 != w.2))))

/-- ANSWER_EASY (R261). -/
def actAnswerEasy (ring : Nat) (s : State) : Host.Outcome State Fault Refusal :=
  .next (s.answerPlain ring 6 1 fun it t => t.seatJudged it 1)

/-- ANSWER_KEEP (R261). -/
def actAnswerKeep (ring : Nat) (s : State) : Host.Outcome State Fault Refusal :=
  .next (s.answerPlain ring 6 2 fun it t => t.seatJudged it 2)

/-- ANSWER_FAIL (R261). -/
def actAnswerFail (ring : Nat) (s : State) : Host.Outcome State Fault Refusal :=
  .next (s.answerPlain ring 6 3 fun it t => t.seatJudged it 3)

/-- ANSWER_KEY_MATERIAL (R335): 64 B of key material. -/
def actAnswerKeyMaterial (ring : Nat) (data : Option (List Nat)) (s : State) : Host.Outcome State Fault Refusal :=
  .next (s.answerWith ring 7 [1] data fun e it t =>
    let bs := (answerPayload e data).getD []
    if bs.length ≠ 64 then none
    else some ((t.endUnwrap it.arg true true (payloadLe bs 0 64)).afterUnwrap it.arg))

/-- ANSWER_UNWRAP_REFUSE (R335). -/
def actAnswerUnwrapRefuse (ring : Nat) (s : State) : Host.Outcome State Fault Refusal :=
  .next (s.answerPlain ring 7 2 fun it t => (t.endUnwrap it.arg true false 0).afterUnwrap it.arg)

/-- ANSWER_STATIC (R302). -/
def actAnswerStatic (ring : Nat) (s : State) : Host.Outcome State Fault Refusal :=
  .next (s.answerPlain ring 8 1 fun it t => t.modeChosen it fun x => { x with mode := 0, byHost := true })

/-- ANSWER_DYNAMIC_BY_RULE (R302). -/
def actAnswerDynamicByRule (ring : Nat) (s : State) : Host.Outcome State Fault Refusal :=
  .next (s.answerPlain ring 8 2 fun it t => t.modeChosen it fun x => { x with mode := 1, byHost := true })

/-- ANSWER_DYNAMIC_ALWAYS (R302). -/
def actAnswerDynamicAlways (ring : Nat) (s : State) : Host.Outcome State Fault Refusal :=
  .next (s.answerPlain ring 8 3 fun it t => t.modeChosen it fun x => { x with mode := 2, byHost := true })

/-- ANSWER_HOST_TABLES (R302): 286 literal and length code lengths and 30 distance code lengths. Lengths that form no complete
prefix code leave the stream dynamic by rule: EV0451. -/
def actAnswerHostTables (ring : Nat) (data : Option (List Nat)) (s : State) : Host.Outcome State Fault Refusal :=
  .next (s.answerWith ring 8 [4] data fun e it t =>
    let bs := (answerPayload e data).getD []
    if bs.length ≠ 316 then none
    else if completeCode (bs.take 286) && completeCode (bs.drop 286) then
      some (t.modeChosen it fun x => { x with mode := 3, byHost := true, llLen := bs.take 286, dLen := bs.drop 286 })
    else some ((t.modeChosen it fun x => { x with mode := 1, byHost := true }).raise 451 0x0000))

/-- ANSWER_TAKE_STEP (R256): the code is the step, 2 to 6. -/
def actAnswerTakeStep (ring : Nat) (s : State) : Host.Outcome State Fault Refusal :=
  .next (s.answerWith ring 9 [2, 3, 4, 5, 6] none fun e it t => if noPayload e then some (t.ladderChosen it (some e.code)) else none)

/-- ANSWER_RESUME (R256). -/
def actAnswerResume (ring : Nat) (s : State) : Host.Outcome State Fault Refusal :=
  .next (s.answerPlain ring 9 1 fun it t => t.ladderChosen it none)

/-- ANSWER_CLOCK_KEEP (R86). -/
def actAnswerClockKeep (ring : Nat) (s : State) : Host.Outcome State Fault Refusal :=
  .next (s.answerPlain ring 10 1 fun _ t => t)

/-- ANSWER_CLOCK_SWITCH (R86): refused with EV0014 where the other reference is no longer good. -/
def actAnswerClockSwitch (ring : Nat) (s : State) : Host.Outcome State Fault Refusal :=
  .next (s.answerPlain ring 10 2 fun it t =>
    if t.activeSrc ≠ it.arg then t else if t.refState (1 - it.arg) = 0 then t.failover it.arg else t.raise 14 0x0000)

/-- ANSWER_TAKE_OVER (R282). -/
def actAnswerTakeOver (ring : Nat) (s : State) : Host.Outcome State Fault Refusal :=
  .next (s.answerPlain ring 11 1 fun it t => if t.twn.item = some it.tag then t.goTakeover else t)

end Sys2Proof.Machine
end

