-- ==== Sys2Proof/Machine/Bays.lean ====
section
/-!
DEFINITION. The commands of the drive bays (spec/12_drive_bays_and_power.md): presence, power states, electronic fusing,
FET temperature, feeds, links, stops and the button. An instant that the spec names by an interval (a qualification
window, a retry period) is a command of its own and is taken as having come; what the state must hold for it is checked.
-/

namespace Sys2Proof.Machine

open State

namespace State

/-- The drive behind a bay is gone (R253, R376), and everything that waited on it goes on. -/
def dropDrive (s : State) (nn : Nat) : State := (s.driveGone nn).carryOn

/-- What a bay's indicator shows. -/
inductive Lamp where
  | undriven | off | on | blink
deriving DecidableEq, Repr

/-- An indicator control code (PIC, AIC): 0b01 on, 0b10 blink, 0b11 off. -/
def lampOf (code : Nat) : Lamp := if code = 1 then .on else if code = 2 then .blink else .off

/-- The power indicator (R390, R392, R394). -/
def powerLamp (s : State) (nn : Nat) : Lamp :=
  if !s.gateOwner then .undriven
  else if s.ef F.BAY_CFG_AUTOIND = 0 then lampOf (s.rd F.BAY_SLTCTL_PIC nn)
  else
    let st := s.bayState nn
    if (s.bayAt nn).buttonBlink || [bRamp, bQualify, bStopping, bChangeover].contains st then .blink
    else if st = bOn then .on
    else .off

/-- The attention indicator (R391, R394): a software write of blink is honoured while no condition of the table holds. -/
def attnLamp (s : State) (nn : Nat) : Lamp :=
  if !s.gateOwner then .undriven
  else if s.ef F.BAY_CFG_AUTOIND = 0 then lampOf (s.rd F.BAY_SLTCTL_AIC nn)
  else
    let st := s.bayState nn
    if (s.bayAt nn).refusedBlink then .blink
    else if st = bLatched || s.bayCondemned nn then .on
    else if [bOn, bRamp, bQualify, bStopping, bChangeover].contains st || (s.bayAt nn).buttonBlink then .off
    else if s.rd F.BAY_SLTCTL_AIC nn = 2 then .blink
    else .off

/-- A loss of the drive behind a bay acts on its seat if the link was up or the drive was ready (R253, R376). -/
def reactTo (before after : State) (nn : Nat) : State :=
  if before.bayUp nn && !after.bayUp nn then after.dropDrive nn else after

/-- A stop of a bay that is ON (R390, R391): refused where its crew has two seats out of service already. -/
def requestStop (s : State) (nn : Nat) : State :=
  if s.mayStop nn then (s.toBay nn bStopping).dropDrive nn
  else ((s.wr F.BAY_SLTCTL_PCC 0 nn).modBay nn fun b => { b with refusedBlink := true }).bayEvent nn 7

/-- A request to stop, by the bay's state (R390, R395). -/
def stopBay (s : State) (nn : Nat) : State :=
  let st := s.bayState nn
  if st = bOn then s.requestStop nn
  else if st = bChangeover then s.modBay nn fun b => { b with stopWanted := true }
  else if [bRamp, bQualify, bCooling, bRetry].contains st then s.reactTo (s.bayOff nn) nn
  else s

/-- One sample of the presence pins of a bay (R377, R378): SEATING is shown during the 50 ms, EMPTY after a break. -/
def samplePins (s : State) (nn : Nat) (both : Bool) : State :=
  if (s.bayAt nn).seated then s
  else if both && s.bayState nn = bEmpty then s.toBay nn bSeating
  else if !both && s.bayState nn = bSeating then s.toBay nn bEmpty
  else s

/-- A change of a bay's verdict is reported at once, or at step 8 of a start after a system reset (R377). -/
def verdict (s : State) (nn : Nat) (seated : Bool) : State :=
  let s1 := s.modBay nn fun b => { b with seated := seated }
  if s1.bay.defer then s1 else s1.reportPresence nn

/-- Enter CHANGEOVER (R387): the gate of the failing feed goes off, and the fault timer keeps its count (R395). -/
def enterChangeover (s : State) (nn : Nat) : State := ((s.setGate nn false).toBay nn bChangeover).bayEvent nn 3

end State

/-- PRESENCE_SAMPLE (R73, R377, R387, R389): one step of 1 µs. `prsS` and `prsL` hold the pins of bay nn at bit nn,
`feedA` and `feedB` the feed voltages and `meas` bay, current and bay voltage, in units of 10 mV and 10 mA. -/
def actPresenceSample (prsS prsL : Word) (feedA feedB : Nat) (meas : List (Nat × Nat × Nat)) (s : State) :
    Host.Outcome State Fault Refusal :=
  if s.stage = 0 then .next s
  else
    let s1 := (s.pass 1000).measureFeeds feedA feedB
    let s2 := meas.foldl (fun t m =>
      if m.1 < 32 then (t.wr F.BAY_MEAS_CURRENT (min m.2.1 65535) m.1).wr F.BAY_MEAS_VBAY (min m.2.2 65535) m.1 else t) s1
    -- Contexts in use are summed each µs (R490).
    let s3 := s2.countOpen 0x200 0x1003 0x8000 (s2.nvt.cmds.filter (·.ctx)).length
    .next ((List.range 32).foldl (fun t nn => t.samplePins nn (prsS.getLsbD nn && prsL.getLsbD nn)) s3)

/-- DRIVE_SEATED (R377, R378, R384). -/
def actDriveSeated (bay : Nat) (s : State) : Host.Outcome State Fault Refusal :=
  if 32 ≤ bay || s.stage = 0 || (s.bayAt bay).seated then .next s
  else
    let s1 := if s.bayState bay = bEmpty || s.bayState bay = bSeating then
        (s.toBay bay bCooling).modBay bay fun b => { b with slot := 0 }
      else s
    .next (s1.verdict bay true)

/-- DRIVE_LOST (R377, R383, R384, R395): the gates go off, PERST is asserted, a retry period and its count are gone, and
the seat becomes absent. The FET models keep their state. -/
def actDriveLost (bay : Nat) (s : State) : Host.Outcome State Fault Refusal :=
  if 32 ≤ bay || !(s.bayAt bay).seated then .next s
  else
    let s1 := ((((s.verdict bay false).cutPower bay).holdReset bay).wr F.BAY_PSTAT_RETRY 0 bay)
    let s2 := if s1.bayState bay = bStandby then s1 else s1.toBay bay bEmpty
    .next (s2.dropDrive bay)

/-- BAY_RAMP_START (R41, R378, R387, R388): every condition of the COOLING row is checked. `period` counts the 10 ms periods
begun since step 8, from 0. -/
def actBayRampStart (bay feedA feedB period : Nat) (s : State) : Host.Outcome State Fault Refusal :=
  let s1 := s.measureFeeds feedA feedB
  match s1.feedFor bay with
  | none => .next s1
  | some f =>
    if bay < 32 && s1.bayState bay = bCooling && (s1.bayAt bay).seated && s1.bay.released && s1.boot.hold == 0 && s1.stage != 0xE && (s1.bayAt bay).slot ≤ period &&
        s1.ef F.BAY_PCFG_EN bay = 1 && s1.rd F.BAY_SLTCTL_PCC bay = 0 &&
        !s1.fetAtLeast bay f (s1.ef F.BAY_RETRY_RESTART_C) then
      .next (((s1.wr F.BAY_PSTAT_FEED f bay).modBay bay fun b =>
        { b with gate := true, slot := 0, rampAt := s1.now, rampTime := 0, timerTime := 0 }).toBay bay bRamp)
    else .next s1

/-- RAMP_END (R378): the bay voltage has reached VGOOD. -/
def actRampEnd (bay : Nat) (s : State) : Host.Outcome State Fault Refusal :=
  .next (if bay < 32 && s.bayState bay = bRamp then
      (s.modBay bay fun b => { b with rampTime := s.now - b.rampAt }).toBay bay bQualify
    else s)

/-- RAMP_TIMEOUT (R382). -/
def actRampTimeout (bay : Nat) (s : State) : Host.Outcome State Fault Refusal :=
  .next (if bay < 32 && s.bayState bay = bRamp then s.trip bay 4 else s)

/-- POWER_GOOD_ASSERT (R379, R389): withheld while the fault timer runs. -/
def actPowerGoodAssert (bay : Nat) (s : State) : Host.Outcome State Fault Refusal :=
  if bay < 32 && !s.timerRuns bay && !s.is F.BAY_PSTAT_PG bay &&
      (s.bayState bay = bQualify || (s.bayState bay = bStandby && (s.bayAt bay).seated)) then
    let s1 := s.wr F.BAY_PSTAT_PG 1 bay
    .next (if s1.bayState bay = bQualify then s1.toBay bay bOn else s1)
  else .next s

/-- POWER_GOOD_WITHDRAW (R379, R380, R387): only while the fault timer is idle. A bay that was ON qualifies again. -/
def actPowerGoodWithdraw (bay : Nat) (s : State) : Host.Outcome State Fault Refusal :=
  if bay < 32 && s.is F.BAY_PSTAT_PG bay && !s.timerRuns bay then
    let s1 := s.withdraw bay
    let s2 := if s1.bayState bay = bOn then s1.toBay bay bQualify else s1
    .next (s.reactTo s2 bay)
  else .next s

/-- PERST_RELEASE (R375, R380): the port begins training. Before the end of step 8 PERST is held (R68), and after a second failed training until
power-good has been withdrawn. -/
def actPerstRelease (bay : Nat) (s : State) : Host.Outcome State Fault Refusal :=
  .next (if bay < 32 && s.is F.BAY_PSTAT_PG bay && (s.bayAt bay).perst && (s.bayAt bay).trains < 3 && !s.bay.defer && (s.stage == 5 || s.ready) then
      (s.setPerst bay false).modBay bay fun b => { b with trains := 1 }
    else s)

/-- FAULT_TIMER_START (R381, R395): the timer keeps the LIMIT and TIMER_MS with which it starts. It does not run in RAMP
before VGOOD. -/
def actFaultTimerStart (bay : Nat) (s : State) : Host.Outcome State Fault Refusal :=
  .next (if bay < 32 && !s.timerRuns bay && [bQualify, bOn, bChangeover, bStopping, bStandby].contains (s.bayState bay) then
      (s.wr F.BAY_PSTAT_TIMER 1 bay).modBay bay fun b =>
        { b with timerAt := s.now, limit := s.ef F.BAY_PCFG_LIMIT bay, timerMs := s.ef F.BAY_PCFG_TIMER_MS bay }
    else s)

/-- FAULT_TIMER_CLEAR (R381). -/
def actFaultTimerClear (bay : Nat) (s : State) : Host.Outcome State Fault Refusal :=
  .next (if bay < 32 then s.stopTimer bay else s)

/-- FAULT_TIMER_EXPIRY (R381, R382). -/
def actFaultTimerExpiry (bay : Nat) (s : State) : Host.Outcome State Fault Refusal :=
  .next (if bay < 32 && s.timerRuns bay then s.reactTo (s.trip bay 1) bay else s)

/-- OVERCURRENT_TRIP (R382): twice LIMIT in two consecutive steps. -/
def actOvercurrentTrip (bay : Nat) (s : State) : Host.Outcome State Fault Refusal :=
  .next (if bay < 32 && [bRamp, bQualify, bOn, bChangeover, bStopping, bStandby].contains (s.bayState bay) then
      s.reactTo (s.trip bay 2) bay
    else s)

/-- RETRY_PERIOD_END (R383): the period has passed. -/
def actRetryPeriodEnd (bay : Nat) (s : State) : Host.Outcome State Fault Refusal :=
  .next (if bay < 32 && s.bayState bay = bRetry then (s.passTo (s.bayAt bay).retryEnd).toBay bay bCooling else s)

/-- RETRY_COUNT_CLEAR (R383). -/
def execRetryCountClear (bay : Nat) (s : State) : Host.Outcome State Fault Refusal :=
  .next (if bay < 32 && s.bayState bay = bOn then s.wr F.BAY_PSTAT_RETRY 0 bay else s)

/-- FET_MODEL_UPDATE (R382, R385): one step of 10 µs of every model, on the currents and voltages last measured. -/
def actFetModelUpdate (s : State) : Host.Outcome State Fault Refusal :=
  .next ((List.range 32).foldl (fun t nn =>
    let t1 := t.fetModel nn
    if t1.fetTooHot nn then t1.reactTo (t1.trip nn 3) nn else t1) s)

/-- DIODE_READ (R382, R386): a reading below −40 °C or above 200 °C is invalid. -/
def actDiodeRead (bay : Nat) (celsius : Int) (s : State) : Host.Outcome State Fault Refusal :=
  if 32 ≤ bay || s.ef F.BAY_PCFG_TSRC bay = 0 || s.is F.BAY_THERM_DIODE_BAD bay then .next s
  else if celsius < -40 || 200 < celsius then .next (((s.wr F.BAY_THERM_DIODE_BAD 1 bay).showTherm bay).bayEvent bay 6)
  else
    let s1 := (s.modBay bay fun b => { b with diode := some celsius }).showTherm bay
    .next (if s1.fetTooHot bay then s1.reactTo (s1.trip bay 3) bay else s1)

/-- CHANGEOVER (R387): the feed in use is not good and the other one is. -/
def actChangeover (bay feedA feedB : Nat) (s : State) : Host.Outcome State Fault Refusal :=
  let s1 := s.measureFeeds feedA feedB
  let f := s1.rd F.BAY_PSTAT_FEED bay
  .next (if bay < 32 && (s1.bayState bay = bOn || s1.bayState bay = bQualify) && !s1.goodNow f && s1.goodNow (1 - f) then
      s1.enterChangeover bay
    else s1)

/-- CHANGEOVER_BREAK_END (R387, R395): the other feed's gate turns on; a stop that was requested begins. -/
def actChangeoverBreakEnd (bay : Nat) (s : State) : Host.Outcome State Fault Refusal :=
  if bay < 32 && s.bayState bay = bChangeover then
    let s1 := (s.wr F.BAY_PSTAT_FEED (1 - s.rd F.BAY_PSTAT_FEED bay) bay).modBay bay fun b =>
      { b with gate := true, stopWanted := false }
    let s2 := s1.toBay bay (if s1.is F.BAY_PSTAT_PG bay then bOn else bQualify)
    .next (if (s.bayAt bay).stopWanted then s2.stopBay bay else s2)
  else .next s

/-- FEED_RETURN (R387): the priority feed has been good for BAY_FEED_RET.MS. -/
def actFeedReturn (bay : Nat) (s : State) : Host.Outcome State Fault Refusal :=
  .next (if bay < 32 && (s.bayState bay = bOn || s.bayState bay = bQualify) &&
        s.rd F.BAY_PSTAT_FEED bay ≠ s.ef F.BAY_PCFG_PRIO bay then
      s.enterChangeover bay
    else s)

/-- LINK_TRAINING_TIMEOUT (R375): one more attempt, or the drive is not ready and PERST is held. -/
def actLinkTrainingTimeout (bay : Nat) (s : State) : Host.Outcome State Fault Refusal :=
  if 32 ≤ bay || (s.bayAt bay).trains = 0 || (s.bayAt bay).trains = 3 || s.bayUp bay then .next s
  else if (s.bayAt bay).trains = 1 then .next (s.modBay bay fun b => { b with trains := 2 })
  else .next ((((s.setPerst bay true).modBay bay fun b => { b with trains := 3 }).wr F.BAY_LINKST_FAIL 1 bay).bayEventIf bay 5 F.BAY_SLTCTL_DLLSCE)

/-- BAY_LINK_UP (R374, R375): the slot power limit is sent, and a link below 64 GT/s or x2 raises its event. -/
def actBayLinkUp (bay speed width : Nat) (s : State) : Host.Outcome State Fault Refusal :=
  if bay < 32 && !s.bayUp bay && (s.bayAt bay).trains ≠ 0 && (s.bayAt bay).trains ≠ 3 && !s.gateForced (32 + bay) && !s.is F.CLK_STATUS_WATCH &&
      (s.stage == 5 || s.ready) && 1 ≤ speed && speed ≤ 6 && (width = 1 || width = 2) then
    let s1 := (((s.wr F.BAY_LINKST_DLLLA 1 bay).wr F.BAY_LINKST_WIDTH width bay).wr F.BAY_LINKST_SPEED speed bay).wr
      F.BAY_LINKST_FAIL 0 bay
    let s2 := (s1.wr F.BAY_SLTCTL_DLLSC 1 bay).emit (.slotPowerLimit bay (12 * s.ef F.BAY_PCFG_LIMIT bay))
    let s3 := s2.bayEventIf bay 5 F.BAY_SLTCTL_DLLSCE
    .next (if speed < 6 || width < 2 then s3.bayEventIf bay 5 F.BAY_SLTCTL_DLLSCE else s3)
  else .next s

/-- BAY_LINK_DOWN (R376): the bay's power does not change. -/
def actBayLinkDown (bay : Nat) (s : State) : Host.Outcome State Fault Refusal :=
  .next (if bay < 32 && s.bayUp bay then (s.dropLink bay).dropDrive bay else s)

/-- SLOT_POWER_OFF (R390, R391): Slot Control PCC is written 1. -/
def actSlotPowerOff (bay : Nat) (s : State) : Host.Outcome State Fault Refusal :=
  .next (if bay < 32 then (s.wr F.BAY_SLTCTL_PCC 1 bay).stopBay bay else s)

/-- SLOT_POWER_ON (R390): Slot Control PCC is written 0. -/
def actSlotPowerOn (bay : Nat) (s : State) : Host.Outcome State Fault Refusal :=
  .next (if bay < 32 then s.powerOn bay else s)

/-- SHUTDOWN_COMPLETE (R390, steps 2 to 5): what is still outstanding ends, PERST is asserted, the gates turn off. -/
def actShutdownComplete (bay : Nat) (s : State) : Host.Outcome State Fault Refusal :=
  .next (if bay < 32 && s.bayState bay = bStopping then (s.reactTo ((s.holdReset bay).bayOff bay) bay) else s)

/-- ATTENTION_BUTTON_PRESS (R392, R395). -/
def actAttentionButtonPress (bay : Nat) (s : State) : Host.Outcome State Fault Refusal :=
  if 32 ≤ bay || s.stage = 0 then .next s
  else
    let s1 := (s.wr F.BAY_SLTCTL_ABP 1 bay).bayEventIf bay 4 F.BAY_SLTCTL_ABPE
    if s1.ef F.BAY_CFG_BTNACT ≠ 1 then .next s1
    else if s1.bayState bay = bOn then .next (s1.modBay bay fun b => { b with buttonBlink := !b.buttonBlink })
    else .next (if s1.bayState bay = bOff || s1.bayState bay = bLatched then s1.powerOn bay else s1)

/-- BUTTON_STOP (R392): the five seconds end without a second press. -/
def actButtonStop (bay : Nat) (s : State) : Host.Outcome State Fault Refusal :=
  .next (if bay < 32 && (s.bayAt bay).buttonBlink && s.bayState bay = bOn then
      (s.modBay bay fun b => { b with buttonBlink := false }).requestStop bay
    else s)

/-- ATTENTION_BLINK_END (R391). -/
def actAttentionBlinkEnd (bay : Nat) (s : State) : Host.Outcome State Fault Refusal :=
  .next (if bay < 32 then s.modBay bay fun b => { b with refusedBlink := false } else s)

/-- POWER_CYCLE_END (R393). -/
def actPowerCycleEnd (bay : Nat) (s : State) : Host.Outcome State Fault Refusal :=
  .next (if bay < 32 && s.bayState bay = bCycle then s.toBay bay bCooling else s)

/-- GIVEBACK_GATE_RELEASE (R389): 100 µs after the turn of a giveback, this twin stops driving the gates. -/
def actGivebackGateRelease (s : State) : Host.Outcome State Fault Refusal :=
  .next (if s.bay.releasing then s.loseOwner else s)

end Sys2Proof.Machine
end

