-- ==== Sys2Proof/Machine/Cox.lean ====
section
/-!
DEFINITION. cox's sensors, signed commands and management requests (spec/15_cox_management.md, R442 to R460), and SPDM
attestation (R467 to R469).
-/

namespace Sys2Proof.Machine

open State

namespace State

/-- The checks of R456 on a signed command: a valid challenge of the same endpoint within 60 s, a filled and unrevoked
slot whose digest the public key has, and a signature that verifies. -/
def signedOk (s : State) (g : SigBlock) : Bool :=
  (s.cox.challenges.any fun c => c.1 == g.challenge && c.2.1 == g.endpoint && s.now - c.2.2 ≤ 60000000000) &&
  g.keyslot ≤ 3 && s.fuses.slots.getD g.keyslot 0 != 0 && !s.fuses.revoked.getD g.keyslot true &&
  s.fuses.slots.getD g.keyslot 0 == g.pubkeyDigest && g.verifies

/-- The challenge that a signed command carries is spent (R456). -/
def spend (s : State) (g : SigBlock) : State :=
  { s with cox := { s.cox with challenges := s.cox.challenges.filter fun c => !(c.1 == g.challenge && c.2.1 == g.endpoint) } }

/-- A signed command: denied with EV0908, or acted on with its challenge spent (R456). cox must run. -/
def signed (s : State) (g : SigBlock) (act : State → State) : State :=
  let s1 := s.spend g
  if s.signedOk g then act s1 else (s1.vendor vDenied).raise 908 0x0000

/-- Filled key slots that are not revoked. -/
def liveSlots (s : State) : List Nat :=
  [0, 1, 2, 3].filter fun k => s.fuses.slots.getD k 0 != 0 && !s.fuses.revoked.getD k true

/-- Two's complement in a byte. -/
def byteOf (t : Int) : Nat := (t % 256).toNat

/-- Store the die temperatures, four to a register (COX_TEMP_n). -/
def storeTemps (s : State) (die : List Int) : State :=
  (List.range 12).foldl (fun t n =>
    t.wr F.COX_TEMP_T ((List.range 4).foldl (fun w j => w + byteOf (die.getD (4 * n + j) 0) * 256 ^ j) 0) n) s

/-- The copy whose cox firmware runs: the one that is rolled in from phase 5 on (R464), else the one whose microcode runs. -/
def firmwareCopy (s : State) : Option Nat :=
  match s.cox.roll with
  | some r => if s.rd F.COX_UPD_STATE = 6 then some r.copy else s.runCopy
  | none => s.runCopy

/-- The bytes of the option-ROM section that the endpoint's page shows, as one little-endian number. -/
def optRomValue (s : State) : Nat :=
  match s.cox.optRom with
  | some (len, c) => Image.le c 0 len
  | none => 0

/-- A measurement block's digest (R469): SHA3-512 of what the index names, a published function of it. -/
def measure (s : State) (index : Nat) : Nat :=
  match index with
  | 1 => Image.le s.boot.nor ((s.activeCopy.map s.copyBase).getD 0 + 0x20) 64
  | 2 => match s.runCopy with | some c => s.digestIn c 2 | none => 0
  | 3 => match s.firmwareCopy with | some c => s.digestIn c 3 | none => 0
  | 4 => s.cox.startConfig
  | 5 => match s.cox.optRom with
    | some (len, _) => Config.cryptoValue 1 4 s.optRomValue len
    | none => 0
  | 6 => Config.cryptoValue 1 6 (s.fuses.slots.foldl (fun a d => a * 2 ^ 512 + d) (if s.fuses.ktk.isSome then 1 else 0))
      (s.fuses.revoked.foldl (fun a r => a * 2 + (if r then 1 else 0)) s.fuses.epoch)
  | 7 => match s.cox.roll with
    | some r => if r.back then 0 else s.digestIn r.copy 2
    | none => 0
  | _ => 0

/-- An SPDM response to a requester. A request is served whole in one step, so the limits of R444 are never reached. -/
def spdmAnswer (s : State) (requester code : Nat) (data : List Nat) : State :=
  ({ s with cox := { s.cox with spdm := s.cox.spdm.filter (fun (e : Nat × Nat) => e.1 != requester) ++ [(requester, code)] } }).emit
    (.spdm requester code data)

/-- cox firmware acts only while it runs. -/
def byCox (s : State) (r : Host.Outcome State Fault Refusal) : Host.Outcome State Fault Refusal :=
  if s.ev.coxRuns then r else .next s

/-- The owner of the buffer of a request to cox in H15, for as long as the request is served. -/
abbrev askOwner : Nat × Nat × Nat := (2 ^ 72, 0, 0)

/-- cox firmware serves a request of a protocol: where H15 has no buffer for it, it answers busy (R185, R446). A request takes one buffer,
and has given it back when it has been answered. DESIGN CHOICE (log entry 138). -/
def asked (s : State) (busy : State → State) (r : Host.Outcome State Fault Refusal) : Host.Outcome State Fault Refusal :=
  if !s.ev.coxRuns then .next s
  else if s.canHold 15 askOwner 1 then r
  else .next (busy (s.exhausted 15))

/-- Requests by protocol, with the busy answers of R446. -/
def askVendor (s : State) := s.asked fun t => t.vendor vBusy
def askControl (s : State) := s.asked fun t => t.emit (.mctp 0x00 0x04 [])
def askPldm (s : State) := s.asked fun t => t.emit (.mctp 0x01 0x04 [])
def askMi (s : State) := s.asked fun t => t.emit (.mctp 0x04 0x02 [])
def askSpdm (s : State) (requester : Nat) := s.asked fun t => t.emit (.spdm requester 0x7F [0x03])

end State

/-- GET_CHALLENGE (R456): 32 random bytes; a fifth challenge replaces the oldest. -/
def actGetChallenge (endpoint : Nat) (s : State) : Host.Outcome State Fault Refusal := s.askVendor <|
  let v := s.fresh
  let held := s.cox.challenges ++ [(v, endpoint, s.now)]
  let kept := if 4 < held.length then held.drop 1 else held
  .next (({ s.tick with cox := { s.cox with challenges := kept } }).vendor State.vOk [v])

/-- LOG_READ (R455): the records from a SEQ on, 1 to 256 of them. -/
def actLogRead (first count : Nat) (s : State) : Host.Outcome State Fault Refusal := s.askVendor <|
  if count = 0 || 256 < count then .next (s.vendor State.vInvalid)
  else
    let rs := (s.cox.log.reverse.filter fun r => first ≤ r.seq).take count
    .next (s.vendor State.vOk (rs.flatMap fun r =>
      [r.seq, r.time, r.start, r.kind, r.sev, r.flags, r.heat] ++ r.payload))

/-- SLOT_FILL (R458). -/
def actSlotFill (sig : SigBlock) (slot digest : Nat) (s : State) : Host.Outcome State Fault Refusal := s.askVendor <|
  .next (s.signed sig fun t =>
    if 3 < slot then t.vendor State.vInvalid
    else if t.fuses.slots.getD slot 0 ≠ 0 then t.vendor State.vRefused
    else
      ((({ t with fuses := { t.fuses with slots := t.fuses.slots.set slot digest } }).logFuse 0x03 slot 0).vendor
        State.vOk).raise 905 0x0000)

/-- SLOT_REVOKE (R458): refused for the key slot of the active image and for the last live slot. -/
def actSlotRevoke (sig : SigBlock) (slot : Nat) (s : State) : Host.Outcome State Fault Refusal := s.askVendor <|
  .next (s.signed sig fun t =>
    let activeSlot := t.activeCopy.map fun c => Image.keyslot t.boot.nor (t.copyBase c)
    if 3 < slot then t.vendor State.vInvalid
    else if activeSlot = some slot || t.liveSlots = [slot] then t.vendor State.vRefused
    else
      ((({ t with fuses := { t.fuses with revoked := t.fuses.revoked.set slot true } }).logFuse 0x04 slot 0).vendor
        State.vOk).raise 906 0x0000)

/-- KEK_LOAD (R460): `tagOk` and `kek` are what AES-256-GCM decryption under the key transport key gives. -/
def actKekLoad (sig : SigBlock) (kekid nonce wrapped : Nat) (tagOk : Bool) (kek : Nat) (s : State) :
    Host.Outcome State Fault Refusal := s.askVendor <|
  .next (s.signed sig fun t =>
    if 3 < kekid || 2 ^ 96 ≤ nonce || 2 ^ 256 ≤ wrapped then t.vendor State.vInvalid
    else if t.fuses.ktk.isNone then t.vendor State.vRefused
    else if !tagOk then t.vendor State.vDenied
    else
      let u := if t.cox.kekClears.contains kekid then t.kekCleared kekid else t
      (({ u with cox := { u.cox with keks := u.cox.keks.filter (fun (e : Nat × Nat) => e.1 != kekid) ++ [(kekid, kek)] } }).syncKek.vendor
        State.vOk).raise 907 0x0000)

/-- KEK_CLEAR (R460). While an unwrap under the key runs, it waits for it (R474). -/
def actKekClear (sig : SigBlock) (kekid : Nat) (s : State) : Host.Outcome State Fault Refusal := s.askVendor <|
  .next (s.signed sig fun t =>
    if 3 < kekid then t.vendor State.vInvalid
    else if t.kekRuns kekid then { t with cox := { t.cox with kekClears := addTo t.cox.kekClears kekid } }
    else t.kekCleared kekid)

/-- KTK_PROVISION (R457, R459): accepted only on the console, and once. -/
def actKtkProvision (sig : SigBlock) (console : Bool) (ktk : Nat) (s : State) : Host.Outcome State Fault Refusal := s.askVendor <|
  if !console then .next (s.vendor State.vDenied)
  else
    .next (s.signed sig fun t =>
      if t.fuses.ktk.isSome then t.vendor State.vRefused
      else
        ((({ t with fuses := { t.fuses with ktk := some ktk } }).logFuse 0x09 0 0).vendor State.vOk).raise 915 0x0000)

/-- SANITIZE_STATUS (R455): per-bay progress, 32 words. -/
def actSanitizeStatus (s : State) : Host.Outcome State Fault Refusal := s.askVendor <|
  .next (s.vendor State.vOk ((List.range 32).map fun b =>
    match s.cox.sanitizing.find? (fun (e : Nat × Nat) => e.1 == b) with
    | some e => e.2
    | none => 0))

/-- SET_ENDPOINT_ID (R444): the bus owner assigns cox's endpoint identifier on SMBus or I3C. -/
def actSetEndpointId (eid : Nat) (s : State) : Host.Outcome State Fault Refusal := s.askControl <|
  .next (({ s with cox := { s.cox with eid := eid % 256 } }).emit (.mctp 0x00 0x00 [eid % 256]))

/-- CONFIGURATION_GET (R447): identifier 0x01 SMBus frequency, 0x03 MCTP transmission unit. -/
def actConfigurationGet (id : Nat) (s : State) : Host.Outcome State Fault Refusal := s.askMi <|
  .next (
    if id = 1 then s.emit (.mctp 0x04 0x00 [s.cox.smbFreq])
    else if id = 3 then s.emit (.mctp 0x04 0x00 [s.cox.mtu])
    else s.emit (.mctp 0x04 0x04 []))

/-- CONFIGURATION_SET (R447). -/
def actConfigurationSet (id value : Nat) (s : State) : Host.Outcome State Fault Refusal := s.askMi <|
  .next (
    if id = 1 then ({ s with cox := { s.cox with smbFreq := value } }).emit (.mctp 0x04 0x00 [])
    else if id = 3 then ({ s with cox := { s.cox with mtu := value } }).emit (.mctp 0x04 0x00 [])
    else s.emit (.mctp 0x04 0x04 []))

/-- SET_EVENT_RECEIVER (R449). -/
def actSetEventReceiver (receiver : Nat) (s : State) : Host.Outcome State Fault Refusal := s.askPldm <|
  .next (({ s with cox := { s.cox with receiver := some receiver } }).emit (.mctp 0x01 0x00 []))

/-- The field that a PLDM effecter writes (R448). -/
def State.effecter (n : Nat) : Option Field :=
  match n with
  | 1 => some F.PACE_TARGET_RATE
  | 2 => some F.PACE_LIMIT_TLIMIT
  | 3 => some F.PACE_LIMIT_VCEIL
  | 4 => some F.CRW_PATROL_EN
  | 5 => some F.CRW_RBLD_RATE
  | _ => none

/-- SET_NUMERIC_EFFECTER_VALUE (R448): a write of one field under R11 to R15; a refusal is ERROR_INVALID_DATA (R446). -/
def actSetNumericEffecterValue (effecter value : Nat) (s : State) : Host.Outcome State Fault Refusal := s.askPldm <|
  match State.effecter effecter with
  | none => .next (s.emit (.mctp 0x01 0x02 []))
  | some f =>
    let w := value % 2 ^ f.width * 2 ^ f.lo
    if s.changesB (f.addr 0 0) f.mask w then .next ((s.refuseB .pldm (f.addr 0 0)).emit (.mctp 0x01 0x02 []))
    else .next ((s.storeWord (f.addr 0 0) f.mask w).emit (.mctp 0x01 0x00 []))

/-- SENSOR_READ (R450, R451): the sensors' registers, and EV0912 at most once in 60 s of elapsed time. -/
def actSensorRead (die : List Int) (hbm0 hbm1 : Nat) (s : State) : Host.Outcome State Fault Refusal := s.byCox <|
  let s1 := ((s.storeTemps die).wr F.COX_HBMT_HB0 hbm0).wr F.COX_HBMT_HB1 hbm1
  let due := match s.cox.warned with | some t => decide (t + 60000000000 ≤ s.now) | none => true
  if (die.any fun t => (s.ef F.COX_THERM_WARN : Int) ≤ t) && due then
    .next (({ s1 with cox := { s1.cox with warned := some s.now } }).raise 912 0x0000)
  else .next s1

/-- ECHO_REQUEST (R445): answered while the out-of-band port is enabled. -/
def execEchoRequest (seq : Nat) (s : State) : Host.Outcome State Fault Refusal := s.byCox <|
  .next (if s.is F.COX_OOB_CFG_EN then s.emit (.echoReply seq) else s)

/-- GET_VERSION (R467): SPDM 1.3. Response codes follow DSP0274. -/
def actGetVersion (requester : Nat) (s : State) : Host.Outcome State Fault Refusal := s.askSpdm requester <|
  .next (s.spdmAnswer requester 0x04 [0x13])

/-- GET_CAPABILITIES (R467): CERT_CAP, CHAL_CAP, signed MEAS_CAP; CTExponent 15; no session capability. -/
def actGetCapabilities (requester : Nat) (s : State) : Host.Outcome State Fault Refusal := s.askSpdm requester <|
  .next (s.spdmAnswer requester 0x61 [15, 0x16])

/-- NEGOTIATE_ALGORITHMS (R467): TPM_ALG_SHA3_512 twice, empty BaseAsymAlgo, one ExtAsym entry (PCI-SIG, 0x1F7C, 0x0087). -/
def actNegotiateAlgorithms (requester : Nat) (s : State) : Host.Outcome State Fault Refusal := s.askSpdm requester <|
  .next (s.spdmAnswer requester 0x63 [0x20, 0x20, 0, 3, 0x1F7C, 0x0087])

/-- GET_DIGESTS (R467, R468): slot 0 alone holds a chain. -/
def actGetDigests (requester : Nat) (s : State) : Host.Outcome State Fault Refusal := s.askSpdm requester <|
  .next (s.spdmAnswer requester 0x01 [1, Config.cryptoValue 1 0x100 0 0])

/-- GET_CERTIFICATE (R468): slot 0's chain, kept in one-time memory; the other slots are empty. -/
def actGetCertificate (requester slot : Nat) (s : State) : Host.Outcome State Fault Refusal := s.askSpdm requester <|
  .next (if slot = 0 then s.spdmAnswer requester 0x02 [Config.cryptoValue 2 0 0 0]
    else s.spdmAnswer requester 0x7F [0x01])

/-- CHALLENGE (R467): a signature by the identity key over the exchange and the measurements. -/
def actChallenge (requester slot nonce : Nat) (s : State) : Host.Outcome State Fault Refusal := s.askSpdm requester <|
  .next (if slot = 0 then
      (s.spdmAnswer requester 0x03 [Config.cryptoValue 1 0x100 0 0, s.fresh,
        Config.cryptoValue 3 (s.measure 1) nonce s.fresh]).tick
    else s.spdmAnswer requester 0x7F [0x01])

/-- GET_MEASUREMENTS (R469): index 0 asks for the number of blocks, 0xFF for all, 1 to 7 for one. -/
def actGetMeasurements (requester index : Nat) (signed : Bool) (nonce : Nat) (s : State) : Host.Outcome State Fault Refusal := s.askSpdm requester <|
  let blocks := if index = 0 then [7] else if index = 0xFF then [1, 2, 3, 4, 5, 6, 7].map s.measure
    else if index ≤ 7 then [s.measure index] else []
  if blocks.isEmpty then .next (s.spdmAnswer requester 0x7F [0x01])
  else if signed then .next ((s.spdmAnswer requester 0x60 (blocks ++ [s.fresh, Config.cryptoValue 3 (blocks.sum) nonce s.fresh])).tick)
  else .next (s.spdmAnswer requester 0x60 blocks)

end Sys2Proof.Machine
end

