-- ==== Sys2Proof/Machine/Spares.lean ====
section
/-!
DEFINITION. Spares and service life (spec/17_spares_and_service_life.md): stroke engines, regulator phases, HBM repair
and the life sum.
-/

namespace Sys2Proof.Machine

open State

namespace State

/-- Engine `e` is in service, or is an available spare (SPR_ENG_INSVC_w, SPR_ENG_SPARE_w). -/
def inService (s : State) (e : Nat) : Bool := (s.rd F.SPR_ENG_INSVC_ENG (e / 32)).testBit (e % 32)
def isSpare (s : State) (e : Nat) : Bool := (s.rd F.SPR_ENG_SPARE_ENG (e / 32)).testBit (e % 32)

/-- Engines in service, and spares. -/
def enginesIn (s : State) : List Nat := (List.range 96).filter s.inService
def spares (s : State) : List Nat := (List.range 96).filter s.isSpare

/-- SPR_STATUS.ENGINES follows the engines in service. -/
def syncEngines (s : State) : State := s.wr F.SPR_STATUS_ENGINES s.enginesIn.length

/-- Set an engine's bits in the two registers. -/
def setEngine (s : State) (e : Nat) (insvc spare : Bool) : State :=
  ((s.wrBit F.SPR_ENG_INSVC_ENG (e % 32) insvc (e / 32)).wrBit F.SPR_ENG_SPARE_ENG (e % 32) spare (e / 32)).syncEngines

/-- The pace domain of an engine: PD0 to PD3 hold 24 each. -/
def engineDomain (e : Nat) : Nat := e / 24

/-- The spare that replaces engine `e` (R500): of its own domain where one remains, else of the lowest domain that has one.
During a roll a spare with the new microcode is taken first (R474). -/
def spareFor (s : State) (e : Nat) : Option Nat :=
  let pool := match s.cox.roll with
    | some r => if r.back then s.spares else
        (s.spares.filter r.newEngines.contains) ++ s.spares.filter fun k => !r.newEngines.contains k
    | none => s.spares
  match pool.find? fun k => engineDomain k == engineDomain e with
  | some k => some k
  | none => pool.head?

/-- EV0931 is raised when the number of spares falls to SPR_CFG.WARN (R501). -/
def warnSpares (before : Nat) (s : State) : State :=
  let n := s.spares.length
  if n < before && n = s.ef F.SPR_CFG_WARN then s.raise 931 0x0000 else s

/-- Swap a worn engine for a spare at a turn (R500). A worn engine without a spare stays in service (R501). -/
def swapWorn (s : State) : State :=
  match s.spr.worn.find? s.inService with
  | none => s
  | some e =>
    match s.spareFor e with
    | none => s
    | some k =>
      let n := s.spares.length
      let s1 := ((s.setEngine k true false).setEngine e false false).raise 929 (0x1000 + e)
      warnSpares n { s1 with spr := { s1.spr with worn := dropFrom s1.spr.worn e } }

/-- A faulty engine leaves service at once; a spare enters where there is one (R500, R501). -/
def engineFails (s : State) (e : Nat) : State :=
  let n := s.spares.length
  let sp := s.spareFor e
  let s1 := s.setEngine e false false
  let s2 := { s1 with spr := { s1.spr with worn := dropFrom s1.spr.worn e } }
  let s3 := match sp with
    | some k => warnSpares n ((s2.setEngine k true false).raise 929 (0x1000 + e))
    | none => s2.raise 930 (0x1000 + e)
  if s3.enginesIn.length < 16 && 16 ≤ s.enginesIn.length then s3.raise 939 (0x1000 + e) else s3

/-- Spare phases left: of 48 to 51, those neither faulty nor serving a domain. -/
def sparePhases (s : State) : List Nat :=
  [48, 49, 50, 51].filter fun p => !(s.rd F.SPR_PHASE_HI_FAULT).testBit (p - 32) && !s.spr.joined.any (·.1 == p)

/-- A phase is faulty already. -/
def phaseFaulty (s : State) (p : Nat) : Bool :=
  if p < 32 then (s.rd F.SPR_PHASE_LO_FAULT).testBit p else (s.rd F.SPR_PHASE_HI_FAULT).testBit (p - 32)

/-- A regulator domain is a pace domain: PD0 to PD6 are numbers 2 to 8 of R450's list. -/
def isPaceDomain (d : Nat) : Bool := 2 ≤ d && d ≤ 8

/-- A phase of domain `d` is shut off (R502, R503). A spare phase serves the domain that it has joined; one that serves none leaves the
spares alone (DESIGN CHOICE, log entry 153: no event is raised). -/
def phaseFails (s : State) (p d : Nat) : State :=
  let idle := 48 ≤ p && !s.spr.joined.any (·.1 == p)
  let d := (s.spr.joined.lookup p).getD d
  let s1 := if p < 32 then s.wrBit F.SPR_PHASE_LO_FAULT p true else s.wrBit F.SPR_PHASE_HI_FAULT (p - 32) true
  let s2 := { s1 with spr := { s1.spr with joined := s1.spr.joined.filter (·.1 != p) } }
  if idle then s2.wr F.SPR_STATUS_PHASES s2.sparePhases.length
  else match s2.sparePhases with
  | k :: _ =>
    let s3 := { s2 with spr := { s2.spr with joined := s2.spr.joined ++ [(k, d)] } }
    (s3.wr F.SPR_STATUS_PHASES s3.sparePhases.length).raise 932 (0xC000 + p)
  | [] =>
    let s3 := s2.wr F.SPR_STATUS_PHASES 0
    if s3.spr.short.contains d then
      if isPaceDomain d then
        { s3 with clk := { s3.clk with ceilCut := s3.clk.ceilCut.set (d - 2) (s3.clk.ceilCut.getD (d - 2) 0 + 1) } }
      else s3.raise 934 (0xC000 + p)
    else ({ s3 with spr := { s3.spr with short := s3.spr.short ++ [d] } }).raise 933 (0xC000 + p)

/-- Fifty times the service life in years at a case temperature in tenths of a degree (R508's table, interpolated). -/
def life50 (t : Nat) : Nat :=
  if t ≤ 850 then 1250
  else if t ≤ 900 then 1250 - 7 * (t - 850)
  else if t ≤ 950 then 900 - 5 * (t - 900)
  else 650

/-- Milliseconds of a year of 365.25 days. -/
abbrev yearMs := 31557600000

end State

/-- ENGINE_WEAR_CHECK (R499, R501): monitor readings of engines in ps. An engine in service more than WORN percent
longer than the median of its pace domain is worn. -/
def execEngineWearCheck (readings : List (Nat × Nat)) (s : State) : Host.Outcome State Fault Refusal :=
  let live := readings.filter fun r => s.inService r.1
  let worn := live.filter fun r =>
    let m2 := twiceMedian ((live.filter fun q => State.engineDomain q.1 == State.engineDomain r.1).map (·.2))
    m2 * (100 + s.ef F.SPR_CFG_WORN) < 2 * r.2 * 100
  .next { s with spr := { s.spr with worn := worn.map (·.1) } }

/-- SPARE_SELF_CHECK (R499). -/
def actSpareSelfCheck (engine : Nat) (passes : Bool) (s : State) : Host.Outcome State Fault Refusal :=
  if engine < 96 && s.isSpare engine && !passes then
    .next (State.warnSpares s.spares.length ((s.setEngine engine false false).raise 928 (0x1000 + engine)))
  else .next s

/-- HBM_ROW_REPAIR (R507): soft post-package repair and an entry of the hard-repair table, or the MiB of HBM in which the row lies is
retired from its hamper. DESIGN CHOICE: a row outside the hampers retires nothing (log entry 137). -/
def actHbmRowRepair (stack bank row mib : Nat) (bankHasResource : Bool) (s : State) : Host.Outcome State Fault Refusal :=
  if bankHasResource && s.fuses.hbmRepairs.length < 64 then
    let s1 := { s with fuses := { s.fuses with hbmRepairs := s.fuses.hbmRepairs ++ [(stack, bank, row)] } }
    .next ((s1.wr F.SPR_REPAIR_HBM_FREE (64 - s1.fuses.hbmRepairs.length)).raise 937 (0xB000 + stack))
  else
    let s1 := match s.hamperAt mib with
      | some h => { s with spr := { s.spr with retired := s.spr.retired ++ [h] } }.showUse h
      | none => s
    .next (s1.raise 938 (0xB000 + stack))

/-- LIFE_UPDATE (R508): the interval that ends is added at its case temperature, given in tenths of a degree. -/
def actLifeUpdate (caseTenths elapsedMs : Nat) (s : State) : Host.Outcome State Fault Refusal :=
  let acc := s.spr.lifeRest + elapsedMs * 10000 * 50 * 10 ^ 12 / (State.life50 caseTenths * State.yearMs)
  let old := s.rd F.SPR_LIFE_USED
  let new := min 10000 (old + acc / 10 ^ 12)
  let s1 := { s with spr := { s.spr with lifeRest := acc % 10 ^ 12 } }.wr F.SPR_LIFE_USED new
  .next (if old ≤ 9000 && 9000 < new then s1.raise 940 0x0000 else s1)

end Sys2Proof.Machine
end

