-- ==== Sys2Proof/Machine/Update.lean ====
section
/-!
DEFINITION. Image update and rolling activation (R461 to R466 and R474 of spec/15_cox_management.md).
-/

namespace Sys2Proof.Machine

open State

namespace State

/-- Answer a PLDM message with a completion code and content. -/
def pldm (s : State) (code : Nat) (data : List Nat := []) : State := s.emit (.mctp 0x01 code data)

/-- Write COX_UPD.STATE. -/
def setUpd (s : State) (n : Nat) : State := s.wr F.COX_UPD_STATE n

/-- The inactive copy. -/
def inactiveCopy (s : State) : Nat := if s.activeCopy = some 0 then 1 else 0

/-- An update stage's record (R453): sequence, stage and result. -/
def logUpdate (s : State) (stage result : Nat) : State := s.logOpen kUpdate [Image.sequence s.cox.staged 0, stage, result]

/-- A record of an activation phase (R453): sequence, phase and result. -/
def logActivate (s : State) (copy phase result : Nat) : State :=
  s.logOpen kActivate [Image.sequence s.boot.nor (s.copyBase copy), phase, result]

/-- The owner of the staged image's buffers in H15 (R182, R461). -/
abbrev stageOwner : Nat × Nat × Nat := (2 ^ 72 + 1, 0, 0)

/-- Bytes of an image given by offset. -/
def imageBytes (image : List (Nat × Nat)) : Nat := image.foldl (fun n kv => max n (kv.1 + 1)) 0

/-- The staged image is needed no longer: its buffers are released (R186). -/
def dropStage (s : State) : State :=
  let t := { s with cox := { s.cox with staged := [], stagedOk := false } }
  if t.heldBy 15 stageOwner = 0 then t else t.freeBuffers 15 stageOwner

/-- The update ends without success in a stage, 1 verification or 2 writing: EV0901 (R462). -/
def updateFails (s : State) (stage : Nat) : State :=
  ((({ s with cox := { s.cox with agent := none } }).setUpd 0).logUpdate stage 1).dropStage.raise 901 0x0000

/-- A fault of severity critical or fatal is open (R463). -/
def seriousFault (s : State) : Bool :=
  s.fatal || s.ev.hand.any (fun e => 2 ≤ e.sev) || s.ev.queue.any (fun e => 2 ≤ e.sev)

/-- Program the staged image over the copy at `base`: body first and header last leave the same bytes (R462). -/
def programStaged (s : State) (copy : Nat) : State :=
  let base := s.copyBase copy
  let len := Image.length s.cox.staged 0
  let s1 := s.norErase base (base + len)
  (s.cox.staged.filter fun kv => kv.1 < len).foldl
    (fun t kv => { t with boot := { t.boot with nor := t.boot.nor.put 0xFF (base + kv.1) kv.2 } }) s1

/-- Erase the header sector of a copy (R462, R465). -/
def eraseHeader (s : State) (copy : Nat) : State := s.norErase (s.copyBase copy) (s.copyBase copy + 4096)

/-- The engines that still run the microcode being replaced: in service, and not among those with the new one; while a
roll is undone, those that still run the new one. -/
def oldEngines (s : State) (r : Roll) : List Nat :=
  if r.back then s.enginesIn.filter r.newEngines.contains else s.enginesIn.filter fun e => !r.newEngines.contains e

/-- A spare with the microcode that the roll moves to. -/
def rollSpare (s : State) (r : Roll) : Option Nat :=
  s.spares.find? fun e => r.newEngines.contains e != r.back

/-- Phase 2 of R464 at a turn: a spare enters service, and one old engine stops taking slots. Skipped while the previous
swap is unfinished. The second component says whether the turn was used. -/
def rollSwap (s : State) : State × Bool :=
  match s.cox.roll with
  | none => (s, false)
  | some r =>
    if s.rd F.COX_UPD_STATE = 6 || r.leaving.isSome then (s, r.leaving.isSome)
    else match s.rollSpare r, (s.oldEngines r).head? with
      | some k, some e =>
        let s1 := (s.setEngine k true false).setEngine e false false
        let s2 := { s1 with cox := { s1.cox with roll := some { r with leaving := some e } } }
        (if r.back then s2 else s2.logActivate r.copy 2 0, true)
      | _, _ => (s, false)

/-- No engine in service runs the old microcode, and no swap is unfinished: phase 5 of R464 is due at the next turn. -/
def rollDone (s : State) : Bool :=
  match s.cox.roll with
  | some r => s.rd F.COX_UPD_STATE != 6 && r.leaving.isNone && (s.oldEngines r).isEmpty
  | none => false

end State

/-- REQUEST_UPDATE (R444, R474): one update at a time. -/
def actRequestUpdate (agent : Nat) (s : State) : Host.Outcome State Fault Refusal := s.askPldm <|
  match s.cox.agent with
  | some a => if a = agent then .next (s.pldm 0x00) else .next (s.pldm 0x04)
  | none => .next ((({ s.dropStage with cox := { s.dropStage.cox with agent := some agent } }).setUpd 1).pldm 0x00)

/-- UPDATE_COMPONENT (R461): the stamp must be one greater than the active copy's SEQUENCE[31:0], and the size must not
exceed the longest image; otherwise Invalid Comp Comparison Stamp. -/
def actUpdateComponent (agent stamp size : Nat) (s : State) : Host.Outcome State Fault Refusal := s.askPldm <|
  if s.cox.agent ≠ some agent then .next (s.pldm 0x04)
  else if stamp = (s.activeSequence + 1) % 2 ^ 32 && size ≤ s.longestImage then .next ((s.logUpdate 0 0).pldm 0x00 [0])
  else .next (s.pldm 0x00 [1])

/-- TRANSFER_COMPLETE (R461): the image, as bytes by offset, is staged in H15, or finds no room there (R185). -/
def actTransferComplete (image : List (Nat × Nat)) (s : State) : Host.Outcome State Fault Refusal := s.askPldm <|
  if s.cox.agent.isNone || s.rd F.COX_UPD_STATE ≠ 1 then .next s
  else
    let c : Cells := image.foldl (fun c kv => c.put 0xFF kv.1 (kv.2 % 256)) []
    let (s1, ok) := s.dropStage.takeBuffers 15 stageOwner (buffersFor (imageBytes image))
    if ok then .next ((({ s1 with cox := { s1.cox with staged := c } }).setUpd 2).pldm 0x00) else .next (s1.pldm 0x04)

/-- VERIFY_COMPLETE (R462): the checks of R55 on the staged image, with SEQUENCE equal to the active copy's plus one. -/
def actVerifyComplete (facts : CopyFacts) (s : State) : Host.Outcome State Fault Refusal := s.askPldm <|
  if s.rd F.COX_UPD_STATE ≠ 2 then .next s
  else if Image.check s.cox.staged 0 s.longestImage s.fuses facts = 0 && Image.sequence s.cox.staged 0 = s.activeSequence + 1 then
    .next (((({ s with cox := { s.cox with stagedOk := true } }).setUpd 3).logUpdate 1 0).pldm 0x00 [0] |>.raise 900 0x0000)
  else .next ((s.updateFails 1).pldm 0x00 [1])

/-- APPLY_COMPLETE (R462): the inactive copy has been erased, programmed and read back, and R55 has been run on it. -/
def actApplyComplete (readBack : CopyFacts) (s : State) : Host.Outcome State Fault Refusal := s.askPldm <|
  if s.rd F.COX_UPD_STATE ≠ 3 || !s.cox.stagedOk then .next s
  else
    let c := s.inactiveCopy
    let s1 := s.programStaged c
    if Image.check s1.boot.nor (s1.copyBase c) s1.longestImage s1.fuses readBack = 0 then
      .next (((s1.setUpd 4).logUpdate 2 0).pldm 0x00 [0])
    else .next (((s1.eraseHeader c).updateFails 2).pldm 0x00 [1])

/-- A little-endian value at an offset of the microcode section of a copy (R463): MINPREV, and two twin-link versions. -/
def State.ucField (s : State) (copy offset n : Nat) : Nat :=
  match s.sectionIn copy 2 with
  | some x => Image.le s.boot.nor (s.copyBase copy + x.offset + offset) n
  | none => 0

/-- ACTIVATE_FIRMWARE (R463, R464): deferred to the next start, or a rolling activation where every condition holds. The partner's
running microcode knows the twin-link versions given. -/
def actActivateFirmware (selfContained : Bool) (partnerTwinA partnerTwinB : Nat) (s : State) : Host.Outcome State Fault Refusal :=
  s.askPldm <|
  if s.rd F.COX_UPD_STATE ≠ 4 then .next (s.pldm 0x04)
  else if !selfContained then
    .next ((({ s with cox := { s.cox with agent := none } }).setUpd 0).dropStage.pldm 0x00)
  else
    let c := s.inactiveCopy
    let share := [s.ucField c 4 2, s.ucField c 6 2].any fun v => v == partnerTwinA || v == partnerTwinB
    if s.ready && s.rd F.HMP_PFAIL_STATE = 0 && !s.seriousFault && !s.spares.isEmpty && s.ucField c 0 4 ≤ s.cox.ucVersion &&
        (s.rd F.TWN_STATUS_STATE != 2 || share) then
      let s1 := { s with cox := { s.cox with roll := some ⟨c, s.spares, none, false⟩ } }
      .next (((((s1.setUpd 5).wr F.COX_UPD_SWAPPED 0).logActivate c 1 0).pldm 0x00).raise 902 0x0000)
    else .next (s.pldm 0x04)

/-- ENGINE_SWAP_COMPLETE (R464 phases 3 and 4): the old engine's work has ended, it has been loaded and becomes a spare; one whose load
fails its check leaves the pool (R499, R509). -/
def actEngineSwapComplete (checked : Bool) (s : State) : Host.Outcome State Fault Refusal :=
  match s.cox.roll with
  | none => .next s
  | some r =>
    match r.leaving with
    | none => .next s
    | some e =>
      let news := if r.back then dropFrom r.newEngines e else addTo r.newEngines e
      let s1 := { s with cox := { s.cox with roll := some { r with leaving := none, newEngines := if checked then news else r.newEngines } } }
      let s2 := s1.bump F.COX_UPD_SWAPPED
      let s3 := if r.back then s2 else (s2.logActivate r.copy 3 0).logActivate r.copy 4 (if checked then 0 else 1)
      if checked then .next (s3.setEngine e false true)
      else .next (State.warnSpares (s.spares.length + 1) (s3.raise 928 (0x1000 + e)))

/-- PROBATION_END (R464 phase 6, R466): the new copy becomes the active copy; its configuration and option ROM wait for the next start. -/
def actProbationEnd (s : State) : Host.Outcome State Fault Refusal :=
  match s.cox.roll with
  | some r =>
    if s.rd F.COX_UPD_STATE = 6 then
      let s1 := { s with cox := { s.cox with roll := none, agent := none, ucVersion := s.versionIn r.copy 2 } }.dropStage
      .next ((((((s1.wr F.BOOT_STATUS_ACTIVE (r.copy + 1)).wr F.COX_UPD_RUNCOPY (r.copy + 1)).wr F.COX_UPD_PEND 1).setUpd
        0).logActivate r.copy 6 0).raise 903 0x0000)
    else .next s
  | none => .next s

end Sys2Proof.Machine
end

