-- ==== Sys2Proof/Machine/CoxReset.lean ====
section
/-!
DEFINITION. The loss of a host of work rings (R417), the cox reset (R67, R69, R489), the retirement of a cox core (R504), and the
rollback of an activation (R465).
-/

namespace Sys2Proof.Machine

namespace State

/-- Items of a host fall back at once, and its functions use hardware mode for the rest of the heat (R31, R69, R417). -/
def dropItems (s : State) (cox : Bool) : State :=
  (s.unroute fun f _ => s.wrg.route.getD f 1 == (if cox then 1 else 0)).fallAll fun it => it.cox == cox

/-- The rings of a lost host are disabled, and their entries end without effect and without a completion (R416 to R418). -/
def loseRings (s : State) (cox : Bool) : State :=
  let mine := s.enabledRings.filter fun r => coxRing r == cox
  let s1 := s.dropTaken fun t => coxRing t.ring == cox
  (mine.foldl (fun t r => (t.wr F.WRG_RING_EN 0 r).wr F.WRG_IDX_STATE 3 r) s1).dropItems cox

/-- cox firmware configures its rings (R398): twelve outbound rings, and the inbound ring 1,020, which completes in place. -/
def startCoxRings (s : State) : State :=
  ((List.range 13).map (· + 1008)).foldl (fun t r =>
    let t1 := ((t.wr F.WRG_RING_KIND (if r = 1020 then 0 else 2) r).wr F.WRG_RING_LOG2SIZE 13 r).wr F.WRG_RING_SLOT 3 r
    (((t1.wr F.WRG_IDX_PI 0 r).wr F.WRG_IDX_CI 0 r).wr F.WRG_RING_EN 1 r).wr F.WRG_IDX_STATE 1 r) s

/-- The section version of a type in the active copy (R53). -/
def activeVersion (s : State) (type : Nat) : Nat :=
  match s.activeCopy with
  | some c => s.versionIn c type
  | none => 0

/-- The version of the running cox firmware shows in COX_STATUS. -/
def showFw (s : State) (v : Nat) : State := { s with cox := { s.cox with fwVersion := v } }.wr F.COX_STATUS_FWVER v

/-- cox firmware has been started in this start (R37): it runs, or a cox reset has left cox halted. Before that its cores are held in
reset. -/
def coxStarted (s : State) : Bool := s.ev.coxRuns || s.cox.halted

/-- A cox reset (R67, R69), once the firmware has started (R37): items that cox holds fall back, management sessions end, an update transfer is lost (R474), and every
handling in progress ends without escalation (R489). Firmware restarts where its digest matches; else cox stays halted: EV0011. -/
def coxReset (s : State) (digestOk : Bool) : State :=
  if !s.coxStarted then s else
  let s1 := s.loseRings true
  let writing := s1.rd F.COX_UPD_STATE == 3
  let s2 := if writing then s1.eraseHeader s1.inactiveCopy else s1
  let s3 := if s2.rd F.COX_UPD_STATE < 5 then (s2.setUpd 0).dropStage else s2
  let s4 := { s3 with
    cox := { s3.cox with
      challenges := [], agent := none, spdm := [], eid := 0, receiver := none, pldmSent := [], pldmMissed := 0
      smbFreq := State.reset.cox.smbFreq, mtu := State.reset.cox.mtu, warned := none, halted := !digestOk }
    ev := { s3.ev with hand := [], coxRuns := digestOk } }
  if digestOk then s4.startCoxRings.beginQueued else s4.raise 11 0x0000

/-- The unit number of a cox core (R477). -/
abbrev coreUnit (core : Nat) : Nat := 0x2000 + core

/-- A core meets the test of R504: it is retired through the cox reset, or, where one is retired already, stays in service. -/
def coreFails (s : State) (core : Nat) : State :=
  let cores := s.rd F.COX_STATUS_CORES
  if cores = 15 then ((s.wrBit F.COX_STATUS_CORES core false).wr F.SPR_STATUS_COX 3).raise 935 (coreUnit core)
  else s.raise 936 (coreUnit core)

/-- An activation is rolled back (R465): engines return by further swaps, for which the spares take the old microcode from the HBM copy,
cox restarts from that copy, and the new copy loses its header. -/
def rollBack (s : State) (digestOk : Bool) : State :=
  match s.cox.roll with
  | none => s
  | some r =>
    if r.back then s
    else
      let kept := r.newEngines.filter fun e => !s.isSpare e
      let s1 := { s with cox := { s.cox with roll := some { r with back := true, newEngines := kept } } }.setUpd 7
      (((s1.eraseHeader r.copy).coxReset digestOk).dropStage.showFw (s1.activeVersion 3)).raise 904 0x0000

end State

open State

/-- SYS_RESET_COX (R67, R69): keyed; with SYSTEM set as well it is a system reset. -/
def execSysResetCox (value : Word) (digestOk : Bool) (s : State) : Host.Outcome State Fault Refusal :=
  .next (if value.toNat / 65536 = 0x5A3C && value.getLsbD 1 && !value.getLsbD 0 then (s.coxReset digestOk).carryOn else s)

/-- COX_WATCHDOG_EXPIRY (R442, R504, R465): a watchdog has run for COX_WDT.MS without a restart. Two expiries of a core within
24 h retire it. -/
def execCoxWatchdogExpiry (core : Nat) (digestOk : Bool) (s : State) : Host.Outcome State Fault Refusal :=
  .next (
    if 4 ≤ core || !(s.rd F.COX_STATUS_CORES).testBit core || !s.coxStarted then s
    else
      let again := match s.cox.expired.lookup core with
        | some t => decide (s.now - t < 86400000000000)
        | none => false
      let s1 := { s with cox := { s.cox with
        expired := (s.cox.expired.filter fun (e : Nat × Nat) => e.1 != core) ++ [(core, s.now)] } }
      let s2 := if again then s1.coreFails core else s1
      let rolls := match s2.cox.roll with | some r => !r.back | none => false
      let s3 := if rolls then s2.rollBack digestOk else s2.coxReset digestOk
      (s3.raise 896 (coreUnit core)).carryOn)

/-- ROLL_CANCEL (R455, R465): accepted while an activation runs. -/
def execRollCancel (sig : SigBlock) (digestOk : Bool) (s : State) : Host.Outcome State Fault Refusal :=
  s.askVendor <| .next (s.signed sig fun t =>
    match t.cox.roll with
    | some r => if r.back then t.vendor State.vRefused else ((t.vendor State.vOk).rollBack digestOk).carryOn
    | none => t.vendor State.vRefused)

/-- ENGINE_FAULT (R499 to R501, R465, R474): a faulty engine leaves service at once. During an activation a spare with the new
microcode replaces it; a fault of an engine with the new microcode that is critical or fatal, or the want of such a spare, undoes
the activation. -/
def execEngineFault (engine : Nat) (digestOk : Bool) (s : State) : Host.Outcome State Fault Refusal :=
  .next (
    if 96 ≤ engine || !s.inService engine then s
    else
      let s1 := s.engineFails engine
      let back := match s.cox.roll with
        | some r =>
          !r.back && (!(s.spares.any r.newEngines.contains) ||
            (r.newEngines.contains engine && s1.enginesIn.length < 16 && decide (16 ≤ s.enginesIn.length)))
        | none => false
      let s2 := match s1.cox.roll with
        | some r => if r.leaving = some engine then { s1 with cox := { s1.cox with roll := some { r with leaving := none } } } else s1
        | none => s1
      (if back then s2.rollBack digestOk else s2).carryOn)

/-- The fuses of soft repairs that wait for the end of a drain are blown (R505, R509). -/
def State.blowSoft (s : State) : State :=
  s.spr.soft.foldl (fun (t : State) (e : Nat × Nat × Bool) => t.logFuseAlone e.1)
    { s with spr := { s.spr with soft := [] }, fuses := { s.fuses with sramRepairs := s.fuses.sramRepairs ++ s.spr.soft } }

/-- A row or column of an on-die array is repaired while it has a spare, else its buffers are retired: `buffers` of what the array holds
(R505, R506). -/
def State.repairArray (s : State) (array row : Nat) (isRow : Bool) (use : ArrayUse) (buffers : Nat) : State :=
  let used := ((s.fuses.sramRepairs ++ s.spr.soft).filter fun (e : Nat × Nat × Bool) => e.1 == array && e.2.2 == isRow).length
  if used < (if isRow then 16 else 4) then
    let s1 : State := { s with spr := { s.spr with soft := s.spr.soft ++ [(array, row, isRow)] } }
    let s2 : State := (s1.bump F.SPR_REPAIR_SRAM).raise 937 (0xE000 + array)
    if s2.rd F.HMP_PFAIL_STATE = 0 then s2.blowSoft else s2
  else
    let s1 : State := { s with spr := { s.spr with lost := s.spr.lost ++ [(array, use, buffers)] } }
    s1.raise 938 (0xE000 + array)

/-- SRAM_SOFT_REPAIR (R505, R506; R442 and R504 where the array serves a cox core): a row or column has reported 3 corrected
errors within 24 h, or one uncorrectable error; `many` says that a core's SRAM has reported more than 64 within 24 h. -/
def execSramSoftRepair (array row : Nat) (isRow : Bool) (use : ArrayUse) (buffers : Nat) (coxCore : Option Nat)
    (uncorrectable many digestOk : Bool) (s : State) : Host.Outcome State Fault Refusal :=
  .next (
    if 256 ≤ array then s
    else
      let s1 := s.repairArray array row isRow use buffers
      match coxCore with
      | none => s1.carryOn
      | some core =>
        if 4 ≤ core then s1.carryOn
        else
          let s2 := if uncorrectable then s1.raise 3 (coreUnit core) else s1
          let s3 := if many && (s2.rd F.COX_STATUS_CORES).testBit core then s2.coreFails core else s2
          let retired := many && (s1.rd F.COX_STATUS_CORES == 15)
          (if uncorrectable || retired then s3.coxReset digestOk else s3).carryOn)

end Sys2Proof.Machine
end

