-- ==== Sys2Proof/Machine/CrossShelf.lean ====
section
/-!
DEFINITION. Messages of cross-shelf mirrors as they arrive, the split and the resync (R145, R286 to R289 of
spec/08_degradation_rebuild_takeover.md).
-/

namespace Sys2Proof.Machine

namespace State

/-- The peer of a pairing (R133). -/
def xmPeer (s : State) (m : Nat) : Option Nat := s.fedPeer (s.ef F.TWN_XM_PEER_SHELF m)

/-- The unit number of a pairing's peer (R477). -/
def xmUnit (s : State) (m : Nat) : Nat := match s.xmPeer m with | some n => 0xA001 + n | none => 0xA000

/-- A message comes from the peer of a pairing. -/
def fromPeer (s : State) (m : Nat) (r : FlowRef) : Bool :=
  match s.xmPeer m with
  | some n => s.fedAddr n == r.ip
  | none => false

/-- A context of the reserve of 1,024 is free (R145). -/
def fedContext (s : State) : Bool :=
  s.is F.SKF_SHELF_FED_EN && decide ((s.nvt.cmds.filter fun k => k.ctx && k.req.silent).length < 1024)

/-- A WRITE or RESYNC message is executed at the secondary as a command without a response; its ACK is owed (R287, R288). One for
a volume that is no secondary of its sender, or whose crew this NP32 does not serve, or that arrives while admission is stopped, is
taken without effect. -/
def copyWrite (s : State) (r : FlowRef) (msgid vol token slba nlb : Nat) (zero dealloc : Bool) (data : Nat) : State :=
  if !s.fedContext then s
  else
    let s1 := (s.takeControl r 6 msgid).1
    match s1.secondaryPairing vol with
    | none => s1
    | some m =>
      if !s1.fromPeer m r || (s1.volOf vol).isNone || s1.admissionHalted || s1.twn.stopped then s1
      else
        let c : CmdId := ⟨0xFFFF, m, token % 65536, msgid⟩
        let k : Cmd :=
          { Cmd.fresh c r 0 none (.mirrored vol slba nlb zero dealloc data) s1.now (s1.now + s1.deadline) s1.nvt.nextAdmit 0 s1.heat with
            ctx := true, phase := 1, passed := true }
        ({ s1 with
          nvt := { s1.nvt with cmds := s1.nvt.cmds ++ [k], nextAdmit := s1.nvt.nextAdmit + 1 }
          twn := { s1.twn with owed := s1.twn.owed ++ [(m, token, c)] } }).showTarget

/-- The oldest units of a pairing that are dirty and not under way come first (R289: in order). -/
def resyncNext (s : State) (m u : Nat) : Bool :=
  let busy (x : Nat) : Bool := s.twn.waits.any fun w => w.pairing == m && w.unit_ == some x
  s.twn.dirty.contains (m, u) && s.twn.dirty.all fun d => d.1 != m || u ≤ d.2 || busy d.2

/-- The primary sends a dirty unit (R289), whose content is `data`, once a flow to the secondary is open. -/
def resyncSend (s : State) (m u : Nat) (zero : Bool) (data : Nat) : State :=
  let v := s.ef F.TWN_XM_VOL m
  match s.xmPeer m with
  | none => s
  | some n =>
    if s.ef F.TWN_XM_VALID m ≠ 1 || s.ef F.TWN_XM_ROLE m ≠ 0 || !s.is F.TWN_XM_SPLIT m || !s.resyncNext m u then s
    else match s.fedFlow n with
      | (s1, none) => s1
      | (s1, some _) =>
        let tok := s1.twn.nextToken
        let count := min 64 (s1.nsSize v - 64 * u)
        let old (w : XmWait) : Bool := w.pairing == m && w.unit_ == some u
        let s2 := { s1 with twn := { s1.twn with
          nextToken := (tok + 1) % 2 ^ 32
          waits := (s1.twn.waits.filter fun w => !old w) ++ [XmWait.mk tok m none (some u)] } }
        s2.sendFed n ⟨3, zero, false, s2.ef F.TWN_XM_PEER_VOL m, tok, s2.heat, 64 * u, count - 1, data⟩
          (if zero then 0 else count * (4096 + (if s2.fmtOf v = 1 then 8 else 0)))

/-- An ACK clears what waited for it (R288, R289). When no dirty unit of a split mirror remains, it is whole again: EV0303. -/
def xmAcked (s : State) (r : FlowRef) (msgid token : Nat) (resync : Bool) : State :=
  let s1 := (s.takeControl r 6 msgid).1
  match s1.twn.waits.find? fun w => w.token == token && w.unit_.isSome == resync && s1.fromPeer w.pairing r with
  | none => s1
  | some w =>
    let s2 := { s1 with twn := { s1.twn with waits := s1.twn.waits.filter (· != w) } }
    match w.unit_ with
    | none => s2
    | some u =>
      let s3 := { s2 with twn := { s2.twn with dirty := s2.twn.dirty.filter (· != (w.pairing, u)) } }
      if s3.twn.dirty.any fun d => d.1 == w.pairing then s3
      else (s3.wr F.TWN_XM_SPLIT 0 w.pairing).raise 303 (s3.xmUnit w.pairing)

/-- A mirror splits (R288): its writes commit without the secondary, their units are dirty, and EV0302 is raised. -/
def splitMirror (s : State) (m : Nat) : State :=
  let mine := s.twn.waits.filter fun w => w.pairing == m
  let units := mine.flatMap fun w => match w.cmd.bind s.cmdOf with
    | some k => k.req.ranges.flatMap fun g => if g.2 = 0 then [] else unitsOf g.1 g.2
    | none => []
  let s1 := s.setDirty m units
  let s2 := { s1 with twn := { s1.twn with waits := s1.twn.waits.filter fun w => w.pairing != m } }
  (s2.wr F.TWN_XM_SPLIT 1 m).raise 302 (s2.xmUnit m)

end State

open State

/-- MIRRORED_WRITE (R287): a message of KIND WRITE arrives at a secondary. `heat` is the primary's heat of the write. -/
def execMirroredWrite (flow : FlowRef) (msgid vol token _heat slba nlb : Nat) (zero dealloc : Bool) (data : Nat) (s : State) :
    Host.Outcome State Fault Refusal :=
  .next (s.copyWrite flow msgid vol token slba nlb zero dealloc data).carryOn

/-- MIRROR_ACK (R288): an ACK that arrives after the split is ignored (R290). -/
def execMirrorAck (flow : FlowRef) (msgid token : Nat) (s : State) : Host.Outcome State Fault Refusal :=
  .next (s.xmAcked flow msgid token false).carryOn

/-- RESYNC (R289). -/
def execResync (step : ResyncStep) (s : State) : Host.Outcome State Fault Refusal :=
  match step with
  | .send m u zero data => .next (s.resyncSend m u zero data).carryOn
  | .arrive flow msgid vol token _ slba nlb zero data => .next (s.copyWrite flow msgid vol token slba nlb zero false data).carryOn
  | .acked flow msgid token => .next (s.xmAcked flow msgid token true).carryOn

/-- MIRROR_SPLIT (R288): no ACK has come within TWN_CFG.XM_WAIT of a send. -/
def execMirrorSplit (pairing : Nat) (s : State) : Host.Outcome State Fault Refusal :=
  .next (
    if s.ef F.TWN_XM_VALID pairing = 1 && s.ef F.TWN_XM_ROLE pairing = 0 && !s.is F.TWN_XM_SPLIT pairing &&
        s.twn.waits.any (fun w => w.pairing == pairing && w.unit_.isNone) then (s.splitMirror pairing).carryOn
    else s)

end Sys2Proof.Machine
end

