-- ==== Sys2Proof/Machine/Schedule.lean ====
section
/-!
DEFINITION. The scheduler of a logical port (R356 to R360) and its time gates (R361 to R363).
-/

namespace Sys2Proof.Machine

/-- One stretch of a gate list in a cycle: its gates, and its end counted from the start of the cycle in ns. -/
abbrev Stretch := Nat × Nat

/-- The stretches of a cycle from the entries (gates, interval) of a list (R361): an interval of 0 ends the list, the last
entry holds to the end of the cycle, and entries past the cycle are cut. An empty list leaves all gates open. -/
def stretches (cycle : Nat) : List (Nat × Nat) → Nat → Nat → List Stretch
  | [], _, last => [(last, cycle)]
  | (g, i) :: rest, at_, last =>
    if i = 0 then [(last, cycle)]
    else if cycle ≤ at_ + i then [(g, cycle)]
    else (g, at_ + i) :: stretches cycle rest (at_ + i) g

/-- Whether bit `svc` stays open for `need` ns from position `pos` of a cycle, over at most so many stretches. -/
def openFor (cycle svc : Nat) (whole : List Stretch) : List Stretch → Nat → Nat → Nat → Bool
  | _, _, _, 0 => false
  | [], _, need, n + 1 => openFor cycle svc whole whole 0 need n
  | (g, e) :: rest, pos, need, n + 1 =>
    if e ≤ pos then openFor cycle svc whole rest pos need n
    else if !g.testBit svc then false
    else if need ≤ e - pos then true
    else openFor cycle svc whole rest e (need - (e - pos)) n

/-- Whether a list that runs from `base` keeps a gate open for `span` ns from `tod` on; all gates are open before its first cycle (R361). -/
def listAllows (cycle base svc : Nat) (l : List Stretch) (tod span : Nat) : Bool :=
  let n := 260 * (span / cycle + 2)
  if tod < base then span ≤ base - tod || openFor cycle svc l l 0 (span - (base - tod)) n
  else openFor cycle svc l l ((tod - base) % cycle) span n

namespace State

/-- The entries of bank `b` of port `p`. -/
def gateEntries (s : State) (p b : Nat) : List (Nat × Nat) :=
  (List.range 256).map fun e => (s.rd F.SCH_GCE_GATES (2 * p + b) e, s.rd F.SCH_GCE_INTERVAL (2 * p + b) e)

/-- The stretches of a cycle of bank `b` of port `p`, and of its operational list. -/
def bankList (s : State) (p b cycle : Nat) : List Stretch := stretches cycle (s.gateEntries p b) 0 255
def operList (s : State) (p : Nat) : List Stretch :=
  s.bankList p (s.rd F.SCH_GCL_OPER p) (s.sw.gates.getD p ⟨1000000, 0, none⟩).cycle

/-- The time for which a gate must stay open for a frame of L bytes (R362). -/
def gateNeed (s : State) (p len : Nat) : Nat :=
  ((len + 20) * 8 + s.lportRate p - 1) / s.lportRate p + s.rd F.SCH_GCL_GUARD p

/-- Whether the gate of a class allows a frame of L bytes to begin now (R361, R362). A list that takes over before its end is judged from its
instant on (R363). -/
def gateAllows (s : State) (p svc len : Nat) : Bool :=
  if !s.is F.SCH_GCL_EN p then true
  else
    let g := s.sw.gates.getD p ⟨1000000, 0, none⟩
    let need := s.gateNeed p len
    let old (span : Nat) : Bool := listAllows g.cycle g.base svc (s.operList p) s.tod span
    match g.next with
    | none => old need
    | some (c, b, at_) =>
      if s.tod + need ≤ at_ then old need
      else (at_ ≤ s.tod || old (at_ - s.tod)) &&
        listAllows c b svc (s.bankList p (1 - s.rd F.SCH_GCL_OPER p) c) (max s.tod at_) (need - (at_ - s.tod))

/-- Whether a frame of L bytes fits somewhere in a cycle of the operational list. -/
def gateEverFits (s : State) (p svc len : Nat) : Bool :=
  let g := s.sw.gates.getD p ⟨1000000, 0, none⟩
  let need := s.gateNeed p len
  let l := s.operList p
  let n := 260 * (need / g.cycle + 2)
  (0 :: l.map (·.2)).any fun pos => openFor g.cycle svc l l (pos % g.cycle) need n

/-- A frame as every shaper and deficit counts it: L + OVH bytes, OVH in two's complement (R359). -/
def counted (s : State) (p len : Nat) : Int :=
  let o := s.ef F.SCH_PORT_OVH p
  -- −32 is the least value of OVH (R535).
  (len : Int) + (if 128 ≤ o then max (-32) ((o : Int) - 256) else o)

/-- A bucket filled up to now: RATE in units of 10 Mb/s is 1/800 B per ns for each unit; it holds at most BURST (R359). -/
def fill (now rate burst : Nat) (b : Option Bucket) : Int :=
  match b with
  | none => 800 * burst
  | some b => min (800 * burst) (b.tokens + (rate * (now - b.at_) : Nat))

/-- Tokens of a subscriber's shaper and of a port's shaper (R360). -/
def subTokens (s : State) (n : Nat) : Int :=
  fill s.now (s.ef F.SCH_SUB_RATE n) (4096 * s.ef F.SCH_SUB_BURST n) (s.sw.subBucket.lookup n)
def portTokens (s : State) (p : Nat) : Int :=
  fill s.now (s.ef F.SCH_PORT_RATE p) 65536 (s.sw.portBucket.lookup p)

/-- A shaper that is unlimited, or holds more than 0 B. -/
def subOpen (s : State) (n : Nat) : Bool := s.ef F.SCH_SUB_RATE n == 0 || 0 < s.subTokens n
def portOpen (s : State) (p : Nat) : Bool := s.ef F.SCH_PORT_RATE p == 0 || 0 < s.portTokens p

/-- Replace or add the value of a key. -/
def putKey {α β : Type} [BEq α] (l : List (α × β)) (k : α) (v : β) : List (α × β) :=
  (k, v) :: l.filter fun e => !(e.1 == k)

/-- Charge a frame to a subscriber's shaper and to a port's shaper. -/
def chargeSub (s : State) (n : Nat) (size : Int) : State :=
  if s.ef F.SCH_SUB_RATE n = 0 then s
  else { s with sw := { s.sw with subBucket := putKey s.sw.subBucket n ⟨s.subTokens n - 800 * size, s.now⟩ } }
def chargePort (s : State) (p : Nat) (size : Int) : State :=
  if s.ef F.SCH_PORT_RATE p = 0 then s
  else { s with sw := { s.sw with portBucket := putKey s.sw.portBucket p ⟨s.portTokens p - 800 * size, s.now⟩ } }

/-- The head frame of a leaf (R356). -/
def leafHead (s : State) (p sub svc : Nat) : Option Held :=
  s.sw.held.find? fun h => h.dst == p && h.sub == sub && h.svc == svc

/-- The head frame of a leaf where its gate allows it now (R358). -/
def leafReady (s : State) (p sub svc : Nat) : Option Held :=
  match s.leafHead p sub svc with
  | some h => if s.gateAllows p svc h.len then some h else none
  | none => none

end State

/-- Numbers of a round that starts after `last`: those above it first, then the rest. -/
def roundFrom (last : Nat) (l : List Nat) : List Nat := l.filter (last < ·) ++ l.filter (· ≤ last)

namespace State

/-- Deficit round robin over the service classes of a subscriber that do not have strict priority (R358). The class in
hand goes on while its deficit covers its head frame; otherwise the next class gains its quantum. -/
def drrClass (s : State) (p sub : Nat) (ready : List Nat) : Nat → Nat → State × Option Held
  | 0, _ => (s, none)
  | n + 1, last =>
    match roundFrom last ready with
    | [] => (s, none)
    | c :: _ =>
      let d := (s.sw.defSvc.lookup (p, sub, c)).getD 0 + 1024 * s.ef F.SCH_SVC_WEIGHT c
      let s1 := { s with sw := { s.sw with
        defSvc := putKey s.sw.defSvc (p, sub, c) d, lastSvc := putKey s.sw.lastSvc (p, sub) c } }
      match s1.leafHead p sub c with
      | none => (s1, none)
      | some h => if s1.counted p h.len ≤ d then (s1, some h) else s1.drrClass p sub ready n c

/-- The frame that a subscriber sends next on a port (R358), with the state of the class round. -/
def classPick (s : State) (p sub : Nat) : State × Option Held :=
  let ready := (List.range 8).filter fun c => (s.leafReady p sub c).isSome
  match (ready.reverse.find? fun c => s.ef F.SCH_SVC_SP c == 1) with
  | some c => (s, s.leafHead p sub c)
  | none =>
    let last := (s.sw.lastSvc.lookup (p, sub)).getD 7
    match ready.contains last, s.leafHead p sub last with
    | true, some h =>
      if s.counted p h.len ≤ (s.sw.defSvc.lookup (p, sub, last)).getD 0 then (s, some h)
      else s.drrClass p sub ready 200 last
    | _, _ => s.drrClass p sub ready 200 last

/-- Deficit round robin over the eligible subscribers of a port (R357). -/
def drrSub (s : State) (p : Nat) (ready : List Nat) : Nat → Nat → State × Option Held
  | 0, _ => (s, none)
  | n + 1, last =>
    match roundFrom last ready with
    | [] => (s, none)
    | k :: _ =>
      let d := (s.sw.defSub.lookup (p, k)).getD 0 + 1024 * s.ef F.SCH_SUB_WEIGHT k
      let s1 := { s with sw := { s.sw with defSub := putKey s.sw.defSub (p, k) d, lastSub := putKey s.sw.lastSub p k } }
      match s1.classPick p k with
      | (s2, some h) => if s2.counted p h.len ≤ d then (s2, some h) else s1.drrSub p ready n k
      | (_, none) => (s1, none)

/-- Rounds in which every eligible subscriber gains more than the largest frame counts for (R359). -/
def subRounds (ready : List Nat) : Nat := 16 * ready.length + 16

/-- Subscribers with an eligible frame on a port and a shaper that is not empty, in order of number (R357). -/
def subsReady (s : State) (p : Nat) : List Nat :=
  let subs := s.sw.held.foldl (fun l h => if h.dst = p && h.sub < 4096 then addTo l h.sub else l) []
  (subs.filter fun k => s.subOpen k && (List.range 8).any fun c => (s.leafReady p k c).isSome).mergeSort

/-- The next frame of the subscribers of a port: the one served last goes on while its deficit covers its frame. -/
def subPick (s : State) (p : Nat) : State × Option Held :=
  let ready := s.subsReady p
  let last := (s.sw.lastSub.lookup p).getD 4095
  if ready.contains last then
    match s.classPick p last with
    | (s1, some h) =>
      if s1.counted p h.len ≤ (s1.sw.defSub.lookup (p, last)).getD 0 then (s1, some h) else s.drrSub p ready (subRounds ready) last
    | (_, none) => s.drrSub p ready (subRounds ready) last
  else s.drrSub p ready (subRounds ready) last

/-- Choose the next frame of a logical port: the control queue first, then the subscribers (R357, R360). -/
def portPick (s : State) (p : Nat) : State × Option Held :=
  match s.sw.held.find? fun h => h.dst == p && h.sub == 4096 with
  | some h => if s.gateAllows p (s.ef F.SCH_CFG_CTRLSVC) h.len then (s, some h) else s.subPick p
  | none => s.subPick p

/-- Send the chosen frame: deficits and shapers are charged, its cells are released, and residue copies for the port are
offered (R355, R359). -/
def sendHeld (s : State) (p : Nat) (h : Held) : State :=
  let size := s.counted p h.len
  let s1 := s.chargePort p size
  let s2 :=
    if h.sub < 4096 then
      let t := s1.chargeSub h.sub size
      let ds := (t.sw.defSub.lookup (p, h.sub)).getD 0 - size
      let t1 := { t with sw := { t.sw with defSub := putKey t.sw.defSub (p, h.sub) ds } }
      if t1.ef F.SCH_SVC_SP h.svc = 1 then t1
      else
        let dc := (t1.sw.defSvc.lookup (p, h.sub, h.svc)).getD 0 - size
        { t1 with sw := { t1.sw with defSvc := putKey t1.sw.defSvc (p, h.sub, h.svc) dc } }
    else s1
  ((s2.unhold h).offerResidue p 1024).emit (.transmit p h.id h.len)

end State

end Sys2Proof.Machine
end

