-- ==== Sys2Proof/Machine/Heat.lean ====
section
/-!
DEFINITION. The turn (R187 to R194 of spec/06_hampers_and_heats.md, with what other files let take effect at a turn), the turn
mark of a leading twin, and the power-fail drain (R195 to R199).
-/

namespace Sys2Proof.Machine

namespace State

/-- The number of the heat that a turn opens, and the turn's offset where it is known (R187, R192, R193). `mark` is the leader's
heat number and the lateness of this turn. The flag says that numbers run ahead of PTP time. -/
def nextHeat (s : State) (mark : Option (Nat × Nat)) : Nat × Option Int × Bool :=
  match mark with
  | some (n, late) => (max n (s.heat + 1), some late, false)
  | none =>
    if s.byPtp then
      let len := s.heatNs
      let k := (s.tod + len / 2) / len
      let off : Int := (s.tod : Int) - ((k * len : Nat) : Int)
      if s.heat < k then (k, some off, false) else (s.heat + 1, some off, true)
    else (s.heat + 1, none, false)

/-- A twin that follows its leader's turn marks (R192). Twins that both follow PTP do not need them (R193). -/
def follows (s : State) : Bool :=
  s.twinShelf && s.is F.TWN_STATUS_LINK && !s.twn.unlike && !s.is F.HMP_ALIGN_STAT_LEAD && !s.byPtp

/-- The shadows of every H-class field, as the turn samples them (R12). -/
def shadows (s : State) : Cells :=
  s.regs.filter fun kv => match fieldAtKey kv.1 with
    | some (f, _) => f.kind == .rwh
    | none => false

/-- Volumes of which sampled fields differ from those in effect. -/
def volumesChanged (s : State) : List Nat :=
  let new := s.shadows
  let keys := ((s.eff ++ new).map (·.1)).filter fun k => s.eff.read k != new.read k
  distinct (keys.filterMap fun k => match fieldAtKey k with
    | some (f, i, _) => if f.base / 16 = F.CRW_VOL_VALID.base / 16 && f.n1 == 4096 then some i else none
    | none => none)

/-- Steps 3 and 4 of the turn (R188): open stripes are closed, and each crew's checkpoint is placed. -/
def closeHeat (s : State) : State :=
  let s1 := s.privileged.foldl (fun t x => ((t.closeStripe x.v false).closeStripe x.v true)) s
  let s2 := s1.privileged.foldl (fun t x => t.drainEmpty x.v) s1
  s2.crw.crews.foldl (fun t e => t.checkpoint e.1 false) s2

/-- The dispatch slots that one engine has offered in the heat (R495): each falls into one class, how many into each being a free value.
Selects 0x001 to 0x008 are those offered, retired, wasted, starved-front, starved-back, and its parts for HBM, a drive and the switch. -/
def engineSlots (s : State) (e : Nat) : State :=
  let v (k : Nat) : Nat := Config.freeValue (s.free + k)
  let back := v 3 + v 4 + v 5
  let l := [(1, v 0 + v 1 + v 2 + back), (2, v 0), (3, v 1), (4, v 2), (5, back), (6, v 3), (7, v 4), (8, v 5)]
  l.foldl (fun t x => t.countN x.1 (0x1000 + e) x.2) { s with free := s.free + 6 }

/-- The dispatch slots of the engines in service (R495). -/
def countSlots (s : State) : State := if s.counting then s.enginesIn.foldl engineSlots s else s

/-- The snapshot of step 5 (R493): every counter as it stands, and the number of the heat that ends. -/
def snapshot (s : State) : State :=
  let cnt := F.PMU_CNT_VALUE
  let isCnt (k : Nat) : Bool := decide (cnt.key 0 0 ≤ k) && decide (k ≤ cnt.key 511 1)
  let isSnap (k : Nat) : Bool := decide (F.PMU_SNAP_VALUE.key 0 0 ≤ k) && decide (k ≤ F.PMU_SNAP_VALUE.key 511 1)
  let s1 := { s with regs := s.regs.filter fun kv => !isSnap kv.1 }
  let s2 := (s.regs.filter fun kv => isCnt kv.1).foldl (fun (t : State) kv =>
    { t with regs := t.regs.write (kv.1 + (F.PMU_SNAP_VALUE.key 0 0 - cnt.key 0 0)) kv.2 }) s1
  (s2.wr F.PMU_SNAP_HEAT_LO_HEAT s.heat).wr F.PMU_SNAP_HEAT_HI_HEAT (s.heat / 2 ^ 32)

/-- Shapers keep what they hold when their rates change: each is counted up to now. -/
def settleShapers (s : State) : State :=
  let subs := s.sw.subBucket.map fun e => (e.1, Bucket.mk (s.subTokens e.1) s.now)
  let ports := s.sw.portBucket.map fun e => (e.1, Bucket.mk (s.portTokens e.1) s.now)
  { s with sw := { s.sw with subBucket := subs, portBucket := ports } }

/-- Running rebuilds take a changed CRW_RBLD.RATE (R266). -/
def takeRate (s : State) (old : Nat) : State :=
  let rate := s.ef F.CRW_RBLD_RATE
  if old = rate then s
  else s.crw.crews.foldl (fun t e => t.modCrew e.1 fun (c : Crew) =>
    { c with seats := c.seats.map fun (x : Seat) => if x.st = 5 then { x with rate := rate } else x }) s

/-- EN of bays, as sampled (R390, R392): a bay disabled stops, one enabled that is off starts. -/
def takeEnables (s : State) (old : List Nat) : State :=
  (List.range 32).foldl (fun t nn =>
    let was := old.getD nn 0
    let is_ := t.ef F.BAY_PCFG_EN nn
    if was = 1 && is_ = 0 then t.stopBay nn
    else if was = 0 && is_ = 1 && t.bayState nn = bOff then t.toBay nn bCooling
    else t) s

/-- Engines move at a turn: one swap of an activation, its phase 5 or the end of its rollback (R464, R465), else the swap of a
worn engine (R500). -/
def turnEngines (s : State) (digestOk : Bool) : State :=
  match s.cox.roll with
  | none => s.swapWorn
  | some r =>
    if s.rollDone then
      if r.back then ({ s with cox := { s.cox with roll := none, agent := none } }).setUpd 0
      else
        let s1 := (s.coxReset digestOk).setUpd 6
        (s1.showFw (s1.versionIn r.copy 3)).logActivate r.copy 5 (if digestOk then 0 else 1)
    else if s.twinState = 3 || s.rd F.HMP_PFAIL_STATE ≠ 0 then s
    else
      let (s1, used) := s.rollSwap
      if used then s1 else s1.swapWorn

/-- Counts of the turn's length (HMP_TURN), in units of 10 ns. -/
def countTurn (s : State) (len : Nat) : State :=
  let n := min (len / 10) 65535
  ((s.wr F.HMP_TURN_LAST n).wr F.HMP_TURN_LONGEST (max n (s.rd F.HMP_TURN_LONGEST))).countOpen 0x4C0 32 0x0000 (len / 10)

/-- The sampled fields take effect at the end of a turn (R188 step 7), and with them what waits for a turn. -/
def takeEffect (s : State) (digestOk : Bool) : State :=
  let rate := s.ef F.CRW_RBLD_RATE
  let enables := (List.range 32).map fun nn => s.ef F.BAY_PCFG_EN nn
  let changed := s.volumesChanged
  let saw := s.nvt.assocs.flatMap fun a => ((List.range 4096).filter fun v => s.visible a v).map fun v => (a.cntlid, v)
  let s1 := { s.settleShapers with eff := s.shadows }
  let s2 := (s1.routeFunctions.turnEngines digestOk).takeRate rate
  let s3 := ((s2.turnVolumes changed).turnNamespaces saw).takeEnables enables
  s3.settleAddrs false

/-- A turn (R188 to R194). Capsules that still wait for a context make it a heat of EV0196 (R147). -/
def turn (s : State) (t : TurnFacts) (mark : Option (Nat × Nat)) : State :=
  let (n, off, ahead) := s.nextHeat mark
  let s1 := { s with ev := { s.ev with once := [] } }.closeHeat.countSlots.snapshot
  let s2 := { s1 with heat := n }
  let s3 := if s2.twinShelf then
      s2.sendTwin (.turn n (s2.ef F.HMP_HEAT_LEN) (s2.is F.SYS_STRAP_BAY_MASTER) (s2.rd F.TWN_OWN_PREF)) else s2
  let s4 := s3.crw.crews.foldl (fun u e => u.openSegment e.1) s3
  let s5 := s4.takeEffect t.digestOk
  let s6 := match off with
    | some o =>
      let ok := !ahead && decide (o.natAbs ≤ 100 * s5.ef F.HMP_ALIGN_TOL)
      (s5.wr F.HMP_ALIGN_STAT_OFFSET (offsetCode o)).setAligned ok
    | none => s5
  let s7 := if s6.mirrors && !t.acked then s6.raise 31 0x0000 else s6
  let s8 := if s7.nvt.cmds.any Cmd.waits then s7.raiseOnce 196 0 0x8000 else s7
  s8.countTurn t.len

/-- The twins exchange heat number, length, BAY_MASTER and PREF with the turn mark (R188 step 5, R192, R270). -/
def takeMark (s : State) (heat lenCode : Nat) (bayMaster : Bool) (pref late : Nat) (t : TurnFacts) : State :=
  let s1 := if pref = s.rd F.TWN_OWN_PREF || s.twn.unlike then s
    else (if bayMaster then s.wrBoth F.TWN_OWN_PREF pref else s).raise 966 0xA000
  if s1.ready && s1.rd F.HMP_PFAIL_STATE = 0 && s1.follows && min 6 lenCode = s1.ef F.HMP_HEAT_LEN then s1.turn t (some (heat, late))
  else s1

/-- The crews that this NP32 owns. -/
def ownedCrews (s : State) : List Nat := (List.range 8).filter s.owns

/-- Writes and reservation commands before their commit point are cancelled (R195 step 3). -/
def cancelUncommitted (s : State) : State :=
  (s.nvt.cmds.filter fun k => decide (k.phase < 2) && (k.req.access == 2 || k.req.reserves || deallocates k.req)).foldl
    (fun t k => t.failCmd k.id stInterrupted) s

/-- Patrol, rebuild, collection and map passes stop (R195 step 5, R248): a RELOCATE that has not committed is cancelled, and an unfinished
pass is to be redone. Writes that have begun end. -/
def stopOwn (s : State) : State :=
  let s1 := (s.crw.jobs.filter fun j => [3, 4, 6, 11].contains j.kind && decide (j.phase < 3)).foldl (fun t j => t.retire j) s
  let s2 := s1.crw.crews.foldl (fun t e =>
    (e.2.old ++ [e.2.seg]).foldl (fun u g =>
      (g.groups.filter fun x => x.cmd.isNone && !x.committed && !x.cancelled).foldl (fun w x => w.cancelGroup e.1 g.heat x.num) u) t) s1
  s2.privileged.foldl (fun t x =>
    let u := t.modVol x.v fun y => { y with passRun := none, passDue := false, victims := [] }
    u.markRecorded x.v fun p => p.expected.isSome) s2

/-- Steps 2 to 5 of the power-fail drain (R195). A twin whose partner's PWR_FAIL_N is high hands its volumes over at the end of
the turn and cancels nothing (R199). -/
def startDrain (s : State) (partnerHigh : Bool) (t : TurnFacts) : State :=
  let s1 := ({ s with hmp := { s.hmp with drainAt := s.now } }.wr F.HMP_PFAIL_STATE 1).raise 34 0x0000
  let hands := s1.twinShelf && s1.twinState == 2 && partnerHigh && s1.is F.TWN_STATUS_LINK
  let s2 := (if hands then s1 else s1.cancelUncommitted).turn t none
  let s3 := (if hands then s2.handOverCrews s2.ownedCrews false else s2).stopOwn
  { s3 with hmp := { s3.hmp with drain := 4 } }

/-- A drain that a takeover held back begins when the takeover has ended (R290). -/
def heldDrain (s : State) (t : TurnFacts) : State :=
  if s.hmp.pfLow && s.ready && s.rd F.HMP_PFAIL_STATE = 0 && s.twinState ≠ 3 then s.startDrain false t else s

/-- Media writes of the drain have not all ended: sectors, maps, journal blocks and labels. -/
def mediaBusy (s : State) : Bool :=
  (s.crw.ios.any fun o => match o.op with
    | .write .. => true
    | .block .. => true
    | .label .. => true
    | .torn .. => true
    | _ => false) || s.crw.jobs.any fun j => j.phase == 3

end State

open State

/-- TURN (R187, R188): the heat length has passed. During a drain no turn begins (R195), and a following twin turns at its
leader's mark (R192). -/
def execTurn (t : TurnFacts) (s : State) : Host.Outcome State Fault Refusal :=
  .next (if s.ready && s.rd F.HMP_PFAIL_STATE = 0 && !s.follows then (s.turn t none).carryOn else s)

/-- TURN_MARK (R192): a TURN frame of the partner. -/
def execTurnMark (h : TwHdr) (heat lenCode : Nat) (bayMaster : Bool) (pref late : Nat) (t : TurnFacts) (s : State) :
    Host.Outcome State Fault Refusal :=
  .next ((s.rxFrame h fun u => (u.takeMark heat lenCode bayMaster pref late t, true)).carryOn)

/-- POWER_FAIL_DRAIN (R195, R199, R290): PWR_FAIL_N has been low for 1 µs. A fall during a drain, or before admission has resumed,
starts no new drain (R198); one during a takeover waits for its end. -/
def execPowerFailDrain (partnerHigh : Bool) (t : TurnFacts) (s : State) : Host.Outcome State Fault Refusal :=
  .next (
    if !s.ready then s
    else
      let s1 := { s with hmp := { s.hmp with pfLow := true } }
      let st := s1.rd F.HMP_PFAIL_STATE
      if st = 3 then s1.wr F.HMP_PFAIL_STATE 2
      else if st ≠ 0 || s1.twinState = 3 then s1
      else (s1.startDrain partnerHigh t).carryOn)

/-- DRAIN_MEDIA_WRITES_END (R195 step 6): a Flush goes to every drive whose volatile write cache is enabled. -/
def actDrainMediaWritesEnd (s : State) : Host.Outcome State Fault Refusal :=
  .next (
    if s.hmp.drain ≠ 4 || s.mediaBusy then s
    else
      let s1 := (s.crw.drives.filter (·.cache)).foldl (fun t d => t.issueBay d.bay .flush) s
      { s1 with hmp := { s1.hmp with drain := 6 } })

/-- DRAIN_FLUSH_COMPLETE (R195 step 7): clean marks for the last heat are issued. -/
def execDrainFlushComplete (s : State) : Host.Outcome State Fault Refusal :=
  .next (
    if s.hmp.drain ≠ 6 || s.crw.ios.any (fun o => o.op == .flush) then s
    else
      let s1 := s.crw.crews.foldl (fun t e => t.checkpoint e.1 true) s
      { s1 with hmp := { s1.hmp with drain := 7 } }.carryOn)

/-- DRAIN_CLEAN_MARK_COMPLETE (R195 step 8, R198): the logbook record is written, and the NP32 waits. -/
def actDrainCleanMarkComplete (s : State) : Host.Outcome State Fault Refusal :=
  .next (
    if s.hmp.drain ≠ 7 || s.mediaBusy then s
    else
      let len := min 65535 ((s.now - s.hmp.drainAt) / 10000)
      let s1 := (s.wr F.HMP_PFAIL_DRAIN len).logOpen State.kPFail [len]
      { s1 with hmp := { s1.hmp with drain := 8 } }.wr F.HMP_PFAIL_STATE (if s1.hmp.pfLow then 2 else 3))

/-- PWR_FAIL_N_RISE (R198): a drained NP32 waits to resume. -/
def execPwrFailNRise (s : State) : Host.Outcome State Fault Refusal :=
  let s1 := { s with hmp := { s.hmp with pfLow := false } }
  .next (if s1.rd F.HMP_PFAIL_STATE = 2 then s1.wr F.HMP_PFAIL_STATE 3 else s1)

/-- ADMISSION_RESUME (R198): a turn begins and admission resumes with the heat that follows. Fuses that waited for the end of the
drain are blown (R509). -/
def execAdmissionResume (t : TurnFacts) (s : State) : Host.Outcome State Fault Refusal :=
  .next (
    if s.rd F.HMP_PFAIL_STATE ≠ 3 then s
    else
      let s1 := { s with hmp := { s.hmp with drain := 0 } }.wr F.HMP_PFAIL_STATE 0
      (s1.turn t none).blowSoft.carryOn)

/-- PLANNED_HANDOVER (R283): at the first turn after the request, the crews pass to the partner. -/
def execPlannedHandover (s : State) : Host.Outcome State Fault Refusal :=
  .next (match s.twn.handing with
    | some (crews, back, heat) =>
      if s.ready && s.twinState = 2 && s.is F.TWN_STATUS_LINK && decide (heat < s.heat) then (s.handOverCrews crews back).carryOn else s
    | none => s)

/-- ACQUIRE_COMPLETE (R278, R279): the Acquires of a takeover or a handover have ended. One that failed with Reservation Conflict
fences this NP32. `late` are the bays whose Acquire has not completed, `torn` the torn tables as read, and `t` the turn of a drain
that waited (R290). -/
def execAcquireComplete (conflict : Bool) (late : List Nat) (torn : List (Nat × List TornRange)) (straps : Straps) (t : TurnFacts)
    (s : State) : Host.Outcome State Fault Refusal :=
  .next (
    if !s.twn.taking then s
    else if conflict && s.twinState = 3 then s.fence straps
    else ((s.adoptAll late torn).heldDrain t).carryOn)

/-- ANSWER_DECLINE (R282, R290): the takeover is declined; a drain that waited for its end begins. -/
def actAnswerDecline (ring : Nat) (t : TurnFacts) (s : State) : Host.Outcome State Fault Refusal :=
  .next (s.answerPlain ring 11 2 fun it u => if u.twn.item = some it.tag then (u.declineTakeover).heldDrain t else u)

end Sys2Proof.Machine
end

