-- ==== Sys2Proof/Machine/TwinCmds.lean ====
section
/-!
DEFINITION. The frames of the twin link, the loss of the partner, and the twin commands (spec/08_degradation_rebuild_takeover.md,
R270 to R285).
-/

namespace Sys2Proof.Machine

namespace State

/-- A HEARTBEAT (R274) acknowledges frames; one that asks for the oldest frame still kept lets the sender send again from it. -/
def takeHeartbeat (s : State) (ackseq : Nat) : State :=
  match s.twn.sent with
  | f :: _ => if f.1 = ackseq then s.resendTwin else s
  | [] => s

/-- News of the partner's crews (R273, R471). -/
def takeNews (s : State) (r : CrewNews) : State :=
  match r with
  | .seats c => s.holdCrew c
  | .sanitize bay running =>
    { s with twn := { s.twn with sanitizing := if running then addTo s.twn.sanitizing bay else dropFrom s.twn.sanitizing bay } }

/-- A keyed write of TWN_CMD sets a bit. -/
def twnKeyed (value : Word) (bit : Nat) : Bool := value.toNat / 65536 == 0x5AA5 && value.getLsbD bit

/-- TWN_CMD.HANDOVER (R283): every owned crew is handed to the partner at the next turn. -/
def askHandover (s : State) : State :=
  if s.twinState ≠ 2 || s.twn.handing.isSome || s.ownedCrews.isEmpty then s
  else { s with twn := { s.twn with handing := some (s.ownedCrews, false, s.heat) } }

/-- TWN_CMD.GIVEBACK (R284): the crews whose preferred owner is the partner are handed back at the next turn. -/
def askGiveback (s : State) : State :=
  let back := s.ownedCrews.filter fun n => !s.prefers n
  if s.twinState ≠ 2 || s.twn.handing.isSome || back.isEmpty then s
  else { s with twn := { s.twn with handing := some (back, true, s.heat) } }

/-- TWN_CMD.TAKEOVER (R282): a declined takeover starts, and one that waits for its item waits no longer. -/
def askTakeover (s : State) : State :=
  if s.twinState = 6 then (s.wr F.TWN_STATUS_STATE 3).startTakeover
  else if s.twinState = 3 then
    match s.twn.item with
    | some tag => (s.endItem tag).goTakeover
    | none => s
  else s

end State

open State

/-- HEARTBEAT_SEND (R274). -/
def execHeartbeatSend (s : State) : Host.Outcome State Fault Refusal :=
  .next (if s.twinShelf then s.sendTwin .heartbeat else s)

/-- HEARTBEAT (R274). -/
def execHeartbeat (h : TwHdr) (s : State) : Host.Outcome State Fault Refusal :=
  .next ((s.rxFrame h fun t => (t.takeHeartbeat h.ackseq, true)).carryOn)

/-- BLOCK (R273): a block image that cannot be held yet is not acknowledged. -/
def execBlock (h : TwHdr) (r : BlockRec) (s : State) : Host.Outcome State Fault Refusal :=
  .next ((s.rxFrame h fun t => t.holdBlock r).carryOn)

/-- CMD (R273). -/
def execCmd (h : TwHdr) (r : CmdRec) (s : State) : Host.Outcome State Fault Refusal :=
  .next ((s.rxFrame h fun t => t.holdCmdRec r).carryOn)

/-- CMDSTATE (R273). -/
def execCmdstate (h : TwHdr) (r : StateRec) (s : State) : Host.Outcome State Fault Refusal :=
  .next ((s.rxFrame h fun t => (t.holdState r, true)).carryOn)

/-- ASSOC (R273). -/
def execAssoc (h : TwHdr) (r : AssocRec) (s : State) : Host.Outcome State Fault Refusal :=
  .next ((s.rxFrame h fun t => (t.holdAssoc r, true)).carryOn)

/-- CREW (R273, R471). -/
def execCrew (h : TwHdr) (r : CrewNews) (s : State) : Host.Outcome State Fault Refusal :=
  .next ((s.rxFrame h fun t => (t.takeNews r, true)).carryOn)

/-- RELEASE (R274). -/
def execRelease (h : TwHdr) (crew heat : Nat) (s : State) : Host.Outcome State Fault Refusal :=
  .next ((s.rxFrame h fun t => (t.releaseHeld crew heat, true)).carryOn)

/-- HANDOVER (R283). -/
def execHandover (h : TwHdr) (crews : List Nat) (back : Bool) (s : State) : Host.Outcome State Fault Refusal :=
  .next ((s.rxFrame h fun t => (if t.twinState = 2 then t.takeHandover crews back else t, true)).carryOn)

/-- FATAL (R277). -/
def execFatal (h : TwHdr) (s : State) : Host.Outcome State Fault Refusal :=
  .next ((s.rxFrame h fun t => (t.partnerLost 2, true)).carryOn)

/-- SYNC (R284). -/
def execSync (h : TwHdr) (part : SyncPart) (s : State) : Host.Outcome State Fault Refusal :=
  .next ((s.rxFrame h fun t => t.takeSync part).carryOn)

/-- TWIN_LINK_TRAINED (R192, R274, R284): the twins exchange heat number, heat length, BAY_MASTER and PREF. -/
def execTwinLinkTrained (heat lenCode : Nat) (bayMaster : Bool) (pref : Nat) (running : Bool) (s : State) :
    Host.Outcome State Fault Refusal :=
  .next ((s.linkTrained heat lenCode bayMaster pref running).carryOn)

/-- TWIN_LINK_LOCK_LOSS (R277): the link is down, and an NP32 without an aligned twin leads (HMP_ALIGN_STAT.LEAD). -/
def execTwinLinkLockLoss (s : State) : Host.Outcome State Fault Refusal :=
  .next (if s.is F.TWN_STATUS_LINK then
      (((s.wr F.TWN_STATUS_LINK 0).wr F.HMP_ALIGN_STAT_LEAD 1).partnerLost 0).carryOn else s)

/-- TWIN_DEAD_TIMEOUT (R277): no frame has arrived for TWN_CFG.DEAD_US. -/
def execTwinDeadTimeout (s : State) : Host.Outcome State Fault Refusal :=
  .next (if s.is F.TWN_STATUS_LINK then (s.partnerLost 1).carryOn else s)

/-- TAKEOVER_DEFER_EXPIRY (R278). -/
def execTakeoverDeferExpiry (s : State) : Host.Outcome State Fault Refusal := .next s.deferEnds.carryOn

/-- TWN_CMD_HANDOVER (R283). -/
def execTwnCmdHandover (value : Word) (s : State) : Host.Outcome State Fault Refusal :=
  .next (if twnKeyed value 0 then s.askHandover else s)

/-- TWN_CMD_TAKEOVER (R282). -/
def execTwnCmdTakeover (value : Word) (s : State) : Host.Outcome State Fault Refusal :=
  .next (if twnKeyed value 1 then s.askTakeover.carryOn else s)

/-- TWN_CMD_GIVEBACK (R284). -/
def execTwnCmdGiveback (value : Word) (s : State) : Host.Outcome State Fault Refusal :=
  .next (if twnKeyed value 2 then s.askGiveback else s)

/-- ANNOUNCE_REPEAT (R347): 1 ms and 10 ms after a partner's entry became active. -/
def actAnnounceRepeat (entry : Nat) (s : State) : Host.Outcome State Fault Refusal :=
  let made := (s.sw.announced.filter (· == entry)).length
  .next (if s.entryOn entry && (made == 1 || made == 2) then s.announceEntry entry else s)

end Sys2Proof.Machine
end

