-- ==== Sys2Proof/Machine/Manage.lean ====
section
/-!
DEFINITION. Sanitize (R470, R471) and the NVMe-MI commands that read the subsystem (R447) of spec/15_cox_management.md.
-/

namespace Sys2Proof.Machine

namespace State

/-- Whether a bay holds a seat of an assembled crew of either twin (R470). -/
def bayInCrew (s : State) (nn : Nat) : Bool := s.seatTaken nn

/-- A bay is placed under sanitize (R471): NVMe Sanitize is issued, the partner is told, and EV0909 is raised. -/
def sanitizeBay (s : State) (nn action owpass oipbp pattern : Nat) : State :=
  let s1 := s.issueBay nn (.sanitize action owpass oipbp pattern)
  let s2 := { s1 with cox := { s1.cox with
    sanitizing := s1.cox.sanitizing ++ [(nn, 0)], sanFailed := dropFrom s1.cox.sanFailed nn
    sanActions := s1.cox.sanActions ++ [(nn, action)] } }
  ((if s2.twinShelf then s2.sendTwin (.sanitize nn true) else s2)).raise 909 (bayUnit nn)

/-- A crew stops being assembled: CRW_CREW_n.STATE reads 0b100 until a later start initialises it (R470). -/
def unassemble (s : State) (n : Nat) (c : Crew) : State :=
  let s1 := (c.old ++ [c.seg]).foldl (fun t g => (t.freeBuffers 7 (heatOwner n g.heat))) s
  let s2 := (indexed c.seats).foldl (fun t x => x.2.log.foldl (fun u e => u.freeBuffers 8 (logOwner n x.1 e.lba)) t) s1
  let s3 := (c.old ++ [c.seg]).foldl (fun t g => (t.mirror (.release n g.heat)).1) s2
  let own := s3.rd F.TWN_OWN_OWN
  ((s3.dropCrew n).wr F.TWN_OWN_OWN own).wr F.CRW_CREW_STATE 4 n

/-- The bays that a SANITIZE names, or the status with which it is turned away (R470). -/
def sanitizeScope (s : State) (crewScope : Bool) (crew : Nat) (bays : List Nat) : List Nat ⊕ Nat :=
  if crewScope then
    if 7 < crew then .inr vInvalid
    else match s.crewOf crew with
      | none => .inr vRefused
      | some c =>
        if !s.owns crew || s.validVolumes.any (fun v => (s.volConfig v).crew == crew) || s.crw.vols.any (·.crew == crew) then .inr vRefused
        else .inl (c.seats.filterMap fun x => x.bay.bind fun nn => if s.crw.drives.any (·.bay == nn) then some nn else none)
  else if bays.any (31 < ·) then .inr vInvalid
  else if (s.twinShelf && !s.gateOwner) || bays.any s.bayInCrew then .inr vRefused
  else if bays.any fun nn => !s.crw.drives.any (·.bay == nn) then .inr vInvalid
  else .inl (distinct bays)

/-- SANITIZE acts once it is accepted. `lacks` are the bays whose drives lack the action in their SANICAP (R470). -/
def startSanitize (s : State) (crewScope : Bool) (crew : Nat) (bays : List Nat) (action owpass oipbp pattern : Nat) (lacks : List Nat) :
    State :=
  if !([2, 3, 4].contains action) then s.vendor vInvalid
  else match s.sanitizeScope crewScope crew bays with
    | .inr st => s.vendor st
    | .inl l =>
      if l.any lacks.contains then s.vendor vInvalid
      else if l.any fun nn => s.cox.sanitizing.any (·.1 == nn) then s.vendor vRefused
      else
        let s1 := match crewScope, s.crewOf crew with
          | true, some c => s.unassemble crew c
          | _, _ => s
        l.foldl (fun t nn => t.sanitizeBay nn action owpass oipbp pattern) (s1.vendor vOk)

/-- The end of a sanitize: EV0910 or EV0911, a SANITIZE record, and on success the drive is a spare again, without a label. -/
def sanitizeEnds (s : State) (nn : Nat) (ok : Bool) : State :=
  let action := (s.cox.sanActions.lookup nn).getD 0
  let s1 := { s with cox := { s.cox with
    sanitizing := s.cox.sanitizing.filter fun (e : Nat × Nat) => e.1 != nn
    sanActions := s.cox.sanActions.filter fun (e : Nat × Nat) => e.1 != nn
    sanFailed := if ok then s.cox.sanFailed else addTo s.cox.sanFailed nn } }
  let s2 := s1.logOpen State.kSanitize [nn, action, if ok then 0 else 1]
  if !ok then s2.raise 911 (bayUnit nn)
  else
    let drives := s2.crw.drives.map fun (d : Drive) => if d.bay = nn then { d with label := none } else d
    let s3 := { s2 with crw := { s2.crw with drives := drives } }
    let s4 := if s3.twinShelf then s3.sendTwin (.sanitize nn false) else s3
    (s4.raise 910 (bayUnit nn)).driveArrives nn

/-- An association with nothing of its own, for admin commands that arrive over NVMe-MI (R447). -/
def noAssoc : Assoc :=
  { cntlid := 0, hostid := 0, sub := 0, flow := ⟨0, 0, 0⟩, kato := 0, cc := 0, shst := 0, queues := [], closing := [], sqhd := [],
    ioQueues := 64, ioConnected := false, aers := [], aenConfig := 0, notices := [], rsvMask := [], rsvLog := [], rsvCount := 0, changed := [],
    reported := [], adopted := false }

/-- An NVMe-MI response (R447): 0x00 success, 0x03 Invalid Command Opcode, 0x04 Invalid Parameter. -/
def nvmeMi (s : State) (status : Nat) (data : List Nat) : State := s.emit (.mctp 0x04 status data)

/-- Kelvins, spare and life used, as the SMART / Health page gives them (R151). -/
def healthBytes (s : State) : List Nat :=
  [(s.hottest + 273).toNat, Config.smartSpare (s.rd F.SPR_STATUS_ENGINES + 256 * s.rd F.SPR_STATUS_PHASES),
    min 255 (s.rd F.SPR_LIFE_USED / 100)]

end State

open State

/-- SANITIZE (R455, R470, R471). -/
def execSanitize (sig : SigBlock) (crewScope : Bool) (crew : Nat) (bays : List Nat) (action owpass oipbp pattern : Nat) (lacks : List Nat)
    (s : State) : Host.Outcome State Fault Refusal := s.askVendor <|
  .next (s.signed sig fun t => (t.startSanitize crewScope crew bays action owpass oipbp pattern lacks).carryOn)

/-- SANITIZE_POLL (R471, R472): the Sanitize Status log page of a bay. `ended` is none while the sanitize runs. A sanitize that is found in
progress, and that this cox did not start, excludes its bay from the spares from then on; its action is 0b000, not known. -/
def execSanitizePoll (bay : Nat) (progress : Nat) (ended : Option Bool) (s : State) : Host.Outcome State Fault Refusal := s.byCox <|
  .next (
    if !s.cox.sanitizing.any (·.1 == bay) then
      if ended.isNone && s.crw.drives.any (·.bay == bay) then { s with cox := { s.cox with sanitizing := s.cox.sanitizing ++ [(bay, progress)] } }
      else s
    else match ended with
      | some ok => (s.sanitizeEnds bay ok).carryOn
      | none => { s with cox := { s.cox with
          sanitizing := s.cox.sanitizing.map fun (e : Nat × Nat) => if e.1 = bay then (bay, progress) else e } })

/-- READ_NVME_MI_DATA_STRUCTURE (R447): the subsystem with its one port and the version 1.2, the port, the controllers, or the
optional commands. -/
def actReadNvmeMiDataStructure (dtyp : Nat) (s : State) : Host.Outcome State Fault Refusal := s.askMi <|
  .next (match dtyp with
    | 0 => s.nvmeMi 0x00 [0, 1, 2]
    | 1 => s.nvmeMi 0x00 [2, s.cox.mtu, s.rd F.COX_MCTP_SMBADDR, s.cox.smbFreq]
    | 2 => s.nvmeMi 0x00 (s.nvt.assocs.length :: s.nvt.assocs.map (·.cntlid))
    | 3 => s.nvmeMi 0x00 [0]
    | 4 => s.nvmeMi 0x00 [0]
    | _ => s.nvmeMi 0x04 [])

/-- NVM_SUBSYSTEM_HEALTH_STATUS_POLL (R447): whether the NP32 is ready, temperature, spare and life used. -/
def actNvmSubsystemHealthStatusPoll (s : State) : Host.Outcome State Fault Refusal := s.askMi <|
  .next (s.nvmeMi 0x00 ((if s.ready && !s.fatal then 1 else 0) :: s.healthBytes))

/-- CONTROLLER_HEALTH_STATUS_POLL (R447): CNTLID, CSTS, temperature, spare and life used of a controller. -/
def actControllerHealthStatusPoll (controller : Nat) (s : State) : Host.Outcome State Fault Refusal := s.askMi <|
  .next (match s.assocOf controller with
    | some a => s.nvmeMi 0x00 ([controller, a.cc % 2 + 4 * a.shst] ++ s.healthBytes)
    | none => s.nvmeMi 0x04 [])

/-- MI_TUNNELED_ADMIN_COMMAND (R447): Identify with CNS 0x01, Get Log Page 0x02 and 0x03, and Get Features; any other command
is answered with Invalid Command Opcode. -/
def actMiTunneledAdminCommand (opcode arg : Nat) (s : State) : Host.Outcome State Fault Refusal := s.askMi <|
  .next (match opcode, arg with
    | 0x06, 0x01 => s.nvmeMi 0x00 [0, s.identController]
    | 0x02, 0x02 => s.nvmeMi 0x00 [0, s.smartPage]
    | 0x02, 0x03 => s.nvmeMi 0x00 [0, s.firmwarePage]
    | 0x0A, fid =>
      if [0x07, 0x0B, 0x0F, 0x81, 0x82, 0x83].contains fid then
        if fid = 0x81 then s.nvmeMi 0x00 [0, 0]
        else
          let r := s.getFeature noAssoc fid 0
          s.nvmeMi 0x00 [r.1.sc, r.2]
      else s.nvmeMi 0x03 []
    | _, _ => s.nvmeMi 0x03 [])

end Sys2Proof.Machine
end

