-- ==== Sys2Proof/Machine/Endpoint.lean ====
section
/-!
DEFINITION. The steward endpoint's link, configuration space and power states (R70, R421 to R425, R435, R438 of
spec/14_steward_endpoint.md), forced gates (R94), and the end of holdover (R88).
-/

namespace Sys2Proof.Machine

namespace State

/-- The unit number of the endpoint (R477). -/
abbrev endpointUnit : Nat := 0x9400

/-- The conditions of R435. -/
def linkWanted (s : State) : Bool := s.ept.dlActive && !s.ept.d3hot && s.ept.memSpace && s.ept.busMaster

/-- EPT_STATUS.UP follows R435, with EV0816 at each change. A link that is no longer up is the loss of the steward host (R31, R417);
records that waited for it are written when it is up. -/
def settleEndpoint (s : State) : State :=
  let up := s.is F.EPT_STATUS_UP
  if s.linkWanted == up then s
  else if up then ((s.wr F.EPT_STATUS_UP 0).loseRings false).raise 816 endpointUnit
  else (((s.wr F.EPT_STATUS_UP 1).raise 816 endpointUnit).drainHost 65536).drainSamples

/-- The data link layer is no longer active. -/
def endpointDown (s : State) : State := { s with ept := { s.ept with dlActive := false } }.settleEndpoint

/-- A stored cell that belongs to no EPT register (offsets 0x00A0_0000 to 0x00AF_FFFF). -/
def notEpt (kv : Nat × Nat) : Bool := decide (kv.1 < 0xA00000 * 32) || decide (0xB00000 * 32 ≤ kv.1)

/-- An endpoint reset (R67, R70, R438): configuration space, BARs, MSI-X state and every EPT register are cleared; the steward host's
rings are shut down as a loss of their host. -/
def endpointReset (s : State) (perst : Bool) : State :=
  let s1 := s.endpointDown.loseRings false
  { s1 with
    ept := State.reset.ept
    regs := s1.regs.filter notEpt
    eff := s1.eff.filter notEpt
    boot := { s1.boot with perstLow := s1.boot.perstLow || perst, bar := State.reset.boot.bar } }

/-- In recovery mode (STAGE 0xE). -/
def recovering (s : State) : Bool := s.stage == 0xE

/-- The Expansion ROM BAR is implemented (R423, R427). -/
def romThere (s : State) : Bool := !s.recovering && (s.is F.EPT_ROM_OPTROM || s.is F.EPT_ROM_WINDOW)

/-- The identifiers of configuration space (R422's table, R424). -/
def idWord (s : State) : Nat :=
  let v := s.rd F.EPT_ID_VENDOR
  if s.recovering then 0x1F7C + 65536 * 0x7F32
  else if v = 0 || v = 0xFFFF then 0x1F7C + 65536 * 0x0032
  else v + 65536 * s.rd F.EPT_ID_DEVICE

/-- A doubleword of configuration space (R422, R423). The type 0 header has the layout of the PCI Express Base Specification. Where
its capabilities lie, and so the doublewords from offset 0x40 and the pointer at 0x34, the spec leaves open. -/
def cfgWord (s : State) (offset : Nat) : Nat :=
  let bit (b : Bool) (n : Nat) : Nat := if b then 2 ^ n else 0
  match offset with
  | 0x00 => s.idWord
  | 0x04 => bit s.ept.memSpace 1 + bit s.ept.busMaster 2 + bit s.ept.intDisable 10 + bit (s.is F.EPT_STATUS_INTA) 19 + 2 ^ 20
  | 0x08 => s.rd F.SYS_REV_METAL + 256 * (if s.recovering then 0xFF0000 else s.rd F.EPT_CLASS_CLASS)
  | 0x10 => s.ept.bar0 % 2 ^ 32 + 4
  | 0x14 => s.ept.bar0 / 2 ^ 32
  | 0x2C => if s.recovering then 0 else s.rd F.EPT_SUBID_SUBVEN + 65536 * s.rd F.EPT_SUBID_SUBSYS
  | 0x30 => if s.romThere then s.ept.romBar + bit s.ept.romEnable 0 else 0
  | 0x3C => 0x0100
  | n => if n = 0x34 || 0x40 ≤ n then s.fresh % 2 ^ 32 else 0

/-- A doubleword of the MSI-X table is written in BAR0 (R426, R433): of an entry's last one, bit 0 is the vector's mask. The pending bit array is
read-only. In recovery mode there is no table (R423). -/
def msixWrite (s : State) (n v : Nat) : State :=
  let k := n / 4
  if s.recovering || 256 ≤ n then s
  else if n % 4 < 3 then
    let rest := s.ept.msixTable.filter (·.1 != n)
    { s with ept := { s.ept with msixTable := if v = 0 then rest else rest ++ [(n, v)] } }
  else if v % 2 = 1 then { s with ept := { s.ept with msixMasked := addTo s.ept.msixMasked k } }
  else ({ s with ept := { s.ept with msixMasked := dropFrom s.ept.msixMasked k } }).sendPba

/-- A doubleword of the MSI-X table or of the pending bit array as it reads in BAR0 (R426). -/
def msixRead (s : State) (n : Nat) : Nat :=
  if s.recovering then 0
  else if n < 256 then (if n % 4 < 3 then s.msixWord (n / 4) (n % 4) else if s.ept.msixMasked.contains (n / 4) then 1 else 0)
  else if n = 512 || n = 513 then
    (List.range 32).foldl (fun w b => if s.ept.pba.contains (32 * (n - 512) + b) then w + 2 ^ b else w) 0
  else 0

/-- A configuration request takes effect (R422 to R425, R433, R435). -/
def configure (s : State) (q : CfgReq) : State :=
  match q with
  | .read offset => (if offset = 0x34 || 0x40 ≤ offset then s.tick else s).emit (.cfgData offset (s.cfgWord offset))
  | .enables m b => { s with ept := { s.ept with memSpace := m, busMaster := b } }.settleEndpoint
  | .bar0 v => { s with ept := { s.ept with bar0 := v % 2 ^ 64 / 2 ^ 24 * 2 ^ 24 } }
  | .romBar v en => if s.romThere then { s with ept := { s.ept with romBar := v % 2 ^ 32 / 2 ^ 24 * 2 ^ 24, romEnable := en } } else s
  | .powerD0 => ({ s with ept := { s.ept with d3hot := false } }.sendInta.sendPba).settleEndpoint
  | .ido r c => { s with ept := { s.ept with idoReq := r, idoCpl := c } }
  | .msixMask (some v) => if s.recovering || 63 < v then s else { s with ept := { s.ept with msixMasked := addTo s.ept.msixMasked v } }
  | .other .. => s
  | .msixWrite offset v => s.msixWrite (offset / 4) (v % 2 ^ 32)
  | .msixRead offset => s.emit (.windowData (0x10000 + offset) (s.msixRead (offset / 4)))
  | .msixMask none => if s.recovering then s else { s with ept := { s.ept with fnMask := true } }

/-- The link of a unit goes down (R94): a network port's logical ports, the twin link, the endpoint, a bay. -/
def unitLinkDown (s : State) (u : Nat) : State :=
  if u < 8 then [0, 1, 2, 3].foldl (fun t k => t.lportDown (4 * u + k)) s
  else if u = 8 then
    if s.is F.TWN_STATUS_LINK then ((s.wr F.TWN_STATUS_LINK 0).wr F.HMP_ALIGN_STAT_LEAD 1).partnerLost 0 else s
  else if u = 9 then s.endpointReset false
  else if 32 ≤ u && u < 64 && s.bayUp (u - 32) then (s.dropLink (u - 32)).driveGone (u - 32)
  else s

/-- A forced gate closes. -/
def closeForced (s : State) (u : Nat) : State := (s.setClosed u true).unitLinkDown u

/-- A pending access completes with the response "gated" (R94, R95): a read through the window returns ones and a write is dropped; the
oldest entry of an inbound ring completes with status gated; cox and its protocols see the bus error. -/
def answerGated (s : State) (a : GateAccess) : State :=
  match a.path with
  | .window => if a.write then s else s.emit (.readData .window a.addr 0xFFFFFFFF)
  | .ring => match s.takenOf a.ring with
    | t :: _ => s.finish t 2 0
    | [] => s
  | p => s.emit (.gated p a.addr)

/-- CLK_GATE_FORCE or CLK_GATE_FORCE_BAY is written (R94). `pending` names accesses pending at units, with the unit. -/
def forceGates (s : State) (bay : Bool) (w : Nat) (pending : List (Nat × GateAccess)) : State :=
  let s1 := if bay then s.wr F.CLK_GATE_FORCE_BAY_BAY w
    else (((s.wr F.CLK_GATE_FORCE_NET w).wr F.CLK_GATE_FORCE_TWN (w / 2 ^ 8)).wr F.CLK_GATE_FORCE_EPT (w / 2 ^ 9)).wr
      F.CLK_GATE_FORCE_XSP (w / 2 ^ 10)
  let units := if bay then (List.range 32).map (· + 32) else List.range 11
  let freed := units.filter fun u => s.gateForced u && !s1.gateForced u
  let new := units.filter fun u => !s.gateForced u && s1.gateForced u
  let at_ (u : Nat) : List GateAccess := (pending.filter (·.1 == u)).map (·.2)
  let late := new.filter fun u => !(at_ u).isEmpty && !s.gateClosed u
  let num := s.clk.gateWaiting.foldl (fun m e => max m e.num) 0 + 1
  let kept := s.clk.gateWaiting.filter fun e => !freed.contains e.unit_
  -- The links of bays whose forced gate is cleared train again (R376).
  let s1 := freed.foldl (fun t u => if u < 32 || (t.bayAt (u - 32)).perst || t.bayUp (u - 32) then t
    else t.modBay (u - 32) fun b => { b with trains := 1 }) s1
  let s2 := { s1 with clk := { s1.clk with gateWaiting := kept ++ late.map fun (u : Nat) => GateWait.mk u num (at_ u) } }
  (new.filter fun u => !late.contains u).foldl (fun t u => t.closeForced u) s2

/-- Every link whose domain stops goes down (R88): NET, TWN, and PCI with the endpoint and the bays. -/
def allLinksDown (s : State) : State :=
  ((List.range 10) ++ (List.range 32).map (· + 32)).foldl (fun t u => t.unitLinkDown u) s

end State

open State

/-- ENDPOINT_RESET (R67, R70, R438). `perst` says that PERST_N is asserted. -/
def execEndpointReset (perst : Bool) (s : State) : Host.Outcome State Fault Refusal := .next (s.endpointReset perst).carryOn

/-- PERST_N_RELEASE (R528): from step 9 on the endpoint may train; ENDPOINT_LINK_UP follows. -/
def execPerstNRelease (s : State) : Host.Outcome State Fault Refusal :=
  .next { s with boot := { s.boot with perstLow := false } }

/-- ENDPOINT_LINK_UP (R38, R59, R80, R435, R528): from step 9 on, or in recovery mode once a reference has passed, the link has
trained, and is up under R435. `hostRef` is the reference input that carries the host's reference, if one does. -/
def actEndpointLinkUp (speed width : Nat) (hostRef : Option Nat) (s : State) : Host.Outcome State Fault Refusal :=
  .next (
    if s.ept.dlActive || s.boot.perstLow || s.gateForced 9 || s.is F.CLK_STATUS_WATCH ||
        !(s.stage == 5 || s.ready || (s.recovering && s.boot.refPassed)) then s
    else
      let s1 := { s with ept := { s.ept with dlActive := true, hostRef := hostRef } }
      ((s1.wr F.EPT_STATUS_SPEED speed).wr F.EPT_STATUS_WIDTH width).settleCclk.settleEndpoint)

/-- ENDPOINT_LINK_DOWN (R31, R67, R435): the data link layer is no longer active, which is an endpoint reset. -/
def execEndpointLinkDown (s : State) : Host.Outcome State Fault Refusal :=
  .next (if s.ept.dlActive then (s.endpointReset false).carryOn else s)

/-- CONFIGURATION_REQUEST (R422): until STAGE reads 0x6 or 0xE it is answered with Request Retry Status. -/
def execConfigurationRequest (req : CfgReq) (s : State) : Host.Outcome State Fault Refusal :=
  .next (if s.ready || s.recovering then (s.configure req).carryOn else s.emit .requestRetry)

/-- D3HOT_ENTRY (R435, R438). -/
def execD3hotEntry (s : State) : Host.Outcome State Fault Refusal :=
  .next (if s.ready || s.recovering then ({ s with ept := { s.ept with d3hot := true } }.settleEndpoint).carryOn else s)

/-- CLK_GATE_FORCE (R94). -/
def execClkGateForce (bay : Bool) (value : Word) (accessPending : List (Nat × Path × Nat × Bool × Nat)) (s : State) : Host.Outcome State Fault Refusal :=
  .next (s.forceGates bay value.toNat (accessPending.map fun a => (a.1, ⟨a.2.1, a.2.2.1, a.2.2.2.1, a.2.2.2.2⟩))).carryOn

/-- GATE_IDLE_CLOSE (R92 to R94): a gate closes while its unit has no work and no access is pending. Where a forced gate waits for the
unit, its accesses have ended, and the gate closes under R94. -/
def execGateIdleClose (unit : Nat) (s : State) : Host.Outcome State Fault Refusal :=
  .next (
    if !State.gatedUnit unit then s
    else if s.clk.gateWaiting.any (·.unit_ == unit) then
      ({ s with clk := { s.clk with gateWaiting := s.clk.gateWaiting.filter (·.unit_ != unit) } }.closeForced unit).carryOn
    else if s.unitBusy unit then s
    else s.setClosed unit true)

/-- FORCED_GATE_TIMEOUT (R94): accesses are still pending after 256 reference cycles. EV0041 is raised once for the write that set
the gate. -/
def execForcedGateTimeout (unit : Nat) (s : State) : Host.Outcome State Fault Refusal :=
  .next (match s.clk.gateWaiting.find? (·.unit_ == unit) with
    | none => s
    | some e =>
      let rest := (s.clk.gateWaiting.filter (·.unit_ != unit)).map fun (x : GateWait) =>
        if x.num = e.num then { x with num := 0 } else x
      let s1 := e.accesses.foldl answerGated { s with clk := { s.clk with gateWaiting := rest } }
      let s2 := if e.num = 0 then s1 else s1.raise 41 0x0000
      (s2.closeForced unit).carryOn)

/-- HOLDOVER_EXPIRY (R88): holdover ends without a good reference, and the NP32 enters watch mode: the HBM runs at 5.6 Gb/s per pin. -/
def execHoldoverExpiry (s : State) : Host.Outcome State Fault Refusal :=
  .next (
    if s.is F.CLK_STATUS_HOLD && s.activeSrc = 2 && !s.is F.CLK_STATUS_WATCH && !s.clk.failover then
      let s1 := { s with clk := { s.clk with hbmSlow := true } }.wr F.CLK_STATUS_WATCH 1
      let s2 := [3, 4, 5].foldl (fun u d => u.setDom d 2 false false) s1
      let s3 := [0, 1, 2].foldl (fun u d => u.setDom d (u.domSrc d) false false) s2
      (s3.allLinksDown.raise 17 0x0000).carryOn
    else s)

end Sys2Proof.Machine
end

