-- ==== Sys2Proof/Machine/EventCmds.lean ====
section
/-!
DEFINITION. The commands of the fault queue and the counters (R489, R492, R493 of spec/16_events_faults_counters.md) and
of the JTAG port (R529 of spec/18_electrical_and_package.md).
-/

namespace Sys2Proof.Machine

open State

/-- EVT_FQ_DONE (R489). A tag of no entry under handling is ignored. -/
def execEvtFqDone (tag : Nat) (s : State) : Host.Outcome State Fault Refusal := .next (s.endHandling tag)

/-- PMU_FREEZE (R492). -/
def execPmuFreeze (freeze : Bool) (s : State) : Host.Outcome State Fault Refusal :=
  .next (s.wr F.PMU_CTRL_FREEZE (if freeze then 1 else 0))

/-- The keys of the counters' values and OVF bits. -/
def State.counterCell (k : Nat) : Bool :=
  (F.PMU_CNT_VALUE.key 0 0 ≤ k && k ≤ F.PMU_CNT_VALUE.key 511 1) ||
  (F.PMU_SEL_OVF.key 0 0 ≤ k && k ≤ F.PMU_SEL_OVF.key 511 0 && k % 32 == 31)

/-- Every counter and OVF bit becomes 0 (R493), the reset value of each. -/
def State.clearCounters (s : State) : State := { s with regs := s.regs.filter fun kv => !State.counterCell kv.1 }

/-- PMU_CLEAR (R493): the snapshots stay as they are. -/
def execPmuClear (s : State) : Host.Outcome State Fault Refusal := .next s.clearCounters

/-- The instruction that the TAP accepts (R529): while SYS_RST_N is high, only IDCODE and BYPASS. -/
def State.tapAccepts (s : State) (i : Jtag) : Jtag :=
  match i with
  | .idcode => .idcode
  | .bypass => .bypass
  | j => if s.boot.rstLow then j else .bypass

/-- Load an instruction; the output is what its selected register reads first. -/
def State.loadJtag (s : State) (i : Jtag) (dr : Nat) : State := { s with jtag := s.tapAccepts i }.emit (.jtag dr)

/-- IDCODE (R529). -/
def execIdcode (s : State) : Host.Outcome State Fault Refusal := .next (s.loadJtag .idcode 0x14E320F5)

/-- BYPASS (R529): the bypass register captures 0. -/
def execBypass (s : State) : Host.Outcome State Fault Refusal := .next (s.loadJtag .bypass 0)

/-- SAMPLE/PRELOAD (R529): the boundary register captures the pins, a free value; elsewhere the instruction is BYPASS. -/
def actSamplePreload (s : State) : Host.Outcome State Fault Refusal :=
  .next (if s.boot.rstLow then (s.loadJtag .samplePreload s.fresh).tick else s.loadJtag .samplePreload 0)

/-- EXTEST (R529): accepted while SYS_RST_N is low; while it is loaded every GATE output is held off. -/
def actExtest (s : State) : Host.Outcome State Fault Refusal :=
  .next (if s.boot.rstLow then (s.loadJtag .extest s.fresh).tick else s.loadJtag .extest 0)

/-- CLAMP (R529): selects the bypass register while the boundary cells drive the pins. -/
def execClamp (s : State) : Host.Outcome State Fault Refusal := .next (s.loadJtag .clamp 0)

end Sys2Proof.Machine
end

