-- ==== Sys2Proof/Machine/Fatals.lean ====
section
/-!
DEFINITION. Commands that raise a fault of severity fatal or lead to one (R451, R489, R502, R503): what R178 and R277 make of it
follows in the same step.
-/

namespace Sys2Proof.Machine

open State

/-- DIE_TEMPERATURE_TRIP (R451): a die sensor or an HBM stack (R531) has read TRIP or more for 100 µs. -/
def execDieTemperatureTrip (sensor : Nat) (celsius : Int) (s : State) : Host.Outcome State Fault Refusal :=
  .next (if sensor < 50 && (s.ef F.COX_THERM_TRIP : Int) ≤ celsius then (s.raise 2 0x0000).carryOn else s)

/-- PHASE_FAULT (R502, R503): domain numbers follow R450's list, AON 0 to IO 13. -/
def execPhaseFault (phase domain : Nat) (s : State) : Host.Outcome State Fault Refusal :=
  .next (if phase < 52 && domain < 14 && !s.phaseFaulty phase then (s.phaseFails phase domain).carryOn else s)

/-- HANDLING_TIMEOUT (R489): the handling in hand reaches its limit. -/
def execHandlingTimeout (s : State) : Host.Outcome State Fault Refusal :=
  match s.ev.hand with
  | [] => .next s
  | e :: _ => .next ((s.endHandling e.tag).raise 58 0xF000).carryOn

end Sys2Proof.Machine
end

