-- ==== Sys2Proof/Machine/Irq.lean ====
section
/-!
DEFINITION. The interrupt commands of the steward endpoint (R431 to R434, R439 of spec/14_steward_endpoint.md).
-/

namespace Sys2Proof.Machine

open State

/-- EPT_IRQ_PEND_CLEAR (R431): writing 1 clears a pending bit, and the line follows. -/
def execEptIrqPendClear (hi : Bool) (value : Word) (s : State) : Host.Outcome State Fault Refusal :=
  let f := if hi then F.EPT_IRQ_PEND_HI_PEND else F.EPT_IRQ_PEND_LO_PEND
  .next (s.wr f (s.rd f &&& (2 ^ 32 - 1 - value.toNat))).settleLine

/-- The vectors whose pending bit moves to the MSI-X path (R434): pending, and not masked by EPT_IRQ_MASK. -/
def State.movingVectors (s : State) : List Nat := (List.range 64).filter fun v => s.pend.testBit v && !s.irqMask.testBit v

/-- MSIX_ENABLE_CHANGE (R434). -/
def actMsixEnableChange (enable : Bool) (s : State) : Host.Outcome State Fault Refusal :=
  if enable == s.msixOn then .next s
  else if enable then
    let vs := s.movingVectors
    let s1 := (s.wr F.EPT_STATUS_MSIX 1).settleLine
    let s2 := vs.foldl (fun t v => (t.setPend (t.pend - 2 ^ v)).requestVector v) s1
    .next (s2.raise 821 0x9400)
  else
    let vs := s.ept.pba
    let s1 := { s.wr F.EPT_STATUS_MSIX 0 with ept := { s.ept with pba := [] } }
    let s2 := vs.foldl (fun t v => if t.pend.testBit v then t else t.setPend (t.pend + 2 ^ v)) s1
    .next (s2.settleLine.raise 821 0x9400)

/-- MSIX_MASK_CLEAR (R433): one vector's mask, or Function Mask, is cleared. -/
def execMsixMaskClear (vector : Option Nat) (s : State) : Host.Outcome State Fault Refusal :=
  match vector with
  | some v => .next ({ s with ept := { s.ept with msixMasked := dropFrom s.ept.msixMasked v } }).sendPba
  | none => .next ({ s with ept := { s.ept with fnMask := false } }).sendPba

/-- INTERRUPT_DISABLE_CHANGE (R431, R439). -/
def execInterruptDisableChange (disable : Bool) (s : State) : Host.Outcome State Fault Refusal :=
  .next ({ s with ept := { s.ept with intDisable := disable } }).settleLine

end Sys2Proof.Machine
end

