-- ==== Sys2Proof/Machine/SwitchCmds.lean ====
section
/-!
DEFINITION. The commands of the packet switch, the scheduler and the PTP clock (spec/11_switch_and_scheduling.md).
Where a command carries `ns`, that much time has passed since the command before it.
-/

namespace Sys2Proof.Machine

open State

namespace State

/-- Multicast addresses that IEEE 1588 uses for PTP over Ethernet, IPv4 and IPv6. PRESUMED: R345 names them only as
"a PTP multicast address". -/
def ptpMacs : List Nat := [0x011B19000000, 0x01005E000181, 0x333300000181]

/-- The solicited-node multicast MAC address of an IPv6 address (R345): 33-33-FF and the low 24 bits. -/
def solicitedMac (addr : Nat) : Nat := 0x3333FF000000 + addr % 2 ^ 24

/-- A logical port of the PTP clock (R364). -/
def ptpPort (s : State) (p : Nat) : Bool :=
  s.ef F.SCH_PTP_CFG_EN == 1 && (p == s.ef F.SCH_PTP_CFG_LPORT || p == s.ef F.SCH_PTP_CFG_ALTPORT)

/-- Whether a logical port accepts a frame by its destination MAC address (R345). -/
def acceptsMac (s : State) (p mac : Nat) (body : FrameBody) : Bool :=
  mac == s.ownMac p ||
  (List.range 64).any (fun a => s.is F.SWC_ADDR_ACTIVE a && s.ef F.SWC_ADDR_LPORT a == p &&
    ((s.ef F.SWC_ADDR_PARTNER a == 1 && mac == s.partnerMac a) ||
     (s.ef F.SWC_ADDR_IPV6 a == 1 && mac == solicitedMac (s.entryAddr a)))) ||
  (mac == 0xFFFFFFFFFFFF && (match body with | .arp _ => true | _ => false)) ||
  (ptpMacs.contains mac && s.ptpPort p)

/-- The internal port and class of a received Skiff frame (R348): h mod 8, h a hash that the spec does not give. -/
def internalPort (ip port ptag : Nat) : Nat := Config.flowHash ip port ptag % 8

/-- The instant at which a changed gate list takes over (R363), from TOD, BASE and CYCLE. -/
def changeAt (tod base cycle : Nat) : Nat :=
  let soon := tod + 10000
  if soon ≤ base then base else base + (soon - base + cycle - 1) / cycle * cycle

/-- The administrative BASE of a port in ns (R361). -/
def adminBase (s : State) (p : Nat) : Nat :=
  (s.rd F.SCH_GCL_BASE_SEC_LO p + 2 ^ 32 * s.rd F.SCH_GCL_BASE_SEC_HI p) * 1000000000 + s.rd F.SCH_GCL_BASE_NS p

/-- Set the gate list state of a port. -/
def setGates (s : State) (p : Nat) (g : GateList) : State := { s with sw := { s.sw with gates := s.sw.gates.set p g } }

/-- The offset as SCH_PTP_STAT shows it: 24 bits, two's complement, saturating. -/
def shownOffset (o : Int) : Nat := ((max (-8388608) (min 8388607 o)) % 16777216).toNat

/-- The servo becomes locked or unlocked (R365). -/
def setLocked (s : State) (v : Bool) : State :=
  if s.is F.SCH_PTP_STAT_LOCKED = v then s
  else ((s.wr F.SCH_PTP_STAT_LOCKED (if v then 1 else 0)).raise (if v then 137 else 138) 0x0000)

/-- Step the TOD counter back by an offset (R365, R366). -/
def stepTod (s : State) (o : Int) : State := { s with tod := ((s.tod : Int) - o).toNat, ptp := { s.ptp with slew := 0 } }

/-- One offset from the master (R365). -/
def servo (s : State) (o : Int) : State :=
  let m := o.natAbs
  let s1 := (s.wr F.SCH_PTP_STAT_OFFSET (shownOffset o))
  let s2 := { s1 with ptp := { s1.ptp with
    slew := -o
    near := if m ≤ 100 then min 16 (s1.ptp.near + 1) else 0, far := if 1000 < m then min 16 (s1.ptp.far + 1) else 0 } }
  if s2.is F.SCH_PTP_STAT_LOCKED then
    if 100000 < m then (s2.stepTod o).setLocked false
    else if s2.ptp.far = 16 then s2.setLocked false
    else s2
  else if s2.ptp.near = 16 then s2.setLocked true
  else if 1000 < m then s2.stepTod o
  else s2

/-- A whole Sync: origin `t1` and arrival `t2`, in ns (R364). A delay measurement follows. -/
def synced (s : State) (p t1 t2 : Nat) : State :=
  let s1 := { s with ptp := { s.ptp with awaiting := none, sync := some (t1, t2) } }
  let s2 := s1.servo ((t2 : Int) - t1 - s1.ptp.delay)
  ((s2.shiftOffset ((s2.tod : Int) - s1.tod)).emit (.delayReq p)).sendControl p 64

/-- Whether a PTP message of a master is the chosen master's (R364). -/
def fromChosen (s : State) (p ident domain : Nat) : Bool :=
  s.ptpPort p && domain == s.ef F.SCH_PTP_CFG_DOMAIN &&
    (match s.ptp.chosen with | some m => m.ident == ident && m.lport == p | none => false)

end State

/-- FRAME_RECEIVE (R344 to R348, R350, R353): length, FCS and address are checked; a Skiff frame is admitted toward the
engines; what R346 does not list is discarded and counted. -/
def actFrameReceive (lport len : Nat) (fcsOk : Bool) (mac : Nat) (vlan : Option Nat) (body : FrameBody) (s : State) :
    Host.Outcome State Fault Refusal :=
  if !s.lportExists lport || !s.lportUp lport then .next s
  else if len < 64 || 9216 < len || !fcsOk then .next (s.dropOne F.SWC_DROP_ERR 70 0x0000)
  else if !s.acceptsMac lport mac body then .next s
  else match body with
    | .skiff ip port ptag dscp ect =>
      .next (s.admitFrame (32 + internalPort ip port ptag) 0 (s.classOf dscp) len (ip, port, ptag) ect).1
    | .arp target => .next (if (s.entryFor lport vlan false target).isSome then s else s.dropOne F.SWC_DROP_OTHER 71 0x0000)
    | .neighbour target => .next (if (s.entryFor lport vlan true target).isSome then s else s.dropOne F.SWC_DROP_OTHER 71 0x0000)
    | .ptp => .next (if s.ptpPort lport then s else s.dropOne F.SWC_DROP_OTHER 71 0x0000)
    | .pause => .next s
    | .other => .next (s.dropOne F.SWC_DROP_OTHER 71 0x0000)

/-- ARP_REQUEST (R346). -/
def actArpRequest (lport : Nat) (vlan : Option Nat) (target : Nat) (s : State) : Host.Outcome State Fault Refusal :=
  .next (match s.entryFor lport vlan false target with
    | some a => (s.emit (.addressReply a lport)).sendControl lport 64
    | none => s)

/-- NEIGHBOUR_SOLICITATION (R346): the advertisement has the solicited and override flags set. -/
def actNeighbourSolicitation (lport : Nat) (vlan : Option Nat) (target : Nat) (s : State) :
    Host.Outcome State Fault Refusal :=
  .next (match s.entryFor lport vlan true target with
    | some a => (s.emit (.addressReply a lport)).sendControl lport 90
    | none => s)

/-- LINK_STATE_CHANGE (R38, R81, R88, R94, R346, R347, R351, R369): a link comes up from step 9 on, not in watch mode, and only on a
logical port that exists and whose network port is not under a forced gate. -/
def actLinkStateChange (lport : Nat) (up : Bool) (s : State) : Host.Outcome State Fault Refusal :=
  if up then
    if s.lportExists lport && !s.lportUp lport && !s.gateForced (lport / 4) && (s.stage == 5 || s.ready) && !s.is F.CLK_STATUS_WATCH then
      .next (((s.wrBit F.SWC_LINK_UP lport true).settleAddrs false).raise 140 (lportUnit lport))
    else .next s
  else .next (s.lportDown lport)

/-- PORT_TRANSMIT (R355 to R360, R362, R367). -/
def actPortTransmit (lport ns : Nat) (s : State) : Host.Outcome State Fault Refusal :=
  let s0 := s.pass ns
  if !s0.lportUp lport || !s0.portOpen lport then .next s0
  else match s0.portPick lport with
    | (s1, some h) => .next (s1.sendHeld lport h)
    | (_, none) => .next s0

/-- RESIDUE_TIMEOUT (R355): the oldest residue copy of a destination has waited its limit. -/
def actResidueTimeout (lport : Nat) (s : State) : Host.Outcome State Fault Refusal :=
  match s.sw.residue.find? (·.1.dst == lport) with
  | none => .next s
  | some (h, _) =>
    let s1 := { s with sw := { s.sw with residue := s.sw.residue.filter (·.1.id != h.id) } }
    .next ((((s1.dropOne F.SWC_DROP_RESID 69 0x0000).endCopy h.shared).showBuffer).raiseOnce 130 0 0x0000)

/-- BANK_REPLACE (R349, R352): the bank's cells have been copied to a spare; with no spare TOTAL falls. -/
def actBankReplace (bank : Nat) (s : State) : Host.Outcome State Fault Refusal :=
  if 34 ≤ bank || s.sw.banksOut.contains bank || s.rd F.SWC_BUF_STAT_BANKS = 0 then .next s
  else
    let s1 := { s with sw := { s.sw with banksOut := s.sw.banksOut ++ [bank] } }
    let n := s1.rd F.SPR_STATUS_BANKS
    .next (if 0 < n then (s1.wr F.SPR_STATUS_BANKS (n - 1)).raise 132 (bankUnit bank)
      else ((s1.wr F.SWC_BUF_STAT_BANKS (s1.rd F.SWC_BUF_STAT_BANKS - 1)).showBuffer).raise 133 (bankUnit bank))

/-- GATE_INTERVAL_END (R361, R362): the next gates take effect, which TOD itself says. Where a cycle begins, a frame that
waited through a whole cycle and fits nowhere in it is dropped. -/
def actGateIntervalEnd (lport ns : Nat) (s : State) : Host.Outcome State Fault Refusal :=
  let s0 := s.pass ns
  let g := s0.sw.gates.getD lport ⟨1000000, 0, none⟩
  if 32 ≤ lport || !s0.is F.SCH_GCL_EN lport || s0.tod < g.base || (s0.tod - g.base) % g.cycle ≠ 0 then .next s0
  else
    let stuck (h : Held) : Bool := h.dst == lport && h.waited && !s0.gateEverFits lport h.svc h.len
    let gone := s0.sw.held.filter stuck
    let s1 := gone.foldl (fun t h => (((t.unhold h).dropOne F.SWC_DROP_GATE 72 0x0000).raiseOnce 134 0 0x0000)) s0
    let s2 := if gone.isEmpty then s1 else s1.offerResidue lport 1024
    .next { s2 with sw := { s2.sw with held := s2.sw.held.map fun h => if h.dst = lport then { h with waited := true } else h } }

/-- CHANGE of a port's administrative list (R361, R363): refused where CYCLE is not 1 µs to 1 s; a new CHANGE replaces a pending
one. -/
def State.changeGates (s : State) (lport : Nat) : State :=
  let c := s.rd F.SCH_GCL_CYCLE lport
  if c < 1000 || 1000000000 < c then s.raise 135 (lportUnit lport)
  else
    let b := s.adminBase lport
    let g := s.sw.gates.getD lport ⟨1000000, 0, none⟩
    (s.setGates lport { g with next := some (c, b, changeAt s.tod b c) }).wr F.SCH_GCL_PENDING 1 lport

/-- GATE_LIST_CHANGE (R361, R363). -/
def actGateListChange (lport : Nat) (s : State) : Host.Outcome State Fault Refusal :=
  .next (if 32 ≤ lport then s else s.changeGates lport)

/-- GATE_LIST_TAKEOVER (R363, R369): the banks exchange roles. -/
def actGateListTakeover (lport ns : Nat) (s : State) : Host.Outcome State Fault Refusal :=
  let s0 := s.pass ns
  match (s0.sw.gates.getD lport ⟨1000000, 0, none⟩).next with
  | some (c, b, _) =>
    if 32 ≤ lport then .next s0
    else .next ((((s0.setGates lport ⟨c, b, none⟩).wr F.SCH_GCL_PENDING 0 lport).wr F.SCH_GCL_OPER
      (1 - s0.rd F.SCH_GCL_OPER lport) lport).raise 136 (lportUnit lport))
  | none => .next s0

/-- The master with the smallest rank (R364). -/
def bestMaster (ms : List Master) : Option Master :=
  ms.foldl (fun (a : Option Master) m => match a with
    | none => some m
    | some b => if m.rank < b.rank then some m else some b) none

/-- The best of the masters that are announced becomes the chosen one; a change of master raises EV0139 (R364, R365). -/
def State.chooseMaster (s : State) : State :=
  match bestMaster s.ptp.masters with
  | none => s
  | some b =>
    let same := match s.ptp.chosen with | some c => c.ident == b.ident && c.lport == b.lport | none => false
    if same then { s with ptp := { s.ptp with chosen := some b } }
    else
      let changed := s.ptp.chosen.isSome
      let s1 := { s with ptp := { s.ptp with chosen := some b, awaiting := none, sync := none } }.wr F.SCH_PTP_STAT_PORT b.lport
      if changed then s1.raise 139 0x0000 else s1

/-- ANNOUNCE (R364, R365): the best of the masters announced on the two ports is chosen. `rank` is the announced data set
as one number, the smallest the best. -/
def actAnnounce (lport ident rank domain : Nat) (s : State) : Host.Outcome State Fault Refusal :=
  if !s.ptpPort lport || domain ≠ s.ef F.SCH_PTP_CFG_DOMAIN then .next s
  else
    let ms := (s.ptp.masters.filter fun m => !(m.ident == ident && m.lport == lport)) ++ [Master.mk rank ident lport]
    .next ({ s with ptp := { s.ptp with masters := ms } }).chooseMaster

/-- PTP_SYNC (R194, R364, R365, R369): arrival is stamped on the counter as it stands. A two-step Sync waits for Follow_Up. -/
def actPtpSync (lport ident domain origin : Nat) (twoStep : Bool) (ns : Nat) (s : State) : Host.Outcome State Fault Refusal :=
  let s0 := s.pass ns
  if !s0.fromChosen lport ident domain then .next s0
  else if twoStep then .next { s0 with ptp := { s0.ptp with awaiting := some s0.tod } }
  else .next (s0.synced lport origin s0.tod)

/-- FOLLOW_UP (R364): the origin of a two-step master's Sync. -/
def actFollowUp (lport ident domain origin : Nat) (s : State) : Host.Outcome State Fault Refusal :=
  match s.ptp.awaiting with
  | some t2 => .next (if s.fromChosen lport ident domain then s.synced lport origin t2 else s)
  | none => .next s

/-- DELAY_RESP (R364): `sent` is the departure of the Delay_Req and `received` its arrival at the master. -/
def execDelayResp (lport ident domain sent received : Nat) (s : State) : Host.Outcome State Fault Refusal :=
  match s.ptp.sync with
  | some (t1, t2) =>
    .next (if s.fromChosen lport ident domain then
        { s with ptp := { s.ptp with delay := (((t2 : Int) - t1) + ((received : Int) - sent)) / 2 } }
      else s)
  | none => .next s

/-- PTP_SYNC_TIMEOUT (R365). DESIGN CHOICE (log entry 149): the master is no longer among those announced. -/
def actPtpSyncTimeout (s : State) : Host.Outcome State Fault Refusal :=
  let left := match s.ptp.chosen with
    | some c => s.ptp.masters.filter fun m => !(m.ident == c.ident && m.lport == c.lport)
    | none => s.ptp.masters
  .next ({ s with ptp := { s.ptp with near := 0, far := 0, masters := left } }.setLocked false).chooseMaster

end Sys2Proof.Machine
end

