-- ==== Sys2Proof/Machine/Registers.lean ====
section
/-!
DEFINITION. Register accesses by path (R9 to R15, R19, R40, R66, R95, R408, R426 to R430): the registers whose write is an operation
of its own, the shutdown of a ring (R416 to R418), and register entries of rings.
-/

namespace Sys2Proof.Machine

namespace State

/-- A write of PI or CI is fit for a ring of the steward's event or sample records (R400, R481). -/
def ciFits (s : State) (pi ci : Field) (v : Nat) : Bool :=
  decide (serial (s.rd ci) v ≤ serial (s.rd ci) (s.rd pi))

/-- Entries of a ring that are covered and have not been taken in complete with status aborted (R416), while the completion ring has
room. -/
def abortRest (s : State) (r : Nat) : Nat → State
  | 0 => s
  | n + 1 =>
    let idx := s.nextIdx r
    if serial idx (s.rd F.WRG_IDX_PI r) = 0 || 2 ^ 31 ≤ serial idx (s.rd F.WRG_IDX_PI r) || !s.cqRoom r then s
    else
      let s1 := { s with wrg := { s.wrg with taken := s.wrg.taken ++ [Taken.mk r idx ⟨0, 0, 0, 0, 0, 0, []⟩] } }
      -- CI passes over the entry, so that the next one follows.
      ((s1.complete r idx 4 0).wr F.WRG_IDX_CI (idx + 1) r).abortRest r n

/-- A ring shuts down by its EN (R416 to R418): an inbound ring by WRG_MODE.COMPAT; an outbound ring's items fall back, and its
functions use hardware mode for the rest of the heat. -/
def shutdownRing (s : State) (r : Nat) : State :=
  let stop (t : State) : State := (t.wr F.WRG_RING_EN 0 r).wr F.WRG_IDX_STATE 3 r
  let kind := s.rd F.WRG_RING_KIND r
  if kind = inbound then
    if s.is F.WRG_MODE_COMPAT then
      (stop (s.dropTaken fun t => t.ring == r)).raise 771 (0x9000 + r)
    else
      let s1 := (s.takenOf r).foldl (fun t e => t.complete r e.idx 4 0) s
      let s2 := (s1.abortRest r 65536).wr F.WRG_IDX_CI (s.rd F.WRG_IDX_PI r) r
      (stop s2).raise 770 (0x9000 + r)
  else if kind = outbound then
    let s1 := s.unroute fun f ring => ring == r && s.assisted f
    (stop (s1.fallAll fun it => it.ring == r))
  else stop s

/-- Word 0 of WRG_RING_r is written: the ring is enabled, shuts down, or takes the fields that are not locked (R400, R416, R419). -/
def writeRing (s : State) (r mask value : Nat) : State :=
  let addr := F.WRG_RING_EN.addr r 0
  let old := s.readWord addr
  let merged := (value &&& mask) ||| (old &&& (0xFFFFFFFF - mask))
  let was := s.is F.WRG_RING_EN r
  if !was && merged.testBit 31 then s.enableRing r merged
  else
    let s1 := s.storeWord addr (mask &&& 0x7FFFFFFF) value
    if was && !merged.testBit 31 then s1.shutdownRing r else s1

/-- Word 0 of EVT_HOST or PMU_SBUF is written: writing EN as 1 sets PI and CI to 0. -/
def writeHostRing (s : State) (addr mask value : Nat) (en pi ci : Field) : State :=
  let s1 := s.storeWord addr (mask &&& 0x7FFFFFFF) value
  if !mask.testBit 31 then s1
  else if value.testBit 31 then (((s1.wr en 1).wr pi 0).wr ci 0).drainHost 65536
  else s1.wr en 0

/-- Slot Control of a bay is written (R390, R391): PCC stops or starts the bay; the other fields are stored. -/
def writeSlot (s : State) (nn addr mask value : Nat) : State :=
  let f := F.BAY_SLTCTL_PCC
  let s1 := s.storeWord addr (mask &&& (0xFFFFFFFF - f.mask)) value
  if f.mask &&& mask = 0 then s1
  else if f.slice value = 1 then (s1.wr f 1 nn).stopBay nn
  else s1.powerOn nn

/-- A write to a register takes effect. Where a register's write is an operation, that operation runs; the rest store their
fields (R11 to R15). -/
def writeReg (s : State) (addr mask value : Nat) : State :=
  let w := value &&& mask
  let store := s.storeWord addr mask value
  let at_ (f : Field) : Bool := decide (f.addr 0 0 = addr)
  let idx (f : Field) : Option Nat := (f.index addr).map (·.1)
  if at_ F.SYS_RESET_KEY then
    if w / 65536 ≠ 0x5A3C then s
    else if w.testBit 0 then
      s.systemReset 2 s.boot.pins
    else if w.testBit 1 then s.tick.coxReset (s.fresh % 2 == 0) else s
  else if at_ F.CLK_MUX_CMD_KEY then
    if muxKeyed (BitVec.ofNat 32 w) then s.commandSwitch (muxSel (BitVec.ofNat 32 w)) (w.testBit 4) else s
  else if at_ F.CLK_GATE_FORCE_NET then s.forceGates false (w ||| (s.readWord addr &&& (0xFFFFFFFF - mask))) []
  else if at_ F.CLK_GATE_FORCE_BAY_BAY then s.forceGates true (w ||| (s.readWord addr &&& (0xFFFFFFFF - mask))) []
  else if at_ F.TWN_CMD_KEY then
    if w / 65536 ≠ 0x5AA5 then s
    else
      let s1 := if w.testBit 0 then s.askHandover else s
      let s2 := if w.testBit 1 then s1.askTakeover else s1
      if w.testBit 2 then s2.askGiveback else s2
  else if at_ F.CIP_KLOAD_CMD_KEY then s.kloadCmd w
  else if at_ F.EVT_FQ_DONE_TAG then s.endHandling (w % 65536)
  else if at_ F.PMU_CTRL_FREEZE then if w.testBit 29 then store.clearCounters else store
  else if at_ F.EVT_HOST_EN then s.writeHostRing addr mask value F.EVT_HOST_EN F.EVT_HOST_PI F.EVT_HOST_CI
  else if at_ F.PMU_SBUF_EN then s.writeHostRing addr mask value F.PMU_SBUF_EN F.PMU_SBUF_PI F.PMU_SBUF_CI
  else if at_ F.EVT_HOST_CI then if s.ciFits F.EVT_HOST_PI F.EVT_HOST_CI w then store.drainHost 65536 else s.raise 768 0x9400
  else if at_ F.PMU_SBUF_CI then if s.ciFits F.PMU_SBUF_PI F.PMU_SBUF_CI w then store else s.raise 768 0x9400
  else if at_ F.EPT_IRQ_PEND_LO_PEND || at_ F.EPT_IRQ_PEND_HI_PEND || at_ F.EPT_IRQ_MASK_LO_MASK || at_ F.EPT_IRQ_MASK_HI_MASK then
    store.settleLine
  else match idx F.WRG_RING_EN, idx F.WRG_IDX_PI, idx F.WRG_IDX_CI, idx F.BAY_SLTCTL_PCC with
    | some r, _, _, _ => s.writeRing r mask value
    | _, some r, _, _ => s.writePi r (w ||| (s.rd F.WRG_IDX_PI r &&& (0xFFFFFFFF - mask)))
    | _, _, some r, _ => s.writeCi r (w ||| (s.rd F.WRG_IDX_CI r &&& (0xFFFFFFFF - mask)))
    | _, _, _, some nn => s.writeSlot nn addr mask value
    | _, _, _, _ =>
      match idx F.CIP_KLOAD_DATA_DATA, idx F.SCH_GCL_CHANGE, idx F.PMU_SAMP_EN, idx F.EVT_MASK_MASK with
      | some n, _, _, _ => s.wr F.CIP_KLOAD_DATA_DATA (s.newBits F.CIP_KLOAD_DATA_DATA n 0 mask value) n
      | _, some p, _, _ => if F.SCH_GCL_CHANGE.slice w = 1 then store.changeGates p else store
      | _, _, some k, _ =>
        if w.testBit 31 && !s.is F.PMU_SAMP_EN k then { store with ev := { store.ev with sampCount := store.ev.sampCount.set k 0 } }
        else store
      | _, _, _, some _ => { store with ev := { store.ev with wait := store.ev.wait.filter fun (r : EvRec) => !store.masked r.ev } }
      | _, _, _, _ => store

/-- A register of a cox ring, which the steward endpoint's window cannot write (R398). -/
def coxRingReg (addr : Nat) : Bool :=
  (decide (F.WRG_RING_EN.addr 1008 0 ≤ addr) && decide (addr < F.WRG_RING_EN.addr 1024 0)) ||
  (decide (F.WRG_IDX_PI.addr 1008 0 ≤ addr) && decide (addr < F.WRG_IDX_PI.addr 1024 0))

/-- One 32-bit write by a path: its effect and its status: 0 done, 1 refused (R66), 2 gated (R95). -/
def accessWrite (s : State) (path : Path) (addr mask value : Nat) : State × Nat :=
  if s.accessGated addr then (match path with | .cox | .pldm => s.emit (.gated path addr) | .window | .ring => s, 2)
  else if path = .window && coxRingReg addr then (s.raise 773 (if addr < F.WRG_IDX_PI.base then 0x9000 + (addr - F.WRG_RING_EN.base) / 32
    else 0x9000 + (addr - F.WRG_IDX_PI.base) / 16), 0)
  else if s.changesB addr mask value then (s.refuseB path addr, 1)
  else ((s.wakeFor addr).writeReg addr mask value, 0)

/-- An access that R9 refuses. Through the window it is a Completer Abort, and EV0818 is raised at most once per heat (R430). -/
def refuseAccess (s : State) (path : Path) (addr : Nat) (read : Bool) : State :=
  match path with
  | .window =>
    let s1 := (s.bump F.EPT_ERR_ABORT).raiseOnce 818 0 endpointUnit
    if read then s1.emit .completerAbort else s1
  | p => s.emit (.accessRefused p addr)

/-- An access has a size and alignment that R9 allows. -/
def accessFits (addr width : Nat) : Bool := (width == 4 && addr % 4 == 0) || (width == 8 && addr % 8 == 0)

/-- A path reaches the registers now: the window and the rings from ready (R40), cox and its protocols while cox runs. -/
def pathOpen (s : State) (path : Path) : Bool :=
  match path with
  | .window | .ring => s.ready
  | .cox | .pldm => s.ev.coxRuns

/-- A write of 32 or 64 bits: the lower address first (R9). -/
def pathWrite (s : State) (path : Path) (addr width value : Nat) : State :=
  if !accessFits addr width then s.refuseAccess path addr false
  else if !s.pathOpen path then s
  else
    let s1 := (s.accessWrite path addr 0xFFFFFFFF (value % 2 ^ 32)).1
    (if width = 8 then (s1.accessWrite path (addr + 4) 0xFFFFFFFF (value / 2 ^ 32 % 2 ^ 32)).1 else s1).carryOn

/-- One 32-bit read by a path: a gated unit reads as ones through the window (R95). -/
def accessRead (s : State) (path : Path) (addr : Nat) : State × Option Nat :=
  if s.accessGated addr then
    match path with
    | .window => (s, some 0xFFFFFFFF)
    | .ring => (s, none)
    | p => (s.emit (.gated p addr), none)
  else
    let (t, v) := (s.wakeFor addr).readReg addr
    (t, some v)

/-- What BAR0 reads as in recovery mode (R60): the command word, the NOR offset, the length, the status word, and the data buffer. -/
def barWord (r : RecBar) (offset : Nat) : Nat :=
  if offset = 0 then r.cmd
  else if offset = 4 then r.offset
  else if offset = 8 then r.length
  else if offset = 0xC then r.status
  else if 0x10000 ≤ offset && offset < 0x20000 then
    (List.range 4).foldl (fun w k => w + (r.buf.get (offset - 0x10000 + k)).getD 0 * 256 ^ k) 0
  else 0

/-- A write of one word of BAR0 in recovery mode (R60). The status word is the sequencer's to write. -/
def barStore (r : RecBar) (offset v : Nat) : RecBar :=
  if offset = 0 then { r with cmd := v }
  else if offset = 4 then { r with offset := v }
  else if offset = 8 then { r with length := v }
  else if 0x10000 ≤ offset && offset < 0x20000 then { r with buf := bufWords r.buf (offset - 0x10000) [v] }
  else r

/-- An access to BAR0 in recovery mode, of one word or of two from the lower one on. -/
def barAccess (s : State) (offset width : Nat) (write : Option Nat) : State :=
  if !accessFits offset width then s
  else
    let r := s.boot.bar
    match write with
    | none => s.emit (.windowData offset (barWord r offset + if width = 8 then 2 ^ 32 * barWord r (offset + 4) else 0))
    | some v =>
      let r1 := barStore r offset (v % 2 ^ 32)
      { s with boot := { s.boot with bar := if width = 8 then barStore r1 (offset + 4) (v / 2 ^ 32 % 2 ^ 32) else r1 } }

/-- An answer of the window (R427 to R430): the option-ROM page, or the register view. -/
def windowAccess (s : State) (offset width : Nat) (write : Option Nat) : State :=
  if offset < 0x100000 then
    match write with
    | some _ => s
    | none =>
      let data := match s.is F.EPT_ROM_OPTROM, s.cox.optRom with
        | true, some (len, c) => Image.le c offset (min width (len - offset))
        | _, _ => 0
      s.emit (.windowData offset data)
  else if !s.is F.EPT_ROM_WINDOW then
    match write with
    | some _ => s
    | none => s.emit (.windowData offset 0)
  else
    let addr := s.rd F.EPT_WIN_PAGE_PAGE * 0x100000 + offset - 0x100000
    match write with
    | some v => s.pathWrite .window addr width v
    | none =>
      if !accessFits addr width then s.refuseAccess .window addr true
      else
        let (s1, lo) := s.accessRead .window addr
        let (s2, hi) := if width = 8 then s1.accessRead .window (addr + 4) else (s1, some 0)
        s2.emit (.windowData offset (lo.getD 0 + 2 ^ 32 * hi.getD 0))

end State

open State

/-- REGISTER_WRITE (R9, R11 to R15, R19, R40, R66, R95). -/
def actRegisterWrite (path : Path) (addr width value : Nat) (s : State) : Host.Outcome State Fault Refusal :=
  .next (s.pathWrite path addr width value)

/-- RC_READ (R10): a read returns the register and clears its RC fields. The window reads 0 before ready (R40). -/
def actRcRead (path : Path) (addr : Nat) (s : State) : Host.Outcome State Fault Refusal :=
  .next (
    if !accessFits addr 4 then s.refuseAccess path addr true
    else if !s.pathOpen path then s.emit (.readData path addr 0)
    else match s.accessRead path addr with
      | (t, some v) => t.emit (.readData path addr v)
      | (t, none) => t)

/-- WINDOW_ACCESS (R427 to R430, R438): the Expansion ROM BAR must be implemented and enabled, and the function in D0. In recovery
mode, where there is no such BAR, the access reaches BAR0 (R60, R423). -/
def actWindowAccess (offset width : Nat) (write : Option Nat) (s : State) : Host.Outcome State Fault Refusal :=
  .next (
    if s.recovering && s.ept.dlActive && !s.ept.d3hot && s.ept.memSpace then s.barAccess offset width write
    else if s.ready && s.ept.dlActive && !s.ept.d3hot && s.ept.memSpace && s.ept.romEnable && s.romThere && offset < 0x1000000 then
      s.windowAccess offset width write
    else s)

/-- REG_READ (R407, R408): one or two consecutive registers. -/
def actRegRead (ring : Nat) (s : State) : Host.Outcome State Fault Refusal :=
  .next (match s.front ring 1 with
    | none => s
    | some t =>
      let e := t.entry
      let bad := e.count == 0 || 2 < e.count || e.code != 0 || e.dlen != 0 || 2 ^ 24 ≤ e.item || e.item % 4 != 0 || e.daddr != 0 ||
        e.inline.any (· != 0)
      if bad then s.finish t 6 0
      else if s.accessGated e.item || (e.count == 2 && s.accessGated (e.item + 4)) then s.finish t 2 0
      else
        let (s1, lo) := (s.wakeFor e.item).readReg e.item
        let (s2, hi) := if e.count = 2 then (s1.wakeFor (e.item + 4)).readReg (e.item + 4) else (s1, 0)
        s2.finish t 0 (lo + 2 ^ 32 * hi))

/-- REG_WRITE (R407, R408, R66): the bits under MASK; RESULT is what the register then reads. An entry that shuts its own ring
down still completes with its own status (R416), and CI stays where the shutdown put it. -/
def execRegWrite (ring : Nat) (s : State) : Host.Outcome State Fault Refusal :=
  .next (match s.front ring 2 with
    | none => s
    | some t =>
      let e := t.entry
      let bad := e.count != 0 || e.code != 0 || e.dlen != 0 || 2 ^ 24 ≤ e.item || e.item % 4 != 0 || e.inline.any (· != 0)
      if bad then s.finish t 6 0
      else
        let s0 := s.dropTaken fun x => x.ring == ring && x.idx == t.idx
        let (s1, st) := s0.accessWrite .ring e.item (e.daddr % 2 ^ 32) (e.daddr / 2 ^ 32 % 2 ^ 32)
        if !s1.ready then s1
        else
          let s2 := s1.finish t st (if st = 2 then 0 else s1.readWord e.item)
          let s3 := if s1.is F.WRG_RING_EN ring || s1.is F.WRG_MODE_COMPAT then s2 else s2.wr F.WRG_IDX_CI (s1.rd F.WRG_IDX_CI ring) ring
          s3.carryOn)

/-- RING_SHUTDOWN (R416 to R419): EN of a running ring is written 0 with the rest of word 0. -/
def execRingShutdown (ring : Nat) (w0 : Word) (s : State) : Host.Outcome State Fault Refusal :=
  .next (
    if ring < 1024 && s.ready && s.is F.WRG_RING_EN ring && !w0.getLsbD 31 then (s.writeRing ring 0xFFFFFFFF w0.toNat).carryOn else s)

end Sys2Proof.Machine
end

