-- ==== Sys2Proof/Machine/Ready.lean ====
section
/-!
DEFINITION. The last steps of start-up (R38, R42, R49, R56, R62 to R64, R107, R183, R197, R285, R322, R332, R352, R372, R428, R454,
R523): the image is applied, and link training ends with ready.
-/

namespace Sys2Proof.Machine

namespace State

/-- A key operation of the image runs to its end before the next entry (R332). No key encryption key is held at this point (R334),
so that an unwrap which PREPARE begins ends for want of it. A result other than 0x00 is kept for ready. -/
def imageKeyOp (s : State) (e : Image.CfgEntry) : State :=
  let s1 := s.kloadCmd (e.value &&& e.mask)
  let s2 := match s1.cip.preparing with
    | some k => s1.endUnwrap k false false 0
    | none => s1
  let ran := e.value / 65536 % 65536 == 0x6C39 && e.value / 16384 % 4 != 0
  let result := s2.rd F.CIP_KLOAD_STAT_RESULT
  if ran && result ≠ 0 then { s2 with cip := { s2.cip with imageFails := s2.cip.imageFails ++ [(e.tag, result, (e.value &&& e.mask) % 8192)] } } else s2

/-- One configuration entry is applied (R64). Entries of registers whose write is an operation run it; the write of a W1C field
clears it; SYS_RESET and TWN_CMD have nothing to act on before ready. -/
def applyEntry (s : State) (e : Image.CfgEntry) : State :=
  let at_ (f : Field) : Bool := decide (f.addr 0 0 = e.addr)
  let kinds := (covered e.addr e.mask).map fun x => x.1.kind
  if at_ F.CIP_KLOAD_CMD_KEY then s.imageKeyOp e
  else if at_ F.SYS_RESET_KEY || at_ F.TWN_CMD_KEY then s
  else if at_ F.CLK_MUX_CMD_KEY || at_ F.CLK_GATE_FORCE_NET || at_ F.CLK_GATE_FORCE_BAY_BAY || (F.WRG_RING_EN.index e.addr).isSome ||
      kinds.contains .w1c then s.writeReg e.addr e.mask e.value
  else s.applyWord e.addr e.mask e.value

/-- The entries in the order in which they apply: by phase, and within a phase in table order (R64). -/
def applyOrder (es : List Image.CfgEntry) : List Image.CfgEntry := [0, 1, 2].flatMap fun p => es.filter (·.phase == p)

/-- The tag of the last entry applied to a register in a range of addresses; 0 where the defaults stand. -/
def lastTag (es : List Image.CfgEntry) (lo hi : Nat) : Nat :=
  match (es.filter fun e => lo ≤ e.addr && e.addr < hi).getLast? with
  | some e => e.tag
  | none => 0

/-- A privileged volume is configured. -/
def privConfigured (s : State) : Bool :=
  (List.range 4096).any fun v => s.ef F.CRW_VOL_VALID v == 1 && s.ef F.CRW_VOL_PRIV v == 1

/-- A hamper's size meets R183. -/
def sizeOk (s : State) (h : Nat) : Bool :=
  let n := s.ef F.HMP_POOL_SIZE h
  64 ≤ n || (n == 0 && ((h == 11 && s.ef F.SKF_SHELF_FED_EN == 0) || (h == 12 && !s.twinShelf) || (h == 14 && !s.privConfigured)))

/-- MiB that the fixed regions, the privileged map and the hampers take (R181). -/
def hbmNeed (s : State) : Nat := s.hamperStart 16

/-- A setting of the image that halts start-up (R183, R352): the tag that the logbook record quotes. -/
def badSetting (s : State) (es : List Image.CfgEntry) : Option Nat :=
  let pool (h : Nat) : Nat := F.HMP_POOL_SIZE.addr h 0
  match (List.range 16).find? fun h => !s.sizeOk h with
  | some h => some (lastTag es (pool h) (pool h + 4))
  | none =>
    if 49152 < s.hbmNeed then some (lastTag es (F.HMP_MAP_GIB.addr 0 0) (pool 16))
    else if s.totalCells < 2 * s.minSum then some (lastTag es (F.SWC_QCFG_MIN_EXT.addr 0 0) (F.SWC_QCFG_MIN_EXT.addr 8 0))
    else none

/-- The kind of the record that names a retired logbook block: R453 lists none, so that it is a free value that is no listed kind. -/
def openKind (v : Nat) : Nat :=
  if [kStart, kHalt, kRefWait, kPFail, kFault, kFrontier, kLost, kPatrolRow, kGrainFail, kUpdate, kActivate, kFuse, kSanitize].contains
      (v % 65536) then 0 else v % 65536

/-- A logbook block fails as a record is to be written (R452). The block is retired, a record names it, and the write goes to the next
block; with fewer than 64 blocks left the write is lost. The second component says that the write can go on. -/
def logBlockFails (s : State) (block : Nat) : State × Bool :=
  let n := s.rd F.COX_LOG_BLOCKS
  if n < 64 then (s.raise 899 0x0000, false)
  else ((((s.wr F.COX_LOG_BLOCKS (n - 1)).tick).logOpen (openKind s.fresh) [block]).raise 898 0x0000, true)

/-- The blocks that fail as the START record is to be written, in their order (R474). -/
def logFailures (s : State) : List Nat → State × Bool
  | [] => (s, true)
  | b :: rest => match s.logBlockFails b with
    | (t, true) => t.logFailures rest
    | (t, false) => (t, false)

/-- The start number of this start (R454): one more than that of the newest START record, or 0 of the next epoch. It is not issued
where the START record's write is lost (R474). -/
def issueStart (s : State) (logFails : List Nat) : State :=
  let newest := s.cox.log.find? fun r => r.kind == kStart
  let next := match newest with
    | some r => if r.start % 2 ^ 24 = 2 ^ 24 - 1 then none else some (r.start + 1)
    | none => none
  let (s1, num, blown) := match next with
    | some n => (s, some n, false)
    | none =>
      if s.fuses.epoch < 63 then
        ({ s with fuses := { s.fuses with epoch := s.fuses.epoch + 1 } }, some ((s.fuses.epoch + 1) * 2 ^ 24), true)
      else (s, none, false)
  match num with
  | none => s1
  | some n =>
    let s0 := { s1 with boot := { s1.boot with startNumber := some n } }
    let s2 := if blown then s0.tick.logFuseAlone s0.fresh else s0
    match s2.logFailures logFails with
    | (t, false) => { t with boot := { t.boot with startNumber := s.boot.startNumber } }
    | (s2, true) =>
    let s3 := s2.logOpen kStart [s2.readWord (F.SYS_STATUS_STAGE.addr 0 0), s2.readWord (F.BOOT_STATUS_ACTIVE.addr 0 0), s2.activeSequence]
    let s4 := (s3.wr F.CIP_NONCE_START n).wr F.CIP_NONCE_VALID 1
    if blown then s4.raise 914 0x0000 else s4

/-- The option-ROM section of a copy: its length, and its bytes that are not 0xFF by their offset. -/
def romOf (s : State) (copy : Nat) : Option (Nat × Cells) :=
  (s.sectionIn copy 4).map fun x =>
    let lo := s.copyBase copy + x.offset
    (x.length, (s.boot.nor.filter fun kv => lo ≤ kv.1 && kv.1 < lo + x.length).map fun kv => (kv.1 - lo, kv.2))

/-- cox firmware and the engines' microcode start from the active copy (R38 step 8, R69), its configuration and option ROM take effect
(R466), and the first fault that waits is handled (R489). -/
def startFirmware (s : State) : State :=
  let s1 := { s with
    ev := { s.ev with coxRuns := true }
    cox := { s.cox with
      halted := false, ucVersion := s.activeVersion 2
      startConfig := match s.activeCopy with | some c => s.digestIn c 1 | none => 0
      optRom := match s.activeCopy with | some c => s.romOf c | none => none } }
  (s1.showFw (s1.activeVersion 3)).startCoxRings.beginQueued

/-- The gate lists of every port as the image leaves them (R361). -/
def startGates (s : State) : State :=
  (List.range 32).foldl (fun t p => t.setGates p ⟨t.ef F.SCH_GCL_CYCLE p, t.adminBase p, none⟩) s

/-- Configured crews begin to assemble, and take up the drives that become ready from here on (R211). -/
def beginAssembly (s : State) : State :=
  (List.range 8).foldl (fun t n => if t.configured n then t.wr F.CRW_CREW_STATE 1 n else t) s

/-- Step 8 of start-up (R38). -/
def applyImage (s : State) (logFails : List Nat) : State :=
  let es := match s.activeCopy with
    | some c => applyOrder (Image.entries s.boot.nor (s.copyBase c))
    | none => []
  let s1 := (s.wr F.SPR_REPAIR_HBM_FREE (64 - s.fuses.hbmRepairs.length)).startFirmware
  let s2 := (es.foldl applyEntry s1).issueStart logFails
  match s2.badSetting es with
  | some tag => s2.haltStart tag 0x0000
  | none => (s2.startGates.showBuffer.startBays.beginAssembly.settleAddrs false).setStage 5

/-- Both twins report BAY_MASTER asserted, or neither does (R523). -/
def masterMismatch (s : State) : Bool :=
  s.twinShelf && s.is F.TWN_STATUS_LINK && s.twn.partnerMaster == some (s.is F.SYS_STRAP_BAY_MASTER)

/-- Each twin halts; where both are master, each turns its gates off first. -/
def haltMismatch (s : State) : State :=
  let s1 := if s.is F.SYS_STRAP_BAY_MASTER then
      (List.range 32).foldl (fun t nn => if (t.bayAt nn).gate then t.bayOff nn else t) s
    else s
  (s1.raise 968 0xA000).haltStart 0 0xA000

/-- A copy's check has failed in this start. -/
def copyFailed (s : State) (copy : Nat) : Bool := s.failOf copy != 0 && s.failOf copy != 0xF

/-- The option-ROM section of the active image is longer than 1 MiB (R428). -/
def romTooLong (s : State) : Bool :=
  match s.activeCopy with
  | some c => match Image.find s.boot.nor (s.copyBase c) 4 with
    | some x => 2 ^ 20 < x.length
    | none => false
  | none => false

/-- Events raised at ready. -/
def readyEvents (s : State) : State :=
  let s1 := if s.copyFailed 0 then s.raise 8 0x0000 else s
  let s2 := if s1.copyFailed 1 then s1.raise 9 0x0000 else s1
  let s3 := if s2.boot.refFailed then s2.raise 10 0x0000 else s2
  let s4 := if s3.romTooLong then s3.raise 820 endpointUnit else s3
  let s5 := s4.cip.imageFails.foldl (fun t e => t.raise 469 (keyUnit e.2.2) (e.1 + 2 ^ 32 * e.2.1)) s4
  let s6 := if s5.is F.CIP_NONCE_VALID then s5 else s5.raise 471 0x0000
  let s7 := if s6.hmp.drainCut then { s6 with hmp := { s6.hmp with drainCut := false } }.raise 35 0x0000 else s6
  let s8 := if s7.ef F.SKF_SHELF_FED_EN = 1 && s7.ef F.HMP_ALIGN_PTP = 0 then s7.raise 33 0x0000 else s7
  let s9 := if !s8.twinShelf && !s8.is F.SYS_STRAP_BAY_MASTER then (List.range 32).foldl (fun t nn => t.bayEvent nn 7) s8 else s8
  { s9 with cip := { s9.cip with imageFails := [] } }

/-- The generation that the next flow record takes holds the start number in its top byte (R107). -/
def setGeneration (s : State) : State :=
  let low := s.rd F.SKF_GEN_NEXT % 2 ^ 24
  if s.is F.CIP_NONCE_VALID then s.wr F.SKF_GEN_NEXT (s.startNo % 256 * 2 ^ 24 + low)
  else s.tick.wr F.SKF_GEN_NEXT (s.fresh % 256 * 2 ^ 24 + low)

/-- As heat 0 begins, a volume whose crew is not configured fails R215: no assembly is waited for (R214). -/
def refuseVolumes (s : State) : State :=
  (s.validVolumes.filter fun v => !s.configured (s.volConfig v).crew).foldl (fun t v => t.configureVolume v) s

/-- Step 10 of start-up (R38): ready, and heat 0 begins. A twin whose link has not trained treats its partner as lost (R285). -/
def becomeReady (s : State) : State :=
  let s1 := ({ s.setStage 6 with heat := 0 }).setGeneration.routeFunctions.readyEvents.refuseVolumes
  if s1.twinShelf && !s1.is F.TWN_STATUS_LINK then s1.partnerLost 0 else s1

end State

open State

/-- IMAGE_APPLY (R38 step 8, R42, R62 to R64, R183, R332, R352, R452, R454): `fault` names a unit that no spare can replace, and
`logFails` the logbook blocks that fail, one after the other, as the START record is to be written. -/
def actImageApply (fault : Option Nat) (logFails : List Nat) (s : State) : Host.Outcome State Fault Refusal :=
  .next (if s.stage = 4 then s.step1 fun t => match fault with
    | some u => t.haltStart 0 u
    | none => t.applyImage logFails
  else s)

/-- LINK_TRAINING_END (R38 steps 9 and 10, R42, R523). With PWR_FAIL_N asserted the sequence stops before step 10 (R41). -/
def execLinkTrainingEnd (fault : Option Nat) (s : State) : Host.Outcome State Fault Refusal :=
  .next (if s.stage = 5 && s.boot.hold < 2 then
      match fault with
      | some u => s.haltStart 0 u
      | none =>
        if s.masterMismatch then s.haltMismatch
        else if s.boot.hold = 1 then { s with boot := { s.boot with hold := 3 } }
        else s.becomeReady.carryOn
    else s)

/-- START_RESUME (R41): PWR_FAIL_N has been deasserted for 10 ms. -/
def execStartResume (s : State) : Host.Outcome State Fault Refusal :=
  let s1 := { s with boot := { s.boot with hold := 0 } }
  .next (if s.boot.hold = 3 then s1.becomeReady.carryOn else s1)

end Sys2Proof.Machine
end

