-- ==== Sys2Proof/Machine/Raising.lean ====
section
/-!
DEFINITION. Commands that may raise an event and do not let the data path go on themselves. An escalation (R487) or a fatal event makes of
the waiting commands what R178 and R277 say, in the same step; the command's own effect is the definition `act…` of its family.
-/

namespace Sys2Proof.Machine

open State

/-- REGISTER_WRITE (R178, R277). -/
def execRegisterWrite (path : Path) (addr width value : Nat) (s : State) : Host.Outcome State Fault Refusal :=
  settled (actRegisterWrite path addr width value s)

/-- RC_READ (R178, R277). -/
def execRcRead (path : Path) (addr : Nat) (s : State) : Host.Outcome State Fault Refusal :=
  settled (actRcRead path addr s)

/-- IMAGE_APPLY (R178, R277). -/
def execImageApply (fault : Option Nat) (logFails : List Nat) (s : State) : Host.Outcome State Fault Refusal :=
  settled (actImageApply fault logFails s)

/-- ENDPOINT_LINK_UP (R178, R277). -/
def execEndpointLinkUp (speed width : Nat) (hostRef : Option Nat) (s : State) : Host.Outcome State Fault Refusal :=
  settled (actEndpointLinkUp speed width hostRef s)

/-- PACE_CONTROL_TICK (R178, R277). -/
def execPaceControlTick (readings : List (List Nat)) (s : State) : Host.Outcome State Fault Refusal :=
  settled (actPaceControlTick readings s)

/-- PACE_THERMAL_STEP (R178, R277). -/
def execPaceThermalStep (highest : Int) (s : State) : Host.Outcome State Fault Refusal :=
  settled (actPaceThermalStep highest s)

/-- REFERENCE_STOPPED (R178, R277). -/
def execReferenceStopped (ref : Nat) (s : State) : Host.Outcome State Fault Refusal :=
  settled (actReferenceStopped ref s)

/-- GROSS_WINDOW (R178, R277). -/
def execGrossWindow (ref ppmOff : Nat) (s : State) : Host.Outcome State Fault Refusal :=
  settled (actGrossWindow ref ppmOff s)

/-- PPM_WINDOW (R178, R277). -/
def execPpmWindow (ppb : Int) (offA offB : Nat) (s : State) : Host.Outcome State Fault Refusal :=
  settled (actPpmWindow ppb offA offB s)

/-- REFERENCE_RETURN_GOOD (R178, R277). -/
def execReferenceReturnGood (ref : Nat) (s : State) : Host.Outcome State Fault Refusal :=
  settled (actReferenceReturnGood ref s)

/-- CLK_MUX_GLITCH_FREE_SWITCH (R178, R277). -/
def execClkMuxGlitchFreeSwitch (value : Word) (s : State) : Host.Outcome State Fault Refusal :=
  settled (actClkMuxGlitchFreeSwitch value s)

/-- CLK_MUX_HARD_CUT (R178, R277). -/
def execClkMuxHardCut (value : Word) (s : State) : Host.Outcome State Fault Refusal :=
  settled (actClkMuxHardCut value s)

/-- MUX_SWITCH_COMPLETE (R178, R277). -/
def execMuxSwitchComplete (dom : Nat) (s : State) : Host.Outcome State Fault Refusal :=
  settled (actMuxSwitchComplete dom s)

/-- MUX_HANG_BREAK (R178, R277). -/
def execMuxHangBreak (dom : Nat) (s : State) : Host.Outcome State Fault Refusal :=
  settled (actMuxHangBreak dom s)

/-- FRAME_RECEIVE (R178, R277). -/
def execFrameReceive (lport len : Nat) (fcsOk : Bool) (mac : Nat) (vlan : Option Nat) (body : FrameBody)
    (s : State) : Host.Outcome State Fault Refusal :=
  settled (actFrameReceive lport len fcsOk mac vlan body s)

/-- ACK_RECEIVE (R178, R277). -/
def execAckReceive (h : SkHdr) (s : State) : Host.Outcome State Fault Refusal :=
  settled (actAckReceive h s)

/-- NAK_SEQ (R178, R277). -/
def execNakSeq (h : SkHdr) (nseq : Nat) (s : State) : Host.Outcome State Fault Refusal :=
  settled (actNakSeq h nseq s)

/-- NAK_GEN (R178, R277). -/
def execNakGen (h : SkHdr) (nseq : Nat) (s : State) : Host.Outcome State Fault Refusal :=
  settled (actNakGen h nseq s)

/-- NAK_PENDING (R178, R277). -/
def execNakPending (h : SkHdr) (nseq : Nat) (s : State) : Host.Outcome State Fault Refusal :=
  settled (actNakPending h nseq s)

/-- NAK_REFUSED (R178, R277). -/
def execNakRefused (h : SkHdr) (nseq : Nat) (s : State) : Host.Outcome State Fault Refusal :=
  settled (actNakRefused h nseq s)

/-- NAK_SHELF (R178, R277). -/
def execNakShelf (h : SkHdr) (nseq : Nat) (s : State) : Host.Outcome State Fault Refusal :=
  settled (actNakShelf h nseq s)

/-- NAK_KEYFULL (R178, R277). -/
def execNakKeyfull (h : SkHdr) (nseq : Nat) (s : State) : Host.Outcome State Fault Refusal :=
  settled (actNakKeyfull h nseq s)

/-- NAK_CHAINFULL (R178, R277). -/
def execNakChainfull (h : SkHdr) (nseq : Nat) (s : State) : Host.Outcome State Fault Refusal :=
  settled (actNakChainfull h nseq s)

/-- KEYREG (R178, R277). -/
def execKeyreg (flow : FlowRef) (msgid key : Nat) (s : State) : Host.Outcome State Fault Refusal :=
  settled (actKeyreg flow msgid key s)

/-- CHAINPOST (R178, R277). -/
def execChainpost (flow : FlowRef) (msgid kind chainId : Nat) (trigger : Nat × Nat × Nat) (entries : List ChainEntry) (enc : Option Nat)
    (s : State) : Host.Outcome State Fault Refusal :=
  settled (actChainpost flow msgid kind chainId trigger entries enc s)

/-- ACK_DELAY_EXPIRY (R178, R277). -/
def execAckDelayExpiry (flow : FlowRef) (s : State) : Host.Outcome State Fault Refusal :=
  settled (actAckDelayExpiry flow s)

/-- RETRANSMISSION_TIMEOUT (R178, R277). -/
def execRetransmissionTimeout (flow : FlowRef) (s : State) : Host.Outcome State Fault Refusal :=
  settled (actRetransmissionTimeout flow s)

/-- DRAIN_MEDIA_WRITES_END (R178, R277). -/
def execDrainMediaWritesEnd (s : State) : Host.Outcome State Fault Refusal :=
  settled (actDrainMediaWritesEnd s)

/-- DRAIN_CLEAN_MARK_COMPLETE (R178, R277). -/
def execDrainCleanMarkComplete (s : State) : Host.Outcome State Fault Refusal :=
  settled (actDrainCleanMarkComplete s)

/-- CATCH_UP_WRITE (R178, R277). -/
def execCatchUpWrite (crew seat : Nat) (s : State) : Host.Outcome State Fault Refusal :=
  settled (actCatchUpWrite crew seat s)

/-- ANNOUNCE_REPEAT (R178, R277). -/
def execAnnounceRepeat (entry : Nat) (s : State) : Host.Outcome State Fault Refusal :=
  settled (actAnnounceRepeat entry s)

/-- LOAD (R178, R277). -/
def execLoad (value : Word) (s : State) : Host.Outcome State Fault Refusal :=
  settled (actLoad value s)

/-- CLEAR (R178, R277). -/
def execClear (value : Word) (s : State) : Host.Outcome State Fault Refusal :=
  settled (actClear value s)

/-- PREPARE (R178, R277). -/
def execPrepare (value : Word) (s : State) : Host.Outcome State Fault Refusal :=
  settled (actPrepare value s)

/-- UNWRAP (R178, R277). -/
def execUnwrap (slot : Nat) (tagOk : Bool) (material : Nat) (s : State) : Host.Outcome State Fault Refusal :=
  settled (actUnwrap slot tagOk material s)

/-- LINK_STATE_CHANGE (R178, R277). -/
def execLinkStateChange (lport : Nat) (up : Bool) (s : State) : Host.Outcome State Fault Refusal :=
  settled (actLinkStateChange lport up s)

/-- PORT_TRANSMIT (R178, R277). -/
def execPortTransmit (lport ns : Nat) (s : State) : Host.Outcome State Fault Refusal :=
  settled (actPortTransmit lport ns s)

/-- RESIDUE_TIMEOUT (R178, R277). -/
def execResidueTimeout (lport : Nat) (s : State) : Host.Outcome State Fault Refusal :=
  settled (actResidueTimeout lport s)

/-- BANK_REPLACE (R178, R277). -/
def execBankReplace (bank : Nat) (s : State) : Host.Outcome State Fault Refusal :=
  settled (actBankReplace bank s)

/-- ARP_REQUEST (R178, R277). -/
def execArpRequest (lport : Nat) (vlan : Option Nat) (target : Nat) (s : State) : Host.Outcome State Fault Refusal :=
  settled (actArpRequest lport vlan target s)

/-- NEIGHBOUR_SOLICITATION (R178, R277). -/
def execNeighbourSolicitation (lport : Nat) (vlan : Option Nat) (target : Nat) (s : State) : Host.Outcome State Fault Refusal :=
  settled (actNeighbourSolicitation lport vlan target s)

/-- GATE_INTERVAL_END (R178, R277). -/
def execGateIntervalEnd (lport ns : Nat) (s : State) : Host.Outcome State Fault Refusal :=
  settled (actGateIntervalEnd lport ns s)

/-- GATE_LIST_CHANGE (R178, R277). -/
def execGateListChange (lport : Nat) (s : State) : Host.Outcome State Fault Refusal :=
  settled (actGateListChange lport s)

/-- GATE_LIST_TAKEOVER (R178, R277). -/
def execGateListTakeover (lport ns : Nat) (s : State) : Host.Outcome State Fault Refusal :=
  settled (actGateListTakeover lport ns s)

/-- ANNOUNCE (R178, R277). -/
def execAnnounce (lport ident rank domain : Nat) (s : State) : Host.Outcome State Fault Refusal :=
  settled (actAnnounce lport ident rank domain s)

/-- PTP_SYNC (R178, R277). -/
def execPtpSync (lport ident domain origin : Nat) (twoStep : Bool) (ns : Nat) (s : State) : Host.Outcome State Fault Refusal :=
  settled (actPtpSync lport ident domain origin twoStep ns s)

/-- FOLLOW_UP (R178, R277). -/
def execFollowUp (lport ident domain origin : Nat) (s : State) : Host.Outcome State Fault Refusal :=
  settled (actFollowUp lport ident domain origin s)

/-- PTP_SYNC_TIMEOUT (R178, R277). -/
def execPtpSyncTimeout (s : State) : Host.Outcome State Fault Refusal :=
  settled (actPtpSyncTimeout s)

/-- PRESENCE_SAMPLE (R178, R277). -/
def execPresenceSample (prsS prsL : Word) (feedA feedB : Nat) (meas : List (Nat × Nat × Nat)) (s : State) : Host.Outcome State Fault Refusal :=
  settled (actPresenceSample prsS prsL feedA feedB meas s)

/-- DRIVE_SEATED (R178, R277). -/
def execDriveSeated (bay : Nat) (s : State) : Host.Outcome State Fault Refusal :=
  settled (actDriveSeated bay s)

/-- DRIVE_LOST (R178, R277). -/
def execDriveLost (bay : Nat) (s : State) : Host.Outcome State Fault Refusal :=
  settled (actDriveLost bay s)

/-- BAY_RAMP_START (R178, R277). -/
def execBayRampStart (bay feedA feedB period : Nat) (s : State) : Host.Outcome State Fault Refusal :=
  settled (actBayRampStart bay feedA feedB period s)

/-- RAMP_END (R178, R277). -/
def execRampEnd (bay : Nat) (s : State) : Host.Outcome State Fault Refusal :=
  settled (actRampEnd bay s)

/-- RAMP_TIMEOUT (R178, R277). -/
def execRampTimeout (bay : Nat) (s : State) : Host.Outcome State Fault Refusal :=
  settled (actRampTimeout bay s)

/-- POWER_GOOD_ASSERT (R178, R277). -/
def execPowerGoodAssert (bay : Nat) (s : State) : Host.Outcome State Fault Refusal :=
  settled (actPowerGoodAssert bay s)

/-- POWER_GOOD_WITHDRAW (R178, R277). -/
def execPowerGoodWithdraw (bay : Nat) (s : State) : Host.Outcome State Fault Refusal :=
  settled (actPowerGoodWithdraw bay s)

/-- PERST_RELEASE (R178, R277). -/
def execPerstRelease (bay : Nat) (s : State) : Host.Outcome State Fault Refusal :=
  settled (actPerstRelease bay s)

/-- FAULT_TIMER_EXPIRY (R178, R277). -/
def execFaultTimerExpiry (bay : Nat) (s : State) : Host.Outcome State Fault Refusal :=
  settled (actFaultTimerExpiry bay s)

/-- OVERCURRENT_TRIP (R178, R277). -/
def execOvercurrentTrip (bay : Nat) (s : State) : Host.Outcome State Fault Refusal :=
  settled (actOvercurrentTrip bay s)

/-- RETRY_PERIOD_END (R178, R277). -/
def execRetryPeriodEnd (bay : Nat) (s : State) : Host.Outcome State Fault Refusal :=
  settled (actRetryPeriodEnd bay s)

/-- FET_MODEL_UPDATE (R178, R277). -/
def execFetModelUpdate (s : State) : Host.Outcome State Fault Refusal :=
  settled (actFetModelUpdate s)

/-- DIODE_READ (R178, R277). -/
def execDiodeRead (bay : Nat) (celsius : Int) (s : State) : Host.Outcome State Fault Refusal :=
  settled (actDiodeRead bay celsius s)

/-- CHANGEOVER (R178, R277). -/
def execChangeover (bay feedA feedB : Nat) (s : State) : Host.Outcome State Fault Refusal :=
  settled (actChangeover bay feedA feedB s)

/-- CHANGEOVER_BREAK_END (R178, R277). -/
def execChangeoverBreakEnd (bay : Nat) (s : State) : Host.Outcome State Fault Refusal :=
  settled (actChangeoverBreakEnd bay s)

/-- FEED_RETURN (R178, R277). -/
def execFeedReturn (bay : Nat) (s : State) : Host.Outcome State Fault Refusal :=
  settled (actFeedReturn bay s)

/-- LINK_TRAINING_TIMEOUT (R178, R277). -/
def execLinkTrainingTimeout (bay : Nat) (s : State) : Host.Outcome State Fault Refusal :=
  settled (actLinkTrainingTimeout bay s)

/-- BAY_LINK_DOWN (R178, R277). -/
def execBayLinkDown (bay : Nat) (s : State) : Host.Outcome State Fault Refusal :=
  settled (actBayLinkDown bay s)

/-- SLOT_POWER_OFF (R178, R277). -/
def execSlotPowerOff (bay : Nat) (s : State) : Host.Outcome State Fault Refusal :=
  settled (actSlotPowerOff bay s)

/-- SLOT_POWER_ON (R178, R277). -/
def execSlotPowerOn (bay : Nat) (s : State) : Host.Outcome State Fault Refusal :=
  settled (actSlotPowerOn bay s)

/-- SHUTDOWN_COMPLETE (R178, R277). -/
def execShutdownComplete (bay : Nat) (s : State) : Host.Outcome State Fault Refusal :=
  settled (actShutdownComplete bay s)

/-- ATTENTION_BUTTON_PRESS (R178, R277). -/
def execAttentionButtonPress (bay : Nat) (s : State) : Host.Outcome State Fault Refusal :=
  settled (actAttentionButtonPress bay s)

/-- BUTTON_STOP (R178, R277). -/
def execButtonStop (bay : Nat) (s : State) : Host.Outcome State Fault Refusal :=
  settled (actButtonStop bay s)

/-- POWER_CYCLE_END (R178, R277). -/
def execPowerCycleEnd (bay : Nat) (s : State) : Host.Outcome State Fault Refusal :=
  settled (actPowerCycleEnd bay s)

/-- GIVEBACK_GATE_RELEASE (R178, R277). -/
def execGivebackGateRelease (s : State) : Host.Outcome State Fault Refusal :=
  settled (actGivebackGateRelease s)

/-- DOORBELL (R178, R277). -/
def execDoorbell (cox : Bool) (ring pi : Nat) (s : State) : Host.Outcome State Fault Refusal :=
  settled (actDoorbell cox ring pi s)

/-- CI_WRITE (R178, R277). -/
def execCiWrite (cox : Bool) (ring ci : Nat) (s : State) : Host.Outcome State Fault Refusal :=
  settled (actCiWrite cox ring ci s)

/-- ENTRY_FETCH (R178, R277). -/
def execEntryFetch (ring piRead : Nat) (copies : List (Option Entry)) (s : State) : Host.Outcome State Fault Refusal :=
  settled (actEntryFetch ring piRead copies s)

/-- NOP (R178, R277). -/
def execNop (ring : Nat) (s : State) : Host.Outcome State Fault Refusal :=
  settled (actNop ring s)

/-- REG_READ (R178, R277). -/
def execRegRead (ring : Nat) (s : State) : Host.Outcome State Fault Refusal :=
  settled (actRegRead ring s)

/-- ANSWER_ADMIT (R178, R277). -/
def execAnswerAdmit (ring : Nat) (s : State) : Host.Outcome State Fault Refusal :=
  settled (actAnswerAdmit ring s)

/-- ANSWER_REFUSE (R178, R277). -/
def execAnswerRefuse (ring : Nat) (s : State) : Host.Outcome State Fault Refusal :=
  settled (actAnswerRefuse ring s)

/-- ANSWER_MATCH (R178, R277). -/
def execAnswerMatch (ring : Nat) (s : State) : Host.Outcome State Fault Refusal :=
  settled (actAnswerMatch ring s)

/-- ANSWER_MISMATCH (R178, R277). -/
def execAnswerMismatch (ring : Nat) (s : State) : Host.Outcome State Fault Refusal :=
  settled (actAnswerMismatch ring s)

/-- ANSWER_MAP_ENTRY (R178, R277). -/
def execAnswerMapEntry (ring : Nat) (s : State) : Host.Outcome State Fault Refusal :=
  settled (actAnswerMapEntry ring s)

/-- ANSWER_VICTIMS (R178, R277). -/
def execAnswerVictims (ring : Nat) (data : Option (List Nat)) (s : State) : Host.Outcome State Fault Refusal :=
  settled (actAnswerVictims ring data s)

/-- ANSWER_REBUILD_PLAN (R178, R277). -/
def execAnswerRebuildPlan (ring : Nat) (data : Option (List Nat)) (s : State) : Host.Outcome State Fault Refusal :=
  settled (actAnswerRebuildPlan ring data s)

/-- ANSWER_PATROL_WINDOWS (R178, R277). -/
def execAnswerPatrolWindows (ring : Nat) (data : Option (List Nat)) (s : State) : Host.Outcome State Fault Refusal :=
  settled (actAnswerPatrolWindows ring data s)

/-- ANSWER_EASY (R178, R277). -/
def execAnswerEasy (ring : Nat) (s : State) : Host.Outcome State Fault Refusal :=
  settled (actAnswerEasy ring s)

/-- ANSWER_KEEP (R178, R277). -/
def execAnswerKeep (ring : Nat) (s : State) : Host.Outcome State Fault Refusal :=
  settled (actAnswerKeep ring s)

/-- ANSWER_FAIL (R178, R277). -/
def execAnswerFail (ring : Nat) (s : State) : Host.Outcome State Fault Refusal :=
  settled (actAnswerFail ring s)

/-- ANSWER_KEY_MATERIAL (R178, R277). -/
def execAnswerKeyMaterial (ring : Nat) (data : Option (List Nat)) (s : State) : Host.Outcome State Fault Refusal :=
  settled (actAnswerKeyMaterial ring data s)

/-- ANSWER_UNWRAP_REFUSE (R178, R277). -/
def execAnswerUnwrapRefuse (ring : Nat) (s : State) : Host.Outcome State Fault Refusal :=
  settled (actAnswerUnwrapRefuse ring s)

/-- ANSWER_STATIC (R178, R277). -/
def execAnswerStatic (ring : Nat) (s : State) : Host.Outcome State Fault Refusal :=
  settled (actAnswerStatic ring s)

/-- ANSWER_DYNAMIC_BY_RULE (R178, R277). -/
def execAnswerDynamicByRule (ring : Nat) (s : State) : Host.Outcome State Fault Refusal :=
  settled (actAnswerDynamicByRule ring s)

/-- ANSWER_DYNAMIC_ALWAYS (R178, R277). -/
def execAnswerDynamicAlways (ring : Nat) (s : State) : Host.Outcome State Fault Refusal :=
  settled (actAnswerDynamicAlways ring s)

/-- ANSWER_HOST_TABLES (R178, R277). -/
def execAnswerHostTables (ring : Nat) (data : Option (List Nat)) (s : State) : Host.Outcome State Fault Refusal :=
  settled (actAnswerHostTables ring data s)

/-- ANSWER_TAKE_STEP (R178, R277). -/
def execAnswerTakeStep (ring : Nat) (s : State) : Host.Outcome State Fault Refusal :=
  settled (actAnswerTakeStep ring s)

/-- ANSWER_RESUME (R178, R277). -/
def execAnswerResume (ring : Nat) (s : State) : Host.Outcome State Fault Refusal :=
  settled (actAnswerResume ring s)

/-- ANSWER_CLOCK_KEEP (R178, R277). -/
def execAnswerClockKeep (ring : Nat) (s : State) : Host.Outcome State Fault Refusal :=
  settled (actAnswerClockKeep ring s)

/-- ANSWER_CLOCK_SWITCH (R178, R277). -/
def execAnswerClockSwitch (ring : Nat) (s : State) : Host.Outcome State Fault Refusal :=
  settled (actAnswerClockSwitch ring s)

/-- ANSWER_TAKE_OVER (R178, R277). -/
def execAnswerTakeOver (ring : Nat) (s : State) : Host.Outcome State Fault Refusal :=
  settled (actAnswerTakeOver ring s)

/-- ANSWER_DECLINE (R178, R277). -/
def execAnswerDecline (ring : Nat) (t : TurnFacts) (s : State) : Host.Outcome State Fault Refusal :=
  settled (actAnswerDecline ring t s)

/-- RING_ENABLE (R178, R277). -/
def execRingEnable (ring : Nat) (w0 : Word) (s : State) : Host.Outcome State Fault Refusal :=
  settled (actRingEnable ring w0 s)

/-- COALESCE_EXPIRY (R178, R277). -/
def execCoalesceExpiry (ring : Nat) (s : State) : Host.Outcome State Fault Refusal :=
  settled (actCoalesceExpiry ring s)

/-- WINDOW_ACCESS (R178, R277). -/
def execWindowAccess (offset width : Nat) (write : Option Nat) (s : State) : Host.Outcome State Fault Refusal :=
  settled (actWindowAccess offset width write s)

/-- MSIX_ENABLE_CHANGE (R178, R277). -/
def execMsixEnableChange (enable : Bool) (s : State) : Host.Outcome State Fault Refusal :=
  settled (actMsixEnableChange enable s)

/-- GET_CHALLENGE (R178, R277). -/
def execGetChallenge (endpoint : Nat) (s : State) : Host.Outcome State Fault Refusal :=
  settled (actGetChallenge endpoint s)

/-- LOG_READ (R178, R277). -/
def execLogRead (first count : Nat) (s : State) : Host.Outcome State Fault Refusal :=
  settled (actLogRead first count s)

/-- SLOT_FILL (R178, R277). -/
def execSlotFill (sig : SigBlock) (slot digest : Nat) (s : State) : Host.Outcome State Fault Refusal :=
  settled (actSlotFill sig slot digest s)

/-- SLOT_REVOKE (R178, R277). -/
def execSlotRevoke (sig : SigBlock) (slot : Nat) (s : State) : Host.Outcome State Fault Refusal :=
  settled (actSlotRevoke sig slot s)

/-- KEK_LOAD (R178, R277). -/
def execKekLoad (sig : SigBlock) (kekid nonce wrapped : Nat) (tagOk : Bool) (kek : Nat) (s : State) : Host.Outcome State Fault Refusal :=
  settled (actKekLoad sig kekid nonce wrapped tagOk kek s)

/-- KEK_CLEAR (R178, R277). -/
def execKekClear (sig : SigBlock) (kekid : Nat) (s : State) : Host.Outcome State Fault Refusal :=
  settled (actKekClear sig kekid s)

/-- SANITIZE_STATUS (R178, R277). -/
def execSanitizeStatus (s : State) : Host.Outcome State Fault Refusal :=
  settled (actSanitizeStatus s)

/-- KTK_PROVISION (R178, R277). -/
def execKtkProvision (sig : SigBlock) (console : Bool) (ktk : Nat) (s : State) : Host.Outcome State Fault Refusal :=
  settled (actKtkProvision sig console ktk s)

/-- SET_ENDPOINT_ID (R178, R277). -/
def execSetEndpointId (eid : Nat) (s : State) : Host.Outcome State Fault Refusal :=
  settled (actSetEndpointId eid s)

/-- READ_NVME_MI_DATA_STRUCTURE (R178, R277). -/
def execReadNvmeMiDataStructure (dtyp : Nat) (s : State) : Host.Outcome State Fault Refusal :=
  settled (actReadNvmeMiDataStructure dtyp s)

/-- NVM_SUBSYSTEM_HEALTH_STATUS_POLL (R178, R277). -/
def execNvmSubsystemHealthStatusPoll (s : State) : Host.Outcome State Fault Refusal :=
  settled (actNvmSubsystemHealthStatusPoll s)

/-- CONTROLLER_HEALTH_STATUS_POLL (R178, R277). -/
def execControllerHealthStatusPoll (controller : Nat) (s : State) : Host.Outcome State Fault Refusal :=
  settled (actControllerHealthStatusPoll controller s)

/-- CONFIGURATION_GET (R178, R277). -/
def execConfigurationGet (id : Nat) (s : State) : Host.Outcome State Fault Refusal :=
  settled (actConfigurationGet id s)

/-- CONFIGURATION_SET (R178, R277). -/
def execConfigurationSet (id value : Nat) (s : State) : Host.Outcome State Fault Refusal :=
  settled (actConfigurationSet id value s)

/-- MI_TUNNELED_ADMIN_COMMAND (R178, R277). -/
def execMiTunneledAdminCommand (opcode arg : Nat) (s : State) : Host.Outcome State Fault Refusal :=
  settled (actMiTunneledAdminCommand opcode arg s)

/-- SET_NUMERIC_EFFECTER_VALUE (R178, R277). -/
def execSetNumericEffecterValue (effecter value : Nat) (s : State) : Host.Outcome State Fault Refusal :=
  settled (actSetNumericEffecterValue effecter value s)

/-- SET_EVENT_RECEIVER (R178, R277). -/
def execSetEventReceiver (receiver : Nat) (s : State) : Host.Outcome State Fault Refusal :=
  settled (actSetEventReceiver receiver s)

/-- REQUEST_UPDATE (R178, R277). -/
def execRequestUpdate (agent : Nat) (s : State) : Host.Outcome State Fault Refusal :=
  settled (actRequestUpdate agent s)

/-- UPDATE_COMPONENT (R178, R277). -/
def execUpdateComponent (agent stamp size : Nat) (s : State) : Host.Outcome State Fault Refusal :=
  settled (actUpdateComponent agent stamp size s)

/-- TRANSFER_COMPLETE (R178, R277). -/
def execTransferComplete (image : List (Nat × Nat)) (s : State) : Host.Outcome State Fault Refusal :=
  settled (actTransferComplete image s)

/-- VERIFY_COMPLETE (R178, R277). -/
def execVerifyComplete (facts : CopyFacts) (s : State) : Host.Outcome State Fault Refusal :=
  settled (actVerifyComplete facts s)

/-- APPLY_COMPLETE (R178, R277). -/
def execApplyComplete (readBack : CopyFacts) (s : State) : Host.Outcome State Fault Refusal :=
  settled (actApplyComplete readBack s)

/-- ACTIVATE_FIRMWARE (R178, R277). -/
def execActivateFirmware (selfContained : Bool) (partnerTwinA partnerTwinB : Nat) (s : State) : Host.Outcome State Fault Refusal :=
  settled (actActivateFirmware selfContained partnerTwinA partnerTwinB s)

/-- ENGINE_SWAP_COMPLETE (R178, R277). -/
def execEngineSwapComplete (checked : Bool) (s : State) : Host.Outcome State Fault Refusal :=
  settled (actEngineSwapComplete checked s)

/-- PROBATION_END (R178, R277). -/
def execProbationEnd (s : State) : Host.Outcome State Fault Refusal :=
  settled (actProbationEnd s)

/-- GET_VERSION (R178, R277). -/
def execGetVersion (requester : Nat) (s : State) : Host.Outcome State Fault Refusal :=
  settled (actGetVersion requester s)

/-- GET_CAPABILITIES (R178, R277). -/
def execGetCapabilities (requester : Nat) (s : State) : Host.Outcome State Fault Refusal :=
  settled (actGetCapabilities requester s)

/-- NEGOTIATE_ALGORITHMS (R178, R277). -/
def execNegotiateAlgorithms (requester : Nat) (s : State) : Host.Outcome State Fault Refusal :=
  settled (actNegotiateAlgorithms requester s)

/-- GET_DIGESTS (R178, R277). -/
def execGetDigests (requester : Nat) (s : State) : Host.Outcome State Fault Refusal :=
  settled (actGetDigests requester s)

/-- GET_CERTIFICATE (R178, R277). -/
def execGetCertificate (requester slot : Nat) (s : State) : Host.Outcome State Fault Refusal :=
  settled (actGetCertificate requester slot s)

/-- CHALLENGE (R178, R277). -/
def execChallenge (requester slot nonce : Nat) (s : State) : Host.Outcome State Fault Refusal :=
  settled (actChallenge requester slot nonce s)

/-- GET_MEASUREMENTS (R178, R277). -/
def execGetMeasurements (requester index : Nat) (signed : Bool) (nonce : Nat) (s : State) : Host.Outcome State Fault Refusal :=
  settled (actGetMeasurements requester index signed nonce s)

/-- SENSOR_READ (R178, R277). -/
def execSensorRead (die : List Int) (hbm0 hbm1 : Nat) (s : State) : Host.Outcome State Fault Refusal :=
  settled (actSensorRead die hbm0 hbm1 s)

/-- SPARE_SELF_CHECK (R178, R277). -/
def execSpareSelfCheck (engine : Nat) (passes : Bool) (s : State) : Host.Outcome State Fault Refusal :=
  settled (actSpareSelfCheck engine passes s)

/-- HBM_ROW_REPAIR (R178, R277). -/
def execHbmRowRepair (stack bank row mib : Nat) (bankHasResource : Bool) (s : State) : Host.Outcome State Fault Refusal :=
  settled (actHbmRowRepair stack bank row mib bankHasResource s)

/-- LIFE_UPDATE (R178, R277). -/
def execLifeUpdate (caseTenths elapsedMs : Nat) (s : State) : Host.Outcome State Fault Refusal :=
  settled (actLifeUpdate caseTenths elapsedMs s)

/-- VIN12_EXCURSION (R178, R277). -/
def execVin12Excursion (domain : Option Nat) (s : State) : Host.Outcome State Fault Refusal :=
  settled (actVin12Excursion domain s)

/-- SAMPLE_PRELOAD (R178, R277). -/
def execSamplePreload (s : State) : Host.Outcome State Fault Refusal :=
  settled (actSamplePreload s)

/-- EXTEST (R178, R277). -/
def execExtest (s : State) : Host.Outcome State Fault Refusal :=
  settled (actExtest s)

/-- BAY_LINK_UP (R178, R277). -/
def execBayLinkUp (bay speed width : Nat) (s : State) : Host.Outcome State Fault Refusal :=
  settled (actBayLinkUp bay speed width s)

/-- FAULT_TIMER_START (R178, R277). -/
def execFaultTimerStart (bay : Nat) (s : State) : Host.Outcome State Fault Refusal :=
  settled (actFaultTimerStart bay s)

/-- FAULT_TIMER_CLEAR (R178, R277). -/
def execFaultTimerClear (bay : Nat) (s : State) : Host.Outcome State Fault Refusal :=
  settled (actFaultTimerClear bay s)

/-- ATTENTION_BLINK_END (R178, R277). -/
def execAttentionBlinkEnd (bay : Nat) (s : State) : Host.Outcome State Fault Refusal :=
  settled (actAttentionBlinkEnd bay s)

end Sys2Proof.Machine
end

