-- ==== Sys2Proof/Machine/Dispatch.lean ====
section
/-!
DEFINITION. The dispatcher: one arm per command, each a direct call of the command's meaning.
-/

namespace Sys2Proof.Machine

/-- The effect of a command on everything but the queue of waiting commands. -/
def exec (i : Instr) (s : State) : Host.Outcome State Fault Refusal :=
  match i with
  | .registerWrite path addr width value => Sys2Proof.Machine.execRegisterWrite path addr width value s
  | .rcRead path addr => Sys2Proof.Machine.execRcRead path addr s
  | .coldStart straps norAnswers norCap fault => Sys2Proof.Machine.execColdStart straps norAnswers norCap fault s
  | .settleDelayEnd fault => Sys2Proof.Machine.execSettleDelayEnd fault s
  | .referenceCheck aState bState fault => Sys2Proof.Machine.execReferenceCheck aState bState fault s
  | .referenceCheckRetry aState bState fault => Sys2Proof.Machine.execReferenceCheckRetry aState bState fault s
  | .copyCheckComplete facts fault => Sys2Proof.Machine.execCopyCheckComplete facts fault s
  | .imageApply fault logFails => Sys2Proof.Machine.execImageApply fault logFails s
  | .linkTrainingEnd fault => Sys2Proof.Machine.execLinkTrainingEnd fault s
  | .pwrFailBeforeReady => Sys2Proof.Machine.execPwrFailBeforeReady s
  | .startResume => Sys2Proof.Machine.execStartResume s
  | .recoveryStatus ep => Sys2Proof.Machine.execRecoveryStatus ep s
  | .recoveryErase offset => Sys2Proof.Machine.execRecoveryErase offset s
  | .recoveryWrite data => Sys2Proof.Machine.execRecoveryWrite data s
  | .recoveryCheck copy facts => Sys2Proof.Machine.execRecoveryCheck copy facts s
  | .recoveryRestart ep straps => Sys2Proof.Machine.execRecoveryRestart ep straps s
  | .sysRstN => Sys2Proof.Machine.execSysRstN s
  | .sysResetSystem value straps => Sys2Proof.Machine.execSysResetSystem value straps s
  | .sysResetCox value digestOk => Sys2Proof.Machine.execSysResetCox value digestOk s
  | .coxWatchdogExpiry core digestOk => Sys2Proof.Machine.execCoxWatchdogExpiry core digestOk s
  | .endpointReset perst => Sys2Proof.Machine.execEndpointReset perst s
  | .fallbackPoint tag => Sys2Proof.Machine.execFallbackPoint tag s
  | .endpointLinkDown => Sys2Proof.Machine.execEndpointLinkDown s
  | .endpointLinkUp speed width hostRef => Sys2Proof.Machine.execEndpointLinkUp speed width hostRef s
  | .paceControlTick readings => Sys2Proof.Machine.execPaceControlTick readings s
  | .paceThermalStep highest => Sys2Proof.Machine.execPaceThermalStep highest s
  | .referenceStopped ref => Sys2Proof.Machine.execReferenceStopped ref s
  | .grossWindow ref ppmOff => Sys2Proof.Machine.execGrossWindow ref ppmOff s
  | .ppmWindow ppb offA offB => Sys2Proof.Machine.execPpmWindow ppb offA offB s
  | .referenceReturnGood ref => Sys2Proof.Machine.execReferenceReturnGood ref s
  | .holdoverExpiry => Sys2Proof.Machine.execHoldoverExpiry s
  | .watchModeRestart straps => Sys2Proof.Machine.execWatchModeRestart straps s
  | .clkMuxGlitchFreeSwitch value => Sys2Proof.Machine.execClkMuxGlitchFreeSwitch value s
  | .clkMuxHardCut value => Sys2Proof.Machine.execClkMuxHardCut value s
  | .muxSwitchComplete dom => Sys2Proof.Machine.execMuxSwitchComplete dom s
  | .muxHangBreak dom => Sys2Proof.Machine.execMuxHangBreak dom s
  | .pllRelock dom => Sys2Proof.Machine.execPllRelock dom s
  | .gateIdleClose unit => Sys2Proof.Machine.execGateIdleClose unit s
  | .gateReopen unit => Sys2Proof.Machine.execGateReopen unit s
  | .clkGateForce bay value accessPending => Sys2Proof.Machine.execClkGateForce bay value accessPending s
  | .forcedGateTimeout unit => Sys2Proof.Machine.execForcedGateTimeout unit s
  | .frameReceive lport len fcsOk mac vlan body => Sys2Proof.Machine.execFrameReceive lport len fcsOk mac vlan body s
  | .msgReceive h part => Sys2Proof.Machine.execMsgReceive h part s
  | .fdataReceive h ftag offset data => Sys2Proof.Machine.execFdataReceive h ftag offset data s
  | .ackReceive h => Sys2Proof.Machine.execAckReceive h s
  | .nakSeq h nseq => Sys2Proof.Machine.execNakSeq h nseq s
  | .nakGen h nseq => Sys2Proof.Machine.execNakGen h nseq s
  | .nakPending h nseq => Sys2Proof.Machine.execNakPending h nseq s
  | .nakRefused h nseq => Sys2Proof.Machine.execNakRefused h nseq s
  | .nakShelf h nseq => Sys2Proof.Machine.execNakShelf h nseq s
  | .nakKeyfull h nseq => Sys2Proof.Machine.execNakKeyfull h nseq s
  | .nakChainfull h nseq => Sys2Proof.Machine.execNakChainfull h nseq s
  | .keyreg flow msgid key => Sys2Proof.Machine.execKeyreg flow msgid key s
  | .keyrevoke flow msgid => Sys2Proof.Machine.execKeyrevoke flow msgid s
  | .chainpost flow msgid kind chainId trigger entries enc => Sys2Proof.Machine.execChainpost flow msgid kind chainId trigger entries enc s
  | .chaincancel flow msgid chainId => Sys2Proof.Machine.execChaincancel flow msgid chainId s
  | .ackDelayExpiry flow => Sys2Proof.Machine.execAckDelayExpiry flow s
  | .retransmissionTimeout flow => Sys2Proof.Machine.execRetransmissionTimeout flow s
  | .flowIdleDrop flow => Sys2Proof.Machine.execFlowIdleDrop flow s
  | .recordRestore flow => Sys2Proof.Machine.execRecordRestore flow s
  | .reachKeyRelease ip ptag => Sys2Proof.Machine.execReachKeyRelease ip ptag s
  | .connect c qid sqsize kato hostid dataCntlid nqnMatches => Sys2Proof.Machine.execConnect c qid sqsize kato hostid dataCntlid nqnMatches s
  | .propertySet c offset value => Sys2Proof.Machine.execPropertySet c offset value s
  | .propertyGet c offset => Sys2Proof.Machine.execPropertyGet c offset s
  | .disconnect c => Sys2Proof.Machine.execDisconnect c s
  | .flush c nsid => Sys2Proof.Machine.execFlush c nsid s
  | .write c io => Sys2Proof.Machine.execWrite c io s
  | .read c io => Sys2Proof.Machine.execRead c io s
  | .compare c io => Sys2Proof.Machine.execCompare c io s
  | .writeZeroes c io => Sys2Proof.Machine.execWriteZeroes c io s
  | .datasetManagement c nsid nr ad sgl => Sys2Proof.Machine.execDatasetManagement c nsid nr ad sgl s
  | .reservationRegister c nsid action ignoreKey cptpl sgl => Sys2Proof.Machine.execReservationRegister c nsid action ignoreKey cptpl sgl s
  | .reservationReport c nsid numd eds sgl => Sys2Proof.Machine.execReservationReport c nsid numd eds sgl s
  | .reservationAcquire c nsid action rtype ignoreKey sgl => Sys2Proof.Machine.execReservationAcquire c nsid action rtype ignoreKey sgl s
  | .reservationRelease c nsid action rtype ignoreKey sgl => Sys2Proof.Machine.execReservationRelease c nsid action rtype ignoreKey sgl s
  | .getLogPage c lid nsid offset numd sgl => Sys2Proof.Machine.execGetLogPage c lid nsid offset numd sgl s
  | .identify c cns nsid cntid csi sgl => Sys2Proof.Machine.execIdentify c cns nsid cntid csi sgl s
  | .abort c sqid cid => Sys2Proof.Machine.execAbort c sqid cid s
  | .setFeatures c fid nsid value => Sys2Proof.Machine.execSetFeatures c fid nsid value s
  | .getFeatures c fid nsid sgl => Sys2Proof.Machine.execGetFeatures c fid nsid sgl s
  | .asynchronousEventRequest c => Sys2Proof.Machine.execAsynchronousEventRequest c s
  | .keepAlive c => Sys2Proof.Machine.execKeepAlive c s
  | .contextAssign => Sys2Proof.Machine.execContextAssign s
  | .keepAliveExpiry cntlid => Sys2Proof.Machine.execKeepAliveExpiry cntlid s
  | .cutPoint cntlid qid cid msgid => Sys2Proof.Machine.execCutPoint cntlid qid cid msgid s
  | .commitPoint cntlid qid cid msgid => Sys2Proof.Machine.execCommitPoint cntlid qid cid msgid s
  | .turn t => Sys2Proof.Machine.execTurn t s
  | .turnMark h heat lenCode bayMaster pref late t => Sys2Proof.Machine.execTurnMark h heat lenCode bayMaster pref late t s
  | .powerFailDrain partnerHigh t => Sys2Proof.Machine.execPowerFailDrain partnerHigh t s
  | .drainMediaWritesEnd => Sys2Proof.Machine.execDrainMediaWritesEnd s
  | .drainFlushComplete => Sys2Proof.Machine.execDrainFlushComplete s
  | .drainCleanMarkComplete => Sys2Proof.Machine.execDrainCleanMarkComplete s
  | .pwrFailNRise => Sys2Proof.Machine.execPwrFailNRise s
  | .admissionResume t => Sys2Proof.Machine.execAdmissionResume t s
  | .plannedHandover => Sys2Proof.Machine.execPlannedHandover s
  | .hamperBufferGrant hamper => Sys2Proof.Machine.execHamperBufferGrant hamper s
  | .crewAssembly crew media => Sys2Proof.Machine.execCrewAssembly crew media s
  | .assemblyWaitExpiry crew media => Sys2Proof.Machine.execAssemblyWaitExpiry crew media s
  | .replayCleanMark crew => Sys2Proof.Machine.execReplayCleanMark crew s
  | .rowLockGrant crew row => Sys2Proof.Machine.execRowLockGrant crew row s
  | .driveCommandCompletion io result latency => Sys2Proof.Machine.execDriveCommandCompletion io result latency s
  | .holdExpiry vol grain => Sys2Proof.Machine.execHoldExpiry vol grain s
  | .journalBlockFlush crew => Sys2Proof.Machine.execJournalBlockFlush crew s
  | .journalBlockWritten io status => Sys2Proof.Machine.execJournalBlockWritten io status s
  | .segmentFree crew heat => Sys2Proof.Machine.execSegmentFree crew heat s
  | .mapPass vol => Sys2Proof.Machine.execMapPass vol s
  | .mapPassComplete vol => Sys2Proof.Machine.execMapPassComplete vol s
  | .gcRound vol => Sys2Proof.Machine.execGcRound vol s
  | .patrolRow crew => Sys2Proof.Machine.execPatrolRow crew s
  | .driveCommandTimeout io => Sys2Proof.Machine.execDriveCommandTimeout io s
  | .drivePathErrorWaitEnd io => Sys2Proof.Machine.execDrivePathErrorWaitEnd io s
  | .readHedge io => Sys2Proof.Machine.execReadHedge io s
  | .recoveryLadderStep crew seat success => Sys2Proof.Machine.execRecoveryLadderStep crew seat success s
  | .laggardCheck crew => Sys2Proof.Machine.execLaggardCheck crew s
  | .catchUpWrite crew seat => Sys2Proof.Machine.execCatchUpWrite crew seat s
  | .easyClear crew seat => Sys2Proof.Machine.execEasyClear crew seat s
  | .easyLimitExpiry crew seat => Sys2Proof.Machine.execEasyLimitExpiry crew seat s
  | .catchUpFullExpiry crew seat => Sys2Proof.Machine.execCatchUpFullExpiry crew seat s
  | .rebuildRow crew => Sys2Proof.Machine.execRebuildRow crew s
  | .twinLinkLockLoss => Sys2Proof.Machine.execTwinLinkLockLoss s
  | .twinDeadTimeout => Sys2Proof.Machine.execTwinDeadTimeout s
  | .takeoverDeferExpiry => Sys2Proof.Machine.execTakeoverDeferExpiry s
  | .acquireComplete conflict late torn straps t => Sys2Proof.Machine.execAcquireComplete conflict late torn straps t s
  | .heartbeatSend => Sys2Proof.Machine.execHeartbeatSend s
  | .heartbeat h => Sys2Proof.Machine.execHeartbeat h s
  | .block h r => Sys2Proof.Machine.execBlock h r s
  | .cmd h r => Sys2Proof.Machine.execCmd h r s
  | .cmdstate h r => Sys2Proof.Machine.execCmdstate h r s
  | .assoc h r => Sys2Proof.Machine.execAssoc h r s
  | .crew h r => Sys2Proof.Machine.execCrew h r s
  | .release h crew heat => Sys2Proof.Machine.execRelease h crew heat s
  | .handover h crews back => Sys2Proof.Machine.execHandover h crews back s
  | .fatal h => Sys2Proof.Machine.execFatal h s
  | .sync h part => Sys2Proof.Machine.execSync h part s
  | .twnCmdHandover value => Sys2Proof.Machine.execTwnCmdHandover value s
  | .twnCmdTakeover value => Sys2Proof.Machine.execTwnCmdTakeover value s
  | .twnCmdGiveback value => Sys2Proof.Machine.execTwnCmdGiveback value s
  | .announceRepeat entry => Sys2Proof.Machine.execAnnounceRepeat entry s
  | .mirroredWrite flow msgid vol token heat slba nlb zero dealloc data => Sys2Proof.Machine.execMirroredWrite flow msgid vol token heat slba nlb zero dealloc data s
  | .mirrorAck flow msgid token => Sys2Proof.Machine.execMirrorAck flow msgid token s
  | .resync step => Sys2Proof.Machine.execResync step s
  | .mirrorSplit pairing => Sys2Proof.Machine.execMirrorSplit pairing s
  | .streamIdleEnd vol cntlid => Sys2Proof.Machine.execStreamIdleEnd vol cntlid s
  | .load value => Sys2Proof.Machine.execLoad value s
  | .clear value => Sys2Proof.Machine.execClear value s
  | .prepare value => Sys2Proof.Machine.execPrepare value s
  | .unwrap slot tagOk material => Sys2Proof.Machine.execUnwrap slot tagOk material s
  | .linkStateChange lport up => Sys2Proof.Machine.execLinkStateChange lport up s
  | .portTransmit lport ns => Sys2Proof.Machine.execPortTransmit lport ns s
  | .residueTimeout lport => Sys2Proof.Machine.execResidueTimeout lport s
  | .bankReplace bank => Sys2Proof.Machine.execBankReplace bank s
  | .arpRequest lport vlan target => Sys2Proof.Machine.execArpRequest lport vlan target s
  | .neighbourSolicitation lport vlan target => Sys2Proof.Machine.execNeighbourSolicitation lport vlan target s
  | .gateIntervalEnd lport ns => Sys2Proof.Machine.execGateIntervalEnd lport ns s
  | .gateListChange lport => Sys2Proof.Machine.execGateListChange lport s
  | .gateListTakeover lport ns => Sys2Proof.Machine.execGateListTakeover lport ns s
  | .announce lport ident rank domain => Sys2Proof.Machine.execAnnounce lport ident rank domain s
  | .ptpSync lport ident domain origin twoStep ns => Sys2Proof.Machine.execPtpSync lport ident domain origin twoStep ns s
  | .followUp lport ident domain origin => Sys2Proof.Machine.execFollowUp lport ident domain origin s
  | .delayResp lport ident domain sent received => Sys2Proof.Machine.execDelayResp lport ident domain sent received s
  | .ptpSyncTimeout => Sys2Proof.Machine.execPtpSyncTimeout s
  | .presenceSample prsS prsL feedA feedB meas => Sys2Proof.Machine.execPresenceSample prsS prsL feedA feedB meas s
  | .driveSeated bay => Sys2Proof.Machine.execDriveSeated bay s
  | .driveLost bay => Sys2Proof.Machine.execDriveLost bay s
  | .bayRampStart bay feedA feedB period => Sys2Proof.Machine.execBayRampStart bay feedA feedB period s
  | .rampEnd bay => Sys2Proof.Machine.execRampEnd bay s
  | .rampTimeout bay => Sys2Proof.Machine.execRampTimeout bay s
  | .powerGoodAssert bay => Sys2Proof.Machine.execPowerGoodAssert bay s
  | .powerGoodWithdraw bay => Sys2Proof.Machine.execPowerGoodWithdraw bay s
  | .perstRelease bay => Sys2Proof.Machine.execPerstRelease bay s
  | .faultTimerExpiry bay => Sys2Proof.Machine.execFaultTimerExpiry bay s
  | .overcurrentTrip bay => Sys2Proof.Machine.execOvercurrentTrip bay s
  | .retryPeriodEnd bay => Sys2Proof.Machine.execRetryPeriodEnd bay s
  | .retryCountClear bay => Sys2Proof.Machine.execRetryCountClear bay s
  | .fetModelUpdate => Sys2Proof.Machine.execFetModelUpdate s
  | .diodeRead bay celsius => Sys2Proof.Machine.execDiodeRead bay celsius s
  | .changeover bay feedA feedB => Sys2Proof.Machine.execChangeover bay feedA feedB s
  | .changeoverBreakEnd bay => Sys2Proof.Machine.execChangeoverBreakEnd bay s
  | .feedReturn bay => Sys2Proof.Machine.execFeedReturn bay s
  | .linkTrainingTimeout bay => Sys2Proof.Machine.execLinkTrainingTimeout bay s
  | .driveReady bay lbas meta16 cache labelA labelB => Sys2Proof.Machine.execDriveReady bay lbas meta16 cache labelA labelB s
  | .bayLinkDown bay => Sys2Proof.Machine.execBayLinkDown bay s
  | .slotPowerOff bay => Sys2Proof.Machine.execSlotPowerOff bay s
  | .slotPowerOn bay => Sys2Proof.Machine.execSlotPowerOn bay s
  | .shutdownComplete bay => Sys2Proof.Machine.execShutdownComplete bay s
  | .attentionButtonPress bay => Sys2Proof.Machine.execAttentionButtonPress bay s
  | .buttonStop bay => Sys2Proof.Machine.execButtonStop bay s
  | .powerCycleEnd bay => Sys2Proof.Machine.execPowerCycleEnd bay s
  | .givebackGateRelease => Sys2Proof.Machine.execGivebackGateRelease s
  | .doorbell cox ring pi => Sys2Proof.Machine.execDoorbell cox ring pi s
  | .ciWrite cox ring ci => Sys2Proof.Machine.execCiWrite cox ring ci s
  | .entryFetch ring piRead copies => Sys2Proof.Machine.execEntryFetch ring piRead copies s
  | .nop ring => Sys2Proof.Machine.execNop ring s
  | .regRead ring => Sys2Proof.Machine.execRegRead ring s
  | .regWrite ring => Sys2Proof.Machine.execRegWrite ring s
  | .answerAdmit ring => Sys2Proof.Machine.execAnswerAdmit ring s
  | .answerRefuse ring => Sys2Proof.Machine.execAnswerRefuse ring s
  | .answerMatch ring => Sys2Proof.Machine.execAnswerMatch ring s
  | .answerMismatch ring => Sys2Proof.Machine.execAnswerMismatch ring s
  | .answerMapEntry ring => Sys2Proof.Machine.execAnswerMapEntry ring s
  | .answerVictims ring data => Sys2Proof.Machine.execAnswerVictims ring data s
  | .answerRebuildPlan ring data => Sys2Proof.Machine.execAnswerRebuildPlan ring data s
  | .answerPatrolWindows ring data => Sys2Proof.Machine.execAnswerPatrolWindows ring data s
  | .answerEasy ring => Sys2Proof.Machine.execAnswerEasy ring s
  | .answerKeep ring => Sys2Proof.Machine.execAnswerKeep ring s
  | .answerFail ring => Sys2Proof.Machine.execAnswerFail ring s
  | .answerKeyMaterial ring data => Sys2Proof.Machine.execAnswerKeyMaterial ring data s
  | .answerUnwrapRefuse ring => Sys2Proof.Machine.execAnswerUnwrapRefuse ring s
  | .answerStatic ring => Sys2Proof.Machine.execAnswerStatic ring s
  | .answerDynamicByRule ring => Sys2Proof.Machine.execAnswerDynamicByRule ring s
  | .answerDynamicAlways ring => Sys2Proof.Machine.execAnswerDynamicAlways ring s
  | .answerHostTables ring data => Sys2Proof.Machine.execAnswerHostTables ring data s
  | .answerTakeStep ring => Sys2Proof.Machine.execAnswerTakeStep ring s
  | .answerResume ring => Sys2Proof.Machine.execAnswerResume ring s
  | .answerClockKeep ring => Sys2Proof.Machine.execAnswerClockKeep ring s
  | .answerClockSwitch ring => Sys2Proof.Machine.execAnswerClockSwitch ring s
  | .answerTakeOver ring => Sys2Proof.Machine.execAnswerTakeOver ring s
  | .answerDecline ring t => Sys2Proof.Machine.execAnswerDecline ring t s
  | .ringEnable ring w0 => Sys2Proof.Machine.execRingEnable ring w0 s
  | .ringShutdown ring w0 => Sys2Proof.Machine.execRingShutdown ring w0 s
  | .coalesceExpiry ring => Sys2Proof.Machine.execCoalesceExpiry ring s
  | .configurationRequest req => Sys2Proof.Machine.execConfigurationRequest req s
  | .windowAccess offset width write => Sys2Proof.Machine.execWindowAccess offset width write s
  | .eptIrqPendClear hi value => Sys2Proof.Machine.execEptIrqPendClear hi value s
  | .msixEnableChange enable => Sys2Proof.Machine.execMsixEnableChange enable s
  | .msixMaskClear vector => Sys2Proof.Machine.execMsixMaskClear vector s
  | .interruptDisableChange disable => Sys2Proof.Machine.execInterruptDisableChange disable s
  | .d3hotEntry => Sys2Proof.Machine.execD3hotEntry s
  | .getChallenge endpoint => Sys2Proof.Machine.execGetChallenge endpoint s
  | .logRead first count => Sys2Proof.Machine.execLogRead first count s
  | .slotFill sig slot digest => Sys2Proof.Machine.execSlotFill sig slot digest s
  | .slotRevoke sig slot => Sys2Proof.Machine.execSlotRevoke sig slot s
  | .kekLoad sig kekid nonce wrapped tagOk kek => Sys2Proof.Machine.execKekLoad sig kekid nonce wrapped tagOk kek s
  | .kekClear sig kekid => Sys2Proof.Machine.execKekClear sig kekid s
  | .sanitize sig crewScope crew bays action owpass oipbp pattern lacks => Sys2Proof.Machine.execSanitize sig crewScope crew bays action owpass oipbp pattern lacks s
  | .sanitizeStatus => Sys2Proof.Machine.execSanitizeStatus s
  | .ktkProvision sig console ktk => Sys2Proof.Machine.execKtkProvision sig console ktk s
  | .rollCancel sig digestOk => Sys2Proof.Machine.execRollCancel sig digestOk s
  | .sanitizePoll bay progress ended => Sys2Proof.Machine.execSanitizePoll bay progress ended s
  | .setEndpointId eid => Sys2Proof.Machine.execSetEndpointId eid s
  | .readNvmeMiDataStructure dtyp => Sys2Proof.Machine.execReadNvmeMiDataStructure dtyp s
  | .nvmSubsystemHealthStatusPoll => Sys2Proof.Machine.execNvmSubsystemHealthStatusPoll s
  | .controllerHealthStatusPoll controller => Sys2Proof.Machine.execControllerHealthStatusPoll controller s
  | .configurationGet id => Sys2Proof.Machine.execConfigurationGet id s
  | .configurationSet id value => Sys2Proof.Machine.execConfigurationSet id value s
  | .miTunneledAdminCommand opcode arg => Sys2Proof.Machine.execMiTunneledAdminCommand opcode arg s
  | .setNumericEffecterValue effecter value => Sys2Proof.Machine.execSetNumericEffecterValue effecter value s
  | .setEventReceiver receiver => Sys2Proof.Machine.execSetEventReceiver receiver s
  | .requestUpdate agent => Sys2Proof.Machine.execRequestUpdate agent s
  | .updateComponent agent stamp size => Sys2Proof.Machine.execUpdateComponent agent stamp size s
  | .transferComplete image => Sys2Proof.Machine.execTransferComplete image s
  | .verifyComplete facts => Sys2Proof.Machine.execVerifyComplete facts s
  | .applyComplete readBack => Sys2Proof.Machine.execApplyComplete readBack s
  | .activateFirmware selfContained partnerTwinA partnerTwinB => Sys2Proof.Machine.execActivateFirmware selfContained partnerTwinA partnerTwinB s
  | .engineSwapComplete checked => Sys2Proof.Machine.execEngineSwapComplete checked s
  | .probationEnd => Sys2Proof.Machine.execProbationEnd s
  | .getVersion requester => Sys2Proof.Machine.execGetVersion requester s
  | .getCapabilities requester => Sys2Proof.Machine.execGetCapabilities requester s
  | .negotiateAlgorithms requester => Sys2Proof.Machine.execNegotiateAlgorithms requester s
  | .getDigests requester => Sys2Proof.Machine.execGetDigests requester s
  | .getCertificate requester slot => Sys2Proof.Machine.execGetCertificate requester slot s
  | .challenge requester slot nonce => Sys2Proof.Machine.execChallenge requester slot nonce s
  | .getMeasurements requester index signed nonce => Sys2Proof.Machine.execGetMeasurements requester index signed nonce s
  | .dieTemperatureTrip sensor celsius => Sys2Proof.Machine.execDieTemperatureTrip sensor celsius s
  | .sensorRead die hbm0 hbm1 => Sys2Proof.Machine.execSensorRead die hbm0 hbm1 s
  | .evtFqDone tag => Sys2Proof.Machine.execEvtFqDone tag s
  | .handlingTimeout => Sys2Proof.Machine.execHandlingTimeout s
  | .pmuFreeze freeze => Sys2Proof.Machine.execPmuFreeze freeze s
  | .pmuClear => Sys2Proof.Machine.execPmuClear s
  | .engineWearCheck readings => Sys2Proof.Machine.execEngineWearCheck readings s
  | .spareSelfCheck engine passes => Sys2Proof.Machine.execSpareSelfCheck engine passes s
  | .engineFault engine digestOk => Sys2Proof.Machine.execEngineFault engine digestOk s
  | .phaseFault phase domain => Sys2Proof.Machine.execPhaseFault phase domain s
  | .sramSoftRepair array row isRow use buffers coxCore uncorrectable many digestOk => Sys2Proof.Machine.execSramSoftRepair array row isRow use buffers coxCore uncorrectable many digestOk s
  | .hbmRowRepair stack bank row mib bankHasResource => Sys2Proof.Machine.execHbmRowRepair stack bank row mib bankHasResource s
  | .lifeUpdate caseTenths elapsedMs => Sys2Proof.Machine.execLifeUpdate caseTenths elapsedMs s
  | .vin12Undervoltage => Sys2Proof.Machine.execVin12Undervoltage s
  | .vin12Overvoltage => Sys2Proof.Machine.execVin12Overvoltage s
  | .vin12Excursion domain => Sys2Proof.Machine.execVin12Excursion domain s
  | .idcode => Sys2Proof.Machine.execIdcode s
  | .bypass => Sys2Proof.Machine.execBypass s
  | .samplePreload => Sys2Proof.Machine.execSamplePreload s
  | .extest => Sys2Proof.Machine.execExtest s
  | .clamp => Sys2Proof.Machine.execClamp s
  | .twinLinkTrained heat lenCode bayMaster pref running => Sys2Proof.Machine.execTwinLinkTrained heat lenCode bayMaster pref running s
  | .bayLinkUp bay speed width => Sys2Proof.Machine.execBayLinkUp bay speed width s
  | .sysRstNRelease straps => Sys2Proof.Machine.execSysRstNRelease straps s
  | .perstNRelease => Sys2Proof.Machine.execPerstNRelease s
  | .faultTimerStart bay => Sys2Proof.Machine.execFaultTimerStart bay s
  | .faultTimerClear bay => Sys2Proof.Machine.execFaultTimerClear bay s
  | .attentionBlinkEnd bay => Sys2Proof.Machine.execAttentionBlinkEnd bay s
  | .echoRequest seq => Sys2Proof.Machine.execEchoRequest seq s

end Sys2Proof.Machine
end

