-- ==== Sys2Proof/Safety.lean ====
section
/-!
DEFINITION. What claims call a completed step, and the forms of the state that claims rely on.
-/

namespace Sys2Proof.Machine

/-- An outcome is a next state. -/
def Completes (o : Host.Outcome State Fault Refusal) : Prop := ∃ t, o = .next t

/-- The register stores are in canonical form: bit addresses strictly rising, and no entry equal to what an unlisted one reads as. -/
def State.Canonical (s : State) : Prop := s.regs.wf = true ∧ s.eff.wf = true

/-- Records from the newest to the oldest, each with the SEQ after that of the record before it in time (R452, R453). -/
def inOrder : List LogRec → Bool
  | r :: q :: rest => r.seq == q.seq + 1 && inOrder (q :: rest)
  | _ => true

/-- The SEQ of the newest logbook record, 0 before the first. -/
def State.lastSeq (s : State) : Nat :=
  match s.cox.log with
  | r :: _ => r.seq
  | [] => 0

/-- The logbook is in order of SEQ and holds at most the latest 130,048 records (R452). -/
def State.LogInOrder (s : State) : Prop := inOrder s.cox.log = true ∧ s.cox.log.length ≤ 130048

/-- Whatever is blown in `a` is still blown in `b`: digests of used key slots, revocations, the transport key, the epoch
and the repairs. -/
structure Fuses.Stay (a b : Fuses) : Prop where
  slots : ∀ k, a.slots.getD k 0 ≠ 0 → b.slots.getD k 0 = a.slots.getD k 0
  revoked : ∀ k, a.revoked.getD k false = true → b.revoked.getD k false = true
  ktk : ∀ v, a.ktk = some v → b.ktk = some v
  epoch : a.epoch ≤ b.epoch
  sramRepairs : a.sramRepairs <+: b.sramRepairs
  hbmRepairs : a.hbmRepairs <+: b.hbmRepairs

/-- `c` has the effect `t` on `s` where `cond` holds, and elsewhere leaves the block as it is. -/
def Does (c : Instr) (s : State) (cond : Prop) (t : State) : Prop :=
  (cond → exec c s = .next t) ∧ (¬ cond → exec c s = .next s)

/-- As `Does`, for a command that may raise an event: what a fatal fault does at once follows in either case (R178, R277). -/
def Settles (c : Instr) (s : State) (cond : Prop) (t : State) : Prop :=
  (cond → exec c s = .next t.atOnce) ∧ (¬ cond → exec c s = .next s.atOnce)

namespace State

/-- A byte of the boot NOR; one that nothing has programmed reads 0xFF. -/
def norByte (s : State) (a : Nat) : Nat := (s.boot.nor.get a).getD 0xFF

/-- A record of event `ev` by unit `u`, of the severity that the event has, is in cox's event buffer (R480). -/
def Recorded (s : State) (ev u : Nat) : Prop := ∃ r ∈ s.ev.buf, r.ev = ev ∧ r.unit = u ∧ r.sev = severity ev

/-- The state once the delivery of a capsule is taken, with the times of its delivery and of its answer point, where the capsule is one
to be handled: no copy of a command in hand (R125), on an NP32 that admits commands (R178, R195). -/
def arrived (s : State) (c : Capsule) (req : Req) : Option (State × Nat × Nat) :=
  let (s0, held) := s.takeCapsule c req
  let (s1, run) := match held with
    | some (_, gone) => (s0, !gone)
    | none => s0.matchCapsule c.flow (capId c) c.enc
  let at_ := match held with | some (d, _) => d.at_ | none => s1.now
  let point := match held with | some (d, _) => d.point | none => s1.now + s1.deadline
  if run && !s1.twn.stopped && !s1.admissionHalted then some (s1, at_, point) else none

/-- A held command takes its context at once (R145 to R147): the command, with its place in the order, and the state. -/
def contextTaken (s : State) (c : CmdId) : Option (Cmd × State) :=
  match s.cmdOf c with
  | none => none
  | some k =>
    let k1 := { k with phase := 1, ctx := !k.req.free, order := s.nvt.nextAdmit }
    let k2 := { k1 with unchecked := s.rsvOpen k1 }
    if k.req.free || s.nextWaiting.map (·.id) == some c then
      some (k2, (({ s with nvt := { s.nvt with nextAdmit := s.nvt.nextAdmit + 1 } }.setCmd k2).showTarget).countAdmitted k2)
    else none

/-- The reach keys of a request's keyed descriptors match, and hardware compares them (R121, R130). -/
def keysMatch (s : State) (c : Capsule) (req : Req) : Bool :=
  match req.sgl with
  | some (.keyed bs) => !s.assisted 1 && bs.all fun b => s.keyMatches c.flow (c.keyhi * 2 ^ 32 + b.2.2)
  | _ => true

/-- Whether a request is an Abort. -/
def isAbort (r : Req) : Bool := match r with | .abort .. => true | _ => false

/-- A delivered command that passes every check of admission at once (R138 to R149, R153 to R155, R168, R172): its association, the
command, and the state in which it is about to be executed. -/
def admitted (s : State) (c : Capsule) (req : Req) : Option (Assoc × Cmd × State) :=
  match s.arrived c req with
  | none => none
  | some (s1, at_, point) =>
    match s1.assocOf c.cntlid with
    | none => none
    | some a =>
      let b := nextSqhd { a with flow := c.flow } c.qid
      let held := (s1.nvt.cmds.filter fun x => x.id.cntlid == c.cntlid && x.id.qid == c.qid && !x.acked).length
      match ((s1.setAssoc b.1).holdCmd c req b.2 at_ point).contextTaken (capId c) with
      | none => none
      | some (k, s2) =>
        let s3 := s2.setCmd k
        match s2.assocOf (capId c).cntlid with
        | some a2 =>
          if a.flow.ptag == c.flow.ptag && a.queues.any (·.1 == c.qid) && (s1.cmdOf (capId c)).isNone &&
              decide (held < (a.queues.lookup c.qid).getD 0) && !c.bad && !c.alien && !k.unchecked &&
              !(isAbort req && decide (16 ≤ s1.abortsOpen c.cntlid)) && s2.cmdOf (capId c) == some k &&
              (s3.admissionCheck a2 k).2.isNone && s3.keysMatch c req then
            some (a2, { k with passed := true }, s3.setCmd { k with passed := true })
          else none
        | none => none

/-- A delivered Connect that takes its context at once (R136, R138, R145), one to an I/O queue from the process that the controller belongs
to: the command, and the state in which it is executed. -/
def connecting (s : State) (c : Capsule) (req : Req) : Option (Cmd × State) :=
  match s.arrived c req with
  | none => none
  | some (s1, at_, point) =>
    let foreign := match s1.assocOf c.cntlid with | some a => a.flow.ptag != c.flow.ptag | none => true
    let io := match req with | .connect q .. => q != 0 | _ => false
    if (io && foreign) || (s1.cmdOf (capId c)).isSome then none else (s1.holdCmd c req 0 at_ point).contextTaken (capId c)

/-- A twin frame arrives intact and in its place (R274): the state in which its content is about to be taken. -/
def frameIn (s : State) (h : TwHdr) : Option State :=
  let s1 := s.ackTwin h.ackseq
  if s.twinShelf && s.is F.TWN_STATUS_LINK && h.crcOk && h.seq == s1.twn.rxNext then
    some { s1 with twn := { s1.twn with rxNext := (h.seq + 1) % 2 ^ 32 } }
  else none

/-- An ANSWER of a function, with one of its codes, is the oldest entry of a ring, and its item waits for this host (R409): the
entry and the item. -/
def answered (s : State) (ring fn code : Nat) (data : Option (List Nat)) : Option (Taken × Item) :=
  match s.front ring 3 with
  | none => none
  | some t =>
    match s.itemOf t.entry.item with
    | none => none
    | some it =>
      if it.cox == coxRing ring && it.fn == fn && t.entry.count == 0 && decide (t.entry.dlen ≤ 65536) && t.entry.code == code &&
          (answerCodes fn).contains code && (t.entry.dlen == 0 || data.isSome) then some (t, it) else none

/-- The item of an accepted ANSWER has ended with an effect, and its entry completes with status done. -/
def concluded (s : State) (e : Taken × Item) (act : State → State) : State := ((act (s.endItem e.2.tag)).finishAnswer e.1 0).carryOn

end State

end Sys2Proof.Machine
end

