-- ==== Sys2Proof/Certificates/Slice0/Obligations.lean ====
section
/-!
DEFINITION. The statements about the machine that are to be proved. A completion statement of a command says in its conclusion the
next state that the command's own effect gives; `Does` says so where a condition holds, and that elsewhere nothing changes.
-/

open Sys2Proof Sys2Proof.Machine Sys2Proof.Machine.State

/-! The machine as a whole. -/

/-- A step runs the command at the front of the queue, on the state with the queue's rest. Where no command waits the block idles (the model's
choice: log entry 1). -/
def Obligations.StepRunsFrontCommand : Prop :=
  (∀ (c : Instr) (rest : List Instr) (s : State),
     step { s with pending := c :: rest } = exec c { s with pending := rest }) ∧
  ∀ s : State, s.pending = [] → step s = .next s

/-- Every command, on every state, answers a next state, and leaves the queue alone: no command of the table is refused, and none faults. So every
step answers a next state: it takes exactly the front command, keeps everything that was sent, and takes no free value back. -/
def Obligations.EveryCommandCompletes : Prop :=
  (∀ (c : Instr) (s : State), ∃ t, exec c s = .next t ∧ t.pending = s.pending ∧ s.out <+: t.out ∧ s.free ≤ t.free) ∧
  ∀ s : State, ∃ t, step s = .next t ∧ t.pending = s.pending.tail ∧ s.out <+: t.out ∧ s.free ≤ t.free

/-- Every step keeps the register stores in canonical form: bit addresses strictly rising, and no entry equal to the field's reset
value, so that equal register contents are equal data. -/
def Obligations.StepKeepsRegistersCanonical : Prop :=
  ∀ s t : State, s.Canonical → step s = .next t → t.Canonical

/-- Every step keeps the logbook in order (R452): the SEQ of each record follows that of the record before it, and no more than the
latest 130,048 are held. SEQ never goes back. -/
def Obligations.StepKeepsLogbookInOrder : Prop :=
  ∀ s t : State, s.LogInOrder → step s = .next t → t.LogInOrder ∧ s.lastSeq ≤ t.lastSeq

/-- Right after reset every invariant holds, nothing waits and nothing has been sent. -/
def Obligations.ResetMeetsTheInvariants : Prop :=
  State.reset.Canonical ∧ State.reset.LogInOrder ∧ State.reset.pending = [] ∧ State.reset.out = []

/-- Fuses stay blown: whatever a step does, the digest of a filled key slot, a revocation, the transport key once written, the epoch
and the repairs that fuses hold are still there (R54, R454, R458, R459, R505, R507). -/
def Obligations.StepNeverUnblowsAFuse : Prop :=
  ∀ s t : State, step s = .next t → s.fuses.Stay t.fuses

/-- Only SLOT_FILL, SLOT_REVOKE and KTK_PROVISION can change the key slots, their revocations and the transport key: whatever other
command runs, on any state, they are as before (R54, R458, R459). -/
def Obligations.OnlyKeyCommandsChangeKeyFuses : Prop :=
  ∀ (c : Instr) (s t : State),
    (∀ sig slot digest, c ≠ .slotFill sig slot digest) → (∀ sig slot, c ≠ .slotRevoke sig slot) →
    (∀ sig console ktk, c ≠ .ktkProvision sig console ktk) → exec c s = .next t →
    t.fuses.slots = s.fuses.slots ∧ t.fuses.revoked = s.fuses.revoked ∧ t.fuses.ktk = s.fuses.ktk

/-! Registers. -/

/-- A written field reads back what was written, cut to its width; every field at another bit address, and the value in effect of every
H-class field, are as before; nothing but the register store changes (R12, R13). -/
def Obligations.FieldWriteChangesOneField : Prop :=
  ∀ (s : State) (f : Field) (v i j : Nat), s.Canonical →
    (s.wr f v i j).rd f i j = v % 2 ^ f.width ∧
    (∀ (g : Field) (k l : Nat), g.key k l ≠ f.key i j → (s.wr f v i j).rd g k l = s.rd g k l) ∧
    (∀ (g : Field) (k l : Nat), g.kind = .rwh → (s.wr f v i j).ef g k l = s.ef g k l) ∧
    (s.wr f v i j).Canonical ∧ { s.wr f v i j with regs := s.regs } = s

/-- NVT_DEADLINE, an H-class register, is written by cox firmware: a read gives back the fifteen bits that were written, while the answer
deadline of commands delivered now, and every value in effect, stay as they were, and no other field changes (R12, R13). What follows at
once from a register access (`carryOn`), and from a fatal fault where one is due (`atOnce`), is applied to that state. -/
def Obligations.DeadlineWriteReachesTheShadowOnly : Prop :=
  ∀ (s : State) (v : Nat), s.Canonical → s.ev.coxRuns = true →
    ∃ t : State, exec (.registerWrite .cox 0x200000 4 v) s = .next t.carryOn.atOnce ∧ t.readWord 0x200000 = v % 2 ^ 15 ∧ t.eff = s.eff ∧
      t.deadline = s.deadline ∧ (∀ (g : Field) (k l : Nat), g.key k l ≠ F.NVT_DEADLINE_US.key 0 0 → t.rd g k l = s.rd g k l) ∧
      { t with regs := s.regs } = s

/-- Register accesses by their size and alignment (R9). An aligned 32-bit write is one access, an aligned 64-bit write two, the lower address first;
an aligned 32-bit read answers with the register as `accessRead` gives it; every other access is refused with an error response and reaches no
register. The first part is about paths that are open; the second says that the window, before ready, reads zero and ignores a write (R40). -/
def Obligations.RegisterAccessesFollowAlignment : Prop :=
  (∀ (s : State) (p : Path) (addr v : Nat), s.pathOpen p = true →
     (addr % 4 = 0 → exec (.registerWrite p addr 4 v) s = .next (s.accessWrite p addr 0xFFFFFFFF (v % 2 ^ 32)).1.carryOn.atOnce) ∧
     (addr % 8 = 0 → exec (.registerWrite p addr 8 v) s = .next
       (((s.accessWrite p addr 0xFFFFFFFF (v % 2 ^ 32)).1).accessWrite p (addr + 4) 0xFFFFFFFF (v / 2 ^ 32 % 2 ^ 32)).1.carryOn.atOnce) ∧
     (∀ w, ¬ (w = 4 ∧ addr % 4 = 0) → ¬ (w = 8 ∧ addr % 8 = 0) →
       exec (.registerWrite p addr w v) s = .next (s.refuseAccess p addr false).atOnce) ∧
     (addr % 4 = 0 → ∀ x, (s.accessRead p addr).2 = some x →
       exec (.rcRead p addr) s = .next ((s.accessRead p addr).1.emit (.readData p addr x)).atOnce) ∧
     (addr % 4 ≠ 0 → exec (.rcRead p addr) s = .next (s.refuseAccess p addr true).atOnce) ∧
     (∀ q, q = Path.cox ∨ q = Path.pldm → ∀ b, s.refuseAccess q addr b = s.emit (.accessRefused q addr))) ∧
  ∀ (s : State), s.ready = false →
    (∀ addr, addr % 4 = 0 → exec (.rcRead .window addr) s = .next (s.emit (.readData .window addr 0)).atOnce) ∧
    (∀ addr v, addr % 4 = 0 → exec (.registerWrite .window addr 4 v) s = .next s.atOnce)

/-- A write that would change a B-class field is refused as a whole on each path (R11, R66): BOOT_REFUSE takes the path, the address and
one more in COUNT, EV0012 is raised where COUNT was 0, and no other register field is written. Through the window nothing is sent; cox
firmware and a management request get the response "refused". -/
def Obligations.BClassWriteIsRefusedWhole : Prop :=
  ∀ (s : State) (p : Path) (addr v : Nat), s.pathOpen p = true → addr % 4 = 0 → s.accessGated addr = false →
    (p = .window → coxRingReg addr = false) → s.changesB addr 0xFFFFFFFF (v % 2 ^ 32) = true →
    ∃ t, t = (((s.wr F.BOOT_REFUSE_SOURCE (pathCode p)).bump F.BOOT_REFUSE_COUNT).wr F.BOOT_REFUSE_ADDR addr) ∧
      let u := if s.rd F.BOOT_REFUSE_COUNT = 0 then t.raise 12 0x0000 else t
      exec (.registerWrite p addr 4 v) s = .next (match p with
        | .cox | .pldm => u.emit (.bClassRefused p addr)
        | .window | .ring => u).carryOn.atOnce

/-- A logbook record takes the SEQ after the last one, stands at the head, carries the kind, severity and payload given and the time,
start and heat of the machine, and nothing but the logbook and COX_LOG_HEAD changes (R452, R453). -/
def Obligations.LogWritesTheNextRecord : Prop :=
  ∀ (s : State) (kind sev : Nat) (payload : List Nat), s.Canonical →
    ∃ r, (s.log kind sev payload).cox.log = (r :: s.cox.log).take (1024 * max 1 (min 127 (s.rd F.COX_LOG_BLOCKS - 1))) ∧
      r.seq = s.lastSeq + 1 ∧ r.kind = kind ∧ r.sev = sev ∧
      r.payload = payload ∧ r.heat = s.heat ∧ r.start = s.boot.startNumber.getD 0 ∧
      r.time = (if s.boot.refPassed then s.tod else s.now) ∧ r.flags = (if s.boot.refPassed then 0 else 1) ∧
      (s.log kind sev payload).rd F.COX_LOG_HEAD = (s.lastSeq + 1) % 2 ^ F.COX_LOG_HEAD.width ∧
      (∀ (g : Field) (k l : Nat), g.key k l ≠ F.COX_LOG_HEAD.key 0 0 → (s.log kind sev payload).rd g k l = s.rd g k l) ∧
      { s.log kind sev payload with regs := s.regs, cox := s.cox } = s

/-- Every raise of an event leaves its record in cox's event buffer, whatever the masks, the queue and the rings (R480, R482). -/
def Obligations.EveryRaiseIsRecorded : Prop :=
  ∀ (s : State) (ev unit detail : Nat), (s.raise ev unit detail).Recorded ev unit

/-! Start-up, the boot NOR and the resets (spec/02_startup_and_boot_image.md). -/

/-- STRAP_SETTLE[2:0] selects the settle delay by the table of R44: with no copy of the image a candidate (the NOR does not answer), a
cold start puts exactly the strap's delay in ms into BOOT_STATUS.SETTLE_MS and names the strap as its source. -/
def Obligations.StrapSelectsSettleDelay : Prop :=
  ∀ (n ms : Nat) (master twin : Bool) (cap : Nat) (s : State),
    (n, ms) ∈ [(0, 0), (1, 1), (2, 2), (3, 5), (4, 10), (5, 20), (6, 50), (7, 100)] →
    ∃ t, exec (.coldStart ⟨n, master, twin⟩ false cap none) s = .next t ∧ t.rd F.BOOT_STATUS_SETTLE_MS = ms ∧
      t.rd F.BOOT_STATUS_SETTLE_SRC = 0 ∧ t.rd F.SYS_STRAP_SETTLE = n ∧ t.stage = 1

/-- The commands of the start sequence, each in its stage and on a sequence that PWR_FAIL_N does not hold (R38, R41, R42, R47 to R49, R55, R56, R62
to R64). A step that ends while PWR_FAIL_N is asserted stops the sequence at its end, and no later step runs until the pin has been deasserted. -/
def Obligations.StartStepsComplete : Prop :=
  (∀ straps cap s, cap ∈ [64, 128, 256, 512] →
    let s0 := (State.reset.keepAlways s).watchDomains.sampleStraps straps
    let s1 := { s0.setStage 1 with now := 0, boot := { s0.boot with norOk := true, norCap := cap } }
    exec (.coldStart straps true cap none) s = .next
      ((s1.readHeaders.wr F.BOOT_STATUS_SETTLE_MS s1.readHeaders.chooseSettle.1).wr F.BOOT_STATUS_SETTLE_SRC
        s1.readHeaders.chooseSettle.2).holdIfFailing) ∧
  (∀ s, s.stage = 1 → s.boot.hold = 0 → exec (.settleDelayEnd none) s = .next (s.setStage 2)) ∧
  (∀ a b s, s.stage = 2 → s.boot.hold = 0 → exec (.referenceCheck a b none) s = .next (s.referenceChecked a b)) ∧
  (∀ a b s, s.stage = 0xC → s.boot.hold = 0 → exec (.referenceCheckRetry a b none) s = .next (s.referenceChecked a b)) ∧
  (∀ a b s, s.stage = 0xE → s.boot.refPassed = false → s.boot.hold = 0 →
    exec (.referenceCheckRetry a b none) s = .next (s.referenceChecked a b)) ∧
  (∀ c facts s, s.stage = 3 → s.boot.hold = 0 → s.boot.checking = some c →
    exec (.copyCheckComplete facts none) s = .next (s.copyChecked c facts)) ∧
  (∀ s, s.stage = 4 → ∀ logFails, exec (.imageApply none logFails) s = .next (s.step1 fun t => t.applyImage logFails).atOnce) ∧
  (∀ s, s.stage = 5 → s.boot.hold = 0 → s.masterMismatch = false →
    exec (.linkTrainingEnd none) s = .next s.becomeReady.carryOn) ∧
  (∀ s, s.ready = false → s.boot.hold = 0 →
    exec .pwrFailBeforeReady s = .next { s with boot := { s.boot with hold := 1 } }) ∧
  (∀ s, s.boot.hold = 1 ∨ s.boot.hold = 2 → exec .startResume s = .next { s with boot := { s.boot with hold := 0 } }) ∧
  (∀ s, s.boot.hold = 3 → exec .startResume s = .next ({ s with boot := { s.boot with hold := 0 } }.becomeReady.carryOn)) ∧
  (∀ s, s.stage = 1 → s.boot.hold = 1 →
    exec (.settleDelayEnd none) s = .next { s.setStage 2 with boot := { s.boot with hold := 2 } }) ∧
  (∀ fault s, 2 ≤ s.boot.hold → exec (.settleDelayEnd fault) s = .next s ∧
    (∀ a b, exec (.referenceCheck a b fault) s = .next s ∧ exec (.referenceCheckRetry a b fault) s = .next s) ∧
    (∀ facts, exec (.copyCheckComplete facts fault) s = .next s) ∧
    (∀ logFails, exec (.imageApply fault logFails) s = .next s.atOnce) ∧ exec (.linkTrainingEnd fault) s = .next s)

/-- A hardware fault that no spare can replace stops the start in every step from 2 to 9 (R42): STAGE reads 0xD, and the newest logbook
record is a HALT record that names the stage and the unit. -/
def Obligations.HardwareFaultHaltsStart : Prop :=
  let halted (t : State) (u : Nat) : Prop :=
    t.stage = 0xD ∧ ∃ r rest, t.cox.log = r :: rest ∧ r.kind = 2 ∧ r.payload = [0xD, 0, u]
  ∀ u s, s.Canonical → 2 ≤ s.rd F.COX_LOG_BLOCKS →
    (∀ straps ok cap, ∃ t, exec (.coldStart straps ok cap (some u)) s = .next t ∧ halted t u) ∧
    (s.stage = 1 → s.boot.hold = 0 → ∃ t, exec (.settleDelayEnd (some u)) s = .next t ∧ halted t u) ∧
    (s.stage = 2 → s.boot.hold = 0 → ∀ a b, ∃ t, exec (.referenceCheck a b (some u)) s = .next t ∧ halted t u) ∧
    (s.stage = 0xC → s.boot.hold = 0 → ∀ a b, ∃ t, exec (.referenceCheckRetry a b (some u)) s = .next t ∧ halted t u) ∧
    (s.stage = 3 → s.boot.hold = 0 → s.boot.checking ≠ none → ∀ facts,
      ∃ t, exec (.copyCheckComplete facts (some u)) s = .next t ∧ halted t u) ∧
    (s.stage = 4 → s.boot.hold = 0 → s.fatal = false → ∀ logFails,
      ∃ t, exec (.imageApply (some u) logFails) s = .next t ∧ halted t u) ∧
    (s.stage = 5 → s.boot.hold = 0 → ∃ t, exec (.linkTrainingEnd (some u)) s = .next t ∧ halted t u)

/-- The recovery commands that are accepted (R60, R61, R67): on the console in recovery mode, by the endpoint where BAR0 is open and holds
the command's code. STATUS; ERASE of either copy, which leaves the other copy and the logbook as they are; CHECK, which runs the checks of
R55 and keeps the code in BOOT_STATUS (the model's choice: log entry 107); RESTART, a system reset. An offset 0 names Copy A, any other
Copy B. Elsewhere nothing happens. -/
def Obligations.RecoveryCommandsComplete : Prop :=
  (∀ ep s, Does (.recoveryStatus ep) s (s.takesRecovery ep 1 = true)
    (s.answerRecovery ep 0 [s.readWord 0x10000, s.boot.norCap, s.failOf 0, s.failOf 1])) ∧
  (∀ off s, s.takesRecovery (Option.isNone off) 2 = true → s.boot.norOk = true → 16 ≤ s.boot.norCap →
    let a := off.getD s.boot.bar.offset
    (a = 0 → exec (.recoveryErase off) s = .next ((s.norErase 0 (s.copyBase 1)).answerRecovery off.isNone 0 [])) ∧
    (a ≠ 0 → a < s.logBase →
      exec (.recoveryErase off) s = .next ((s.norErase (s.copyBase 1) s.logBase).answerRecovery off.isNone 0 [])) ∧
    (s.logBase ≤ a → exec (.recoveryErase off) s = .next (s.answerRecovery off.isNone 2 []))) ∧
  (∀ copy facts s,
    let c := if copy.getD s.boot.bar.offset = 0 then 0 else 1
    let code := Image.check s.boot.nor (s.copyBase c) s.longestImage s.fuses facts
    Does (.recoveryCheck copy facts) s (s.takesRecovery (Option.isNone copy) 4 = true)
      ((s.setFail c code).answerRecovery copy.isNone 0 [code])) ∧
  (∀ ep straps s, Does (.recoveryRestart ep straps) s (s.takesRecovery ep 5 = true) (s.systemReset 3 straps)) ∧
  (∀ s, s.stage ≠ 0xE → (∀ off, exec (.recoveryErase off) s = .next s) ∧ (∀ data, exec (.recoveryWrite data) s = .next s)) ∧
  (∀ s : State, s.stage = 0xE → ∀ code, s.takesRecovery false code = true) ∧
  (∀ status data (s : State), s.answerRecovery false status data = s.emit (.recovery status data)) ∧
  (∀ status data (s : State), (s.answerRecovery true status data).boot.bar.status = status ∧
    (s.answerRecovery true status data).boot.bar.cmd = 0)

/-- WRITE in recovery mode (R60, R61): a write of 1 to 65,536 bytes that lies in one copy region is done, each byte reads back, and every
other byte of the NOR, the copy of the other region and the logbook among them, and all of the state but the NOR is as before; a write
that touches the logbook or crosses the boundary between the copies is refused with status 0x2 and changes nothing. The offset and the
bytes are the operands on the console, and what BAR0 holds by the endpoint. -/
def Obligations.RecoveryWriteProgramsItsBytesOnly : Prop :=
  ∀ (data : Option (Nat × List Nat)) (off : Nat) (bytes : List Nat) (s : State), s.takesRecovery data.isNone 3 = true →
    (off, bytes) = data.getD (s.boot.bar.offset, (List.range (min s.boot.bar.length 65537)).map fun k => (s.boot.bar.buf.get k).getD 0) →
    bytes ≠ [] → bytes.length ≤ 65536 → s.boot.nor.risingFrom 0 = true → s.boot.norOk = true →
    (off + bytes.length ≤ s.copyBase 1 ∨ (s.copyBase 1 ≤ off ∧ off + bytes.length ≤ s.logBase) →
      ∃ t : State, exec (.recoveryWrite data) s = .next (t.answerRecovery data.isNone 0 []) ∧
        (∀ k (h : k < bytes.length), t.norByte (off + k) = bytes[k] % 256) ∧
        (∀ a, a < off ∨ off + bytes.length ≤ a → t.norByte a = s.norByte a) ∧
        { t with boot := { t.boot with nor := s.boot.nor } } = s) ∧
    (s.logBase < off + bytes.length ∨ (off < s.copyBase 1 ∧ s.copyBase 1 < off + bytes.length) →
      s.copyBase 1 ≤ s.logBase → exec (.recoveryWrite data) s = .next (s.answerRecovery data.isNone 2 []))

/-- The resets complete (R67 to R69, R89, R513, R528, R534). A write of SYS_RESET without its key, a watchdog of a core that is not in
service, and a release of a pin that is not low change nothing else. -/
def Obligations.ResetsComplete : Prop :=
  (∀ s, exec .sysRstN s = .next { s.systemClear 1 with boot := { (s.systemClear 1).boot with rstLow := true } }) ∧
  (∀ value straps s, Does (.sysResetSystem value straps) s (value.toNat / 65536 = 0x5A3C ∧ value.getLsbD 0 = true)
    (s.systemReset 2 straps)) ∧
  (∀ value ok s, Does (.sysResetCox value ok) s
    (value.toNat / 65536 = 0x5A3C ∧ value.getLsbD 1 = true ∧ value.getLsbD 0 = false) (s.coxReset ok).carryOn) ∧
  (∀ core ok s, core < 4 → (s.rd F.COX_STATUS_CORES).testBit core = true → s.coxStarted = true → s.cox.roll = none →
    let u := { s with cox := { s.cox with expired := (s.cox.expired.filter fun (e : Nat × Nat) => e.1 != core) ++ [(core, s.now)] } }
    (s.cox.expired.lookup core = none →
      exec (.coxWatchdogExpiry core ok) s = .next ((u.coxReset ok).raise 896 (coreUnit core)).carryOn) ∧
    (∀ t, s.cox.expired.lookup core = some t → 86400000000000 ≤ s.now - t →
      exec (.coxWatchdogExpiry core ok) s = .next ((u.coxReset ok).raise 896 (coreUnit core)).carryOn) ∧
    (∀ t, s.cox.expired.lookup core = some t → s.now - t < 86400000000000 → (u.coreFails core).cox.roll = none →
      exec (.coxWatchdogExpiry core ok) s = .next (((u.coreFails core).coxReset ok).raise 896 (coreUnit core)).carryOn)) ∧
  (∀ straps s, Does (.watchModeRestart straps) s (s.is F.CLK_STATUS_WATCH = true ∧ s.is F.CLK_CTRL_AUTO_RESTART = true)
    (s.systemReset 2 straps)) ∧
  (∀ s, exec .vin12Undervoltage s = .next (State.reset.keepAlways s) ∧ exec .vin12Overvoltage s = .next (State.reset.keepAlways s) ∧
    exec (.vin12Excursion none) s = .next (s.raise 1 0x0000).atOnce) ∧
  (∀ d s, Settles (.vin12Excursion (some d)) s (d < 14) (s.raise 1 0x0000)) ∧
  (∀ straps s, Does (.sysRstNRelease straps) s (s.boot.rstLow = true)
    ({ s with jtag := if s.jtag = Jtag.idcode then Jtag.idcode else Jtag.bypass }.restart3 straps)) ∧
  (∀ s, exec .perstNRelease s = .next { s with boot := { s.boot with perstLow := false } }) ∧
  (∀ perst s, exec (.endpointReset perst) s = .next (s.endpointReset perst).carryOn)

/-- A system reset clears and keeps what R67 states: flow records, command contexts, associations, events, engines and cox state are as
right after reset; the fuses, with the SRAM repairs that had not been blown yet (R509), the NOR and its logbook stay (and what the drives' Sanitize Status
logs say: log entry 155). The start resumes
with the reference check, without a settle delay (R47). -/
def Obligations.SystemResetClearsAndKeeps : Prop :=
  ∀ (s : State) (cause : Nat) (p : Straps), cause < 16 →
    let t := s.systemReset cause p
    t.skf = State.reset.skf ∧ t.nvt = State.reset.nvt ∧ t.ev = State.reset.ev ∧ t.crw = State.reset.crw ∧ t.twn = State.reset.twn ∧
    t.cip = State.reset.cip ∧ t.sw = State.reset.sw ∧ t.wrg = State.reset.wrg ∧ t.cmp = [] ∧ t.heat = 0 ∧
    { t.cox with log := [], sanitizing := [], sanFailed := [], sanActions := [] } = State.reset.cox ∧
    t.fuses = { s.fuses with sramRepairs := s.fuses.sramRepairs ++ s.spr.soft } ∧ t.boot.nor = s.boot.nor ∧ t.cox.log = s.cox.log ∧
    t.stage = 2 ∧ t.rd F.SYS_STATUS_CAUSE = cause

/-! Pace, clocks and gates (spec/03_self_timed_core_and_clocks.md). -/

/-- The events of the reference monitor and of the pace controller (R75 to R78, R82, R83, R85, R87, R88). -/
def Obligations.ReferenceAndPaceEventsComplete : Prop :=
  (∀ ref s, Settles (.referenceStopped ref) s (ref < 2) ((s.setChecks ref { s.checksOf ref with stopped := true }).settleRef ref)) ∧
  (∀ ref off s, Settles (.grossWindow ref off) s (ref < 2)
    ((s.setChecks ref { s.checksOf ref with
      stopped := (s.checksOf ref).stopped && off == 1000000
      gross := decide (s.ef F.CLK_MON_LIMIT_GROSS * 5000 < off) }).settleRef ref)) ∧
  (∀ ppb a b s, s.Canonical → s.refState 0 = 0 → s.refState 1 = 0 → s.clk.checks = (⟨false, false, false⟩, ⟨false, false, false⟩) →
    ppb.natAbs ≤ s.ef F.CLK_MON_LIMIT_PPM * 1000 →
    exec (.ppmWindow ppb a b) s = .next
      (({ s with clk := { s.clk with offs := (a, b) } }.wr F.CLK_DIFF_PPB (ppb % 2 ^ 32).toNat).atOnce)) ∧
  (∀ ref s, ref < 2 → s.refState ref ≠ 0 → s.activeSrc ≠ 2 →
    exec (.referenceReturnGood ref) s = .next (((s.setChecks ref ⟨false, false, false⟩).setRef ref 0).raise 15 0x0000).atOnce) ∧
  (∀ ref s, ref < 2 → s.refState ref ≠ 0 → s.activeSrc = 2 → s.is F.CLK_STATUS_WATCH = false → s.is F.CLK_STATUS_HOLD = true →
    s.clk.failover = false →
    let u := ((s.setChecks ref ⟨false, false, false⟩).setRef ref 0).raise 15 0x0000
    (u.domSrc 0 = 1 - ref → u.refState (1 - ref) = 3 →
      exec (.referenceReturnGood ref) s = .next ((u.cutAll ref).raise 0 0x0000).atOnce) ∧
    (u.domSrc 0 = 1 - ref → u.refState (1 - ref) ≠ 3 →
      exec (.referenceReturnGood ref) s = .next ((u.switchAll ref true).raise 0 0x0000).atOnce)) ∧
  (∀ s, Does .holdoverExpiry s
    (s.is F.CLK_STATUS_HOLD = true ∧ s.activeSrc = 2 ∧ s.is F.CLK_STATUS_WATCH = false ∧ s.clk.failover = false)
    (let u := [3, 4, 5].foldl (fun u d => u.setDom d 2 false false)
       ({ s with clk := { s.clk with hbmSlow := true } }.wr F.CLK_STATUS_WATCH 1)
     let v := [0, 1, 2].foldl (fun u d => u.setDom d (u.domSrc d) false false) u
     (v.allLinksDown.raise 17 0x0000).carryOn)) ∧
  (∀ readings s,
    let u := (List.range 7).foldl (fun t d => State.paceDomain (readings.getD d []) t d) s
    let slowest := (List.range 7).foldl (fun m d => max m (u.rd F.PACE_DOM_CYCLE d)) 0
    exec (.paceControlTick readings) s = .next
      ((u.wr F.PACE_STATUS_CEIL (if u.clk.below.isEmpty then 0 else 1)).wr F.PACE_STATUS_RATE
        (if slowest = 0 then 0 else 1000000 / slowest)).atOnce) ∧
  (∀ (highest : Int) s, (s.ef F.PACE_LIMIT_TLIMIT : Int) < highest →
    let u := { s with clk := { s.clk with
      thermCut := min (50 * s.ef F.PACE_TARGET_RATE - 100000) (s.clk.thermCut + s.ef F.PACE_TARGET_RATE) } }
    (s.is F.PACE_STATUS_TLIM = false → exec (.paceThermalStep highest) s = .next ((u.wr F.PACE_STATUS_TLIM 1).raise 22 0x0000).atOnce) ∧
    (s.is F.PACE_STATUS_TLIM = true → exec (.paceThermalStep highest) s = .next u.atOnce)) ∧
  (∀ (highest : Int) s, highest < (s.ef F.PACE_LIMIT_TLIMIT : Int) - 3 →
    let n := min (50 * s.ef F.PACE_TARGET_RATE - 100000) s.clk.thermCut - s.ef F.PACE_TARGET_RATE
    let u := { s with clk := { s.clk with thermCut := n } }
    exec (.paceThermalStep highest) s = .next (if n = 0 then u.wr F.PACE_STATUS_TLIM 0 else u).atOnce) ∧
  (∀ (highest : Int) s, highest ≤ (s.ef F.PACE_LIMIT_TLIMIT : Int) → (s.ef F.PACE_LIMIT_TLIMIT : Int) - 3 ≤ highest →
    exec (.paceThermalStep highest) s = .next s.atOnce)

/-- Which failure of a reference shows, and which does not (R82, R85, R87): a reference that was good, or in a lesser state, takes the state
whose check applies; the failure of a good standby raises EV0013 and moves no clock; of a good active reference that stops, where the
standby is good, every domain is cut to the standby and EV0000 is raised. -/
def Obligations.FailedReferenceTakesItsState : Prop :=
  ∀ (ref v : Nat) (s : State), s.Canonical → ref < 2 → 3 ≤ s.stage → s.wrg.items = [] →
    let t := s.setRef ref v
    (s.activeSrc < 2 → s.activeSrc ≠ ref → s.refState ref = 0 → s.refState s.activeSrc = 0 →
      (∀ d, d < 7 → s.domBusy d = false) → s.refFails ref v = t.raise 13 0x0000) ∧
    (s.activeSrc = ref → s.refState (1 - ref) = 0 → v = 3 → s.refFails ref v = ((t.cutAll (1 - ref)).raise 0 0x0000).runWaiting) ∧
    (s.activeSrc = ref → s.refState (1 - ref) = 0 → v = 2 → s.refFails ref v = (t.switchAll (1 - ref) true).raise 0 0x0000)

/-- The reference judged in error when the references disagree (R84). With the PTP servo locked it is the one whose rate lies further
from the rate measured against PTP time; otherwise it is the standby reference, and the active one is kept. CLK_DIFF shows the
difference in each case. -/
def Obligations.DisagreementJudgesOneReference : Prop :=
  ∀ (ppb : Int) (a b : Nat) (s : State), s.Canonical → s.refState 0 = 0 → s.refState 1 = 0 →
    s.clk.checks = (⟨false, false, false⟩, ⟨false, false, false⟩) → s.ef F.CLK_MON_LIMIT_PPM * 1000 < ppb.natAbs → 3 ≤ s.stage →
    let u := { s with clk := { s.clk with offs := (a, b) } }.wr F.CLK_DIFF_PPB (ppb % 2 ^ 32).toNat
    let inError (w : Nat) : State := (u.setChecks w ⟨false, false, true⟩).refFails w 1
    (s.is F.SCH_PTP_STAT_LOCKED = true → b < a → exec (.ppmWindow ppb a b) s = .next (inError 0).atOnce) ∧
    (s.is F.SCH_PTP_STAT_LOCKED = true → a < b → exec (.ppmWindow ppb a b) s = .next (inError 1).atOnce) ∧
    (∀ active, active < 2 → s.is F.SCH_PTP_STAT_LOCKED = false → s.activeSrc = active →
      exec (.ppmWindow ppb a b) s = .next (inError (1 - active)).atOnce)

/-- Commands and completions of the clock multiplexers and of the clock gates (R90 to R94, R96): a multiplexer command needs its key; a
switch away from a stopped clock never completes and is broken by a hard cut only where HANG_BREAK is 1; a failed reference gives no lock;
a closed gate opens for an access unless it is forced. -/
def Obligations.MuxAndGateCommandsComplete : Prop :=
  (∀ value s, Settles (.clkMuxGlitchFreeSwitch value) s (State.muxKeyed value = true ∧ value.getLsbD 4 = false)
    (s.commandSwitch (State.muxSel value) false)) ∧
  (∀ value s, Settles (.clkMuxHardCut value) s (State.muxKeyed value = true ∧ value.getLsbD 4 = true)
    (s.commandSwitch (State.muxSel value) true)) ∧
  (∀ dom s, Settles (.muxSwitchComplete dom) s
    (dom < 7 ∧ s.domBusy dom = true ∧ ¬ (s.domSrc dom < 2 ∧ s.refState (s.domSrc dom) = 3))
    (s.setDom dom s.clk.target false (s.domHold dom)).switchDone) ∧
  (∀ dom s, Settles (.muxHangBreak dom) s (dom < 7 ∧ s.domBusy dom = true ∧ s.is F.CLK_CTRL_HANG_BREAK = true)
    ((s.cutDom s.clk.target dom).switchDone.raise 40 0x0000)) ∧
  (∀ dom s, Does (.pllRelock dom) s
    (dom < 6 ∧ s.domHold dom = true ∧ (s.domSrc dom = 2 ∨ s.refState (s.domSrc dom) = 0))
    (s.setDom dom (s.domSrc dom) (s.domBusy dom) false)) ∧
  (∀ unit s, (∀ e ∈ s.clk.gateWaiting, e.unit_ ≠ unit) → Does (.gateIdleClose unit) s
    (State.gatedUnit unit = true ∧ s.unitBusy unit = false) (s.setClosed unit true)) ∧
  (∀ unit s, State.gatedUnit unit = true → (∃ e ∈ s.clk.gateWaiting, e.unit_ = unit) → exec (.gateIdleClose unit) s =
    .next ({ s with clk := { s.clk with gateWaiting := s.clk.gateWaiting.filter (·.unit_ != unit) } }.closeForced unit).carryOn) ∧
  (∀ unit s, Does (.gateReopen unit) s (State.gatedUnit unit = true ∧ s.gateClosed unit = true ∧ s.gateForced unit = false)
    (s.setClosed unit false)) ∧
  (∀ bay value pending s, exec (.clkGateForce bay value pending) s = .next (s.forceGates bay value.toNat
    (pending.map fun a => (a.1, ⟨a.2.1, a.2.2.1, a.2.2.2.1, a.2.2.2.2⟩))).carryOn) ∧
  (∀ unit s, (∀ e ∈ s.clk.gateWaiting, e.unit_ ≠ unit) → exec (.forcedGateTimeout unit) s = .next s) ∧
  (∀ unit s e, s.clk.gateWaiting.find? (·.unit_ == unit) = some e →
    let rest := (s.clk.gateWaiting.filter (·.unit_ != unit)).map fun (x : GateWait) => if x.num = e.num then { x with num := 0 } else x
    let u := e.accesses.foldl answerGated { s with clk := { s.clk with gateWaiting := rest } }
    exec (.forcedGateTimeout unit) s = .next ((if e.num = 0 then u else u.raise 41 0x0000).closeForced unit).carryOn)

/-! The packet switch, the scheduler and PTP (spec/11_switch_and_scheduling.md). -/

/-- Frames, links, buffers and address replies of the switch (R344 to R353, R355 to R360, R362, R367, R369). -/
def Obligations.FramesAndLinksComplete : Prop :=
  (∀ lport len mac vlan ip port ptag dscp ect s, s.lportExists lport = true → s.lportUp lport = true → 64 ≤ len → len ≤ 9216 →
    s.acceptsMac lport mac (.skiff ip port ptag dscp ect) = true →
    exec (.frameReceive lport len true mac vlan (.skiff ip port ptag dscp ect)) s = .next
      (s.admitFrame (32 + internalPort ip port ptag) 0 (s.classOf dscp) len (ip, port, ptag) ect).1.atOnce) ∧
  (∀ lport len mac vlan target s, s.lportExists lport = true → s.lportUp lport = true → 64 ≤ len → len ≤ 9216 →
    (s.acceptsMac lport mac (.arp target) = true →
      exec (.frameReceive lport len true mac vlan (.arp target)) s = .next
        (if (s.entryFor lport vlan false target).isSome then s else s.dropOne F.SWC_DROP_OTHER 71 0x0000).atOnce) ∧
    (s.acceptsMac lport mac (.neighbour target) = true →
      exec (.frameReceive lport len true mac vlan (.neighbour target)) s = .next
        (if (s.entryFor lport vlan true target).isSome then s else s.dropOne F.SWC_DROP_OTHER 71 0x0000).atOnce) ∧
    (s.acceptsMac lport mac .ptp = true →
      exec (.frameReceive lport len true mac vlan .ptp) s = .next (if s.ptpPort lport then s else
      s.dropOne F.SWC_DROP_OTHER 71 0x0000).atOnce) ∧
    (s.acceptsMac lport mac .other = true → exec (.frameReceive lport len true mac vlan .other) s =
      .next (s.dropOne F.SWC_DROP_OTHER 71 0x0000).atOnce) ∧
    (s.acceptsMac lport mac .pause = true → exec (.frameReceive lport len true mac vlan .pause) s = .next s.atOnce)) ∧
  (∀ lport s, s.lportExists lport = true → s.lportUp lport = false → s.gateForced (lport / 4) = false →
    s.stage = 5 ∨ s.ready = true → s.is F.CLK_STATUS_WATCH = false →
    exec (.linkStateChange lport true) s = .next
      (((s.wrBit F.SWC_LINK_UP lport true).settleAddrs false).raise 140 (lportUnit lport)).atOnce) ∧
  (∀ lport s, exec (.linkStateChange lport false) s = .next (s.lportDown lport).atOnce) ∧
  (∀ lport ns s, (s.pass ns).lportUp lport = false ∨ (s.pass ns).portOpen lport = false →
    exec (.portTransmit lport ns) s = .next (s.pass ns).atOnce) ∧
  (∀ lport ns s h, (s.pass ns).lportUp lport = true → (s.pass ns).portOpen lport = true → ((s.pass ns).portPick lport).2 = some h →
    exec (.portTransmit lport ns) s = .next (((s.pass ns).portPick lport).1.sendHeld lport h).atOnce) ∧
  (∀ lport s h n, s.sw.residue.find? (·.1.dst == lport) = some (h, n) →
    let u := { s with sw := { s.sw with residue := s.sw.residue.filter (·.1.id != h.id) } }
    exec (.residueTimeout lport) s = .next ((((u.dropOne F.SWC_DROP_RESID 69 0x0000).endCopy h.shared).showBuffer).raiseOnce 130 0 0x0000).atOnce) ∧
  (∀ bank s, bank < 34 → bank ∉ s.sw.banksOut → s.rd F.SWC_BUF_STAT_BANKS ≠ 0 →
    let u := { s with sw := { s.sw with banksOut := s.sw.banksOut ++ [bank] } }
    (0 < s.rd F.SPR_STATUS_BANKS → exec (.bankReplace bank) s = .next
      ((u.wr F.SPR_STATUS_BANKS (u.rd F.SPR_STATUS_BANKS - 1)).raise 132 (bankUnit bank)).atOnce) ∧
    (s.rd F.SPR_STATUS_BANKS = 0 → exec (.bankReplace bank) s = .next
      (((u.wr F.SWC_BUF_STAT_BANKS (u.rd F.SWC_BUF_STAT_BANKS - 1)).showBuffer).raise 133 (bankUnit bank)).atOnce)) ∧
  (∀ lport vlan target s a, s.entryFor lport vlan false target = some a →
    exec (.arpRequest lport vlan target) s = .next ((s.emit (.addressReply a lport)).sendControl lport 64).atOnce) ∧
  (∀ lport vlan target s a, s.entryFor lport vlan true target = some a →
    exec (.neighbourSolicitation lport vlan target) s = .next ((s.emit (.addressReply a lport)).sendControl lport 90).atOnce) ∧
  (∀ entry s, s.entryOn entry = true → (s.sw.announced.filter (· == entry)).length ∈ [1, 2] →
    exec (.announceRepeat entry) s = .next (s.announceEntry entry).atOnce)

/-- A frame that is cut short, too long or fails its FCS is dropped (R344, R350): on a port that is up it adds one to the count of errored
frames, which stays at its greatest value once there, and where no counter or sampler is set up (R490) nothing else of the machine changes;
on a port that is down or does not exist nothing changes at all. -/
def Obligations.BadFrameOnlyCountsAnError : Prop :=
  ∀ (lport len mac : Nat) (ok : Bool) (vlan : Option Nat) (body : FrameBody) (s : State), s.Canonical → len < 64 ∨ 9216 < len ∨ ok = false →
    (s.lportExists lport = true → s.lportUp lport = true →
      exec (.frameReceive lport len ok mac vlan body) s = .next (s.dropOne F.SWC_DROP_ERR 70 0x0000).atOnce ∧
      (s.counting = false → s.fatal = false → ∃ t, exec (.frameReceive lport len ok mac vlan body) s = .next t ∧
        t.rd F.SWC_DROP_ERR = min (s.rd F.SWC_DROP_ERR + 1) (2 ^ F.SWC_DROP_ERR.width - 1) ∧
        (∀ (g : Field) (k l : Nat), g.key k l ≠ F.SWC_DROP_ERR.key 0 0 → t.rd g k l = s.rd g k l) ∧ { t with regs := s.regs } = s)) ∧
    (s.lportExists lport = false ∨ s.lportUp lport = false → exec (.frameReceive lport len ok mac vlan body) s = .next s.atOnce)

/-- Gate lists and PTP (R361 to R366, R369). That a master whose Syncs have stopped is no longer among those announced is the model's choice
(log entry 149). -/
def Obligations.GateListsAndPtpComplete : Prop :=
  (∀ lport ns s, lport < 32 →
    let u := s.pass ns
    let g := u.sw.gates.getD lport ⟨1000000, 0, none⟩
    let gone := u.sw.held.filter fun h => h.dst == lport && h.waited && !u.gateEverFits lport h.svc h.len
    let v := gone.foldl (fun t h => ((t.unhold h).dropOne F.SWC_DROP_GATE 72 0x0000).raiseOnce 134 0 0x0000) u
    let w := if gone.isEmpty then v else v.offerResidue lport 1024
    (u.is F.SCH_GCL_EN lport = true → g.base ≤ u.tod → (u.tod - g.base) % g.cycle = 0 →
      exec (.gateIntervalEnd lport ns) s = .next
        (State.atOnce { w with sw := { w.sw with held := w.sw.held.map fun h => if h.dst = lport then { h with waited := true } else h } })) ∧
    (u.is F.SCH_GCL_EN lport = false → exec (.gateIntervalEnd lport ns) s = .next u.atOnce)) ∧
  (∀ lport s, Settles (.gateListChange lport) s (lport < 32) (s.changeGates lport)) ∧
  (∀ lport ns s c b x, lport < 32 → ((s.pass ns).sw.gates.getD lport ⟨1000000, 0, none⟩).next = some (c, b, x) →
    let u := ((s.pass ns).setGates lport ⟨c, b, none⟩).wr F.SCH_GCL_PENDING 0 lport
    exec (.gateListTakeover lport ns) s = .next
      ((u.wr F.SCH_GCL_OPER (1 - (s.pass ns).rd F.SCH_GCL_OPER lport) lport).raise 136 (lportUnit lport)).atOnce) ∧
  (∀ lport ident rank domain s, s.ptpPort lport = true → domain = s.ef F.SCH_PTP_CFG_DOMAIN → s.ptp.masters = [] →
    s.ptp.chosen = none →
    exec (.announce lport ident rank domain) s = .next
      ({ s with ptp := { s.ptp with masters := [⟨rank, ident, lport⟩], chosen := some ⟨rank, ident, lport⟩, awaiting := none,
                                    sync := none } }.wr F.SCH_PTP_STAT_PORT lport).atOnce) ∧
  (∀ lport ident domain origin ns s, (s.pass ns).fromChosen lport ident domain = true →
    exec (.ptpSync lport ident domain origin true ns) s = .next
      (State.atOnce { s.pass ns with ptp := { (s.pass ns).ptp with awaiting := some (s.pass ns).tod } }) ∧
    exec (.ptpSync lport ident domain origin false ns) s = .next ((s.pass ns).synced lport origin (s.pass ns).tod).atOnce) ∧
  (∀ lport ident domain origin t2 s, s.ptp.awaiting = some t2 → s.fromChosen lport ident domain = true →
    exec (.followUp lport ident domain origin) s = .next (s.synced lport origin t2).atOnce) ∧
  (∀ (lport ident domain sent received t1 t2 : Nat) (s : State), s.ptp.sync = some (t1, t2) → s.fromChosen lport ident domain = true →
    exec (.delayResp lport ident domain sent received) s = .next
      { s with ptp := { s.ptp with delay := (((t2 : Int) - t1) + ((received : Int) - sent)) / 2 } }) ∧
  (∀ s, s.ptp.chosen = none → exec .ptpSyncTimeout s =
    .next (({ s with ptp := { s.ptp with near := 0, far := 0 } }.setLocked false).chooseMaster).atOnce) ∧
  (∀ (s : State) (c : Master), s.ptp.chosen = some c →
    let left := s.ptp.masters.filter fun m => !(m.ident == c.ident && m.lport == c.lport)
    exec .ptpSyncTimeout s = .next (({ s with ptp := { s.ptp with near := 0, far := 0, masters := left } }.setLocked false).chooseMaster).atOnce)

/-! Skiff (spec/04_skiff_transport.md). -/

/-- Packets that arrive (R103, R110 to R114, R123): a packet that is well formed and addressed to this NP32 is taken in by the flow machinery of its
kind; a message of a type that no host may send is malformed. What is no Skiff traffic leaves the Skiff engine alone (R97): whatever body it
brings, a packet to another port than SKF_CFG.PORT, a fragment, one with IPv4 options or IPv6 extension headers, one with a wrong UDP checksum,
and over IPv6 one with a checksum of zero, changes neither flow records nor commands. -/
def Obligations.SkiffPacketsComplete : Prop :=
  (∀ h part s, s.isSkiff h = true → mtypeBad h part.mtype = false →
    exec (.msgReceive h part) s = .next (s.packetIn h (.msg part) false).carryOn) ∧
  (∀ h part s, s.isSkiff h = true → mtypeBad h part.mtype = true → exec (.msgReceive h part) s = .next (s.fromSwitch h).1.malformed.carryOn) ∧
  (∀ h ftag offset data s,
    exec (.fdataReceive h ftag offset data) s = .next
      (s.packetIn h (.fdata ftag offset (h.payLen - (if h.enc.isSome then 32 else 0)) data) false).carryOn) ∧
  (∀ h s, s.isSkiff h = true → headBad h false = false →
    exec (.ackReceive h) s = .next ((s.fromSwitch h).1.arrive h .ack (s.fromSwitch h).2).fireDue.atOnce) ∧
  (∀ h n s, s.isSkiff h = true → headBad h false = false →
    let took (code : Nat) : State := ((s.fromSwitch h).1.arrive h (.nak code n) (s.fromSwitch h).2).fireDue.atOnce
    exec (.nakSeq h n) s = .next (took 1) ∧ exec (.nakGen h n) s = .next (took 2) ∧ exec (.nakPending h n) s = .next (took 3) ∧
    exec (.nakRefused h n) s = .next (took 4) ∧ exec (.nakShelf h n) s = .next (took 5) ∧ exec (.nakKeyfull h n) s = .next (took 6) ∧
    exec (.nakChainfull h n) s = .next (took 7)) ∧
  (∀ (h : SkHdr) (s : State), h.dport ≠ s.rd F.SKF_CFG_PORT ∨ h.fragment = true ∨ h.ipPlain = false ∨
       (h.csumOk = false ∧ h.csumZero = false) ∨ (h.csumOk = false ∧ h.v6 = true) → s.fatal = false →
     exec (.ackReceive h) s = .next s ∧ (∀ n, exec (.nakGen h n) s = .next s ∧ exec (.nakSeq h n) s = .next s) ∧
     (∀ part, exec (.msgReceive h part) s = .next s.carryOn) ∧
     (∀ ftag offset data, exec (.fdataReceive h ftag offset data) s = .next s.carryOn))

/-- Skiff control (R120, R121, R126 to R128): a key is entered while the table of 65,536 has room or holds the address and tag already,
and is refused with NAK 6 and EV0070 otherwise; a revocation releases it; a chain of a listed kind and length is armed while there is room,
and is refused with NAK 7 and EV0071 otherwise; a cancel removes the chains of its identifier. -/
def Obligations.SkiffControlCompletes : Prop :=
  (∀ flow msgid key s,
    let t := s.takeControl flow 2 msgid
    (t.1.hasKey flow.ip flow.ptag = true ∨ t.1.skf.keys.length < 65536 →
      exec (.keyreg flow msgid key) s = .next (t.1.setKey flow.ip flow.ptag (key % 2 ^ 64)).atOnce) ∧
    (t.1.hasKey flow.ip flow.ptag = false → 65536 ≤ t.1.skf.keys.length →
      exec (.keyreg flow msgid key) s = .next ((t.1.sendNak flow 6 t.2 0 none).raise 70 0x8000).atOnce)) ∧
  (∀ flow msgid s,
    exec (.keyrevoke flow msgid) s = .next ((s.takeControl flow 3 msgid).1.releaseKey flow.ip flow.ptag)) ∧
  (∀ flow msgid kind id trigger entries enc s, 1 ≤ kind → kind ≤ 3 → entries ≠ [] → entries.length ≤ 8 →
    let t := s.takeControl flow 4 msgid
    (t.1.chainFull flow.ip flow.ptag id entries.length = false → exec (.chainpost flow msgid kind id trigger entries enc) s = .next
      (State.atOnce
        { t.1 with skf := { t.1.skf with chains := t.1.skf.chains ++ [⟨flow.ip, flow.port, flow.ptag, kind, id, trigger, entries, enc⟩] } })) ∧
    (t.1.chainFull flow.ip flow.ptag id entries.length = true → exec (.chainpost flow msgid kind id trigger entries enc) s = .next
      ((t.1.sendNak flow 7 t.2 0 none).raise 71 0x8000).atOnce)) ∧
  (∀ flow msgid id s,
    let t := (s.takeControl flow 5 msgid).1
    exec (.chaincancel flow msgid id) s = .next
      { t with skf := { t.skf with chains := t.skf.chains.filter fun c => !(c.ip == flow.ip && c.ptag == flow.ptag && c.chainId == id) } })

/-- Timers of flows (R108, R111, R115, R116, R118, R120, R133). A retransmission timer runs BASE × 2^n µs, CAP at most, from when its
packet was sent, with the BASE and CAP that stood then (R134). -/
def Obligations.FlowTimersComplete : Prop :=
  (∀ flow s f, s.flowAt flow = some f → 0 < f.ackDue → exec (.ackDelayExpiry flow) s = .next (s.sendAck flow).atOnce) ∧
  (∀ flow s f p rest sent base cap, s.flowAt flow = some f → f.sent = p :: rest → f.times.lookup p.1 = some (sent, base, cap) →
    let u := s.passTo (sent + 1000 * min cap (base * 2 ^ f.timeouts))
    (f.timeouts + 1 < u.ef F.SKF_RTO_LIMIT → exec (.retransmissionTimeout flow) s = .next
      ((u.setFlow { f with timeouts := f.timeouts + 1, cwnd := max 16 (f.cwnd / 2) }).retransmit flow p.1).atOnce) ∧
    (u.ef F.SKF_RTO_LIMIT ≤ f.timeouts + 1 → flow.ptag ≠ 0xFFFF → exec (.retransmissionTimeout flow) s = .next
      ((u.loseFlow f).raise 67 0x8000).fireDue.atOnce) ∧
    (u.ef F.SKF_RTO_LIMIT ≤ f.timeouts + 1 → flow.ptag = 0xFFFF → exec (.retransmissionTimeout flow) s = .next
      (((u.loseFlow f).raise 67 0x8000).raise 74 (u.fedUnit flow.ip)).fireDue.atOnce)) ∧
  (∀ flow s f, s.flowAt flow = some f → idleFlow f = true → exec (.flowIdleDrop flow) s = .next (s.dropFlow flow)) ∧
  (∀ flow s f g, s.flowAt flow = some f → f.onDie = false → (s.restore f).flowAt flow = some g → g.onDie = true →
    exec (.recordRestore flow) s = .next (((s.restore f).unpark flow).pumpFlow flow 600).carryOn) ∧
  (∀ ip ptag s, Does (.reachKeyRelease ip ptag) s (∀ f ∈ s.skf.flows, ¬ (f.ip = ip ∧ f.ptag = ptag)) (s.releaseKey ip ptag))

/-- SRTT and the window on an acknowledgement (R114's pseudocode): an acknowledgement of what lies outside the window, or that goes back,
changes nothing; any other moves SND_UNA, ends the count of timeouts, and keeps the window, in 1/16 packets, between 16 and its greatest
value; the first sample becomes SRTT, a later one moves it by an eighth of the signed 32-bit difference. -/
def Obligations.AcknowledgementMovesTheWindow : Prop :=
  ∀ (f : Flow) (ackseq tsecr now most target : Nat) (ece : Bool), 16 ≤ f.cwnd → f.cwnd ≤ most → f.srtt < 65536 →
    let g := onAck f ackseq ece tsecr now most target
    let sample := (now + 2 ^ 32 - tsecr % 2 ^ 32) % 2 ^ 32
    let srtt := if tsecr = 0 then f.srtt else if f.srtt = 0 then min sample 65535 else smooth sample f.srtt
    (before ackseq f.sndUna = true ∨ before f.sndNxt ackseq = true → g = f) ∧
    (before ackseq f.sndUna = false → before f.sndNxt ackseq = false →
      g.sndUna = ackseq ∧ g.timeouts = 0 ∧ g.srtt = srtt ∧ g.srtt < 65536 ∧ 16 ≤ g.cwnd ∧ g.cwnd ≤ most ∧
      (ece = false → srtt ≤ target → g.cwnd = min most (f.cwnd + Machine.serial ackseq f.sndUna * 256 / f.cwnd)) ∧
      (ece = true → (ackseq + 65536 - f.cutSeq % 65536) % 65536 < 0x8000 → g.cwnd = max 16 (f.cwnd / 2)))
/-! NVMe over Skiff (spec/05_nvme_target.md). -/

/-- Connect (R136, R138 to R141): with every check of R139 passed, an admin Connect makes an association with the lowest free CNTLID, the
SUB of the matching NVT_HOST entry and the held keep-alive time, and is answered with that CNTLID; an I/O Connect adds its queue to its
association; a Connect that a row of the table refuses is answered with that row's status. -/
def Obligations.ConnectsComplete : Prop :=
  ∀ c qid sqsize kato hostid data nqn s k u, s.connecting c (.connect qid sqsize kato hostid data nqn) = some (k, u) →
    c.bad = false → c.alien = false →
    let id := capId c
    let check := u.connectCheck (u.assocOf id.cntlid) id qid sqsize hostid data nqn
    (∀ n e, qid = 0 → check = none → u.nextCntlid = some n → u.hostEntry hostid = some e →
      ∃ a : Assoc, a.cntlid = n ∧ a.hostid = hostid ∧ a.sub = u.ef F.NVT_HOST_SUB e ∧ a.flow = c.flow ∧ a.kato = u.holdKato kato ∧
        a.queues = [(0, sqsize)] ∧ a.adopted = false ∧
        let v := { u with nvt := { u.nvt with assocs := u.nvt.assocs ++ [a], freed := u.nvt.freed.filter fun f => f.1 != n } }
        let m := v.mirror (.assoc (v.assocRec a false))
        exec (.connect c qid sqsize kato hostid data nqn) s = .next
          (m.1.showTarget.connectAnswer k (1 % (sqsize + 1)) stOk n m.2).carryOn) ∧
    (∀ a, qid ≠ 0 → u.assocOf id.cntlid = some a → check = none →
      let b := { a with
        queues := a.queues ++ [(qid, sqsize)]
        closing := dropFrom a.closing qid
        ioConnected := true
        flow := c.flow
        sqhd := (a.sqhd.filter fun (x : Nat × Nat) => x.1 != qid) ++ [(qid, 1 % (sqsize + 1))] }
      let m := (u.setAssoc b).mirror (.assoc (u.assocRec b false))
      exec (.connect c qid sqsize kato hostid data nqn) s = .next
        (m.1.connectAnswer k (1 % (sqsize + 1)) stOk id.cntlid m.2).carryOn) ∧
    (∀ st ev, check = some (st, ev) →
      exec (.connect c qid sqsize kato hostid data nqn) s = .next
        ((match ev with | some e => u.raise e 0x8000 | none => u).connectAnswer k 0 st 0 none).carryOn)

/-- A command that touches no media, once it is admitted at its delivery, is answered with its effect (R143, R144, R150 to R152, R156, R171
to R174): Flush, Dataset Management without deallocation and Keep Alive at once; Reservation Report, log
pages and Identify with their data, or their status; features and properties with the value. -/
def Obligations.AdmittedCommandsAreAnswered : Prop :=
  (∀ c nsid s a k u, s.admitted c (.flush nsid) = some (a, k, u) →
    exec (.flush c nsid) s = .next (u.answer (capId c) stOk 0 []).carryOn) ∧
  (∀ c nsid nr sgl s a k u, s.admitted c (.dsm nsid nr false sgl []) = some (a, k, u) →
    exec (.datasetManagement c nsid nr false sgl) s = .next (u.answer (capId c) stOk 0 []).carryOn) ∧
  (∀ c s a k u, s.admitted c .keepAlive = some (a, k, u) → exec (.keepAlive c) s = .next (u.answer (capId c) stOk 0 []).carryOn) ∧
  (∀ c n numd eds sgl s a k u, s.admitted c (.rsvReport n numd eds sgl) = some (a, k, u) →
    exec (.reservationReport c n numd eds sgl) s = .next
      (u.answerData (capId c) (sliceOf (rsvReportData u (u.rsvOf n)) 0 (4 * (numd + 1)))).carryOn) ∧
  (∀ c lid n off numd sgl s a k u, s.admitted c (.getLog lid n off numd sgl) = some (a, k, u) →
    (∀ t page, u.logPage a lid n = .inl (t, page) →
      exec (.getLogPage c lid n off numd sgl) s = .next (t.answerData (capId c) (sliceOf page off (4 * (numd + 1)))).carryOn) ∧
    (∀ st, u.logPage a lid n = .inr st → exec (.getLogPage c lid n off numd sgl) s = .next (u.answer (capId c) st 0 []).carryOn)) ∧
  (∀ c cns n cntid csi sgl s a k u, s.admitted c (.identify cns n cntid csi sgl) = some (a, k, u) →
    (∀ page, u.identify a cns n csi = .inl page →
      exec (.identify c cns n cntid csi sgl) s = .next (u.answerData (capId c) page).carryOn) ∧
    (∀ st, u.identify a cns n csi = .inr st → exec (.identify c cns n cntid csi sgl) s = .next (u.answer (capId c) st 0 []).carryOn)) ∧
  (∀ c sqid cid s a k u, s.admitted c (.abort sqid cid) = some (a, k, u) →
    exec (.abort c sqid cid) s = .next (u.abortCmd k sqid cid).carryOn) ∧
  (∀ c fid n value s a k u, s.admitted c (.setFeatures fid n value) = some (a, k, u) →
    let r := u.setFeature a fid n value
    exec (.setFeatures c fid n value) s = .next (r.1.answer (capId c) r.2.1 r.2.2 []).carryOn) ∧
  (∀ c fid n sgl s a k u, s.admitted c (.getFeatures fid n sgl) = some (a, k, u) →
    (fid = 0x81 → exec (.getFeatures c fid n sgl) s = .next (u.answerData (capId c) a.hostid).carryOn) ∧
    (fid ≠ 0x81 → exec (.getFeatures c fid n sgl) s = .next
      (u.answer (capId c) (u.getFeature a fid n).1 (u.getFeature a fid n).2 []).carryOn)) ∧
  (∀ c s a k u, s.admitted c .aer = some (a, k, u) →
    (∀ x rest, a.notices = x :: rest → exec (.asynchronousEventRequest c) s = .next
      ((u.setAssoc { a with notices := rest }).answer (capId c) stOk x []).carryOn) ∧
    (a.notices = [] → a.aers.length < 8 → exec (.asynchronousEventRequest c) s = .next
      (u.setAssoc { a with aers := a.aers ++ [capId c] }).carryOn) ∧
    (a.notices = [] → 8 ≤ a.aers.length → exec (.asynchronousEventRequest c) s = .next
      (u.answer (capId c) stInvalidField 0 []).carryOn)) ∧
  (∀ c off value s a k u, s.admitted c (.propertySet off value) = some (a, k, u) →
    (off = 0x14 → exec (.propertySet c off value) s = .next
      ((u.setAssoc { a with
        cc := value % 2 ^ 32
        shst := if value / 2 ^ 14 % 4 ≠ 0 then 2 else if value % 2 = 0 then 0 else a.shst }).answer (capId c) stOk 0 []).carryOn) ∧
    (off ≠ 0x14 → exec (.propertySet c off value) s = .next (u.answer (capId c) stInvalidField 0 []).carryOn)) ∧
  (∀ c off s a k u, s.admitted c (.propertyGet off) = some (a, k, u) →
    (∀ v, propertyValue a off = some v → exec (.propertyGet c off) s = .next (u.answer (capId c) stOk v []).carryOn) ∧
    (propertyValue a off = none → exec (.propertyGet c off) s = .next (u.answer (capId c) stInvalidField 0 []).carryOn)) ∧
  (∀ c s a k u, s.admitted c .disconnect = some (a, k, u) →
    (c.qid = 0 → exec (.disconnect c) s = .next (u.answer (capId c) stOk 0 []).carryOn) ∧
    (c.qid ≠ 0 → exec (.disconnect c) s = .next
      ((u.setAssoc { a with
        queues := a.queues.filter fun (x : Nat × Nat) => x.1 != c.qid
        closing := addTo a.closing c.qid }).answer (capId c) stOk 0 []).carryOn))

/-- A read, Compare, write, Write Zeroes or deallocation that is admitted at its delivery is held with its command context and its place in
the order of admission, and goes on from there as far as it can (R145 to R147, R149, R150, R160, R162). -/
def Obligations.AdmittedMediaCommandsGoOn : Prop :=
  (∀ c io s a k u, s.admitted c (.read io) = some (a, k, u) →
    u.cmdOf (capId c) = some k ∧ k.phase = 1 ∧ k.ctx = true ∧ exec (.read c io) s = .next u.carryOn) ∧
  (∀ c io s a k u, s.admitted c (.compare io) = some (a, k, u) →
    u.cmdOf (capId c) = some k ∧ k.phase = 1 ∧ k.ctx = true ∧ exec (.compare c io) s = .next u.carryOn) ∧
  (∀ c io s a k u, s.admitted c (.write io) = some (a, k, u) →
    u.cmdOf (capId c) = some k ∧ k.phase = 1 ∧ k.ctx = true ∧ exec (.write c io) s = .next u.carryOn) ∧
  (∀ c io s a k u, s.admitted c (.writeZeroes io) = some (a, k, u) →
    u.cmdOf (capId c) = some k ∧ k.phase = 1 ∧ k.ctx = true ∧ exec (.writeZeroes c io) s = .next u.carryOn) ∧
  (∀ c nsid nr sgl s a k u, s.admitted c (.dsm nsid nr true sgl []) = some (a, k, u) →
    u.cmdOf (capId c) = some k ∧ k.phase = 1 ∧ k.ctx = true ∧ exec (.datasetManagement c nsid nr true sgl) s = .next u.carryOn)

/-- Reservation Register, Acquire and Release (R153, R155, R172 to R174). Admitted at its delivery, each is held in its place of the order
while its keys are fetched; once they have come it takes effect as the command with those keys, and its record goes to the journal. -/
def Obligations.ReservationCommandsTakeEffectWithTheirKeys : Prop :=
  (∀ c n act ign cptpl g s a k u, s.admitted c (.rsvRegister n act ign cptpl g 0 0) = some (a, k, u) →
    u.cmdOf (capId c) = some k ∧ k.phase = 1 ∧ k.ctx = true ∧ exec (.reservationRegister c n act ign cptpl g) s = .next u.carryOn) ∧
  (∀ c n act t ign g s a k u, s.admitted c (.rsvAcquire n act t ign g 0 0) = some (a, k, u) →
    u.cmdOf (capId c) = some k ∧ k.phase = 1 ∧ k.ctx = true ∧ exec (.reservationAcquire c n act t ign g) s = .next u.carryOn) ∧
  (∀ c n act t ign g s a k u, s.admitted c (.rsvRelease n act t ign g 0) = some (a, k, u) →
    u.cmdOf (capId c) = some k ∧ k.phase = 1 ∧ k.ctx = true ∧ exec (.reservationRelease c n act t ign g) s = .next u.carryOn) ∧
  (∀ (s : State) (a : Assoc) (k : Cmd) buf,
    (∀ n act ign cptpl g x y, k.req = Req.withData (.rsvRegister n act ign cptpl g x y) buf → s.executePlain a k =
      s.reserve k a.hostid n (rsvRegister (s.rsvOf n) a.hostid act ign cptpl (buf % 2 ^ 64) (buf / 2 ^ 64 % 2 ^ 64)) false false) ∧
    (∀ n act t ign g x y, k.req = Req.withData (.rsvAcquire n act t ign g x y) buf → s.executePlain a k =
      s.reserve k a.hostid n (rsvAcquire (s.rsvOf n) a.hostid act t ign (buf % 2 ^ 64) (buf / 2 ^ 64 % 2 ^ 64)) (act == 2) false) ∧
    (∀ n act t ign g x, k.req = Req.withData (.rsvRelease n act t ign g x) buf → s.executePlain a k =
      s.reserve k a.hostid n (rsvRelease (s.rsvOf n) a.hostid act t ign (buf % 2 ^ 64)) false (act == 1)))

/-- What happens to a command or association later (R28, R29, R144, R146, R162, R175 to R178, R237): a context goes to the next waiting capsule while
admission goes on; a lost host's association ends with EV0193; a command that is not answered at its cut point is answered with Command
Interrupted, in place of an answer that is due; a write commits where its commit point has been reached; an item still open at its fallback point
falls back. Elapsed time moves up to the cut point and to the fallback point. Elsewhere nothing changes. The times are fixed at the delivery: the
answer point is one deadline after it, the cut point of an unpaired NP32 30 µs before the answer point and of a paired twin 1,200 µs, and an item
that the command waits on falls back 250 µs before the answer point, or in a paired twin before the cut point; an item that no command waits on
has one deadline. -/
def Obligations.ContextAndCutPointsComplete : Prop :=
  (∀ s, s.admissionHalted = false → s.twn.stopped = false →
    (∀ k, s.nextWaiting = some k → exec .contextAssign s = .next (s.giveContext k.id).carryOn) ∧
    (s.nextWaiting = none → exec .contextAssign s = .next s)) ∧
  (∀ s, s.admissionHalted = true ∨ s.twn.stopped = true → exec .contextAssign s = .next s) ∧
  (∀ cntlid s, Does (.keepAliveExpiry cntlid) s ((s.assocOf cntlid).isSome = true) ((s.endAssoc cntlid).raise 193 0x8000).carryOn) ∧
  (∀ cntlid qid cid msgid s k,
    s.nvt.cmds.find? (fun k => k.id.cntlid % 65536 == cntlid && k.id.qid == qid && k.id.cid == cid && k.id.msgid == msgid) = some k →
    k.req ≠ .aer → k.req.silent = false →
    let u := s.passTo (s.cutPoint k)
    let interrupted (t : State) : State := ((t.countOpen 0x200 0x1001 0x8000).raiseOnce 197 0 0x8000).carryOn
    (k.due = none → k.phase < 2 → exec (.cutPoint cntlid qid cid msgid) s = .next (interrupted (u.failCmd k.id stInterrupted))) ∧
    (k.due = none → k.phase = 2 → exec (.cutPoint cntlid qid cid msgid) s = .next (interrupted (u.answer k.id stInterrupted 0 []))) ∧
    (k.due ≠ none → k.phase < 3 → exec (.cutPoint cntlid qid cid msgid) s = .next (interrupted (u.takeBack k.id stInterrupted))) ∧
    (k.phase = 3 → exec (.cutPoint cntlid qid cid msgid) s = .next s)) ∧
  (∀ cntlid qid cid msgid s k, s.cmdOf ⟨cntlid, qid, cid, msgid⟩ = some k →
    Does (.commitPoint cntlid qid cid msgid) s (s.commitReady k = true) (s.commit ⟨cntlid, qid, cid, msgid⟩).carryOn) ∧
  (∀ tag s, (∀ it, s.itemOf tag = some it → exec (.fallbackPoint tag) s = .next ((s.passTo it.fallAt).fallBack tag).carryOn) ∧
    (s.itemOf tag = none → exec (.fallbackPoint tag) s = .next s)) ∧
  (∀ (c : Capsule) (req : Req) (n at_ point : Nat) (s : State), req ≠ .aer → s.cmdOf (capId c) = none →
     let u := s.holdCmd c req n at_ point
     ∃ k, u.cmdOf (capId c) = some k ∧ k.at_ = at_ ∧ k.answerAt = point ∧
       (u.twinState ≠ 2 → u.cutPoint k = point - 30000 ∧ u.itemPoint (some k) = point - 250000) ∧
       (u.twinState = 2 → u.cutPoint k = point - 1200000 ∧ u.itemPoint (some k) = point - 1200000 - 250000) ∧
       u.itemPoint none = u.now + u.deadline)

/-! Heats, turns and the power-fail drain (spec/06_hampers_and_heats.md). -/

/-- The turn and the drain (R184, R185, R187, R188, R192, R195, R198, R199, R283, R290, R509): each step of the drain where it stands, the
rise of PWR_FAIL_N, the turn with which admission resumes, the twin's turn mark, a planned handover at the turn after its request, and
buffers that go to the stage that waits. -/
def Obligations.HeatsAndDrainComplete : Prop :=
  (∀ t s, Does (.turn t) s (s.ready = true ∧ s.rd F.HMP_PFAIL_STATE = 0 ∧ s.follows = false) (s.turn t none).carryOn) ∧
  (∀ h heat len master pref late t s u, s.frameIn h = some u →
    exec (.turnMark h heat len master pref late t) s = .next (u.takeMark heat len master pref late t).carryOn) ∧
  (∀ high t s,
    let u := { s with hmp := { s.hmp with pfLow := true } }
    (s.ready = false → exec (.powerFailDrain high t) s = .next s) ∧
    (s.ready = true → s.rd F.HMP_PFAIL_STATE = 0 → s.twinState ≠ 3 →
      exec (.powerFailDrain high t) s = .next (u.startDrain high t).carryOn) ∧
    (s.ready = true → s.rd F.HMP_PFAIL_STATE = 0 → s.twinState = 3 → exec (.powerFailDrain high t) s = .next u) ∧
    (s.ready = true → s.rd F.HMP_PFAIL_STATE = 3 → exec (.powerFailDrain high t) s = .next (u.wr F.HMP_PFAIL_STATE 2)) ∧
    (s.ready = true → s.rd F.HMP_PFAIL_STATE = 1 ∨ s.rd F.HMP_PFAIL_STATE = 2 → exec (.powerFailDrain high t) s = .next u)) ∧
  (∀ s,
    let u := (s.crw.drives.filter (·.cache)).foldl (fun t d => t.issueBay d.bay .flush) s
    Settles .drainMediaWritesEnd s (s.hmp.drain = 4 ∧ s.mediaBusy = false) { u with hmp := { u.hmp with drain := 6 } }) ∧
  (∀ s,
    let u := s.crw.crews.foldl (fun t e => t.checkpoint e.1 true) s
    Does .drainFlushComplete s (s.hmp.drain = 6 ∧ ∀ o ∈ s.crw.ios, o.op ≠ .flush)
      ({ u with hmp := { u.hmp with drain := 7 } } : State).carryOn) ∧
  (∀ s,
    let len := min 65535 ((s.now - s.hmp.drainAt) / 10000)
    let u := (s.wr F.HMP_PFAIL_DRAIN len).logOpen kPFail [len]
    Settles .drainCleanMarkComplete s (s.hmp.drain = 7 ∧ s.mediaBusy = false)
      ({ u with hmp := { u.hmp with drain := 8 } }.wr F.HMP_PFAIL_STATE (if s.hmp.pfLow = true then 2 else 3))) ∧
  (∀ s,
    let u := { s with hmp := { s.hmp with pfLow := false } }
    (s.rd F.HMP_PFAIL_STATE = 2 → exec .pwrFailNRise s = .next (u.wr F.HMP_PFAIL_STATE 3)) ∧
    (s.rd F.HMP_PFAIL_STATE ≠ 2 → exec .pwrFailNRise s = .next u)) ∧
  (∀ t s, Does (.admissionResume t) s (s.rd F.HMP_PFAIL_STATE = 3)
    (({ s with hmp := { s.hmp with drain := 0 } }.wr F.HMP_PFAIL_STATE 0).turn t none).blowSoft.carryOn) ∧
  (∀ s crews back heat, s.twn.handing = some (crews, back, heat) →
    Does .plannedHandover s (s.ready = true ∧ s.twinState = 2 ∧ s.is F.TWN_STATUS_LINK = true ∧ heat < s.heat)
      (s.handOverCrews crews back).carryOn) ∧
  (∀ hamper s u owner, hamper ≠ 8 → hamper ≠ 9 → hamper ≠ 14 → s.grantBuffers hamper = (u, some owner) →
    exec (.hamperBufferGrant hamper) s = .next u.carryOn) ∧
  (∀ hamper s, (s.grantBuffers hamper).2 = none → exec (.hamperBufferGrant hamper) s = .next s)

/-- Buffers go to the waits of a hamper in their order (R184, R185): the wait that is met is the first in the list that no earlier wait
stands before and that the hamper can hold; it leaves the waits, and its buffers are held for its owner. -/
def Obligations.BuffersGoToTheOldestWait : Prop :=
  ∀ (h : Nat) (s u : State) (owner : Nat × Nat × Nat), s.counting = false → s.grantBuffers h = (u, some owner) →
    ∃ w ∈ s.hmp.waits, w.hamper = h ∧ w.owner = owner ∧ s.canHold h owner w.n = true ∧
      s.waitsBehind h owner (s.waitsBefore h owner) = false ∧
      u.hmp.holds = s.hmp.holds ++ [⟨h, owner, w.n⟩] ∧ (∀ x ∈ u.hmp.waits, ¬ (x.hamper = h ∧ x.owner = owner)) ∧
      (∀ x ∈ s.hmp.waits, ¬ (x.hamper = h ∧ x.owner = owner) → x ∈ u.hmp.waits)

/-! Crews (spec/07_crews_and_parity.md). -/

/-- Assembly and rows (R211, R212, R219, R241, R253, R254): a crew whose drives carry no label is initialised where INIT asks for it; one of
which every seat is found enters service, and after the wait one with at most two seats missing; a row lock goes to the next job; a replay's
clean mark is written; drive commands complete, fail or are hedged. -/
def Obligations.AssemblyAndRowsComplete : Prop :=
  (∀ crew media s, crew < 8 → s.mayAssemble crew = true →
    (∀ ds, s.labelsOf crew = [] → s.is F.CRW_CREW_INIT crew = true → s.namedLabels crew = [] → s.namedDrives crew = some ds →
      exec (.crewAssembly crew media) s = .next (s.initialise crew ds).carryOn ∧
      exec (.assemblyWaitExpiry crew media) s = .next (s.initialise crew ds).carryOn) ∧
    (∀ k l rest, countedLabels (s.labelsOf crew) = (k, l) :: rest → (s.labelsOf crew).isEmpty = false →
      let counted := countedLabels (s.labelsOf crew)
      let seats := (List.range (s.nOf crew)).map (foundSeat counted l.states)
      let changed := (indexed seats).any fun p => labelState p.2.st != l.states.getD p.1 0
      let u := (s.strangers crew l.print).enterCrew crew (newCrew l.print l.gen l.smin seats s.startNo s.heat) media l.states changed false
      (((List.range (s.nOf crew)).all fun i => counted.any fun c => c.2.seat == i) = true →
        exec (.crewAssembly crew media) s = .next u.carryOn ∧ exec (.assemblyWaitExpiry crew media) s = .next u.carryOn) ∧
      (((List.range (s.nOf crew)).all fun i => counted.any fun c => c.2.seat == i) = false →
        exec (.crewAssembly crew media) s = .next s.carryOn ∧
        (badSeats seats ≤ 2 → exec (.assemblyWaitExpiry crew media) s = .next u.carryOn) ∧
        (2 < badSeats seats → exec (.assemblyWaitExpiry crew media) s = .next ((s.strangers crew l.print).notAssembled crew).carryOn)))) ∧
  (∀ crew s c b, s.crewOf crew = some c → c.replayed = some b → c.replayFlushed = true →
    (∀ o ∈ s.crw.ios, ¬ (o.crew = crew ∧ o.heat = replayHeat ∧ o.op = .flush)) →
    let u := s.modCrew crew fun d => { d with replayed := none }
    let mark := { b with entries := b.entries.take 3 ++ [(liveOf c).1, (liveOf c).2] }
    exec (.replayCleanMark crew) s = .next ((u.modSegment crew c.seg.heat fun g =>
      { g with blocks := g.blocks ++ [mark] }).settleSegment crew c.seg.heat).carryOn) ∧
  (∀ crew row s j, s.rowLocked crew row = false →
    s.crw.jobs.find? (fun j => j.crew == crew && j.row == row && j.lockWait && !s.earlierUpdate j) = some j →
    exec (.rowLockGrant crew row) s = .next ((s.setJob { j with lock := true, lockWait := false }).advanceReads j.id).carryOn) ∧
  (∀ io result latency s o, s.ioOf io = some o →
    exec (.driveCommandCompletion io result latency) s = .next (s.ioEnds o result latency).carryOn ∧
    exec (.driveCommandTimeout io) s = .next (s.commandFails o).carryOn ∧
    Does (.drivePathErrorWaitEnd io) s (o.path = true) (s.commandFails { o with path := false }).carryOn) ∧
  (∀ io s, s.ioOf io = none → exec (.driveCommandTimeout io) s = .next s ∧ exec (.drivePathErrorWaitEnd io) s = .next s ∧
    exec (.readHedge io) s = .next s ∧ ∀ result latency, exec (.driveCommandCompletion io result latency) s = .next s) ∧
  (∀ io s o lba j c, s.ioOf io = some o → o.op = .read lba → s.jobOf o.job = some j → s.crewOf o.crew = some c →
    Does (.readHedge io) s
      (o.hedged = false ∧ j.phase = 0 ∧
        ((List.range c.seats.length).filter fun i => i == o.seat || !j.avail c i lba).length ≤ 2)
      (((((s.setIo { o with hedged := true }).setJob { j with slow := j.slow ++ [(o.seat, lba)] }).countOpen 0x280 5
        (crewUnit o.crew)).seatOnce 301 0 o.crew o.seat).advanceReads j.id).carryOn)

/-- The journal, the maps and patrol (R222, R228, R231, R235, R240, R244, R245). -/
def Obligations.JournalAndMapsComplete : Prop :=
  (∀ vol grain s,
    let late (st : Stripe) : Stripe :=
      { st with grains := st.grains.map fun p => if p.grain = grain && p.path = 0 then { p with path := 2 } else p }
    exec (.holdExpiry vol grain) s = .next
      (s.modVol vol fun x => { x with host := x.host.map late, reloc := x.reloc.map late }).carryOn) ∧
  (∀ crew s c, s.crewOf crew = some c → exec (.journalBlockFlush crew) s = .next
    ((s.closeBlocks crew c.seg.heat 0).closeBlocks crew c.seg.heat 2).carryOn) ∧
  (∀ io s o slot kind heat index image, s.ioOf io = some o → o.op = .block slot kind heat index image →
    exec (.journalBlockWritten io 0) s = .next ((s.dropIo o.id).blockDone o kind heat index).carryOn ∧
    (∀ status, status ≠ 0 → exec (.journalBlockWritten io status) s = .next ((s.noteStatus o status).commandFails o).carryOn)) ∧
  (∀ crew heat s c g, s.crewOf crew = some c → c.old.find? (·.heat == heat) = some g → s.onMedia crew g = true →
    s.passedSince crew heat = true →
    let kept := (s.releaseSegment crew g).keepRsv crew fun h => h.heat == heat
    let u := (kept.modCrew crew fun d => { d with old := d.old.filter fun (x : Segment) => x.heat != heat }).freeSlots crew [(g.start, g.heat)]
    exec (.segmentFree crew heat) s = .next (u.freeFound crew).carryOn) ∧
  (∀ vol s x, s.volOf vol = some x → x.priv = true → s.engineRests = false →
    (x.passRun = none → exec (.mapPass vol) s = .next (s.beginPass x).carryOn) ∧
    (x.passRun.isSome = true → exec (.mapPass vol) s = .next ((s.setVol { x with passDue := true }).raise 268 (crewUnit x.crew)))) ∧
  (∀ vol s x p h, s.volOf vol = some x → x.passRun = some (p, h) → (∀ j ∈ s.crw.jobs, ¬ (j.kind = 5 ∧ j.vol = vol)) →
    let copy := 1 - x.copy
    let y := { x with pass := p, passHeat := h, copy := copy, passRun := none }
    let place := Config.mapHeaderAt vol copy
    let u := ((s.issueIo x.crew (place.1 % s.nOf x.crew) (.write place.2 (mapHeader p h x.cap) true) s.heat 0).setVol y).showPvol vol
    (x.passDue = false → exec (.mapPassComplete vol) s = .next u.carryOn) ∧
    (x.passDue = true → u.engineRests = false → exec (.mapPassComplete vol) s = .next (u.beginPass y).carryOn)) ∧
  (∀ vol s x, s.volOf vol = some x → x.gc = true → x.gcItem = none → s.engineRests = false →
    (∀ j ∈ s.crw.jobs, ¬ ((j.kind = 6 ∨ j.kind = 11) ∧ j.vol = vol)) → s.assisted 3 = false →
    exec (.gcRound vol) s = .next (s.collectOwn vol).carryOn) ∧
  (∀ crew s c, s.crewOf crew = some c → s.ef F.CRW_PATROL_EN ≠ 0 → s.engineRests = false → c.patrolItem = none → c.days ≠ 0 →
    s.patrolOpen c = true → (∀ j ∈ s.crw.jobs, ¬ (j.crew = crew ∧ j.kind = 3)) →
    let next := s.rd F.CRW_CREW_PATROL_ROW crew
    (next < s.rd F.CRW_CREW_ROWS crew → s.patrolSkips crew next c = true → exec (.patrolRow crew) s = .next
      ((s.modCrew crew fun d => { d with skipped := addTo d.skipped next }).wr F.CRW_CREW_PATROL_ROW (next + 1) crew).carryOn) ∧
    (∀ u, next < s.rd F.CRW_CREW_ROWS crew → s.patrolSkips crew next c = false → s.patrolRow crew next c = (u, true) →
      exec (.patrolRow crew) s = .next (u.wr F.CRW_CREW_PATROL_ROW (next + 1) crew).carryOn) ∧
    (s.rd F.CRW_CREW_ROWS crew ≤ next → c.skipped = [] → exec (.patrolRow crew) s = .next
      (((s.modCrew crew fun d => { d with days := 0, windows := [] }).wr F.CRW_CREW_PATROL_ROW 0 crew).raise 284 (crewUnit crew)).carryOn))

/-- Seats that fail, lag or come back (R255, R258 to R260, R266): the ladder's next step or its end, the laggard check of every seat, the
oldest write of a catch-up log, the end of easy, its limits, which fail the seat with EV0293, and the next row of a rebuild. -/
def Obligations.DegradedSeatsComplete : Prop :=
  (∀ crew seat s x k, s.seatOf crew seat = some x → x.ladder = some k → x.ladderItem = none →
    exec (.recoveryLadderStep crew seat true) s = .next (s.ladderDone crew seat).carryOn ∧
    exec (.recoveryLadderStep crew seat false) s = .next (s.nextLadder crew seat (k + 1)).carryOn) ∧
  (∀ crew s c, s.crewOf crew = some c → exec (.laggardCheck crew) s = .next
    ((List.range c.seats.length).foldl (fun t i => t.checkLaggard crew (medianE2 c) i) s).carryOn) ∧
  (∀ crew seat s x e, s.seatOf crew seat = some x → x.st = 1 ∨ x.st = 3 → x.log = [e] → e.busy = false →
    exec (.catchUpWrite crew seat) s = .next
      (((s.modSeat crew seat fun y => { y with log := y.log.map fun q => if q == e then { q with busy := true } else q }).issueIo
        crew seat (.write e.lba e.value false) e.heat 0).countOpen 0x280 6 (crewUnit crew)).atOnce) ∧
  (∀ crew seat s x t, s.seatOf crew seat = some x → x.below = some t → Does (.easyClear crew seat) s
    (x.st = 1 ∧ x.byLadder = false ∧ x.log = [] ∧ t + 100000000 * s.ef F.CRW_EASY_CLEAR ≤ s.now)
    (s.backInService crew seat true).carryOn) ∧
  (∀ crew seat s x, s.seatOf crew seat = some x → Does (.easyLimitExpiry crew seat) s (x.st = 1) (s.failSeat crew seat 293).carryOn) ∧
  (∀ crew seat s, Does (.catchUpFullExpiry crew seat) s
    (∃ w ∈ s.hmp.waits, w.hamper = 8 ∧ w.owner.1 = 2 ^ 65 + crew ∧ w.owner.2.1 = seat) (s.failSeat crew seat 293).carryOn) ∧
  (∀ crew s c row u, s.crewOf crew = some c → nextRebuildRow c = some row → s.engineRests = false → s.rebuildFirst crew c = true →
    (∀ j ∈ s.crw.jobs, ¬ (j.crew = crew ∧ j.kind = 4)) → s.ownBuffers crew row 4 0 (c.seats.length * s.chunkOf crew) = (u, true) →
    let want := (rebuildTargets c row).flatMap fun i => (List.range (s.chunkOf crew)).map fun o => (i, s.lbaOf crew row o)
    exec (.rebuildRow crew) s = .next
      (u.startJob ⟨0, 4, crew, row, 0, none, want, [], [], [], [], 0, false, false, s.heat, [], [], 0⟩).1.carryOn)

/-! Twins and cross-shelf mirrors (spec/08_degradation_rebuild_takeover.md). -/

/-- Frames of the twin link that arrive intact and in their place (R273, R274, R277, R283, R284, R471): each takes its effect, and the frame
that is expected next is the one after it. A block image or a command record for which there is no buffer is not acknowledged. -/
def Obligations.TwinFramesComplete : Prop :=
  ∀ (h : TwHdr) (s u : State), s.frameIn h = some u →
    exec (.heartbeat h) s = .next (u.takeHeartbeat h.ackseq).carryOn ∧
    (∀ r, (u.holdBlock r).2 = true → exec (.block h r) s = .next (u.holdBlock r).1.carryOn) ∧
    (∀ r t, u.holdBlock r = (t, false) → exec (.block h r) s = .next
      ({ t with twn := { t.twn with rxNext := h.seq } } : State).carryOn) ∧
    (∀ r, (u.holdCmdRec r).2 = true → exec (.cmd h r) s = .next (u.holdCmdRec r).1.carryOn) ∧
    (∀ r t, u.holdCmdRec r = (t, false) → exec (.cmd h r) s = .next
      ({ t with twn := { t.twn with rxNext := h.seq } } : State).carryOn) ∧
    (∀ r, exec (.cmdstate h r) s = .next (u.holdState r).carryOn) ∧
    (∀ r, exec (.assoc h r) s = .next (u.holdAssoc r).carryOn) ∧
    (∀ r, exec (.crew h r) s = .next (u.takeNews r).carryOn) ∧
    (∀ crew heat, exec (.release h crew heat) s = .next (u.releaseHeld crew heat).carryOn) ∧
    (∀ crews back, u.twinState = 2 → exec (.handover h crews back) s = .next (u.takeHandover crews back).carryOn) ∧
    exec (.fatal h) s = .next (u.partnerLost 2).carryOn ∧
    (∀ part, (u.takeSync part).2 = true → exec (.sync h part) s = .next (u.takeSync part).1.carryOn) ∧
    (∀ part t, u.takeSync part = (t, false) → exec (.sync h part) s = .next
      ({ t with twn := { t.twn with rxNext := h.seq } } : State).carryOn)

/-- The twin link and takeover (R192, R270, R274, R277 to R279, R282 to R284, R290): the loss of the partner, the end of a deferral, the end
of the Acquires, what the operator asks for with the key of TWN_CMD, a link that trains between two NP32s with one heat length, and the
heartbeat that a twin sends. -/
def Obligations.TwinEventsComplete : Prop :=
  (∀ s, Does .twinLinkLockLoss s (s.is F.TWN_STATUS_LINK = true)
    (((s.wr F.TWN_STATUS_LINK 0).wr F.HMP_ALIGN_STAT_LEAD 1).partnerLost 0).carryOn) ∧
  (∀ s, Does .twinDeadTimeout s (s.is F.TWN_STATUS_LINK = true) (s.partnerLost 1).carryOn) ∧
  (∀ s, s.twn.deferring = true →
    let u := { s.becomeOwner with twn := { s.becomeOwner.twn with deferring := false } }
    (u.twinState = 3 → u.twn.item = none → exec .takeoverDeferExpiry s = .next u.startTakeover.carryOn) ∧
    (u.twinState ≠ 3 ∨ u.twn.item.isSome = true → exec .takeoverDeferExpiry s = .next u.carryOn)) ∧
  (∀ conflict late torn straps t s,
    (s.twn.taking = false → exec (.acquireComplete conflict late torn straps t) s = .next s) ∧
    (s.twn.taking = true → conflict = true → s.twinState = 3 →
      exec (.acquireComplete conflict late torn straps t) s = .next (s.fence straps)) ∧
    (s.twn.taking = true → conflict = false ∨ s.twinState ≠ 3 →
      exec (.acquireComplete conflict late torn straps t) s = .next ((s.adoptAll late torn).heldDrain t).carryOn)) ∧
  (∀ s, Does .heartbeatSend s (s.twinShelf = true) (s.sendTwin .heartbeat)) ∧
  (∀ value s, twnKeyed value 0 = true →
    Does (.twnCmdHandover value) s (s.twinState = 2 ∧ s.twn.handing = none ∧ s.ownedCrews ≠ [])
      { s with twn := { s.twn with handing := some (s.ownedCrews, false, s.heat) } }) ∧
  (∀ value s, twnKeyed value 1 = true →
    (s.twinState = 6 → exec (.twnCmdTakeover value) s = .next (s.wr F.TWN_STATUS_STATE 3).startTakeover.carryOn) ∧
    (∀ tag, s.twinState = 3 → s.twn.item = some tag → exec (.twnCmdTakeover value) s = .next (s.endItem tag).goTakeover.carryOn)) ∧
  (∀ value s, twnKeyed value 2 = true →
    let back := s.ownedCrews.filter fun n => !s.prefers n
    Does (.twnCmdGiveback value) s (s.twinState = 2 ∧ s.twn.handing = none ∧ back ≠ [])
      { s with twn := { s.twn with handing := some (back, true, s.heat) } }) ∧
  (∀ value s, (twnKeyed value 0 = false → exec (.twnCmdHandover value) s = .next s) ∧
    (twnKeyed value 1 = false → exec (.twnCmdTakeover value) s = .next s) ∧
    (twnKeyed value 2 = false → exec (.twnCmdGiveback value) s = .next s)) ∧
  (∀ heat len master pref running s, s.twinShelf = true → s.is F.TWN_STATUS_LINK = false → s.stage = 5 ∨ s.ready = true →
    s.gateForced 8 = false → s.is F.CLK_STATUS_WATCH = false →
    min 6 len = s.ef F.HMP_HEAT_LEN → pref = s.rd F.TWN_OWN_PREF →
    let a := { s.wr F.TWN_STATUS_LINK 1 with
      twn := { s.twn with
        txNext := 0
        rxNext := 0
        sent := []
        syncing := none
        partnerMaster := some master } }.unframe
    let leads := decide (heat < s.heat) || (heat == s.heat && s.is F.SYS_STRAP_BAY_MASTER)
    let u := { a with twn := { a.twn with unlike := false } }.wr F.HMP_ALIGN_STAT_LEAD (if leads = true then 1 else 0)
    (s.ready = true → running = false → exec (.twinLinkTrained heat len master pref running) s = .next u.syncPartner.carryOn) ∧
    (s.ready = false → running = false →
      exec (.twinLinkTrained heat len master pref running) s = .next (u.wr F.TWN_STATUS_STATE 2).carryOn) ∧
    (s.ready = false → running = true → exec (.twinLinkTrained heat len master pref running) s = .next
      ({ u with sw := { u.sw with ownOff := true } }.wr F.TWN_STATUS_STATE 1).carryOn) ∧
    (s.ready = true → running = true → exec (.twinLinkTrained heat len master pref running) s = .next u.carryOn))

/-- Cross-shelf mirrors (R286 to R290): a mirrored write and a resynchronisation write of the primary become commands of the secondary
that owe it an ACK; an ACK ends the wait for it, and the last one of a resynchronisation joins the mirror again; a send that no ACK follows
splits the mirror. -/
def Obligations.MirrorsComplete : Prop :=
  (∀ flow msgid vol token heat slba nlb zero dealloc data s m,
    let u := (s.takeControl flow 6 msgid).1
    s.fedContext = true → u.secondaryPairing vol = some m → u.fromPeer m flow = true → (u.volOf vol).isSome = true →
    u.admissionHalted = false → u.twn.stopped = false →
    ∃ k : Cmd, k.id = ⟨0xFFFF, m, token % 65536, msgid⟩ ∧ k.flow = flow ∧ k.req = .mirrored vol slba nlb zero dealloc data ∧
      k.phase = 1 ∧ k.ctx = true ∧ k.passed = true ∧
      exec (.mirroredWrite flow msgid vol token heat slba nlb zero dealloc data) s = .next
        ({ u with
          nvt := { u.nvt with cmds := u.nvt.cmds ++ [k], nextAdmit := u.nvt.nextAdmit + 1 }
          twn := { u.twn with owed := u.twn.owed ++ [(m, token, k.id)] } } : State).showTarget.carryOn) ∧
  (∀ flow msgid vol token heat slba nlb zero data s,
    exec (.resync (.arrive flow msgid vol token heat slba nlb zero data)) s =
      exec (.mirroredWrite flow msgid vol token heat slba nlb zero false data) s) ∧
  (∀ flow msgid token s w,
    let u := (s.takeControl flow 6 msgid).1
    let v := { u with twn := { u.twn with waits := u.twn.waits.filter (· != w) } }
    (w.unit_ = none → u.twn.waits.find? (fun w => w.token == token && w.unit_.isSome == false && u.fromPeer w.pairing flow) = some w →
      exec (.mirrorAck flow msgid token) s = .next v.carryOn) ∧
    (∀ n, w.unit_ = some n →
      u.twn.waits.find? (fun w => w.token == token && w.unit_.isSome == true && u.fromPeer w.pairing flow) = some w →
      let x := { v with twn := { v.twn with dirty := v.twn.dirty.filter (· != (w.pairing, n)) } }
      ((∃ d ∈ x.twn.dirty, d.1 = w.pairing) → exec (.resync (.acked flow msgid token)) s = .next x.carryOn) ∧
      ((∀ d ∈ x.twn.dirty, d.1 ≠ w.pairing) → exec (.resync (.acked flow msgid token)) s = .next
        ((x.wr F.TWN_XM_SPLIT 0 w.pairing).raise 303 (x.xmUnit w.pairing)).carryOn))) ∧
  (∀ pairing unit zero data s n u f, s.xmPeer pairing = some n → s.ef F.TWN_XM_VALID pairing = 1 → s.ef F.TWN_XM_ROLE pairing = 0 →
    s.is F.TWN_XM_SPLIT pairing = true → s.resyncNext pairing unit = true → s.fedFlow n = (u, some f) →
    let tok := u.twn.nextToken
    let count := min 64 (u.nsSize (s.ef F.TWN_XM_VOL pairing) - 64 * unit)
    let v := { u with twn := { u.twn with
      nextToken := (tok + 1) % 2 ^ 32
      waits := (u.twn.waits.filter fun (w : XmWait) => !(w.pairing == pairing && w.unit_ == some unit)) ++
        [XmWait.mk tok pairing none (some unit)] } }
    exec (.resync (.send pairing unit zero data)) s = .next
      (v.sendFed n ⟨3, zero, false, v.ef F.TWN_XM_PEER_VOL pairing, tok, v.heat, 64 * unit, count - 1, data⟩
        (if zero = true then 0 else count * (4096 + (if v.fmtOf (s.ef F.TWN_XM_VOL pairing) = 1 then 8 else 0)))).carryOn) ∧
  (∀ pairing s, Does (.mirrorSplit pairing) s
    (s.ef F.TWN_XM_VALID pairing = 1 ∧ s.ef F.TWN_XM_ROLE pairing = 0 ∧ s.is F.TWN_XM_SPLIT pairing = false ∧
      ∃ w ∈ s.twn.waits, w.pairing = pairing ∧ w.unit_ = none)
    (s.splitMirror pairing).carryOn)

/-! Compression and encryption (spec/10_inline_cipher.md). -/

/-- Key loads and unwraps (R298, R331, R333): LOAD stores a wrapped key of a good format in a slot that nothing uses, and the slot becomes
wrapped; one of a slot in use, or with a bad FORMAT, TYPE or SLOT, is refused with its result; CLEAR empties a slot; PREPARE unwraps; an
unwrap ends ready, failed, or still wrapped where the key encryption key is absent. A stream ends after its idle time. -/
def Obligations.KeyLoadsComplete : Prop :=
  (∀ value s, value.toNat / 65536 = 0x6C39 → s.is F.CIP_KLOAD_STAT_BUSY = false →
    let k := value.toNat % 8192
    let w := s.kloadData
    (value.toNat / 16384 % 4 = 1 →
      (s.slotInUse k = true → exec (.load value) s = .next (s.kloadEnd k 0x01).carryOn.atOnce) ∧
      (s.slotInUse k = false → wrappedBytes w 0 1 ≠ 1 ∨ wrappedBytes w 1 1 = 0 ∨ 2 < wrappedBytes w 1 1 ∨ wrappedBytes w 2 2 ≠ k →
        exec (.load value) s = .next (s.kloadEnd k 0x02).carryOn.atOnce) ∧
      (∀ typ, typ = wrappedBytes w 1 1 → s.slotInUse k = false → wrappedBytes w 0 1 = 1 → typ = 1 ∨ typ = 2 → wrappedBytes w 2 2 = k →
        let a := s.dropKey k
        let b := { a with cip := { a.cip with wrapped := a.cip.wrapped ++ [(k, w)] } }
        let c := ((b.wr F.CIP_SLOT_STATE 1 k).wr F.CIP_SLOT_TYPE typ k).wr F.CIP_SLOT_KEKID (wrappedBytes w 7 1 % 4) k
        exec (.load value) s = .next
          (((c.wr F.CIP_SLOT_ANYPTAG (if typ = 2 then wrappedBytes w 6 1 % 2 else 0) k).wr F.CIP_SLOT_PTAG
            (if typ = 2 then wrappedBytes w 4 2 else 0) k).kloadEnd k 0x00).carryOn.atOnce)) ∧
    (value.toNat / 16384 % 4 = 2 →
      (s.slotInUse k = true → exec (.clear value) s = .next (s.kloadEnd k 0x01).carryOn.atOnce) ∧
      (s.slotInUse k = false →
        let a := ((s.dropKey k).wr F.CIP_SLOT_STATE 0 k).wr F.CIP_SLOT_TYPE 0 k
        exec (.clear value) s = .next
          ((((a.wr F.CIP_SLOT_KEKID 0 k).wr F.CIP_SLOT_ANYPTAG 0 k).wr F.CIP_SLOT_PTAG 0 k).kloadEnd k 0x00).carryOn.atOnce)) ∧
    (value.toNat / 16384 % 4 = 3 →
      (s.slotState k = 2 → exec (.prepare value) s = .next (s.kloadEnd k 0x00).carryOn.atOnce) ∧
      (s.slotState k = 3 → exec (.prepare value) s = .next (s.kloadEnd k 0x04).carryOn.atOnce) ∧
      (s.slotState k = 1 → (s.beginUnwrap k).cip.unwraps.any (fun u => u.1 == k && u.2.isSome) = false →
        let u := s.beginUnwrap k
        exec (.prepare value) s = .next ((({ u with cip := { u.cip with preparing := some k } }.wr F.CIP_KLOAD_STAT_BUSY 1).wr
          F.CIP_KLOAD_STAT_SLOT k).carryOn.atOnce)))) ∧
  (∀ slot ok material s, (slot, none) ∈ s.cip.unwraps →
    let kek := s.rd F.CIP_SLOT_KEKID slot
    let t := (s.endUnwrap slot (s.cox.keks.any (·.1 == kek)) ok material).afterUnwrap slot
    (kek ∉ t.cox.kekClears ∨ t.kekRuns kek = true → exec (.unwrap slot ok material) s = .next t.atOnce) ∧
    (kek ∈ t.cox.kekClears → t.kekRuns kek = false → exec (.unwrap slot ok material) s = .next (t.kekCleared kek).atOnce)) ∧
  (∀ vol cntlid s, exec (.streamIdleEnd vol cntlid) s = .next
    ({ s with cmp := s.cmp.filter fun x => !(x.vol == vol && x.cntlid == cntlid) } : State).showStreams)

/-! Drive bays (spec/12_drive_bays_and_power.md). -/

/-- The power of a bay (R378 to R389, R393): each step of the ramp, power good, the fault timer, a trip, the retry, the change of feed and
the gates' release. A step of one bay's sequence happens only where that bay stands. -/
def Obligations.BayPowerCommandsComplete : Prop :=
  ∀ (bay : Nat) (s : State), bay < 32 →
    Settles (.rampEnd bay) s (s.bayState bay = bRamp) ((s.modBay bay fun b => { b with rampTime := s.now - b.rampAt }).toBay bay bQualify) ∧
    Settles (.rampTimeout bay) s (s.bayState bay = bRamp) (s.trip bay 4) ∧
    (∀ a b period f, (s.measureFeeds a b).feedFor bay = some f →
      let u := s.measureFeeds a b
      u.bayState bay = bCooling → (u.bayAt bay).seated = true → u.bay.released = true → u.boot.hold = 0 → u.stage ≠ 0xE →
      (u.bayAt bay).slot ≤ period →
      u.ef F.BAY_PCFG_EN bay = 1 → u.rd F.BAY_SLTCTL_PCC bay = 0 → u.fetAtLeast bay f (u.ef F.BAY_RETRY_RESTART_C) = false →
      exec (.bayRampStart bay a b period) s = .next (((u.wr F.BAY_PSTAT_FEED f bay).modBay bay fun x =>
        { x with
          gate := true
          slot := 0
          rampAt := u.now
          rampTime := 0
          timerTime := 0 }).toBay bay bRamp).atOnce) ∧
    (s.timerRuns bay = false → s.is F.BAY_PSTAT_PG bay = false → s.bayState bay = bQualify →
      (s.wr F.BAY_PSTAT_PG 1 bay).bayState bay = bQualify →
      exec (.powerGoodAssert bay) s = .next ((s.wr F.BAY_PSTAT_PG 1 bay).toBay bay bOn).atOnce) ∧
    (s.timerRuns bay = true → exec (.powerGoodAssert bay) s = .next s.atOnce) ∧
    (s.timerRuns bay = false → s.is F.BAY_PSTAT_PG bay = true → exec (.powerGoodWithdraw bay) s = .next
      (s.reactTo (if (s.withdraw bay).bayState bay = bOn then (s.withdraw bay).toBay bay bQualify else s.withdraw bay) bay).atOnce) ∧
    Settles (.faultTimerStart bay) s
      (s.timerRuns bay = false ∧ s.bayState bay ∈ [bQualify, bOn, bChangeover, bStopping, bStandby])
      ((s.wr F.BAY_PSTAT_TIMER 1 bay).modBay bay fun b =>
        { b with
          timerAt := s.now
          limit := s.ef F.BAY_PCFG_LIMIT bay
          timerMs := s.ef F.BAY_PCFG_TIMER_MS bay }) ∧
    exec (.faultTimerClear bay) s = .next (s.stopTimer bay).atOnce ∧
    Settles (.faultTimerExpiry bay) s (s.timerRuns bay = true) (s.reactTo (s.trip bay 1) bay) ∧
    Settles (.overcurrentTrip bay) s (s.bayState bay ∈ [bRamp, bQualify, bOn, bChangeover, bStopping, bStandby])
      (s.reactTo (s.trip bay 2) bay) ∧
    Settles (.retryPeriodEnd bay) s (s.bayState bay = bRetry) ((s.passTo (s.bayAt bay).retryEnd).toBay bay bCooling) ∧
    Does (.retryCountClear bay) s (s.bayState bay = bOn) (s.wr F.BAY_PSTAT_RETRY 0 bay) ∧
    exec .fetModelUpdate s = .next (((List.range 32).foldl (fun t nn =>
      if (t.fetModel nn).fetTooHot nn = true then (t.fetModel nn).reactTo ((t.fetModel nn).trip nn 3) nn else t.fetModel nn) s).atOnce) ∧
    (∀ celsius, s.ef F.BAY_PCFG_TSRC bay ≠ 0 → s.is F.BAY_THERM_DIODE_BAD bay = false →
      (celsius < -40 ∨ 200 < celsius → exec (.diodeRead bay celsius) s = .next
        (((s.wr F.BAY_THERM_DIODE_BAD 1 bay).showTherm bay).bayEvent bay 6).atOnce) ∧
      (-40 ≤ celsius → celsius ≤ 200 →
        let u := (s.modBay bay fun b => { b with diode := some celsius }).showTherm bay
        exec (.diodeRead bay celsius) s = .next (if u.fetTooHot bay = true then u.reactTo (u.trip bay 3) bay else u).atOnce)) ∧
    (∀ a b,
      let u := s.measureFeeds a b
      let f := u.rd F.BAY_PSTAT_FEED bay
      u.bayState bay = bOn ∨ u.bayState bay = bQualify → u.goodNow f = false → u.goodNow (1 - f) = true →
      exec (.changeover bay a b) s = .next (u.enterChangeover bay).atOnce) ∧
    (s.bayState bay = bChangeover →
      let u := (s.wr F.BAY_PSTAT_FEED (1 - s.rd F.BAY_PSTAT_FEED bay) bay).modBay bay fun b =>
        { b with
          gate := true
          stopWanted := false }
      let v := u.toBay bay (if u.is F.BAY_PSTAT_PG bay = true then bOn else bQualify)
      exec (.changeoverBreakEnd bay) s = .next (if (s.bayAt bay).stopWanted = true then v.stopBay bay else v).atOnce) ∧
    Settles (.feedReturn bay) s
      ((s.bayState bay = bOn ∨ s.bayState bay = bQualify) ∧ s.rd F.BAY_PSTAT_FEED bay ≠ s.ef F.BAY_PCFG_PRIO bay)
      (s.enterChangeover bay) ∧
    Settles (.powerCycleEnd bay) s (s.bayState bay = bCycle) (s.toBay bay bCooling) ∧
    Settles .givebackGateRelease s (s.bay.releasing = true) s.loseOwner

/-- Seats, links and requests of a bay (R374 to R377, R384, R388, R390 to R392, R395): a drive is seated or lost, PERST is released, the
link comes up or down or does not train, the drive becomes ready, Slot Control turns the bay off or on, and the attention button asks. -/
def Obligations.BaySeatCommandsComplete : Prop :=
  (∀ prsS prsL a b meas s, s.stage ≠ 0 →
    let u := (s.pass 1000).measureFeeds a b
    let v := meas.foldl (fun t m =>
      if m.1 < 32 then (t.wr F.BAY_MEAS_CURRENT (min m.2.1 65535) m.1).wr F.BAY_MEAS_VBAY (min m.2.2 65535) m.1 else t) u
    exec (.presenceSample prsS prsL a b meas) s = .next
      (((List.range 32).foldl (fun t nn => t.samplePins nn (prsS.getLsbD nn && prsL.getLsbD nn))
        (v.countOpen 0x200 0x1003 0x8000 (v.nvt.cmds.filter (·.ctx)).length)).atOnce)) ∧
  (∀ bay s, bay < 32 →
    (s.stage ≠ 0 → (s.bayAt bay).seated = false → s.bayState bay = bEmpty ∨ s.bayState bay = bSeating →
      exec (.driveSeated bay) s = .next (((s.toBay bay bCooling).modBay bay fun b => { b with slot := 0 }).verdict bay true).atOnce) ∧
    ((s.bayAt bay).seated = true →
      let u := (((s.verdict bay false).cutPower bay).holdReset bay).wr F.BAY_PSTAT_RETRY 0 bay
      exec (.driveLost bay) s = .next ((if u.bayState bay = bStandby then u else u.toBay bay bEmpty).dropDrive bay).atOnce) ∧
    Settles (.perstRelease bay) s 
      (s.is F.BAY_PSTAT_PG bay = true ∧ (s.bayAt bay).perst = true ∧ (s.bayAt bay).trains < 3 ∧ s.bay.defer = false ∧
        (s.stage = 5 ∨ s.ready = true))
      ((s.setPerst bay false).modBay bay fun b => { b with trains := 1 }) ∧
    (s.bayUp bay = false →
      ((s.bayAt bay).trains = 1 → exec (.linkTrainingTimeout bay) s = .next (s.modBay bay fun b => { b with trains := 2 }).atOnce) ∧
      ((s.bayAt bay).trains = 2 → exec (.linkTrainingTimeout bay) s = .next
        ((((s.setPerst bay true).modBay bay fun b => { b with trains := 3 }).wr F.BAY_LINKST_FAIL 1 bay).bayEventIf bay 5
          F.BAY_SLTCTL_DLLSCE).atOnce) ∧
      (∀ speed width, (s.bayAt bay).trains ≠ 0 → (s.bayAt bay).trains ≠ 3 → s.gateForced (32 + bay) = false →
        s.is F.CLK_STATUS_WATCH = false → s.stage = 5 ∨ s.ready = true → 1 ≤ speed → speed ≤ 6 → width = 1 ∨ width = 2 →
        let u := (((s.wr F.BAY_LINKST_DLLLA 1 bay).wr F.BAY_LINKST_WIDTH width bay).wr F.BAY_LINKST_SPEED speed bay).wr
          F.BAY_LINKST_FAIL 0 bay
        let v := ((u.wr F.BAY_SLTCTL_DLLSC 1 bay).emit (.slotPowerLimit bay (12 * s.ef F.BAY_PCFG_LIMIT bay))).bayEventIf bay 5
          F.BAY_SLTCTL_DLLSCE
        exec (.bayLinkUp bay speed width) s = .next
          (if speed < 6 ∨ width < 2 then v.bayEventIf bay 5 F.BAY_SLTCTL_DLLSCE else v).atOnce)) ∧
    Settles (.bayLinkDown bay) s (s.bayUp bay = true) ((s.dropLink bay).dropDrive bay) ∧
    (∀ lbas meta16 cache labelA labelB, s.bayUp bay = true → (s.bayAt bay).ready = false →
      let a := s.modBay bay fun b => { b with ready := true }
      let u := { a with crw := { a.crw with drives := (s.crw.drives.filter fun (d : Drive) => d.bay != bay) ++
        [Drive.mk bay lbas meta16 cache (chooseLabel labelA labelB)] } }
      let v := if u.twinShelf = true then u.issueBay bay (.register (Config.uniqueId % 2 ^ 64)) else u
      exec (.driveReady bay lbas meta16 cache labelA labelB) s = .next (v.driveArrives bay).carryOn) ∧
    exec (.slotPowerOff bay) s = .next ((s.wr F.BAY_SLTCTL_PCC 1 bay).stopBay bay).atOnce ∧
    exec (.slotPowerOn bay) s = .next (s.powerOn bay).atOnce ∧
    Settles (.shutdownComplete bay) s (s.bayState bay = bStopping) (s.reactTo ((s.holdReset bay).bayOff bay) bay) ∧
    (s.stage ≠ 0 →
      let u := (s.wr F.BAY_SLTCTL_ABP 1 bay).bayEventIf bay 4 F.BAY_SLTCTL_ABPE
      (u.ef F.BAY_CFG_BTNACT ≠ 1 → exec (.attentionButtonPress bay) s = .next u.atOnce) ∧
      (u.ef F.BAY_CFG_BTNACT = 1 → u.bayState bay = bOn →
        exec (.attentionButtonPress bay) s = .next (u.modBay bay fun b => { b with buttonBlink := !b.buttonBlink }).atOnce) ∧
      (u.ef F.BAY_CFG_BTNACT = 1 → u.bayState bay = bOff ∨ u.bayState bay = bLatched →
        exec (.attentionButtonPress bay) s = .next (u.powerOn bay).atOnce)) ∧
    Settles (.buttonStop bay) s ((s.bayAt bay).buttonBlink = true ∧ s.bayState bay = bOn)
      ((s.modBay bay fun b => { b with buttonBlink := false }).requestStop bay) ∧
    exec (.attentionBlinkEnd bay) s = .next (s.modBay bay fun b => { b with refusedBlink := false }).atOnce)

/-! Work rings (spec/13_work_rings.md). -/

/-- Indices of a ring (R400): a write of PI that would move it backwards or make PI − CI exceed the size, and a write of CI past PI or
backwards, are ignored and raise EV0768; any other moves the index, and a completion index that makes room in an outbound ring lets the
count of lost items be told; both indices of a ring become 0 when it is enabled. The steward host cannot write an index of a ring of cox
(R398): EV0773 is raised and nothing else happens. Before ready nothing happens at all (R40). -/
def Obligations.RingIndexWritesComplete : Prop :=
  (∀ (ring i : Nat) (s : State), 1008 ≤ ring → ring < 1024 → s.ready = true →
    exec (.doorbell false ring i) s = .next (s.raise 773 (0x9000 + ring)).atOnce ∧
    exec (.ciWrite false ring i) s = .next (s.raise 773 (0x9000 + ring)).atOnce) ∧
  (∀ (cox : Bool) (ring i : Nat) (w0 : Word) (s : State), s.ready = false →
    exec (.doorbell cox ring i) s = .next s.atOnce ∧ exec (.ciWrite cox ring i) s = .next s.atOnce ∧
      exec (.ringEnable ring w0) s = .next s.atOnce) ∧
  ∀ (cox : Bool) (ring : Nat) (s : State), s.Canonical → ring < 1024 → s.ready = true → (coxRing ring = true → cox = true) →
    (∀ pi, pi < 2 ^ 32 → s.rd F.WRG_RING_KIND ring = inbound → s.ringRuns ring = true →
      (2 ^ 31 ≤ State.serial (s.rd F.WRG_IDX_PI ring) pi ∨ s.ringSize ring < State.serial (s.rd F.WRG_IDX_CI ring) pi →
        exec (.doorbell cox ring pi) s = .next (s.raise 768 (0x9000 + ring)).atOnce) ∧
      (State.serial (s.rd F.WRG_IDX_PI ring) pi < 2 ^ 31 → State.serial (s.rd F.WRG_IDX_CI ring) pi ≤ s.ringSize ring →
        exec (.doorbell cox ring pi) s = .next ((s.wr F.WRG_IDX_PI pi ring).checkCq ring).atOnce)) ∧
    (∀ ci, ci < 2 ^ 32 → s.rd F.WRG_RING_KIND ring ≠ inbound → s.ringRuns ring = true →
      let u := s.wr F.WRG_IDX_CI ci ring
      (State.serial (s.rd F.WRG_IDX_CI ring) (s.rd F.WRG_IDX_PI ring) < State.serial (s.rd F.WRG_IDX_CI ring) ci →
        exec (.ciWrite cox ring ci) s = .next (s.raise 768 (0x9000 + ring)).atOnce) ∧
      (State.serial (s.rd F.WRG_IDX_CI ring) ci ≤ State.serial (s.rd F.WRG_IDX_CI ring) (s.rd F.WRG_IDX_PI ring) →
        (s.rd F.WRG_RING_KIND ring ≠ outbound ∨ s.rd F.WRG_IDX_LOST ring = 0 → exec (.ciWrite cox ring ci) s = .next u.atOnce) ∧
        (s.rd F.WRG_RING_KIND ring = outbound → s.rd F.WRG_IDX_LOST ring ≠ 0 → 0 < u.ringRoom ring →
          exec (.ciWrite cox ring ci) s = .next
            ((u.putEntry ring 0x83 2 (s.rd F.WRG_IDX_LOST ring) 0 none [] []).wr F.WRG_IDX_LOST 0 ring).atOnce))) ∧
    (∀ w0 : Word, s.is F.WRG_RING_EN ring = false → w0.getLsbD 31 = true →
      ∃ t : State, exec (.ringEnable ring w0) s = .next t.atOnce ∧ t.is F.WRG_RING_EN ring = true ∧ t.rd F.WRG_IDX_PI ring = 0 ∧
        t.rd F.WRG_IDX_CI ring = 0)

/-- Entries of an inbound ring (R402 to R408, R414, R416): the arbiter's ring takes in covered copies; a NOP whose fields are zero completes
with status done, and any other as invalid; a register read or write that is good and not gated completes with the register; a ring
shuts down; a coalescing gap ends with its report, or unused. -/
def Obligations.RingEntriesComplete : Prop :=
  (∀ ring pi copies s, ring < 1024 →
    let u := s.newRound (coxRing ring)
    Settles (.entryFetch ring pi copies) s (u.arbNext (coxRing ring) = some ring)
      (((u.visit ring).takeCopies ring pi copies (u.rd F.WRG_RING_BURST ring + 1)).flushInvalid ring 64)) ∧
  (∀ ring s t, s.front ring 0 = some t →
    let clean := t.entry.count = 0 ∧ t.entry.code = 0 ∧ t.entry.dlen = 0 ∧ t.entry.item = 0 ∧ t.entry.daddr = 0 ∧
      ∀ b ∈ t.entry.inline, b = 0
    (clean → exec (.nop ring) s = .next (s.finish t 0 0).atOnce) ∧
    (¬ clean → exec (.nop ring) s = .next (s.finish t 6 0).atOnce)) ∧
  (∀ ring s t, s.front ring 1 = some t → t.entry.code = 0 → t.entry.dlen = 0 → t.entry.item < 2 ^ 24 → t.entry.item % 4 = 0 →
    t.entry.daddr = 0 → (∀ b ∈ t.entry.inline, b = 0) → s.accessGated t.entry.item = false →
    let a := (s.wakeFor t.entry.item).readReg t.entry.item
    let b := (a.1.wakeFor (t.entry.item + 4)).readReg (t.entry.item + 4)
    (t.entry.count = 1 → exec (.regRead ring) s = .next (a.1.finish t 0 a.2).atOnce) ∧
    (t.entry.count = 2 → s.accessGated (t.entry.item + 4) = false →
      exec (.regRead ring) s = .next (b.1.finish t 0 (a.2 + 2 ^ 32 * b.2)).atOnce)) ∧
  (∀ ring s t, s.front ring 2 = some t → t.entry.count = 0 → t.entry.code = 0 → t.entry.dlen = 0 → t.entry.item < 2 ^ 24 →
    t.entry.item % 4 = 0 → (∀ b ∈ t.entry.inline, b = 0) →
    let u := s.dropTaken fun x => x.ring == ring && x.idx == t.idx
    let w := u.accessWrite .ring t.entry.item (t.entry.daddr % 2 ^ 32) (t.entry.daddr / 2 ^ 32 % 2 ^ 32)
    w.1.ready = true → w.2 ≠ 2 → w.1.is F.WRG_RING_EN ring = true →
    exec (.regWrite ring) s = .next (w.1.finish t w.2 (w.1.readWord t.entry.item)).carryOn) ∧
  (∀ ring (w0 : Word) s, ring < 1024 → s.ready = true → s.is F.WRG_RING_EN ring = true → w0.getLsbD 31 = false →
    exec (.ringShutdown ring w0) s = .next (s.writeRing ring 0xFFFFFFFF w0.toNat).carryOn) ∧
  (∀ ring s g, s.wrg.gaps.find? (·.1 == ring) = some g →
    (g.2 = true → exec (.coalesceExpiry ring) s = .next
      (({ s with wrg := { s.wrg with gaps := s.wrg.gaps.map fun x => if x.1 = ring then (ring, false) else x } } : State).irq
        (s.rd F.WRG_RING_IVEC ring)).atOnce) ∧
    (g.2 = false → exec (.coalesceExpiry ring) s = .next
      ({ s with wrg := { s.wrg with gaps := s.wrg.gaps.filter fun (x : Nat × Bool) => x.1 != ring } } : State).atOnce))

/-- An ANSWER that is accepted ends its item with the effect of its function and code (R409, R413, and of each function R86, R129, R130,
R227, R232, R246, R256, R261, R268, R282, R302, R335), and its entry completes with status done. -/
def Obligations.AnswersComplete : Prop :=
  ∀ (ring : Nat) (data : Option (List Nat)) (s : State) (e : Taken × Item),
    (noPayload e.1.entry = true →
      (s.answered ring 0 1 none = some e → exec (.answerAdmit ring) s = .next (s.concluded e fun t => t.admitFlow e.2.tag).atOnce) ∧
      (s.answered ring 0 2 none = some e → exec (.answerRefuse ring) s = .next (s.concluded e fun t => t.refuseFlow e.2.tag).atOnce) ∧
      (s.answered ring 1 1 none = some e →
        exec (.answerMatch ring) s = .next (s.concluded e fun t => t.keyCompared e.2.tag true).atOnce) ∧
      (s.answered ring 1 2 none = some e →
        exec (.answerMismatch ring) s = .next (s.concluded e fun t => t.keyCompared e.2.tag false).atOnce) ∧
      (s.answered ring 6 1 none = some e → exec (.answerEasy ring) s = .next (s.concluded e fun t => t.seatJudged e.2 1).atOnce) ∧
      (s.answered ring 6 2 none = some e → exec (.answerKeep ring) s = .next (s.concluded e fun t => t.seatJudged e.2 2).atOnce) ∧
      (s.answered ring 6 3 none = some e → exec (.answerFail ring) s = .next (s.concluded e fun t => t.seatJudged e.2 3).atOnce) ∧
      (s.answered ring 7 2 none = some e → exec (.answerUnwrapRefuse ring) s = .next
        (s.concluded e fun t => (t.endUnwrap e.2.arg true false 0).afterUnwrap e.2.arg).atOnce) ∧
      (s.answered ring 8 1 none = some e → exec (.answerStatic ring) s = .next
        (s.concluded e fun t => t.modeChosen e.2 fun x => { x with mode := 0, byHost := true }).atOnce) ∧
      (s.answered ring 8 2 none = some e → exec (.answerDynamicByRule ring) s = .next
        (s.concluded e fun t => t.modeChosen e.2 fun x => { x with mode := 1, byHost := true }).atOnce) ∧
      (s.answered ring 8 3 none = some e → exec (.answerDynamicAlways ring) s = .next
        (s.concluded e fun t => t.modeChosen e.2 fun x => { x with mode := 2, byHost := true }).atOnce) ∧
      (∀ k, 2 ≤ k → k ≤ 6 → s.answered ring 9 k none = some e →
        exec (.answerTakeStep ring) s = .next (s.concluded e fun t => t.ladderChosen e.2 (some k)).atOnce) ∧
      (s.answered ring 9 1 none = some e →
        exec (.answerResume ring) s = .next (s.concluded e fun t => t.ladderChosen e.2 none).atOnce) ∧
      (s.answered ring 10 1 none = some e → exec (.answerClockKeep ring) s = .next (s.concluded e fun t => t).atOnce) ∧
      (s.answered ring 10 2 none = some e → exec (.answerClockSwitch ring) s = .next (s.concluded e fun t =>
        if t.activeSrc ≠ e.2.arg then t else if t.refState (1 - e.2.arg) = 0 then t.failover e.2.arg else t.raise 14 0x0000).atOnce) ∧
      (s.answered ring 11 1 none = some e → exec (.answerTakeOver ring) s = .next
        (s.concluded e fun t => if t.twn.item = some e.2.tag then t.goTakeover else t).atOnce) ∧
      (∀ f, s.answered ring 11 2 none = some e → exec (.answerDecline ring f) s = .next
        (s.concluded e fun t => if t.twn.item = some e.2.tag then t.declineTakeover.heldDrain f else t).atOnce)) ∧
    (s.answered ring 2 1 none = some e → e.1.entry.dlen = 0 → exec (.answerMapEntry ring) s = .next
      (s.concluded e fun t => t.missEnds e.2 (some (payloadLe e.1.entry.inline 0 8))).atOnce) ∧
    (∀ bs, answerPayload e.1.entry data = some bs →
      (s.answered ring 3 1 data = some e → bs ≠ [] → bs.length ≤ 64 → bs.length % 4 = 0 →
        exec (.answerVictims ring data) s = .next
          (s.concluded e fun t => t.victimsChosen e.2 (some ((List.range (bs.length / 4)).map fun i => payloadLe bs (4 * i) 4))).atOnce) ∧
      (s.answered ring 4 1 data = some e → e.1.entry.dlen ≠ 0 → 4 ≤ bs.length → bs.length ≤ 132 → (bs.length - 4) % 8 = 0 →
        payloadLe bs 1 3 = 0 →
        exec (.answerRebuildPlan ring data) s = .next (s.concluded e fun t =>
          t.planChosen e.2 (planRanges (t.rd F.CRW_CREW_ROWS e.2.arg) bs) (F.CRW_RBLD_RATE.range.hold (payloadLe bs 0 1))).atOnce) ∧
      (s.answered ring 5 1 data = some e → 4 ≤ bs.length → bs.length ≤ 36 → (bs.length - 4) % 4 = 0 → payloadLe bs 1 3 = 0 →
        payloadLe bs 0 1 ≠ 0 → (∀ w ∈ paceWindows bs, w.1 < 1440 ∧ w.2 < 1440) →
        exec (.answerPatrolWindows ring data) s = .next (s.concluded e fun t =>
          t.pacingChosen e.2 (some (payloadLe bs 0 1, (paceWindows bs).filter fun (w : Nat × Nat) => w.1 != w.2))).atOnce) ∧
      (s.answered ring 7 1 data = some e → bs.length = 64 → exec (.answerKeyMaterial ring data) s = .next
        (s.concluded e fun t => (t.endUnwrap e.2.arg true true (payloadLe bs 0 64)).afterUnwrap e.2.arg).atOnce) ∧
      (s.answered ring 8 4 data = some e → bs.length = 316 → completeCode (bs.take 286) = true → completeCode (bs.drop 286) = true →
        exec (.answerHostTables ring data) s = .next (s.concluded e fun t => t.modeChosen e.2 fun x =>
          { x with
            mode := 3
            byHost := true
            llLen := bs.take 286
            dLen := bs.drop 286 }).atOnce))

/-! The host endpoint (spec/14_steward_endpoint.md). -/

/-- Identifiers of configuration space (R424; in recovery mode R59's): where EPT_ID holds no vendor, a read shows Quarel's vendor ID and
device 0x0032; elsewhere it shows what EPT_ID holds. -/
def Obligations.UnassignedVendorIsReplaced : Prop :=
  ∀ s : State,
    (s.ready = true → s.rd F.EPT_ID_VENDOR = 0x0000 ∨ s.rd F.EPT_ID_VENDOR = 0xFFFF →
      exec (.configurationRequest (.read 0)) s = .next (s.emit (.cfgData 0 (0x1F7C + 0x10000 * 0x0032))).carryOn) ∧
    (s.ready = true → s.rd F.EPT_ID_VENDOR ≠ 0x0000 → s.rd F.EPT_ID_VENDOR ≠ 0xFFFF →
      exec (.configurationRequest (.read 0)) s = .next
        (s.emit (.cfgData 0 (s.rd F.EPT_ID_VENDOR + 0x10000 * s.rd F.EPT_ID_DEVICE))).carryOn) ∧
    (s.stage = 0xE → exec (.configurationRequest (.read 0)) s = .next (s.emit (.cfgData 0 (0x1F7C + 0x10000 * 0x7F32))).carryOn)

/-- MSI-X Enable changes (R434): on its way to 1 the line is deasserted with a message where it was asserted, and each pending bit that
EPT_IRQ_MASK does not mask is cleared and handled as a request; on its way to 0 each bit of the pending bit array moves to EPT_IRQ_PEND,
and the line follows. EV0821 is raised at each change; a write that changes nothing has no effect. -/
def Obligations.MsixEnableMovesPendingVectors : Prop :=
  ∀ s : State, s.Canonical →
    (s.msixOn = false →
      let u := (s.wr F.EPT_STATUS_MSIX 1).settleLine
      let moving := (List.range 64).filter fun v => s.pend.testBit v && !s.irqMask.testBit v
      exec (.msixEnableChange true) s = .next
        ((moving.foldl (fun t v => (t.setPend (t.pend - 2 ^ v)).requestVector v) u).raise 821 0x9400).atOnce ∧
      u.msixOn = true ∧ u.is F.EPT_STATUS_INTA = false ∧
      (u.out = if s.is F.EPT_STATUS_INTA = true ∧ s.ept.d3hot = false ∧ s.ept.intaSent = true then s.out ++ [.deassertInta] else s.out)) ∧
    (s.msixOn = true →
      let u := { s.wr F.EPT_STATUS_MSIX 0 with ept := { s.ept with pba := [] } }
      let v := s.ept.pba.foldl (fun t v => if t.pend.testBit v = true then t else t.setPend (t.pend + 2 ^ v)) u
      exec (.msixEnableChange false) s = .next (v.settleLine.raise 821 0x9400).atOnce) ∧
    exec (.msixEnableChange s.msixOn) s = .next s.atOnce

/-- The link, configuration requests and window accesses of the endpoint (R95, R422, R423, R425, R427 to R431, R433, R435, R438, R439): a
request before STAGE is 0x6 or 0xE is answered with retry; a refused access of the window is answered as refused; masks, the Interrupt
Disable bit, D3hot and the link's changes take effect at once. -/
def Obligations.EndpointCommandsComplete : Prop :=
  (∀ req s, s.ready = false → s.stage ≠ 0xE → exec (.configurationRequest req) s = .next (s.emit .requestRetry)) ∧
  (∀ m b s, s.ready = true → exec (.configurationRequest (.enables m b)) s = .next
    ({ s with ept := { s.ept with memSpace := m, busMaster := b } } : State).settleEndpoint.carryOn) ∧
  (∀ r c s, s.ready = true → exec (.configurationRequest (.ido r c)) s = .next
    ({ s with ept := { s.ept with idoReq := r, idoCpl := c } } : State).carryOn) ∧
  (∀ v s, v < 64 → s.ready = true → exec (.configurationRequest (.msixMask (some v))) s = .next
    ({ s with ept := { s.ept with msixMasked := addTo s.ept.msixMasked v } } : State).carryOn) ∧
  (∀ s, s.ready = true → exec (.configurationRequest .powerD0) s = .next
    (({ s with ept := { s.ept with d3hot := false } } : State).sendInta.sendPba).settleEndpoint.carryOn) ∧
  (∀ offset v k s, offset = 16 * k + 12 → k < 64 → s.ready = true →
    (v % 2 = 1 → exec (.configurationRequest (.msixWrite offset v)) s = .next
      ({ s with ept := { s.ept with msixMasked := addTo s.ept.msixMasked k } } : State).carryOn) ∧
    (v % 2 = 0 → exec (.configurationRequest (.msixWrite offset v)) s = .next
      ({ s with ept := { s.ept with msixMasked := dropFrom s.ept.msixMasked k } } : State).sendPba.carryOn)) ∧
  (∀ offset width s, s.ready = true → s.ept.dlActive = true → s.ept.d3hot = false → s.ept.memSpace = true → s.ept.romEnable = true →
    s.romThere = true → offset < 0x1000000 →
    (∀ v, offset < 0x100000 → exec (.windowAccess offset width (some v)) s = .next s.atOnce) ∧
    (offset < 0x100000 → s.is F.EPT_ROM_OPTROM = false →
      exec (.windowAccess offset width none) s = .next (s.emit (.windowData offset 0)).atOnce) ∧
    (0x100000 ≤ offset → s.is F.EPT_ROM_WINDOW = false →
      exec (.windowAccess offset width none) s = .next (s.emit (.windowData offset 0)).atOnce ∧
      ∀ v, exec (.windowAccess offset width (some v)) s = .next s.atOnce) ∧
    (0x100000 ≤ offset → s.is F.EPT_ROM_WINDOW = true →
      let addr := s.rd F.EPT_WIN_PAGE_PAGE * 0x100000 + offset - 0x100000
      (∀ v, exec (.windowAccess offset width (some v)) s = .next (s.pathWrite .window addr width v).atOnce) ∧
      (accessFits addr width = false → exec (.windowAccess offset width none) s = .next (s.refuseAccess .window addr true).atOnce) ∧
      (accessFits addr width = true → width ≠ 8 →
        exec (.windowAccess offset width none) s = .next
          ((s.accessRead .window addr).1.emit (.windowData offset ((s.accessRead .window addr).2.getD 0))).atOnce))) ∧
  (∀ hi (value : Word) s,
    let f := if hi = true then F.EPT_IRQ_PEND_HI_PEND else F.EPT_IRQ_PEND_LO_PEND
    exec (.eptIrqPendClear hi value) s = .next (s.wr f (s.rd f &&& (2 ^ 32 - 1 - value.toNat))).settleLine) ∧
  (∀ v s, exec (.msixMaskClear (some v)) s = .next
    ({ s with ept := { s.ept with msixMasked := dropFrom s.ept.msixMasked v } } : State).sendPba) ∧
  (∀ s, exec (.msixMaskClear none) s = .next ({ s with ept := { s.ept with fnMask := false } } : State).sendPba) ∧
  (∀ b s, exec (.interruptDisableChange b) s = .next ({ s with ept := { s.ept with intDisable := b } } : State).settleLine) ∧
  (∀ s, Does .d3hotEntry s (s.ready = true ∨ s.stage = 0xE)
    ({ s with ept := { s.ept with d3hot := true } } : State).settleEndpoint.carryOn) ∧
  (∀ speed width host s, s.Canonical → s.ept.dlActive = false → s.boot.perstLow = false → s.gateForced 9 = false → s.is F.CLK_STATUS_WATCH = false →
    s.stage = 5 ∨ s.ready = true ∨ (s.stage = 0xE ∧ s.boot.refPassed = true) →
    let u := { s with ept := { s.ept with
      dlActive := true
      hostRef := host } }
    exec (.endpointLinkUp speed width host) s = .next
      ((((u.wr F.EPT_STATUS_SPEED speed).wr F.EPT_STATUS_WIDTH width).wr F.EPT_STATUS_CCLK
        (if host = some s.activeSrc then 1 else 0)).settleEndpoint).atOnce) ∧
  (∀ s, Does .endpointLinkDown s (s.ept.dlActive = true) (s.endpointReset false).carryOn)

/-! cox, management, update and attestation (spec/15_cox_management.md). -/

/-- The key slots (R458), for a command whose proof stands: SLOT_FILL writes the digest into an empty slot and is refused for a filled one;
SLOT_REVOKE blows the slot's revoke bit and is refused for the key slot of the active image and for the last filled slot that is not
revoked. The fuses take effect before the answer, and EV0905 or EV0906 is raised. A slot number above 3 is invalid. -/
def Obligations.KeySlotsFillAndRevoke : Prop :=
  ∀ (sig : SigBlock) (slot digest : Nat) (s : State), s.ev.coxRuns = true → s.canHold 15 askOwner 1 = true → s.signedOk sig = true →
    let u := s.spend sig
    (3 < slot → exec (.slotFill sig slot digest) s = .next (u.vendor vInvalid).atOnce ∧
      exec (.slotRevoke sig slot) s = .next (u.vendor vInvalid).atOnce) ∧
    (slot ≤ 3 → s.fuses.slots.getD slot 0 = 0 →
      let f := { u with fuses := { u.fuses with slots := u.fuses.slots.set slot digest } }
      exec (.slotFill sig slot digest) s = .next (((f.logFuse 0x03 slot 0).vendor vOk).raise 905 0x0000).atOnce) ∧
    (slot ≤ 3 → s.fuses.slots.getD slot 0 ≠ 0 → exec (.slotFill sig slot digest) s = .next (u.vendor vRefused).atOnce) ∧
    (slot ≤ 3 → s.activeCopy.map (fun c => Image.keyslot s.boot.nor (s.copyBase c)) = some slot ∨ s.liveSlots = [slot] →
      exec (.slotRevoke sig slot) s = .next (u.vendor vRefused).atOnce) ∧
    (slot ≤ 3 → s.activeCopy.map (fun c => Image.keyslot s.boot.nor (s.copyBase c)) ≠ some slot → s.liveSlots ≠ [slot] →
      let f := { u with fuses := { u.fuses with revoked := u.fuses.revoked.set slot true } }
      exec (.slotRevoke sig slot) s = .next (((f.logFuse 0x04 slot 0).vendor vOk).raise 906 0x0000).atOnce)

/-- Vendor commands (R455 to R457, R459, R460, R465, R470, R471): a challenge is given and held among the latest four; the log is read; a
signed command whose proof does not stand is denied with EV0908, its challenge spent; one whose proof stands takes its effect or is
answered with its status. -/
def Obligations.VendorCommandsComplete : Prop :=
  ∀ s : State, s.ev.coxRuns = true → s.canHold 15 askOwner 1 = true →
    (∀ endpoint,
      let held := s.cox.challenges ++ [(s.fresh, endpoint, s.now)]
      exec (.getChallenge endpoint) s = .next
        (({ s.tick with cox := { s.cox with challenges := if 4 < held.length then held.drop 1 else held } } : State).vendor vOk [s.fresh]).atOnce) ∧
    (∀ first count, (count = 0 ∨ 256 < count → exec (.logRead first count) s = .next (s.vendor vInvalid).atOnce) ∧
      (1 ≤ count → count ≤ 256 → exec (.logRead first count) s = .next (s.vendor vOk
        (((s.cox.log.reverse.filter fun r => first ≤ r.seq).take count).flatMap fun r =>
          [r.seq, r.time, r.start, r.kind, r.sev, r.flags, r.heat] ++ r.payload)).atOnce)) ∧
    exec .sanitizeStatus s = .next (s.vendor vOk ((List.range 32).map fun b =>
      ((s.cox.sanitizing.find? (·.1 == b)).map (·.2)).getD 0)).atOnce ∧
    (∀ sig, s.signedOk sig = false →
      let t := ((s.spend sig).vendor vDenied).raise 908 0x0000
      (∀ slot digest, exec (.slotFill sig slot digest) s = .next t.atOnce ∧ exec (.slotRevoke sig slot) s = .next t.atOnce) ∧
      (∀ id nonce wrapped ok kek, exec (.kekLoad sig id nonce wrapped ok kek) s = .next t.atOnce ∧ exec (.kekClear sig id) s = .next t.atOnce) ∧
      (∀ scope crew bays action p o pat lacks, exec (.sanitize sig scope crew bays action p o pat lacks) s = .next t) ∧
      (∀ ktk, exec (.ktkProvision sig true ktk) s = .next t.atOnce) ∧ (∀ ok, exec (.rollCancel sig ok) s = .next t)) ∧
    (∀ sig ktk, exec (.ktkProvision sig false ktk) s = .next (s.vendor vDenied).atOnce) ∧
    (∀ sig, s.signedOk sig = true →
      let u := s.spend sig
      (∀ id nonce wrapped kek, id ≤ 3 → nonce < 2 ^ 96 → wrapped < 2 ^ 256 →
        (s.fuses.ktk.isSome = true → id ∉ s.cox.kekClears → exec (.kekLoad sig id nonce wrapped true kek) s = .next
          ((({ u with cox := { u.cox with keks := u.cox.keks.filter (fun (e : Nat × Nat) => e.1 != id) ++ [(id, kek)] } } : State).syncKek.vendor
            vOk).raise 907 0x0000).atOnce) ∧
        (s.fuses.ktk.isSome = true → exec (.kekLoad sig id nonce wrapped false kek) s = .next (u.vendor vDenied).atOnce) ∧
        (s.fuses.ktk = none → ∀ ok, exec (.kekLoad sig id nonce wrapped ok kek) s = .next (u.vendor vRefused).atOnce)) ∧
      (∀ id, id ≤ 3 →
        (s.kekRuns id = false → exec (.kekClear sig id) s = .next (u.kekCleared id).atOnce) ∧
        (s.kekRuns id = true → exec (.kekClear sig id) s = .next
          ({ u with cox := { u.cox with kekClears := addTo u.cox.kekClears id } } : State).atOnce)) ∧
      (∀ scope crew bays action p o pat lacks, exec (.sanitize sig scope crew bays action p o pat lacks) s = .next
        (u.startSanitize scope crew bays action p o pat lacks).carryOn) ∧
      (∀ ktk, (s.fuses.ktk = none → exec (.ktkProvision sig true ktk) s = .next
          (((({ u with fuses := { u.fuses with ktk := some ktk } } : State).logFuse 0x09 0 0).vendor vOk).raise 915 0x0000).atOnce) ∧
        (s.fuses.ktk.isSome = true → exec (.ktkProvision sig true ktk) s = .next (u.vendor vRefused).atOnce)) ∧
      (∀ ok, (∀ r, s.cox.roll = some r → r.back = false → exec (.rollCancel sig ok) s = .next ((u.vendor vOk).rollBack ok).carryOn) ∧
        (s.cox.roll = none → exec (.rollCancel sig ok) s = .next (u.vendor vRefused)))) ∧
    (∀ bay progress ended e, s.cox.sanitizing.find? (·.1 == bay) = some e →
      (∀ ok, ended = some ok → exec (.sanitizePoll bay progress ended) s = .next (s.sanitizeEnds bay ok).carryOn) ∧
      (ended = none → exec (.sanitizePoll bay progress ended) s = .next
        { s with cox := { s.cox with
          sanitizing := s.cox.sanitizing.map fun (e : Nat × Nat) => if e.1 = bay then (bay, progress) else e } }))

/-- Management protocols (R444, R445, R447 to R450): MCTP, NVMe-MI, PLDM and the echo answer with what cox holds; while no core of cox
runs, nothing is answered, and where H15 has no buffer for a request, the answer is busy (R185, R446). -/
def Obligations.ManagementCommandsComplete : Prop :=
  (∀ s : State, s.ev.coxRuns = true → s.canHold 15 askOwner 1 = true →
    (∀ eid, exec (.setEndpointId eid) s = .next
      (({ s with cox := { s.cox with eid := eid % 256 } } : State).emit (.mctp 0x00 0x00 [eid % 256])).atOnce) ∧
    (exec (.readNvmeMiDataStructure 0) s = .next (s.nvmeMi 0x00 [0, 1, 2]).atOnce ∧
      exec (.readNvmeMiDataStructure 1) s = .next (s.nvmeMi 0x00 [2, s.cox.mtu, s.rd F.COX_MCTP_SMBADDR, s.cox.smbFreq]).atOnce ∧
      exec (.readNvmeMiDataStructure 2) s = .next (s.nvmeMi 0x00 (s.nvt.assocs.length :: s.nvt.assocs.map (·.cntlid))).atOnce ∧
      ∀ d, 4 < d → exec (.readNvmeMiDataStructure d) s = .next (s.nvmeMi 0x04 []).atOnce) ∧
    exec .nvmSubsystemHealthStatusPoll s = .next
      (s.nvmeMi 0x00 ((if s.ready = true ∧ s.fatal = false then 1 else 0) :: s.healthBytes)).atOnce ∧
    (∀ n a, s.assocOf n = some a → exec (.controllerHealthStatusPoll n) s = .next
      (s.nvmeMi 0x00 ([n, a.cc % 2 + 4 * a.shst] ++ s.healthBytes)).atOnce) ∧
    (∀ n, s.assocOf n = none → exec (.controllerHealthStatusPoll n) s = .next (s.nvmeMi 0x04 []).atOnce) ∧
    (exec (.configurationGet 1) s = .next (s.emit (.mctp 0x04 0x00 [s.cox.smbFreq])).atOnce ∧
      exec (.configurationGet 3) s = .next (s.emit (.mctp 0x04 0x00 [s.cox.mtu])).atOnce ∧
      ∀ v, exec (.configurationSet 1 v) s = .next (({ s with cox := { s.cox with smbFreq := v } } : State).emit (.mctp 0x04 0x00 [])).atOnce ∧
        exec (.configurationSet 3 v) s = .next (({ s with cox := { s.cox with mtu := v } } : State).emit (.mctp 0x04 0x00 [])).atOnce) ∧
    (∀ id v, id ≠ 1 → id ≠ 3 → exec (.configurationGet id) s = .next (s.emit (.mctp 0x04 0x04 [])).atOnce ∧
      exec (.configurationSet id v) s = .next (s.emit (.mctp 0x04 0x04 [])).atOnce) ∧
    (exec (.miTunneledAdminCommand 0x06 0x01) s = .next (s.nvmeMi 0x00 [0, s.identController]).atOnce ∧
      exec (.miTunneledAdminCommand 0x02 0x02) s = .next (s.nvmeMi 0x00 [0, s.smartPage]).atOnce ∧
      exec (.miTunneledAdminCommand 0x02 0x03) s = .next (s.nvmeMi 0x00 [0, s.firmwarePage]).atOnce ∧
      ∀ op arg, op ≠ 0x06 → op ≠ 0x02 → op ≠ 0x0A → exec (.miTunneledAdminCommand op arg) s = .next (s.nvmeMi 0x03 []).atOnce) ∧
    (∀ id v f, effecter id = some f →
      let w := v % 2 ^ f.width * 2 ^ f.lo
      (s.changesB (f.addr 0 0) f.mask w = true → exec (.setNumericEffecterValue id v) s = .next
        ((s.refuseB .pldm (f.addr 0 0)).emit (.mctp 0x01 0x02 [])).atOnce) ∧
      (s.changesB (f.addr 0 0) f.mask w = false → exec (.setNumericEffecterValue id v) s = .next
        ((s.storeWord (f.addr 0 0) f.mask w).emit (.mctp 0x01 0x00 [])).atOnce)) ∧
    (∀ r, exec (.setEventReceiver r) s = .next
      (({ s with cox := { s.cox with receiver := some r } } : State).emit (.mctp 0x01 0x00 [])).atOnce) ∧
    (∀ seq, Does (.echoRequest seq) s (s.is F.COX_OOB_CFG_EN = true) (s.emit (.echoReply seq)))) ∧
  (∀ s : State, s.ev.coxRuns = false →
    (∀ seq, exec (.echoRequest seq) s = .next s) ∧ (∀ e, exec (.setEndpointId e) s = .next s.atOnce) ∧
    (∀ d, exec (.readNvmeMiDataStructure d) s = .next s.atOnce) ∧ (∀ e, exec (.getChallenge e) s = .next s.atOnce)) ∧
  (∀ s : State, s.ev.coxRuns = true → s.canHold 15 askOwner 1 = false →
    let u := s.exhausted 15
    (∀ e, exec (.getChallenge e) s = .next (u.vendor vBusy).atOnce) ∧
    (∀ e, exec (.setEndpointId e) s = .next (u.emit (.mctp 0x00 0x04 [])).atOnce) ∧
    (∀ r, exec (.setEventReceiver r) s = .next (u.emit (.mctp 0x01 0x04 [])).atOnce) ∧
    (∀ d, exec (.readNvmeMiDataStructure d) s = .next (u.emit (.mctp 0x04 0x02 [])).atOnce) ∧
    (∀ q, exec (.getVersion q) s = .next (u.emit (.spdm q 0x7F [0x03])).atOnce))

/-- Firmware update (R444, R461 to R465, R474, R509): one update at a time; the stamp and the size are checked; the image is staged,
verified, applied to the inactive copy, and activated at the next start or by a roll, whose swaps and probation end it. -/
def Obligations.UpdateCommandsComplete : Prop :=
  ∀ s : State, s.ev.coxRuns = true → s.canHold 15 askOwner 1 = true →
    (∀ a, s.cox.agent = none → exec (.requestUpdate a) s = .next
      ((({ s.dropStage with cox := { s.dropStage.cox with agent := some a } } : State).setUpd 1).pldm 0x00).atOnce) ∧
    (∀ a b, s.cox.agent = some b → a ≠ b → exec (.requestUpdate a) s = .next (s.pldm 0x04).atOnce) ∧
    (∀ a stamp size, s.cox.agent = some a →
      (stamp = (s.activeSequence + 1) % 2 ^ 32 → size ≤ s.longestImage →
        exec (.updateComponent a stamp size) s = .next ((s.logUpdate 0 0).pldm 0x00 [0]).atOnce) ∧
      (stamp ≠ (s.activeSequence + 1) % 2 ^ 32 ∨ s.longestImage < size →
        exec (.updateComponent a stamp size) s = .next (s.pldm 0x00 [1]).atOnce)) ∧
    (∀ image a, s.cox.agent = some a → s.rd F.COX_UPD_STATE = 1 →
      let c : Cells := image.foldl (fun c kv => c.put 0xFF kv.1 (kv.2 % 256)) []
      let n := buffersFor (imageBytes image)
      (∀ t, s.dropStage.takeBuffers 15 stageOwner n = (t, true) → exec (.transferComplete image) s = .next
        ((({ t with cox := { t.cox with staged := c } } : State).setUpd 2).pldm 0x00).atOnce) ∧
      (∀ t, s.dropStage.takeBuffers 15 stageOwner n = (t, false) → exec (.transferComplete image) s = .next (t.pldm 0x04).atOnce)) ∧
    (∀ facts, s.rd F.COX_UPD_STATE = 2 →
      (Image.check s.cox.staged 0 s.longestImage s.fuses facts = 0 → Image.sequence s.cox.staged 0 = s.activeSequence + 1 →
        exec (.verifyComplete facts) s = .next
          ((((({ s with cox := { s.cox with stagedOk := true } } : State).setUpd 3).logUpdate 1 0).pldm 0x00 [0]).raise 900 0x0000).atOnce) ∧
      (Image.check s.cox.staged 0 s.longestImage s.fuses facts ≠ 0 ∨ Image.sequence s.cox.staged 0 ≠ s.activeSequence + 1 →
        exec (.verifyComplete facts) s = .next ((s.updateFails 1).pldm 0x00 [1]).atOnce)) ∧
    (∀ facts, s.rd F.COX_UPD_STATE = 3 → s.cox.stagedOk = true →
      let c := s.inactiveCopy
      let u := s.programStaged c
      (Image.check u.boot.nor (u.copyBase c) u.longestImage u.fuses facts = 0 →
        exec (.applyComplete facts) s = .next (((u.setUpd 4).logUpdate 2 0).pldm 0x00 [0]).atOnce) ∧
      (Image.check u.boot.nor (u.copyBase c) u.longestImage u.fuses facts ≠ 0 →
        exec (.applyComplete facts) s = .next (((u.eraseHeader c).updateFails 2).pldm 0x00 [1]).atOnce)) ∧
    (∀ a b, s.rd F.COX_UPD_STATE = 4 →
      exec (.activateFirmware false a b) s = .next
        ((({ s with cox := { s.cox with agent := none } } : State).setUpd 0).dropStage.pldm 0x00).atOnce ∧
      (s.ready = true → s.rd F.HMP_PFAIL_STATE = 0 → s.seriousFault = false → s.spares ≠ [] →
        s.ucField s.inactiveCopy 0 4 ≤ s.cox.ucVersion →
        s.rd F.TWN_STATUS_STATE ≠ 2 ∨ a ∈ [s.ucField s.inactiveCopy 4 2, s.ucField s.inactiveCopy 6 2] ∨
          b ∈ [s.ucField s.inactiveCopy 4 2, s.ucField s.inactiveCopy 6 2] →
        let u := { s with cox := { s.cox with roll := some ⟨s.inactiveCopy, s.spares, none, false⟩ } }
        exec (.activateFirmware true a b) s = .next
          (((((u.setUpd 5).wr F.COX_UPD_SWAPPED 0).logActivate s.inactiveCopy 1 0).pldm 0x00).raise 902 0x0000).atOnce)) ∧
    (∀ r e, s.cox.roll = some r → r.leaving = some e → r.back = false →
      let swapped : Roll := { r with leaving := none, newEngines := addTo r.newEngines e }
      let kept : Roll := { r with leaving := none }
      let u := { s with cox := { s.cox with roll := some swapped } }.bump F.COX_UPD_SWAPPED
      let v := { s with cox := { s.cox with roll := some kept } }.bump F.COX_UPD_SWAPPED
      exec (.engineSwapComplete true) s = .next (((u.logActivate r.copy 3 0).logActivate r.copy 4 0).setEngine e false true).atOnce ∧
      exec (.engineSwapComplete false) s = .next
        (warnSpares (s.spares.length + 1) (((v.logActivate r.copy 3 0).logActivate r.copy 4 1).raise 928 (0x1000 + e))).atOnce) ∧
    (∀ r, s.cox.roll = some r → s.rd F.COX_UPD_STATE = 6 →
      let u := { s with cox := { s.cox with roll := none, agent := none, ucVersion := s.versionIn r.copy 2 } }.dropStage
      exec .probationEnd s = .next ((((((u.wr F.BOOT_STATUS_ACTIVE (r.copy + 1)).wr F.COX_UPD_RUNCOPY (r.copy + 1)).wr F.COX_UPD_PEND 1).setUpd
        0).logActivate r.copy 6 0).raise 903 0x0000).atOnce)

/-- Attestation (R467 to R469): each SPDM request is answered; slots other than slot 0 and measurement indices above 7, but 0xFF, are
answered with an error. Digests, certificates and signatures are values that the spec leaves to its cryptography (log entries of
Config.cryptoValue). -/
def Obligations.SpdmCommandsComplete : Prop :=
  ∀ (q : Nat) (s : State), s.ev.coxRuns = true → s.canHold 15 askOwner 1 = true →
    exec (.getVersion q) s = .next (s.spdmAnswer q 0x04 [0x13]).atOnce ∧
    exec (.getCapabilities q) s = .next (s.spdmAnswer q 0x61 [15, 0x16]).atOnce ∧
    exec (.negotiateAlgorithms q) s = .next (s.spdmAnswer q 0x63 [0x20, 0x20, 0, 3, 0x1F7C, 0x0087]).atOnce ∧
    exec (.getDigests q) s = .next (s.spdmAnswer q 0x01 [1, Config.cryptoValue 1 0x100 0 0]).atOnce ∧
    exec (.getCertificate q 0) s = .next (s.spdmAnswer q 0x02 [Config.cryptoValue 2 0 0 0]).atOnce ∧
    (∀ nonce, exec (.challenge q 0 nonce) s = .next
      (s.spdmAnswer q 0x03 [Config.cryptoValue 1 0x100 0 0, s.fresh, Config.cryptoValue 3 (s.measure 1) nonce s.fresh]).tick.atOnce) ∧
    (∀ slot nonce, slot ≠ 0 → exec (.getCertificate q slot) s = .next (s.spdmAnswer q 0x7F [0x01]).atOnce ∧
      exec (.challenge q slot nonce) s = .next (s.spdmAnswer q 0x7F [0x01]).atOnce) ∧
    (∀ nonce, exec (.getMeasurements q 0 false nonce) s = .next (s.spdmAnswer q 0x60 [7]).atOnce ∧
      exec (.getMeasurements q 0xFF false nonce) s = .next (s.spdmAnswer q 0x60 ([1, 2, 3, 4, 5, 6, 7].map s.measure)).atOnce ∧
      (∀ i, 1 ≤ i → i ≤ 7 → exec (.getMeasurements q i false nonce) s = .next (s.spdmAnswer q 0x60 [s.measure i]).atOnce ∧
        exec (.getMeasurements q i true nonce) s = .next
          (s.spdmAnswer q 0x60 [s.measure i, s.fresh, Config.cryptoValue 3 (s.measure i) nonce s.fresh]).tick.atOnce) ∧
      (∀ i sg, 7 < i → i ≠ 0xFF → exec (.getMeasurements q i sg nonce) s = .next (s.spdmAnswer q 0x7F [0x01]).atOnce))

/-! Events, counters, spares and the test port (spec/16_events_faults_counters.md, spec/17_spares_and_service_life.md,
spec/18_electrical_and_package.md). -/

/-- Events, temperature, the performance counters and the test port (R450, R451, R489, R492, R493, R529, R531): a temperature at TRIP raises
EV0002; a sensor reading is stored and warns once per minute; a handling ends by its host or its limit; the counters freeze and clear.
IDCODE captures the device's code, BYPASS and CLAMP the bypass register; SAMPLE/PRELOAD and EXTEST capture the pins while SYS_RST_N is low,
a value that the spec leaves open, and elsewhere act as BYPASS. -/
def Obligations.EventAndTestPortCommandsComplete : Prop :=
  (∀ sensor celsius s, Does (.dieTemperatureTrip sensor celsius) s (sensor < 50 ∧ (s.ef F.COX_THERM_TRIP : Int) ≤ celsius)
    (s.raise 2 0x0000).carryOn) ∧
  (∀ die a b s, s.ev.coxRuns = true →
    let u := ((s.storeTemps die).wr F.COX_HBMT_HB0 a).wr F.COX_HBMT_HB1 b
    ((∀ t ∈ die, t < (s.ef F.COX_THERM_WARN : Int)) ∨ (∃ t, s.cox.warned = some t ∧ s.now < t + 60000000000) →
      exec (.sensorRead die a b) s = .next u.atOnce) ∧
    ((∃ t ∈ die, (s.ef F.COX_THERM_WARN : Int) ≤ t) → (∀ t, s.cox.warned = some t → t + 60000000000 ≤ s.now) →
      exec (.sensorRead die a b) s = .next (({ u with cox := { u.cox with warned := some s.now } } : State).raise 912 0x0000).atOnce)) ∧
  (∀ tag s, Does (.evtFqDone tag) s (∃ e ∈ s.ev.hand, e.tag = tag)
    ({ s with ev := { s.ev with hand := s.ev.hand.filter fun (e : FqEntry) => e.tag != tag } } : State).beginQueued) ∧
  (∀ s, (s.ev.hand = [] → exec .handlingTimeout s = .next s) ∧
    (∀ e rest, s.ev.hand = e :: rest → exec .handlingTimeout s = .next ((s.endHandling e.tag).raise 58 0xF000).carryOn)) ∧
  (∀ s, exec (.pmuFreeze true) s = .next (s.wr F.PMU_CTRL_FREEZE 1) ∧ exec (.pmuFreeze false) s = .next (s.wr F.PMU_CTRL_FREEZE 0) ∧
    exec .pmuClear s = .next s.clearCounters) ∧
  (∀ s : State,
    exec .idcode s = .next (s.loadJtag .idcode 0x14E320F5) ∧
    exec .bypass s = .next (s.loadJtag .bypass 0) ∧
    exec .clamp s = .next (s.loadJtag .clamp 0) ∧
    (s.boot.rstLow = true → exec .samplePreload s = .next (s.loadJtag .samplePreload s.fresh).tick.atOnce ∧
      exec .extest s = .next (s.loadJtag .extest s.fresh).tick.atOnce) ∧
    (s.boot.rstLow = false → exec .samplePreload s = .next (s.loadJtag .samplePreload 0).atOnce ∧
      exec .extest s = .next (s.loadJtag .extest 0).atOnce))

/-- Spares, repair and ageing (R499 to R508): wear is judged against the median of the domain; a spare that fails its check leaves the pool
with EV0928; an engine or phase that fails is replaced; arrays and HBM rows are repaired while there is room; life used only grows, and
says so once above 90 %. -/
def Obligations.SpareAndLifeCommandsComplete : Prop :=
  (∀ readings s,
    let live := readings.filter fun r => s.inService r.1
    let above := live.filter fun r =>
      twiceMedian ((live.filter fun q => engineDomain q.1 == engineDomain r.1).map (·.2)) * (100 + s.ef F.SPR_CFG_WORN) < 2 * r.2 * 100
    exec (.engineWearCheck readings) s = .next { s with spr := { s.spr with worn := above.map (·.1) } }) ∧
  (∀ e s, e < 96 → s.isSpare e = true →
    exec (.spareSelfCheck e true) s = .next s.atOnce ∧
    exec (.spareSelfCheck e false) s = .next (warnSpares s.spares.length ((s.setEngine e false false).raise 928 (0x1000 + e))).atOnce) ∧
  (∀ e ok s, e < 96 → s.inService e = true → s.cox.roll = none → (s.engineFails e).cox.roll = none →
    exec (.engineFault e ok) s = .next (s.engineFails e).carryOn) ∧
  (∀ p d s, Does (.phaseFault p d) s (p < 52 ∧ d < 14 ∧ s.phaseFaulty p = false) (s.phaseFails p d).carryOn) ∧
  (∀ array row isRow use n unc many ok s, array < 256 →
    exec (.sramSoftRepair array row isRow use n none unc many ok) s = .next (s.repairArray array row isRow use n).carryOn) ∧
  (∀ stack bank row mib s,
    (s.fuses.hbmRepairs.length < 64 →
      let u := { s with fuses := { s.fuses with hbmRepairs := s.fuses.hbmRepairs ++ [(stack, bank, row)] } }
      exec (.hbmRowRepair stack bank row mib true) s = .next
        ((u.wr F.SPR_REPAIR_HBM_FREE (63 - s.fuses.hbmRepairs.length)).raise 937 (0xB000 + stack)).atOnce) ∧
    (s.hamperAt mib = none → exec (.hbmRowRepair stack bank row mib false) s = .next (s.raise 938 (0xB000 + stack)).atOnce) ∧
    (∀ h, s.hamperAt mib = some h → exec (.hbmRowRepair stack bank row mib false) s = .next
      ((({ s with spr := { s.spr with retired := s.spr.retired ++ [h] } } : State).showUse h).raise 938 (0xB000 + stack)).atOnce)) ∧
  (∀ temp ms s,
    let acc := s.spr.lifeRest + ms * 10000 * 50 * 10 ^ 12 / (life50 temp * yearMs)
    let old := s.rd F.SPR_LIFE_USED
    let new := min 10000 (old + acc / 10 ^ 12)
    let u := { s with spr := { s.spr with lifeRest := acc % 10 ^ 12 } }.wr F.SPR_LIFE_USED new
    (old ≤ 9000 → 9000 < new → exec (.lifeUpdate temp ms) s = .next (u.raise 940 0x0000).atOnce) ∧
    (9000 < old ∨ new ≤ 9000 → exec (.lifeUpdate temp ms) s = .next u.atOnce))
end

