-- ==== Sys2Proof/Laws/Cells.lean ====
section
/-!
SUPPORT. The laws of the sparse register store: what a read gives after a write, and that every operation keeps the
canonical form.
-/

namespace Sys2Proof.Machine

namespace Cells

theorem risingFrom_mono {c : Cells} {b b' : Nat} (h : b' ≤ b) (hc : c.risingFrom b = true) : c.risingFrom b' = true := by
  cases c with
  | nil => rfl
  | cons kv rest =>
    simp [risingFrom] at *
    exact ⟨Nat.le_trans h hc.1, hc.2⟩

/-- Every key of a rising store lies above its bound. -/
theorem le_of_mem {c : Cells} {b : Nat} (hc : c.risingFrom b = true) {kv : Nat × Nat} (hm : kv ∈ c) : b ≤ kv.1 := by
  induction c generalizing b with
  | nil => cases hm
  | cons x rest ih =>
    simp [risingFrom] at hc
    cases hm with
    | head => exact hc.1
    | tail _ hm => exact Nat.le_trans hc.1 (Nat.le_of_succ_le (ih hc.2 hm))

theorem get_none_of_lt {c : Cells} {b k : Nat} (hc : c.risingFrom b = true) (hk : k < b) : c.get k = none := by
  cases c with
  | nil => rfl
  | cons x rest =>
    simp [risingFrom] at hc
    have h1 : x.1 ≠ k := by omega
    have h2 : k < x.1 := by omega
    simp [get, h1, h2]

theorem ins_rising {c : Cells} {b k v : Nat} (hc : c.risingFrom b = true) (hk : b ≤ k) :
    (c.ins k v).risingFrom b = true := by
  induction c generalizing b with
  | nil => simp [ins, risingFrom, hk]
  | cons x rest ih =>
    simp [risingFrom] at hc
    unfold ins
    split
    · next h => simp [risingFrom, hc.1, ← h, hc.2]
    · split
      · next h => simp [risingFrom, hk, hc.2]; omega
      · next h => simp [risingFrom, hc.1, ih hc.2 (by omega : x.1 + 1 ≤ k)]

theorem del_rising {c : Cells} {b k : Nat} (hc : c.risingFrom b = true) : (c.del k).risingFrom b = true := by
  induction c generalizing b with
  | nil => rfl
  | cons x rest ih =>
    simp [risingFrom] at hc
    unfold del
    split
    · exact risingFrom_mono (by omega) hc.2
    · split
      · simp [risingFrom, hc.1, hc.2]
      · simp [risingFrom, hc.1, ih hc.2]

theorem filter_rising {c : Cells} {b : Nat} (p : Nat × Nat → Bool) (hc : c.risingFrom b = true) :
    risingFrom b (c.filter p) = true := by
  induction c generalizing b with
  | nil => rfl
  | cons x rest ih =>
    simp [risingFrom] at hc
    simp only [List.filter_cons]
    split
    · simp [risingFrom, hc.1, ih hc.2]
    · exact ih (risingFrom_mono (by omega) hc.2)

theorem mem_del {c : Cells} {k : Nat} {kv : Nat × Nat} (h : kv ∈ c.del k) : kv ∈ c := by
  induction c with
  | nil => exact h
  | cons x rest ih =>
    unfold del at h
    split at h
    · exact .tail _ h
    · split at h
      · exact h
      · cases h with
        | head => exact .head _
        | tail _ h => exact .tail _ (ih h)

theorem mem_ins {c : Cells} {k v : Nat} {kv : Nat × Nat} (h : kv ∈ c.ins k v) : kv = (k, v) ∨ kv ∈ c := by
  induction c with
  | nil => simp [ins] at h; exact .inl h
  | cons x rest ih =>
    unfold ins at h
    split at h
    · simp at h; rcases h with h | h <;> simp [h]
    · split at h
      · simp at h; rcases h with h | h | h <;> simp [h]
      · simp only [List.mem_cons] at h
        rcases h with h | h
        · simp [h]
        · rcases ih h with h | h <;> simp [h]

@[simp] theorem wf_nil : Cells.wf [] = true := rfl

/-- Writing keeps the canonical form. -/
theorem write_wf {c : Cells} {k v : Nat} (h : c.wf = true) : (c.write k v).wf = true := by
  simp only [wf, Bool.and_eq_true, List.all_eq_true] at *
  unfold write put
  split
  · exact ⟨del_rising h.1, fun kv hm => h.2 kv (mem_del hm)⟩
  · next hne =>
    refine ⟨ins_rising h.1 (Nat.zero_le _), fun kv hm => ?_⟩
    rcases mem_ins hm with rfl | hm
    · simpa using hne
    · exact h.2 kv hm

/-- Dropping entries keeps the canonical form: a dropped cell reads as its reset value. -/
theorem filter_wf {c : Cells} (p : Nat × Nat → Bool) (h : c.wf = true) : Cells.wf (c.filter p) = true := by
  simp only [wf, Bool.and_eq_true, List.all_eq_true] at *
  exact ⟨filter_rising p h.1, fun kv hm => h.2 kv ((List.mem_filter.mp hm).1)⟩

theorem get_ins_self (c : Cells) (k v : Nat) : (c.ins k v).get k = some v := by
  induction c with
  | nil => simp [ins, get]
  | cons x rest ih =>
    unfold ins
    split
    · simp [get]
    · split
      · simp [get]
      · next h1 h2 => simp [get, h1, h2, ih]

theorem get_ins_ne {c : Cells} {k k' v : Nat} (h : k' ≠ k) : (c.ins k v).get k' = c.get k' := by
  induction c with
  | nil => simp [ins, get, Ne.symm h]
  | cons x rest ih =>
    unfold ins
    split
    · next hx => simp [get, Ne.symm h, hx]
    · split
      · next h1 h2 =>
        by_cases hk : k' < k
        · have : x.1 ≠ k' := by omega
          simp [get, Ne.symm h, hk, this, (by omega : k' < x.1)]
        · simp [get, Ne.symm h, hk]
      · simp only [get, ih]

theorem get_del_self {c : Cells} {b k : Nat} (hc : c.risingFrom b = true) : (c.del k).get k = none := by
  induction c generalizing b with
  | nil => rfl
  | cons x rest ih =>
    simp [risingFrom] at hc
    unfold del
    split
    · next h => exact get_none_of_lt hc.2 (by omega)
    · split
      · next h1 h2 => simp [get, h1, h2]
      · next h1 h2 => simp [get, h1, h2, ih hc.2]

theorem get_del_ne {c : Cells} {b k k' : Nat} (hc : c.risingFrom b = true) (h : k' ≠ k) :
    (c.del k).get k' = c.get k' := by
  induction c generalizing b with
  | nil => rfl
  | cons x rest ih =>
    simp [risingFrom] at hc
    unfold del
    split
    · next hx =>
      have h1 : x.1 ≠ k' := by omega
      by_cases hk : k' < x.1
      · simp [get, h1, hk, get_none_of_lt hc.2 (by omega : k' < x.1 + 1)]
      · simp [get, h1, hk]
    · split
      · rfl
      · simp only [get, ih hc.2]

/-- A canonical store reads back what was written. -/
theorem read_write_self {c : Cells} (h : c.wf = true) (k v : Nat) : (c.write k v).read k = v := by
  simp only [wf, Bool.and_eq_true] at h
  unfold read write put
  split
  · next e => simp [get_del_self h.1, e]
  · simp [get_ins_self]

/-- A write leaves every other cell as it was. -/
theorem read_write_ne {c : Cells} (h : c.wf = true) {k k' : Nat} (v : Nat) (hk : k' ≠ k) :
    (c.write k v).read k' = c.read k' := by
  simp only [wf, Bool.and_eq_true] at h
  unfold read write put
  split
  · rw [get_del_ne h.1 hk]
  · rw [get_ins_ne hk]

end Cells

end Sys2Proof.Machine
end

