-- ==== Sys2Proof/Laws/State.lean ====
section
/-!
SUPPORT. What the small updates of the state change and what they leave: one lemma per field and update, so that no later proof
unfolds a record update, and the laws of reading a register field after a write.
-/

namespace Sys2Proof.Machine.State

variable (s : State)

@[simp] theorem wr_pending (f : Field) (v i j : Nat) : (s.wr f v i j).pending = s.pending := rfl
@[simp] theorem wr_eff (f : Field) (v i j : Nat) : (s.wr f v i j).eff = s.eff := rfl
@[simp] theorem wr_latch (f : Field) (v i j : Nat) : (s.wr f v i j).latch = s.latch := rfl
@[simp] theorem wr_heat (f : Field) (v i j : Nat) : (s.wr f v i j).heat = s.heat := rfl
@[simp] theorem wr_tod (f : Field) (v i j : Nat) : (s.wr f v i j).tod = s.tod := rfl
@[simp] theorem wr_now (f : Field) (v i j : Nat) : (s.wr f v i j).now = s.now := rfl
@[simp] theorem wr_free (f : Field) (v i j : Nat) : (s.wr f v i j).free = s.free := rfl
@[simp] theorem wr_out (f : Field) (v i j : Nat) : (s.wr f v i j).out = s.out := rfl
@[simp] theorem wr_ev (f : Field) (v i j : Nat) : (s.wr f v i j).ev = s.ev := rfl
@[simp] theorem wr_boot (f : Field) (v i j : Nat) : (s.wr f v i j).boot = s.boot := rfl
@[simp] theorem wr_fuses (f : Field) (v i j : Nat) : (s.wr f v i j).fuses = s.fuses := rfl
@[simp] theorem wr_clk (f : Field) (v i j : Nat) : (s.wr f v i j).clk = s.clk := rfl
@[simp] theorem wr_wrg (f : Field) (v i j : Nat) : (s.wr f v i j).wrg = s.wrg := rfl
@[simp] theorem wr_ept (f : Field) (v i j : Nat) : (s.wr f v i j).ept = s.ept := rfl
@[simp] theorem wr_cox (f : Field) (v i j : Nat) : (s.wr f v i j).cox = s.cox := rfl
@[simp] theorem wr_spr (f : Field) (v i j : Nat) : (s.wr f v i j).spr = s.spr := rfl
@[simp] theorem wr_bay (f : Field) (v i j : Nat) : (s.wr f v i j).bay = s.bay := rfl
@[simp] theorem wr_sw (f : Field) (v i j : Nat) : (s.wr f v i j).sw = s.sw := rfl
@[simp] theorem wr_ptp (f : Field) (v i j : Nat) : (s.wr f v i j).ptp = s.ptp := rfl
@[simp] theorem wr_skf (f : Field) (v i j : Nat) : (s.wr f v i j).skf = s.skf := rfl
@[simp] theorem wr_nvt (f : Field) (v i j : Nat) : (s.wr f v i j).nvt = s.nvt := rfl
@[simp] theorem wr_hmp (f : Field) (v i j : Nat) : (s.wr f v i j).hmp = s.hmp := rfl
@[simp] theorem wr_jtag (f : Field) (v i j : Nat) : (s.wr f v i j).jtag = s.jtag := rfl
@[simp] theorem wr_fatal (f : Field) (v i j : Nat) : (s.wr f v i j).fatal = s.fatal := rfl
@[simp] theorem wr_cip (f : Field) (v i j : Nat) : (s.wr f v i j).cip = s.cip := rfl
@[simp] theorem wr_cmp (f : Field) (v i j : Nat) : (s.wr f v i j).cmp = s.cmp := rfl
@[simp] theorem wr_chk (f : Field) (v i j : Nat) : (s.wr f v i j).chk = s.chk := rfl
@[simp] theorem wr_crw (f : Field) (v i j : Nat) : (s.wr f v i j).crw = s.crw := rfl
@[simp] theorem wr_twn (f : Field) (v i j : Nat) : (s.wr f v i j).twn = s.twn := rfl

@[simp] theorem emit_pending (o : Out) : (s.emit o).pending = s.pending := rfl
@[simp] theorem emit_regs (o : Out) : (s.emit o).regs = s.regs := rfl
@[simp] theorem emit_eff (o : Out) : (s.emit o).eff = s.eff := rfl
@[simp] theorem emit_latch (o : Out) : (s.emit o).latch = s.latch := rfl
@[simp] theorem emit_heat (o : Out) : (s.emit o).heat = s.heat := rfl
@[simp] theorem emit_tod (o : Out) : (s.emit o).tod = s.tod := rfl
@[simp] theorem emit_now (o : Out) : (s.emit o).now = s.now := rfl
@[simp] theorem emit_free (o : Out) : (s.emit o).free = s.free := rfl
@[simp] theorem emit_ev (o : Out) : (s.emit o).ev = s.ev := rfl
@[simp] theorem emit_boot (o : Out) : (s.emit o).boot = s.boot := rfl
@[simp] theorem emit_fuses (o : Out) : (s.emit o).fuses = s.fuses := rfl
@[simp] theorem emit_clk (o : Out) : (s.emit o).clk = s.clk := rfl
@[simp] theorem emit_wrg (o : Out) : (s.emit o).wrg = s.wrg := rfl
@[simp] theorem emit_ept (o : Out) : (s.emit o).ept = s.ept := rfl
@[simp] theorem emit_cox (o : Out) : (s.emit o).cox = s.cox := rfl
@[simp] theorem emit_spr (o : Out) : (s.emit o).spr = s.spr := rfl
@[simp] theorem emit_bay (o : Out) : (s.emit o).bay = s.bay := rfl
@[simp] theorem emit_sw (o : Out) : (s.emit o).sw = s.sw := rfl
@[simp] theorem emit_ptp (o : Out) : (s.emit o).ptp = s.ptp := rfl
@[simp] theorem emit_skf (o : Out) : (s.emit o).skf = s.skf := rfl
@[simp] theorem emit_nvt (o : Out) : (s.emit o).nvt = s.nvt := rfl
@[simp] theorem emit_hmp (o : Out) : (s.emit o).hmp = s.hmp := rfl
@[simp] theorem emit_jtag (o : Out) : (s.emit o).jtag = s.jtag := rfl
@[simp] theorem emit_fatal (o : Out) : (s.emit o).fatal = s.fatal := rfl
@[simp] theorem emit_cip (o : Out) : (s.emit o).cip = s.cip := rfl
@[simp] theorem emit_cmp (o : Out) : (s.emit o).cmp = s.cmp := rfl
@[simp] theorem emit_chk (o : Out) : (s.emit o).chk = s.chk := rfl
@[simp] theorem emit_crw (o : Out) : (s.emit o).crw = s.crw := rfl
@[simp] theorem emit_twn (o : Out) : (s.emit o).twn = s.twn := rfl

@[simp] theorem tick_pending : (s.tick).pending = s.pending := rfl
@[simp] theorem tick_regs : (s.tick).regs = s.regs := rfl
@[simp] theorem tick_eff : (s.tick).eff = s.eff := rfl
@[simp] theorem tick_latch : (s.tick).latch = s.latch := rfl
@[simp] theorem tick_heat : (s.tick).heat = s.heat := rfl
@[simp] theorem tick_tod : (s.tick).tod = s.tod := rfl
@[simp] theorem tick_now : (s.tick).now = s.now := rfl
@[simp] theorem tick_out : (s.tick).out = s.out := rfl
@[simp] theorem tick_ev : (s.tick).ev = s.ev := rfl
@[simp] theorem tick_boot : (s.tick).boot = s.boot := rfl
@[simp] theorem tick_fuses : (s.tick).fuses = s.fuses := rfl
@[simp] theorem tick_clk : (s.tick).clk = s.clk := rfl
@[simp] theorem tick_wrg : (s.tick).wrg = s.wrg := rfl
@[simp] theorem tick_ept : (s.tick).ept = s.ept := rfl
@[simp] theorem tick_cox : (s.tick).cox = s.cox := rfl
@[simp] theorem tick_spr : (s.tick).spr = s.spr := rfl
@[simp] theorem tick_bay : (s.tick).bay = s.bay := rfl
@[simp] theorem tick_sw : (s.tick).sw = s.sw := rfl
@[simp] theorem tick_ptp : (s.tick).ptp = s.ptp := rfl
@[simp] theorem tick_skf : (s.tick).skf = s.skf := rfl
@[simp] theorem tick_nvt : (s.tick).nvt = s.nvt := rfl
@[simp] theorem tick_hmp : (s.tick).hmp = s.hmp := rfl
@[simp] theorem tick_jtag : (s.tick).jtag = s.jtag := rfl
@[simp] theorem tick_fatal : (s.tick).fatal = s.fatal := rfl
@[simp] theorem tick_cip : (s.tick).cip = s.cip := rfl
@[simp] theorem tick_cmp : (s.tick).cmp = s.cmp := rfl
@[simp] theorem tick_chk : (s.tick).chk = s.chk := rfl
@[simp] theorem tick_crw : (s.tick).crw = s.crw := rfl
@[simp] theorem tick_twn : (s.tick).twn = s.twn := rfl

@[simp] theorem pass_pending (ns : Nat) : (s.pass ns).pending = s.pending := by unfold pass; dsimp only; split <;> rfl
@[simp] theorem pass_regs (ns : Nat) : (s.pass ns).regs = s.regs := by unfold pass; dsimp only; split <;> rfl
@[simp] theorem pass_eff (ns : Nat) : (s.pass ns).eff = s.eff := by unfold pass; dsimp only; split <;> rfl
@[simp] theorem pass_latch (ns : Nat) : (s.pass ns).latch = s.latch := by unfold pass; dsimp only; split <;> rfl
@[simp] theorem pass_heat (ns : Nat) : (s.pass ns).heat = s.heat := by unfold pass; dsimp only; split <;> rfl
@[simp] theorem pass_out (ns : Nat) : (s.pass ns).out = s.out := by unfold pass; dsimp only; split <;> rfl
@[simp] theorem pass_ev (ns : Nat) : (s.pass ns).ev = s.ev := by unfold pass; dsimp only; split <;> rfl
@[simp] theorem pass_boot (ns : Nat) : (s.pass ns).boot = s.boot := by unfold pass; dsimp only; split <;> rfl
@[simp] theorem pass_fuses (ns : Nat) : (s.pass ns).fuses = s.fuses := by unfold pass; dsimp only; split <;> rfl
@[simp] theorem pass_clk (ns : Nat) : (s.pass ns).clk = s.clk := by unfold pass; dsimp only; split <;> rfl
@[simp] theorem pass_wrg (ns : Nat) : (s.pass ns).wrg = s.wrg := by unfold pass; dsimp only; split <;> rfl
@[simp] theorem pass_ept (ns : Nat) : (s.pass ns).ept = s.ept := by unfold pass; dsimp only; split <;> rfl
@[simp] theorem pass_cox (ns : Nat) : (s.pass ns).cox = s.cox := by unfold pass; dsimp only; split <;> rfl
@[simp] theorem pass_spr (ns : Nat) : (s.pass ns).spr = s.spr := by unfold pass; dsimp only; split <;> rfl
@[simp] theorem pass_bay (ns : Nat) : (s.pass ns).bay = s.bay := by unfold pass; dsimp only; split <;> rfl
@[simp] theorem pass_sw (ns : Nat) : (s.pass ns).sw = s.sw := by unfold pass; dsimp only; split <;> rfl
@[simp] theorem pass_skf (ns : Nat) : (s.pass ns).skf = s.skf := by unfold pass; dsimp only; split <;> rfl
@[simp] theorem pass_nvt (ns : Nat) : (s.pass ns).nvt = s.nvt := by unfold pass; dsimp only; split <;> rfl
@[simp] theorem pass_hmp (ns : Nat) : (s.pass ns).hmp = s.hmp := by unfold pass; dsimp only; split <;> rfl
@[simp] theorem pass_jtag (ns : Nat) : (s.pass ns).jtag = s.jtag := by unfold pass; dsimp only; split <;> rfl
@[simp] theorem pass_fatal (ns : Nat) : (s.pass ns).fatal = s.fatal := by unfold pass; dsimp only; split <;> rfl
@[simp] theorem pass_cip (ns : Nat) : (s.pass ns).cip = s.cip := by unfold pass; dsimp only; split <;> rfl
@[simp] theorem pass_cmp (ns : Nat) : (s.pass ns).cmp = s.cmp := by unfold pass; dsimp only; split <;> rfl
@[simp] theorem pass_chk (ns : Nat) : (s.pass ns).chk = s.chk := by unfold pass; dsimp only; split <;> rfl
@[simp] theorem pass_crw (ns : Nat) : (s.pass ns).crw = s.crw := by unfold pass; dsimp only; split <;> rfl
@[simp] theorem pass_twn (ns : Nat) : (s.pass ns).twn = s.twn := by unfold pass; dsimp only; split <;> rfl

@[simp] theorem setStage_pending (n : Nat) : (s.setStage n).pending = s.pending := rfl
@[simp] theorem setStage_eff (n : Nat) : (s.setStage n).eff = s.eff := rfl
@[simp] theorem setStage_latch (n : Nat) : (s.setStage n).latch = s.latch := rfl
@[simp] theorem setStage_heat (n : Nat) : (s.setStage n).heat = s.heat := rfl
@[simp] theorem setStage_tod (n : Nat) : (s.setStage n).tod = s.tod := rfl
@[simp] theorem setStage_now (n : Nat) : (s.setStage n).now = s.now := rfl
@[simp] theorem setStage_free (n : Nat) : (s.setStage n).free = s.free := rfl
@[simp] theorem setStage_out (n : Nat) : (s.setStage n).out = s.out := rfl
@[simp] theorem setStage_ev (n : Nat) : (s.setStage n).ev = s.ev := rfl
@[simp] theorem setStage_boot (n : Nat) : (s.setStage n).boot = s.boot := rfl
@[simp] theorem setStage_fuses (n : Nat) : (s.setStage n).fuses = s.fuses := rfl
@[simp] theorem setStage_clk (n : Nat) : (s.setStage n).clk = s.clk := rfl
@[simp] theorem setStage_wrg (n : Nat) : (s.setStage n).wrg = s.wrg := rfl
@[simp] theorem setStage_ept (n : Nat) : (s.setStage n).ept = s.ept := rfl
@[simp] theorem setStage_cox (n : Nat) : (s.setStage n).cox = s.cox := rfl
@[simp] theorem setStage_spr (n : Nat) : (s.setStage n).spr = s.spr := rfl
@[simp] theorem setStage_bay (n : Nat) : (s.setStage n).bay = s.bay := rfl
@[simp] theorem setStage_sw (n : Nat) : (s.setStage n).sw = s.sw := rfl
@[simp] theorem setStage_ptp (n : Nat) : (s.setStage n).ptp = s.ptp := rfl
@[simp] theorem setStage_skf (n : Nat) : (s.setStage n).skf = s.skf := rfl
@[simp] theorem setStage_nvt (n : Nat) : (s.setStage n).nvt = s.nvt := rfl
@[simp] theorem setStage_hmp (n : Nat) : (s.setStage n).hmp = s.hmp := rfl
@[simp] theorem setStage_jtag (n : Nat) : (s.setStage n).jtag = s.jtag := rfl
@[simp] theorem setStage_fatal (n : Nat) : (s.setStage n).fatal = s.fatal := rfl
@[simp] theorem setStage_cip (n : Nat) : (s.setStage n).cip = s.cip := rfl
@[simp] theorem setStage_cmp (n : Nat) : (s.setStage n).cmp = s.cmp := rfl
@[simp] theorem setStage_chk (n : Nat) : (s.setStage n).chk = s.chk := rfl
@[simp] theorem setStage_crw (n : Nat) : (s.setStage n).crw = s.crw := rfl
@[simp] theorem setStage_twn (n : Nat) : (s.setStage n).twn = s.twn := rfl

@[simp] theorem bump_pending (f : Field) (n i j : Nat) : (s.bump f n i j).pending = s.pending := rfl
@[simp] theorem bump_eff (f : Field) (n i j : Nat) : (s.bump f n i j).eff = s.eff := rfl
@[simp] theorem bump_latch (f : Field) (n i j : Nat) : (s.bump f n i j).latch = s.latch := rfl
@[simp] theorem bump_heat (f : Field) (n i j : Nat) : (s.bump f n i j).heat = s.heat := rfl
@[simp] theorem bump_tod (f : Field) (n i j : Nat) : (s.bump f n i j).tod = s.tod := rfl
@[simp] theorem bump_now (f : Field) (n i j : Nat) : (s.bump f n i j).now = s.now := rfl
@[simp] theorem bump_free (f : Field) (n i j : Nat) : (s.bump f n i j).free = s.free := rfl
@[simp] theorem bump_out (f : Field) (n i j : Nat) : (s.bump f n i j).out = s.out := rfl
@[simp] theorem bump_ev (f : Field) (n i j : Nat) : (s.bump f n i j).ev = s.ev := rfl
@[simp] theorem bump_boot (f : Field) (n i j : Nat) : (s.bump f n i j).boot = s.boot := rfl
@[simp] theorem bump_fuses (f : Field) (n i j : Nat) : (s.bump f n i j).fuses = s.fuses := rfl
@[simp] theorem bump_clk (f : Field) (n i j : Nat) : (s.bump f n i j).clk = s.clk := rfl
@[simp] theorem bump_wrg (f : Field) (n i j : Nat) : (s.bump f n i j).wrg = s.wrg := rfl
@[simp] theorem bump_ept (f : Field) (n i j : Nat) : (s.bump f n i j).ept = s.ept := rfl
@[simp] theorem bump_cox (f : Field) (n i j : Nat) : (s.bump f n i j).cox = s.cox := rfl
@[simp] theorem bump_spr (f : Field) (n i j : Nat) : (s.bump f n i j).spr = s.spr := rfl
@[simp] theorem bump_bay (f : Field) (n i j : Nat) : (s.bump f n i j).bay = s.bay := rfl
@[simp] theorem bump_sw (f : Field) (n i j : Nat) : (s.bump f n i j).sw = s.sw := rfl
@[simp] theorem bump_ptp (f : Field) (n i j : Nat) : (s.bump f n i j).ptp = s.ptp := rfl
@[simp] theorem bump_skf (f : Field) (n i j : Nat) : (s.bump f n i j).skf = s.skf := rfl
@[simp] theorem bump_nvt (f : Field) (n i j : Nat) : (s.bump f n i j).nvt = s.nvt := rfl
@[simp] theorem bump_hmp (f : Field) (n i j : Nat) : (s.bump f n i j).hmp = s.hmp := rfl
@[simp] theorem bump_jtag (f : Field) (n i j : Nat) : (s.bump f n i j).jtag = s.jtag := rfl
@[simp] theorem bump_fatal (f : Field) (n i j : Nat) : (s.bump f n i j).fatal = s.fatal := rfl
@[simp] theorem bump_cip (f : Field) (n i j : Nat) : (s.bump f n i j).cip = s.cip := rfl
@[simp] theorem bump_cmp (f : Field) (n i j : Nat) : (s.bump f n i j).cmp = s.cmp := rfl
@[simp] theorem bump_chk (f : Field) (n i j : Nat) : (s.bump f n i j).chk = s.chk := rfl
@[simp] theorem bump_crw (f : Field) (n i j : Nat) : (s.bump f n i j).crw = s.crw := rfl
@[simp] theorem bump_twn (f : Field) (n i j : Nat) : (s.bump f n i j).twn = s.twn := rfl

@[simp] theorem emit_out (o : Out) : (s.emit o).out = s.out ++ [o] := rfl
@[simp] theorem tick_free : s.tick.free = s.free + 1 := rfl
@[simp] theorem pass_now (ns : Nat) : (s.pass ns).now = s.now + ns := by unfold pass; dsimp only; split <;> rfl

/-- With no correction of the time of day to slew, it runs with elapsed time (R73). -/
theorem pass_tod (ns : Nat) (h : s.ptp.slew = 0) : (s.pass ns).tod = s.tod + ns := by simp [pass, h]

/-! The logbook: every field but `regs` and `cox` stays. -/

@[simp] theorem log_pending (k v : Nat) (p : List Nat) : (s.log k v p).pending = s.pending := rfl
@[simp] theorem log_eff (k v : Nat) (p : List Nat) : (s.log k v p).eff = s.eff := rfl
@[simp] theorem log_latch (k v : Nat) (p : List Nat) : (s.log k v p).latch = s.latch := rfl
@[simp] theorem log_heat (k v : Nat) (p : List Nat) : (s.log k v p).heat = s.heat := rfl
@[simp] theorem log_tod (k v : Nat) (p : List Nat) : (s.log k v p).tod = s.tod := rfl
@[simp] theorem log_now (k v : Nat) (p : List Nat) : (s.log k v p).now = s.now := rfl
@[simp] theorem log_free (k v : Nat) (p : List Nat) : (s.log k v p).free = s.free := rfl
@[simp] theorem log_out (k v : Nat) (p : List Nat) : (s.log k v p).out = s.out := rfl
@[simp] theorem log_ev (k v : Nat) (p : List Nat) : (s.log k v p).ev = s.ev := rfl
@[simp] theorem log_boot (k v : Nat) (p : List Nat) : (s.log k v p).boot = s.boot := rfl
@[simp] theorem log_fuses (k v : Nat) (p : List Nat) : (s.log k v p).fuses = s.fuses := rfl
@[simp] theorem log_clk (k v : Nat) (p : List Nat) : (s.log k v p).clk = s.clk := rfl
@[simp] theorem log_wrg (k v : Nat) (p : List Nat) : (s.log k v p).wrg = s.wrg := rfl
@[simp] theorem log_ept (k v : Nat) (p : List Nat) : (s.log k v p).ept = s.ept := rfl
@[simp] theorem log_spr (k v : Nat) (p : List Nat) : (s.log k v p).spr = s.spr := rfl
@[simp] theorem log_bay (k v : Nat) (p : List Nat) : (s.log k v p).bay = s.bay := rfl
@[simp] theorem log_sw (k v : Nat) (p : List Nat) : (s.log k v p).sw = s.sw := rfl
@[simp] theorem log_ptp (k v : Nat) (p : List Nat) : (s.log k v p).ptp = s.ptp := rfl
@[simp] theorem log_skf (k v : Nat) (p : List Nat) : (s.log k v p).skf = s.skf := rfl
@[simp] theorem log_nvt (k v : Nat) (p : List Nat) : (s.log k v p).nvt = s.nvt := rfl
@[simp] theorem log_hmp (k v : Nat) (p : List Nat) : (s.log k v p).hmp = s.hmp := rfl
@[simp] theorem log_jtag (k v : Nat) (p : List Nat) : (s.log k v p).jtag = s.jtag := rfl
@[simp] theorem log_fatal (k v : Nat) (p : List Nat) : (s.log k v p).fatal = s.fatal := rfl
@[simp] theorem log_cip (k v : Nat) (p : List Nat) : (s.log k v p).cip = s.cip := rfl
@[simp] theorem log_cmp (k v : Nat) (p : List Nat) : (s.log k v p).cmp = s.cmp := rfl
@[simp] theorem log_chk (k v : Nat) (p : List Nat) : (s.log k v p).chk = s.chk := rfl
@[simp] theorem log_crw (k v : Nat) (p : List Nat) : (s.log k v p).crw = s.crw := rfl
@[simp] theorem log_twn (k v : Nat) (p : List Nat) : (s.log k v p).twn = s.twn := rfl

/-! Putting a value into effect at once changes the two register stores alone. -/

@[simp] theorem wrBoth_pending (f : Field) (v i j : Nat) : (s.wrBoth f v i j).pending = s.pending := by unfold wrBoth; split <;> rfl
@[simp] theorem wrBoth_latch (f : Field) (v i j : Nat) : (s.wrBoth f v i j).latch = s.latch := by unfold wrBoth; split <;> rfl
@[simp] theorem wrBoth_heat (f : Field) (v i j : Nat) : (s.wrBoth f v i j).heat = s.heat := by unfold wrBoth; split <;> rfl
@[simp] theorem wrBoth_tod (f : Field) (v i j : Nat) : (s.wrBoth f v i j).tod = s.tod := by unfold wrBoth; split <;> rfl
@[simp] theorem wrBoth_now (f : Field) (v i j : Nat) : (s.wrBoth f v i j).now = s.now := by unfold wrBoth; split <;> rfl
@[simp] theorem wrBoth_free (f : Field) (v i j : Nat) : (s.wrBoth f v i j).free = s.free := by unfold wrBoth; split <;> rfl
@[simp] theorem wrBoth_out (f : Field) (v i j : Nat) : (s.wrBoth f v i j).out = s.out := by unfold wrBoth; split <;> rfl
@[simp] theorem wrBoth_ev (f : Field) (v i j : Nat) : (s.wrBoth f v i j).ev = s.ev := by unfold wrBoth; split <;> rfl
@[simp] theorem wrBoth_boot (f : Field) (v i j : Nat) : (s.wrBoth f v i j).boot = s.boot := by unfold wrBoth; split <;> rfl
@[simp] theorem wrBoth_fuses (f : Field) (v i j : Nat) : (s.wrBoth f v i j).fuses = s.fuses := by unfold wrBoth; split <;> rfl
@[simp] theorem wrBoth_clk (f : Field) (v i j : Nat) : (s.wrBoth f v i j).clk = s.clk := by unfold wrBoth; split <;> rfl
@[simp] theorem wrBoth_wrg (f : Field) (v i j : Nat) : (s.wrBoth f v i j).wrg = s.wrg := by unfold wrBoth; split <;> rfl
@[simp] theorem wrBoth_ept (f : Field) (v i j : Nat) : (s.wrBoth f v i j).ept = s.ept := by unfold wrBoth; split <;> rfl
@[simp] theorem wrBoth_cox (f : Field) (v i j : Nat) : (s.wrBoth f v i j).cox = s.cox := by unfold wrBoth; split <;> rfl
@[simp] theorem wrBoth_spr (f : Field) (v i j : Nat) : (s.wrBoth f v i j).spr = s.spr := by unfold wrBoth; split <;> rfl
@[simp] theorem wrBoth_bay (f : Field) (v i j : Nat) : (s.wrBoth f v i j).bay = s.bay := by unfold wrBoth; split <;> rfl
@[simp] theorem wrBoth_sw (f : Field) (v i j : Nat) : (s.wrBoth f v i j).sw = s.sw := by unfold wrBoth; split <;> rfl
@[simp] theorem wrBoth_ptp (f : Field) (v i j : Nat) : (s.wrBoth f v i j).ptp = s.ptp := by unfold wrBoth; split <;> rfl
@[simp] theorem wrBoth_skf (f : Field) (v i j : Nat) : (s.wrBoth f v i j).skf = s.skf := by unfold wrBoth; split <;> rfl
@[simp] theorem wrBoth_nvt (f : Field) (v i j : Nat) : (s.wrBoth f v i j).nvt = s.nvt := by unfold wrBoth; split <;> rfl
@[simp] theorem wrBoth_hmp (f : Field) (v i j : Nat) : (s.wrBoth f v i j).hmp = s.hmp := by unfold wrBoth; split <;> rfl
@[simp] theorem wrBoth_jtag (f : Field) (v i j : Nat) : (s.wrBoth f v i j).jtag = s.jtag := by unfold wrBoth; split <;> rfl
@[simp] theorem wrBoth_fatal (f : Field) (v i j : Nat) : (s.wrBoth f v i j).fatal = s.fatal := by unfold wrBoth; split <;> rfl
@[simp] theorem wrBoth_cip (f : Field) (v i j : Nat) : (s.wrBoth f v i j).cip = s.cip := by unfold wrBoth; split <;> rfl
@[simp] theorem wrBoth_cmp (f : Field) (v i j : Nat) : (s.wrBoth f v i j).cmp = s.cmp := by unfold wrBoth; split <;> rfl
@[simp] theorem wrBoth_chk (f : Field) (v i j : Nat) : (s.wrBoth f v i j).chk = s.chk := by unfold wrBoth; split <;> rfl
@[simp] theorem wrBoth_crw (f : Field) (v i j : Nat) : (s.wrBoth f v i j).crw = s.crw := by unfold wrBoth; split <;> rfl
@[simp] theorem wrBoth_twn (f : Field) (v i j : Nat) : (s.wrBoth f v i j).twn = s.twn := by unfold wrBoth; split <;> rfl

/-! Reading a register field. -/

@[simp] theorem rd_emit (o : Out) (f : Field) (i j : Nat) : (s.emit o).rd f i j = s.rd f i j := rfl
@[simp] theorem rd_tick (f : Field) (i j : Nat) : s.tick.rd f i j = s.rd f i j := rfl
@[simp] theorem rd_pass (ns : Nat) (f : Field) (i j : Nat) : (s.pass ns).rd f i j = s.rd f i j := by simp [rd]
@[simp] theorem ef_emit (o : Out) (f : Field) (i j : Nat) : (s.emit o).ef f i j = s.ef f i j := rfl
@[simp] theorem ef_tick (f : Field) (i j : Nat) : s.tick.ef f i j = s.ef f i j := rfl

variable {s}

/-- A field reads back what was written, cut to its width. -/
theorem rd_wr_self (h : s.regs.wf = true) {f : Field} {v i j : Nat} : (s.wr f v i j).rd f i j = v % 2 ^ f.width :=
  Cells.read_write_self h _ _

/-- A write leaves every field at another bit address as it was. -/
theorem rd_wr_ne (h : s.regs.wf = true) {f g : Field} {v i j k l : Nat} (n : g.key k l ≠ f.key i j) :
    (s.wr f v i j).rd g k l = s.rd g k l := Cells.read_write_ne h _ n

/-- A write to the shadow leaves the value in effect of an H-class field as it was (R12). -/
theorem ef_wr_shadow {f g : Field} {v i j k l : Nat} (hg : g.kind = .rwh) : (s.wr f v i j).ef g k l = s.ef g k l := by
  simp [ef, hg]

theorem wr_wf (h : s.regs.wf = true) {f : Field} {v i j : Nat} : (s.wr f v i j).regs.wf = true := Cells.write_wf h

end Sys2Proof.Machine.State
end

