-- ==== Sys2Proof/Laws/Admit.lean ====
section
/-!
SUPPORT. What the delivery of a capsule comes to, for a command that every check of admission lets through at once.
-/

namespace Sys2Proof.Machine.State

variable {s : State}

theorem wake_nvt {u : Nat} : (s.wake u).nvt = s.nvt := by
  unfold wake setClosed wrBit
  dsimp only
  repeat' split
  all_goals rfl

theorem mirror_nvt (f : TwinFrame) : (s.mirror f).1.nvt = s.nvt := by
  unfold mirror sendTwin
  split
  · split
    · rfl
    · exact wake_nvt
  · rfl

/-- A command is held with its request and its times, behind those that are held already. -/
theorem holdCmd_cmds {c : Capsule} {req : Req} {n at_ point : Nat} :
    ∃ k : Cmd, (s.holdCmd c req n at_ point).nvt.cmds = s.nvt.cmds ++ [k] ∧ k.id = capId c ∧ k.req = req ∧ k.flow = c.flow ∧
      k.keyhi = c.keyhi ∧ k.at_ = at_ ∧ k.answerAt = (if req = .aer then 0 else point) := by
  unfold holdCmd
  dsimp only
  split
  · exact ⟨_, rfl, rfl, rfl, rfl, rfl, rfl, rfl⟩
  · rw [mirror_nvt]
    exact ⟨_, rfl, rfl, rfl, rfl, rfl, rfl, rfl⟩

/-- A command that was not held is found once it is held. -/
theorem holdCmd_cmdOf {c : Capsule} {req : Req} {n at_ point : Nat} (h : s.cmdOf (capId c) = none) :
    ∃ k, (s.holdCmd c req n at_ point).cmdOf (capId c) = some k ∧ k.id = capId c ∧ k.req = req ∧ k.flow = c.flow ∧
      k.keyhi = c.keyhi ∧ k.at_ = at_ ∧ k.answerAt = (if req = .aer then 0 else point) := by
  obtain ⟨k, e, h1, h2⟩ := holdCmd_cmds (s := s) (c := c) (req := req) (n := n) (at_ := at_) (point := point)
  refine ⟨k, ?_, h1, h2⟩
  unfold cmdOf at *
  rw [e, List.find?_append, h]
  simp [h1]

/-- A command that is held is found with what is stored for it. -/
theorem setCmd_cmdOf {i : CmdId} {k k1 : Cmd} (h : s.cmdOf i = some k) (e : k1.id = i) : (s.setCmd k1).cmdOf i = some k1 := by
  unfold setCmd cmdOf at *
  dsimp only
  generalize s.nvt.cmds = l at h
  induction l with
  | nil => simp at h
  | cons x l ih =>
    rw [List.map_cons, List.find?_cons]
    rw [List.find?_cons] at h
    by_cases hx : x.id = i
    · rw [e, if_pos hx]
      simp only [e, beq_self_eq_true]
    · have hb : (x.id == i) = false := by simpa using hx
      rw [hb] at h
      rw [e, if_neg hx, hb]
      rw [e] at ih
      exact ih h

/-- Checks that refuse nothing change nothing. -/
theorem admissionCheck_none {a : Assoc} {k : Cmd} (h : (s.admissionCheck a k).2 = none) : s.admissionCheck a k = (s, none) := by
  have e : (s.admissionCheck a k).1 = s := by
    unfold admissionCheck at *
    dsimp only at *
    repeat' split at *
    all_goals first | rfl | (simp at h; done)
  exact Prod.ext e h

/-- Keys that match where hardware compares them let the command pass. -/
theorem checkKeys_match {c : Capsule} {i : CmdId} {k : Cmd} {a : Assoc} (hk : s.cmdOf i = some k) (ha : s.assocOf i.cntlid = some a)
    (hf : k.flow = c.flow) (hh : k.keyhi = c.keyhi) (h : s.keysMatch c k.req = true) :
    s.checkKeys i = if isMedia k.req || k.req.wantsData then s.setCmd { k with passed := true }
      else (s.setCmd { k with passed := true }).executePlain a { k with passed := true } := by
  have hp : s.keysPassed i = if isMedia k.req || k.req.wantsData then s.setCmd { k with passed := true }
      else (s.setCmd { k with passed := true }).executePlain a { k with passed := true } := by
    have ha2 : (s.setCmd { k with passed := true }).assocOf i.cntlid = some a := ha
    simp only [keysPassed, hk, ha2]
  unfold checkKeys
  rw [hk]
  dsimp only
  unfold keysMatch at h
  split
  · rename_i bs hs
    rw [hs] at h
    simp only [Bool.and_eq_true, Bool.not_eq_true'] at h
    have h2 : (bs.map fun b => k.keyhi * 2 ^ 32 + b.2.2).all (s.keyMatches k.flow) = true := by
      rw [List.all_map, hf, hh]
      exact h.2
    rw [h.1, h2]
    exact hp
  · exact hp

/-- A command whose context is taken is held with it, and a capsule that starts goes on from there: a Connect is executed, and any other
command of an association is checked, unless it waits for the reservations before it. -/
theorem start_taken {i : CmdId} {k : Cmd} {u : State} (h : s.contextTaken i = some (k, u)) :
    ∃ k0, s.cmdOf i = some k0 ∧ k.req = k0.req ∧ k.id = k0.id ∧ k.flow = k0.flow ∧ k.keyhi = k0.keyhi ∧ k.phase = 1 ∧ k.ctx = !k0.req.free ∧
      s.start i = match k.req, u.assocOf i.cntlid with
        | .connect qid sqsize kato hostid dataCntlid nqn, _ => u.connect k qid sqsize kato hostid dataCntlid nqn
        | _, some a => if k.unchecked then u else u.checked a k
        | _, none => u := by
  unfold contextTaken at h
  split at h
  · cases h
  rename_i k0 hk0
  dsimp only at h
  split at h
  rotate_left
  · cases h
  rename_i hc
  cases h
  refine ⟨k0, hk0, rfl, rfl, rfl, rfl, rfl, rfl, ?_⟩
  · have hs : s.start i = s.giveContext i := by
      unfold start
      rw [hk0]
      dsimp only
      split
      · rfl
      · rename_i hf
        simp only [hf, Bool.false_or, beq_iff_eq, Option.map_eq_some_iff] at hc
        obtain ⟨w, hw, hwi⟩ := hc
        rw [hw]
        dsimp only
        rw [if_pos hwi]
    rw [hs]
    unfold giveContext
    rw [hk0]
    all_goals rfl

/-- A delivery that is to be handled is held, or refused, by its association. -/
theorem takeCmd_arrived {c : Capsule} {req : Req} {s1 : State} {at_ point : Nat} :
    s.arrived c req = some (s1, at_, point) → s.takeCmd c req =
      match req with
      | .connect qid .. =>
        let wrongFlow := match s1.assocOf c.cntlid with | some a => a.flow.ptag != c.flow.ptag | none => true
        if qid ≠ 0 && wrongFlow then s1.refuseOn c stSequence else (s1.holdCmd c req 0 at_ point).start (capId c)
      | _ =>
        match s1.assocOf c.cntlid with
        | none => s1.refuseOn c stSequence
        | some a =>
          if a.flow.ptag ≠ c.flow.ptag || !(a.queues.any (·.1 == c.qid)) then s1.refuseOn c stSequence
          else match s1.cmdOf (capId c) with
            | some k =>
              (s1.setCmd { k with
                flow := c.flow
                enc := c.enc
                keyhi := c.keyhi
                req := req
                adopted := false
                err := if c.alien then some stInvalidOpcode else if c.bad then some stInvalidField else none }).start k.id
            | none =>
              let open_ := (s1.nvt.cmds.filter fun k => k.id.cntlid == c.cntlid && k.id.qid == c.qid && !k.acked).length
              if ((a.queues.lookup c.qid).getD 0) ≤ open_ then (s1.refuseOn c stSequence).raiseOnce 198 0 0x8000
              else
                let b := nextSqhd { a with flow := c.flow } c.qid
                let s2 := (s1.setAssoc b.1).holdCmd c req b.2 at_ point
                if isAbort req && decide (16 ≤ s1.abortsOpen c.cntlid) then (s2.stopWork (capId c)).answer (capId c) stAbortLimit 0 []
                else s2.start (capId c) := by
  intro h
  unfold arrived at h
  unfold takeCmd
  generalize s.takeCapsule c req = p at h ⊢
  obtain ⟨s0, held⟩ := p
  rcases held with _ | ⟨d, gone⟩
  all_goals
    dsimp only at h ⊢
    simp only [Option.ite_none_right_eq_some, Option.some.injEq, Prod.mk.injEq] at h
    obtain ⟨hrun, rfl, rfl, rfl⟩ := h
    simp only [Bool.and_eq_true, Bool.not_eq_true'] at hrun
    obtain ⟨⟨hr, hst⟩, hhalt⟩ := hrun
    simp only [hr, hst, hhalt, Bool.not_true, Bool.not_false, Bool.false_or, Bool.false_eq_true, if_false]
    cases req <;> rfl

/-- The delivery of a command that is admitted at once: one that goes to media, or that fetches its data first, is held and goes on; any
other is executed. -/
theorem takeCmd_admitted {c : Capsule} {req : Req} {a : Assoc} {k : Cmd} {u : State} (h : s.admitted c req = some (a, k, u))
    (hc : ∀ q z t d e n, req ≠ .connect q z t d e n) :
    u.cmdOf (capId c) = some k ∧ k.id = capId c ∧ k.req = req ∧ k.phase = 1 ∧ k.ctx = !req.free ∧
      s.takeCmd c req = if isMedia req || req.wantsData then u else u.executePlain a k := by
  unfold admitted at h
  split at h
  · cases h
  rename_i s1 at_ point harr
  split at h
  · cases h
  rename_i a0 ha0
  dsimp only at h
  generalize hb : nextSqhd { a0 with flow := c.flow } c.qid = b at h
  split at h
  · cases h
  rename_i k1 s2 ht
  split at h
  rotate_left
  · cases h
  rename_i a2 ha2
  split at h
  rotate_left
  · cases h
  rename_i hcond
  cases h
  simp only [Bool.and_eq_true, beq_iff_eq, Option.isNone_iff_eq_none, decide_eq_true_eq, Bool.not_eq_true'] at hcond
  obtain ⟨⟨⟨⟨⟨⟨⟨⟨⟨⟨hp, hq⟩, hnew⟩, hroom⟩, hbad⟩, halien⟩, hun⟩, hab⟩, hk2⟩, hcheck⟩, hkeys⟩ := hcond
  have hnone : (s1.setAssoc b.1).cmdOf (capId c) = none := hnew
  obtain ⟨k', e1, e2, e3, e5, e6, -⟩ := holdCmd_cmdOf (req := req) (n := b.2) (at_ := at_) (point := point) hnone
  obtain ⟨k0, g1, g2, g3, g4, g5, g6, g7, hstart⟩ := start_taken ht
  rw [g1] at e1
  obtain rfl := Option.some.inj e1
  have hreq : k1.req = req := g2.trans e3
  have hid : k1.id = capId c := g3.trans e2
  have hk3 : (s2.setCmd k1).cmdOf (capId c) = some k1 := setCmd_cmdOf hk2 hid
  refine ⟨setCmd_cmdOf (k := k1) hk3 hid, hid, hreq, g6, by rw [g7, e3], ?_⟩
  subst hreq
  have hid2 : (s2.setCmd k1).assocOf (capId c).cntlid = some a := ha2
  have hchecked : s2.checked a k1 = if isMedia k1.req || k1.req.wantsData then (s2.setCmd k1).setCmd { k1 with passed := true }
      else ((s2.setCmd k1).setCmd { k1 with passed := true }).executePlain a { k1 with passed := true } := by
    unfold checked
    have hk : ({ k1 with unchecked := false } : Cmd) = k1 := by rw [← hun]
    rw [hk, admissionCheck_none hcheck]
    dsimp only
    exact checkKeys_match (c := c) (by rw [hid]; exact hk3) (by rw [hid]; exact hid2) (g4.trans e5) (g5.trans e6) hkeys
  have hs : ((s1.setAssoc b.1).holdCmd c k1.req b.2 at_ point).start (capId c) = s2.checked a k1 := by
    rw [hstart, ha2]
    cases hr : k1.req
    all_goals first | exact absurd hr (hc _ _ _ _ _ _) | simp only [hun]; rfl
  have ht : ∀ r : Req, (∀ q z t d e n, r ≠ .connect q z t d e n) → s.arrived c r = some (s1, at_, point) →
      (isAbort r && decide (16 ≤ s1.abortsOpen c.cntlid)) = false →
      s.takeCmd c r = ((s1.setAssoc b.1).holdCmd c r b.2 at_ point).start (capId c) := by
    intro r hr hra hab
    rw [takeCmd_arrived hra]
    cases r
    all_goals first
      | exact absurd rfl (hr _ _ _ _ _ _)
      | (dsimp only
         rw [ha0]
         dsimp only
         rw [if_neg (by simp [hp, hq]), hnew]
         dsimp only
         rw [if_neg (by omega), hb, hab]
         rfl)
  rw [← hchecked, ← hs, ht _ hc harr hab]

/-- The delivery of a Connect that is to be handled, and takes its context. -/
theorem takeCmd_connect {c : Capsule} {k : Cmd} {u : State} {q z t d e : Nat} {n : Bool}
    (h : s.connecting c (.connect q z t d e n) = some (k, u)) : s.takeCmd c (.connect q z t d e n) = u.connect k q z t d e n := by
  unfold connecting at h
  split at h
  · cases h
  rename_i s1 at_ point harr
  dsimp only at h
  rw [Option.ite_none_left_eq_some] at h
  obtain ⟨hcond, h⟩ := h
  rw [Bool.or_eq_true, not_or] at hcond
  obtain ⟨hio, hnew⟩ := hcond
  have hnew : s1.cmdOf (capId c) = none := by simpa using hnew
  obtain ⟨k', e1, e2, e3, -⟩ := holdCmd_cmdOf (req := .connect q z t d e n) (n := 0) (at_ := at_) (point := point) hnew
  obtain ⟨k0, g1, g2, -, -, -, -, -, hstart⟩ := start_taken h
  rw [g1] at e1
  obtain rfl := Option.some.inj e1
  have hreq : k.req = .connect q z t d e n := g2.trans e3
  rw [takeCmd_arrived harr]
  dsimp only
  rw [if_neg]
  · rw [hstart, hreq]
  · revert hio
    cases s1.assocOf c.cntlid <;> simp

end Sys2Proof.Machine.State
end

