-- ==== Sys2Proof/Laws/Answers.lean ====
section
/-!
SUPPORT. What an accepted ANSWER, and a frame of the twin link that is accepted, come to.
-/

namespace Sys2Proof.Machine.State

variable {s : State}

/-- What an accepted ANSWER's entry and item are. -/
theorem answered_spec {ring fn code : Nat} {data : Option (List Nat)} {e : Taken × Item} (h : s.answered ring fn code data = some e) :
    s.front ring 3 = some e.1 ∧ s.itemOf e.1.entry.item = some e.2 ∧ e.2.cox = coxRing ring ∧ e.2.fn = fn ∧ e.1.entry.count = 0 ∧
      e.1.entry.dlen ≤ 65536 ∧ e.1.entry.code = code ∧ (answerCodes fn).contains code = true ∧
      (e.1.entry.dlen = 0 ∨ data.isSome = true) := by
  unfold answered at h
  generalize s.front ring 3 = o at h ⊢
  cases o with
  | none => cases h
  | some t =>
    dsimp only at h
    generalize hit : s.itemOf t.entry.item = o at h
    cases o with
    | none => cases h
    | some it =>
      dsimp only at h
      split at h
      · next hcond =>
        cases h
        simp only [Bool.and_eq_true, beq_iff_eq, decide_eq_true_eq, Bool.or_eq_true] at hcond
        obtain ⟨⟨⟨⟨⟨⟨h1, h2⟩, h3⟩, h4⟩, h5⟩, h6⟩, h7⟩ := hcond
        exact ⟨rfl, hit, h1, h2, h3, h4, h5, h6, h7⟩
      · cases h

/-- An ANSWER that is the oldest entry of its ring and whose item waits acts on its item. -/
theorem answerWith_answered {ring fn code : Nat} {codes : List Nat} {data : Option (List Nat)} {e : Taken × Item}
    {act : Entry → Item → State → Option State} (h : s.answered ring fn code data = some e) (hc : codes.contains code = true) :
    e.1.entry.code = code ∧ s.answerWith ring fn codes data act = match act e.1.entry e.2 (s.endItem e.2.tag) with
      | some s1 => (s1.finishAnswer e.1 0).carryOn
      | none => s.finishAnswer e.1 6 := by
  obtain ⟨h0, hit, h1, h2, h3, h4, h5, h6, h7⟩ := answered_spec h
  refine ⟨h5, ?_⟩
  have h8 : (decide (e.1.entry.dlen ≠ 0) && data.isNone) = false := by
    cases data with
    | none => simp at h7; simp [h7]
    | some d => simp
  have h9 : (decide (e.1.entry.count ≠ 0) || decide (65536 < e.1.entry.dlen) || !(answerCodes fn).contains e.1.entry.code) = false := by
    rw [h5, h6, h3]
    simp
    all_goals omega
  unfold answerWith
  simp only [h0, hit, h1, h2, h5, hc, bne_self_eq_false, Bool.false_eq_true, if_false, ne_eq, not_true_eq_false, Bool.not_true]
  rw [h5] at h9
  rw [if_neg (by rw [h9]; decide), if_neg (by rw [h8]; decide)]
  all_goals (cases act e.1.entry e.2 (s.endItem e.2.tag) <;> rfl)

/-- An ANSWER without a payload acts on its item. -/
theorem answerPlain_answered {ring fn code : Nat} {e : Taken × Item} {act : Item → State → State}
    (h : s.answered ring fn code none = some e) (hp : noPayload e.1.entry = true) :
    s.answerPlain ring fn code act = s.concluded e fun t => act e.2 t := by
  unfold answerPlain
  rw [(answerWith_answered h (by simp)).2]
  simp only [hp, if_true]
  rfl

/-- A frame that is accepted takes its effect. -/
theorem rxFrame_accepted {h : TwHdr} {u : State} {act : State → State × Bool} (hu : s.frameIn h = some u) :
    s.rxFrame h act = if (act u).2 then (act u).1 else { (act u).1 with twn := { (act u).1.twn with rxNext := h.seq } } := by
  unfold frameIn at hu
  dsimp only at hu
  split at hu
  · next hc =>
    have e := Option.some.inj hu
    rw [← e]
    simp only [Bool.and_eq_true, beq_iff_eq] at hc
    unfold rxFrame
    simp only [hc, Bool.not_true, Bool.or_self, Bool.false_eq_true, if_false, if_true]
  · cases hu

end Sys2Proof.Machine.State
end

