-- ==== Sys2Proof/Laws/Kept.lean ====
section
/-!
SUPPORT. What no operation of the machine breaks, as one relation between a state and a later one, with the rules that
carry it through the shapes of the model's definitions.
-/

namespace Sys2Proof.Machine

/-- The fuses of `b` are those of `a` with nothing more than epoch bits and repairs blown. -/
structure Fuses.Grow (a b : Fuses) : Prop where
  slots : b.slots = a.slots
  revoked : b.revoked = a.revoked
  ktk : b.ktk = a.ktk
  epoch : a.epoch ≤ b.epoch
  sramRepairs : a.sramRepairs <+: b.sramRepairs
  hbmRepairs : a.hbmRepairs <+: b.hbmRepairs

/-- What every command keeps between the state it runs on and the one it gives: the queue is the same, what was sent stays
sent, free values are not taken back, fuses stay blown, the register stores stay canonical, and the logbook stays in order
and never goes back. -/
structure Kept0 (r t : State) : Prop where
  pending : t.pending = r.pending
  out : r.out <+: t.out
  free : r.free ≤ t.free
  fuses : r.fuses.Stay t.fuses
  canonical : r.Canonical → t.Canonical
  logInOrder : r.LogInOrder → t.LogInOrder
  lastSeq : r.lastSeq ≤ t.lastSeq

/-- As `Kept0`, with the key slots, their revocations and the transport key as they were. -/
structure Kept (r t : State) : Prop where
  pending : t.pending = r.pending
  out : r.out <+: t.out
  free : r.free ≤ t.free
  fuses : r.fuses.Grow t.fuses
  canonical : r.Canonical → t.Canonical
  logInOrder : r.LogInOrder → t.LogInOrder
  lastSeq : r.lastSeq ≤ t.lastSeq

theorem Fuses.Stay.trans {a b c : Fuses} (h : a.Stay b) (g : b.Stay c) : a.Stay c where
  slots k hk := by rw [g.slots k (by rw [h.slots k hk]; exact hk), h.slots k hk]
  revoked k hk := g.revoked k (h.revoked k hk)
  ktk v hv := g.ktk v (h.ktk v hv)
  epoch := Nat.le_trans h.epoch g.epoch
  sramRepairs := h.sramRepairs.trans g.sramRepairs
  hbmRepairs := h.hbmRepairs.trans g.hbmRepairs

theorem Fuses.Grow.stay {a b : Fuses} (h : a.Grow b) : a.Stay b :=
  ⟨fun _ _ => by rw [h.slots], fun _ g => by rw [h.revoked]; exact g, fun _ g => by rw [h.ktk]; exact g, h.epoch, h.sramRepairs,
    h.hbmRepairs⟩

theorem Fuses.Grow.refl (a : Fuses) : a.Grow a :=
  ⟨rfl, rfl, rfl, Nat.le_refl _, List.prefix_refl _, List.prefix_refl _⟩

theorem Fuses.Grow.trans {a b c : Fuses} (h : a.Grow b) (g : b.Grow c) : a.Grow c where
  slots := g.slots.trans h.slots
  revoked := g.revoked.trans h.revoked
  ktk := g.ktk.trans h.ktk
  epoch := Nat.le_trans h.epoch g.epoch
  sramRepairs := h.sramRepairs.trans g.sramRepairs
  hbmRepairs := h.hbmRepairs.trans g.hbmRepairs

variable {r s t u : State} {α β : Type}

theorem Kept.refl (s : State) : Kept s s :=
  ⟨rfl, List.prefix_refl _, Nat.le_refl _, Fuses.Grow.refl _, id, id, Nat.le_refl _⟩

theorem Kept.trans (h : Kept r s) (g : Kept s t) : Kept r t where
  pending := g.pending.trans h.pending
  out := h.out.trans g.out
  free := Nat.le_trans h.free g.free
  fuses := h.fuses.trans g.fuses
  canonical := g.canonical ∘ h.canonical
  logInOrder := g.logInOrder ∘ h.logInOrder
  lastSeq := Nat.le_trans h.lastSeq g.lastSeq

theorem Kept.weak (h : Kept r t) : Kept0 r t :=
  ⟨h.pending, h.out, h.free, h.fuses.stay, h.canonical, h.logInOrder, h.lastSeq⟩

theorem Kept0.trans (h : Kept0 r s) (g : Kept0 s t) : Kept0 r t where
  pending := g.pending.trans h.pending
  out := h.out.trans g.out
  free := Nat.le_trans h.free g.free
  fuses := h.fuses.trans g.fuses
  canonical := g.canonical ∘ h.canonical
  logInOrder := g.logInOrder ∘ h.logInOrder
  lastSeq := Nat.le_trans h.lastSeq g.lastSeq

theorem Kept0.ite {c : Prop} [Decidable c] (h : Kept0 r s) (g : Kept0 r t) : Kept0 r (if c then s else t) := by
  split <;> assumption

/-- The parts of the state that `Kept` speaks of. -/
abbrev State.keptPart (s : State) : List Instr × List Out × Nat × Fuses × Cells × Cells × List LogRec :=
  (s.pending, s.out, s.free, s.fuses, s.regs, s.eff, s.cox.log)

/-- A record update of anything else. -/
theorem Kept.upd (h : Kept r t) (e : u.keptPart = t.keptPart) : Kept r u := by
  simp only [State.keptPart, Prod.mk.injEq] at e
  obtain ⟨e1, e2, e3, e4, e5, e6, e7⟩ := e
  constructor
  · rw [e1]; exact h.pending
  · rw [e2]; exact h.out
  · rw [e3]; exact h.free
  · rw [e4]; exact h.fuses
  · unfold State.Canonical; rw [e5, e6]; exact h.canonical
  · unfold State.LogInOrder; rw [e7]; exact h.logInOrder
  · unfold State.lastSeq; rw [e7]; exact h.lastSeq

/-- A record update of these parts, with what it does to each. -/
theorem Kept.updAll (h : Kept r t) (e1 : u.pending = t.pending) (e2 : t.out <+: u.out) (e3 : t.free ≤ u.free)
    (e4 : t.fuses.Grow u.fuses) (e5 : t.regs.wf = true → u.regs.wf = true) (e6 : t.eff.wf = true → t.regs.wf = true → u.eff.wf = true)
    (e7 : u.cox.log = t.cox.log) : Kept r u :=
  h.trans ⟨e1, e2, e3, e4, fun c => ⟨e5 c.1, e6 c.2 c.1⟩, by unfold State.LogInOrder; rw [e7]; exact id,
    by unfold State.lastSeq; rw [e7]; all_goals exact Nat.le_refl _⟩

/-- Fuses that are blown, and nothing else. -/
theorem Kept0.fuse (h : Kept0 r t) (e : u = { t with fuses := u.fuses }) (g : t.fuses.Stay u.fuses) : Kept0 r u := by
  refine h.trans ?_
  rw [e]
  exact ⟨rfl, List.prefix_refl _, Nat.le_refl _, g, id, id, Nat.le_refl _⟩

theorem Kept.ite {c : Prop} [Decidable c] (h : Kept r s) (g : Kept r t) : Kept r (if c then s else t) := by
  split <;> assumption

/-- The state of a pair is kept from `r`. -/
def Kept1 (r : State) (p : State × α) : Prop := Kept r p.1

theorem Kept1.fst {p : State × α} (h : Kept1 r p) : Kept r p.1 := h

theorem Kept1.ite {c : Prop} [Decidable c] {p q : State × α} (h : Kept1 r p) (g : Kept1 r q) :
    Kept1 r (if c then p else q) := by
  split <;> assumption

theorem Kept1.mk {a : α} (h : Kept r s) : Kept1 r (s, a) := h

theorem Kept.of1 {p : State × α} {a : α} (e : p = (t, a)) (h : Kept1 r p) : Kept r t := by rw [e] at h; exact h

theorem Kept.foldl {f : State → α → State} {l : List α} (h : Kept r s) (g : ∀ t a, Kept r t → Kept r (f t a)) :
    Kept r (l.foldl f s) := by
  induction l generalizing s with
  | nil => exact h
  | cons a l ih => exact ih (g s a h)

theorem Kept1.foldl {f : State × β → α → State × β} {l : List α} {p : State × β} (h : Kept1 r p)
    (g : ∀ q a, Kept1 r q → Kept1 r (f q a)) : Kept1 r (l.foldl f p) := by
  induction l generalizing p with
  | nil => exact h
  | cons a l ih => exact ih (g p a h)

/-- An outcome that is a next state kept from `r`. -/
def KeptNext (r : State) (o : Host.Outcome State Fault Refusal) : Prop := ∃ t, o = .next t ∧ Kept r t

theorem KeptNext.next (h : Kept r t) : KeptNext r (.next t) := ⟨t, rfl, h⟩

theorem KeptNext.ite {c : Prop} [Decidable c] {o q : Host.Outcome State Fault Refusal} (h : KeptNext r o)
    (g : KeptNext r q) : KeptNext r (if c then o else q) := by
  split <;> assumption

/-- An outcome that is a next state weakly kept from `r`. -/
def KeptNext0 (r : State) (o : Host.Outcome State Fault Refusal) : Prop := ∃ t, o = .next t ∧ Kept0 r t

theorem KeptNext0.next (h : Kept0 r t) : KeptNext0 r (.next t) := ⟨t, rfl, h⟩

theorem KeptNext0.ite {c : Prop} [Decidable c] {o q : Host.Outcome State Fault Refusal} (h : KeptNext0 r o)
    (g : KeptNext0 r q) : KeptNext0 r (if c then o else q) := by
  split <;> assumption

theorem KeptNext.weak {o : Host.Outcome State Fault Refusal} (h : KeptNext r o) : KeptNext0 r o :=
  let ⟨t, e, k⟩ := h
  ⟨t, e, k.weak⟩

namespace State

theorem wr_kept {f v i j} (h : Kept r s) : Kept r (s.wr f v i j) :=
  h.updAll rfl (List.prefix_refl _) (Nat.le_refl _) (Fuses.Grow.refl _) Cells.write_wf (fun h _ => h) rfl

theorem wrBoth_kept {f v i j} (h : Kept r s) : Kept r (s.wrBoth f v i j) := by
  unfold wrBoth
  exact .ite ((wr_kept h).updAll rfl (List.prefix_refl _) (Nat.le_refl _) (Fuses.Grow.refl _) id
    (fun h _ => Cells.write_wf h) rfl) (wr_kept h)

theorem emit_kept {o} (h : Kept r s) : Kept r (s.emit o) :=
  h.updAll rfl (List.prefix_append _ _) (Nat.le_refl _) (Fuses.Grow.refl _) id (fun h _ => h) rfl

theorem tick_kept (h : Kept r s) : Kept r s.tick :=
  h.updAll rfl (List.prefix_refl _) (Nat.le_succ _) (Fuses.Grow.refl _) id (fun h _ => h) rfl

/-- Taking several free values at once. -/
theorem free_kept {n} (h : Kept r s) : Kept r { s with free := s.free + n } :=
  h.updAll rfl (List.prefix_refl _) (Nat.le_add_right _ _) (Fuses.Grow.refl _) id (fun h _ => h) rfl

/-- Dropping register cells. -/
theorem dropRegs_kept {p} (h : Kept r s) : Kept r { s with regs := s.regs.filter p } :=
  h.updAll rfl (List.prefix_refl _) (Nat.le_refl _) (Fuses.Grow.refl _) (Cells.filter_wf p) (fun h _ => h) rfl

/-- Writing a register cell by its bit address. -/
theorem writeRegs_kept {k v} (h : Kept r s) : Kept r { s with regs := s.regs.write k v } :=
  h.updAll rfl (List.prefix_refl _) (Nat.le_refl _) (Fuses.Grow.refl _) Cells.write_wf (fun h _ => h) rfl

theorem inOrder_take {l : List LogRec} {n : Nat} (h : inOrder l = true) : inOrder (l.take n) = true := by
  induction l generalizing n with
  | nil => simpa using h
  | cons a l ih =>
    cases n with
    | zero => rfl
    | succ n =>
      cases l with
      | nil => simp [inOrder]
      | cons b l =>
        simp only [inOrder, Bool.and_eq_true] at h
        cases n with
        | zero => rfl
        | succ n =>
          simp only [List.take_succ_cons, inOrder, Bool.and_eq_true]
          exact ⟨h.1, by simpa using ih (n := n + 1) h.2⟩

theorem log_kept {k v p} (h : Kept r s) : Kept r (s.log k v p) := by
  unfold log
  extract_lets seq early q
  have hb : 1024 * max 1 (min 127 (s.rd F.COX_LOG_BLOCKS - 1)) ≤ 130048 := by omega
  obtain ⟨n, hn⟩ : ∃ n, 1024 * max 1 (min 127 (s.rd F.COX_LOG_BLOCKS - 1)) = n + 1 := ⟨_, (Nat.succ_pred (by omega)).symm⟩
  rw [hn] at hb ⊢
  have hq : q.seq = s.lastSeq + 1 := by
    unfold lastSeq
    cases hl : s.cox.log <;> simp [q, seq, hl]
  clear_value q
  apply wr_kept
  refine h.trans ⟨rfl, List.prefix_refl _, Nat.le_refl _, Fuses.Grow.refl _, id, fun ⟨ho, _⟩ => ⟨inOrder_take ?_, ?_⟩, ?_⟩
  · cases hl : s.cox.log with
    | nil => rfl
    | cons a l =>
      simp only [lastSeq, hl] at hq
      simp only [inOrder, Bool.and_eq_true, beq_iff_eq]
      exact ⟨hq, by rw [← hl]; exact ho⟩
  · exact Nat.le_trans (List.length_take_le _ _) hb
  · show s.lastSeq ≤ State.lastSeq { s with cox := { s.cox with log := (q :: s.cox.log).take (n + 1) } }
    have e : State.lastSeq { s with cox := { s.cox with log := (q :: s.cox.log).take (n + 1) } } = q.seq := rfl
    omega

end State

end Sys2Proof.Machine
end

