-- ==== Sys2Proof/Laws/KeptOps.lean ====
section
/-!
SUPPORT. For each operation of Ops, Req, Interrupt, Fatal, Raise, Items, Checked, Clocks, Switch, Hamper, TwinLink: what
`Kept` says of the state it gives, so that no later proof unfolds it.
-/

set_option linter.unusedVariables false

namespace Sys2Proof.Machine

variable {r s : State}

theorem State.bump_kept {a1} {a2} {a3} {a4} (h : Kept r s) : Kept r (State.bump s a1 a2 a3 a4) := by
  unfold State.bump
  exact State.wr_kept h

theorem State.pass_kept {a1} (h : Kept r s) : Kept r (State.pass s a1) := by
  unfold State.pass
  extract_lets most part
  exact Kept.ite (Kept.upd h rfl) (Kept.upd (State.free_kept (n := 1) h) rfl)

theorem State.wrBit_kept {a1} {a2} {a3} {a4} {a5} (h : Kept r s) : Kept r (State.wrBit s a1 a2 a3 a4 a5) := by
  unfold State.wrBit
  extract_lets x2 x3
  clear_value x2 x3
  exact Kept.ite h (State.wr_kept h)

theorem State.setClosed_kept {a1} {a2} (h : Kept r s) : Kept r (State.setClosed s a1 a2) := by
  unfold State.setClosed
  exact Kept.ite (State.wrBit_kept h) (State.wrBit_kept h)

theorem State.wake_kept {a1} (h : Kept r s) : Kept r (State.wake s a1) := by
  unfold State.wake
  exact Kept.ite (State.setClosed_kept h) h

theorem State.setStage_kept {a1} (h : Kept r s) : Kept r (State.setStage s a1) := by
  unfold State.setStage
  exact State.wr_kept h

theorem State.logOpen_kept {a1} {a2} (h : Kept r s) : Kept r (State.logOpen s a1 a2) := by
  unfold State.logOpen
  exact State.log_kept (State.tick_kept h)

theorem State.logFuse_kept {a1} {a2} {a3} (h : Kept r s) : Kept r (State.logFuse s a1 a2 a3) := by
  unfold State.logFuse
  exact State.logOpen_kept h

theorem State.logFuseAlone_kept {a1} (h : Kept r s) : Kept r (State.logFuseAlone s a1) := by
  unfold State.logFuseAlone
  exact State.logFuse_kept (State.tick_kept h)

theorem State.vendor_kept {a1} {a2} (h : Kept r s) : Kept r (State.vendor s a1 a2) := by
  unfold State.vendor
  exact State.emit_kept h

theorem State.setCmd_kept {a1} (h : Kept r s) : Kept r (State.setCmd s a1) := by
  unfold State.setCmd
  exact Kept.upd h rfl

theorem State.dropCmd_kept {a1} (h : Kept r s) : Kept r (State.dropCmd s a1) := by
  unfold State.dropCmd
  exact Kept.upd h rfl

theorem State.setPend_kept {a1} (h : Kept r s) : Kept r (State.setPend s a1) := by
  unfold State.setPend
  exact State.wr_kept (State.wr_kept h)

theorem State.sendInta_kept (h : Kept r s) : Kept r (State.sendInta s) := by
  unfold State.sendInta
  extract_lets x2 x3
  clear_value x2 x3
  exact Kept.ite h (State.emit_kept (Kept.upd h rfl))

theorem State.settleLine_kept (h : Kept r s) : Kept r (State.settleLine s) := by
  unfold State.settleLine
  extract_lets x2 x3
  clear_value x2 x3
  exact Kept.ite h (State.sendInta_kept (State.wr_kept h))

theorem State.sendMsix_kept {a1} (h : Kept r s) : Kept r (State.sendMsix s a1) := by
  unfold State.sendMsix
  exact State.emit_kept h

theorem State.requestVector_kept {a1} (h : Kept r s) : Kept r (State.requestVector s a1) := by
  unfold State.requestVector
  extract_lets x2 x3
  have h4 : Kept r x2 := State.wake_kept h
  clear_value x2
  clear_value x3
  exact Kept.ite (Kept.ite (Kept.upd h4 rfl) (State.sendMsix_kept h4)) (State.settleLine_kept (Kept.ite h4 (State.setPend_kept h4)))

theorem State.sendPba_kept (h : Kept r s) : Kept r (State.sendPba s) := by
  unfold State.sendPba
  extract_lets x2 x3
  clear_value x2 x3
  refine Kept.ite ?_ ?_
  · refine Kept.foldl (Kept.upd h rfl) fun t6 a7 h8 => ?_
    exact State.sendMsix_kept h8
  · exact h

theorem State.fatalAct_kept (h : Kept r s) : Kept r (State.fatalAct s) := by
  unfold State.fatalAct
  exact Kept.upd h rfl

theorem State.countIn_kept {a1} {a2} {a3} (h : Kept r s) : Kept r (State.countIn s a1 a2 a3) := by
  unfold State.countIn
  refine Kept.ite ?_ ?_
  · extract_lets x3 x4
    have h5 : Kept r x4 := State.wr_kept (State.wr_kept h)
    clear_value x4
    clear_value x3
    exact Kept.ite h5 (State.wr_kept h5)
  · exact h

theorem State.countAll_kept {a1} {a2} {a3} (h : Kept r s) : Kept r (State.countAll s a1 a2 a3) := by
  unfold State.countAll
  refine Kept.ite ?_ ?_
  · exact h
  · refine Kept.foldl h fun t4 a5 h6 => ?_
    exact State.countIn_kept h6

theorem State.putSample_kept {a1} (h : Kept r s) : Kept r (State.putSample s a1) := by
  unfold State.putSample
  extract_lets x2 x3 x4
  clear_value x2 x3 x4
  exact Kept.ite (State.countAll_kept (State.requestVector_kept (State.wr_kept (State.emit_kept h)))) (State.bump_kept (Kept.upd h rfl))

theorem State.writeSample_kept {a1} {a2} {a3} {a4} (h : Kept r s) : Kept r (State.writeSample s a1 a2 a3 a4) := by
  unfold State.writeSample
  extract_lets x2 x3 x4
  have h5 : Kept r x3 := State.tick_kept h
  clear_value x3
  clear_value x2 x4
  exact Kept.ite (Kept.upd h5 rfl) (Kept.ite (State.putSample_kept h5) (Kept.upd h5 rfl))

theorem State.drainSamples_kept (h : Kept r s) : Kept r (State.drainSamples s) := by
  unfold State.drainSamples
  refine Kept.ite ?_ ?_
  · refine Kept.foldl (Kept.upd h rfl) fun t3 a4 h5 => ?_
    exact State.putSample_kept h5
  · exact h

theorem State.sampleAt_kept {a1} {a2} {a3} {a4} (h : Kept r s) : Kept r (State.sampleAt s a1 a2 a3 a4) := by
  unfold State.sampleAt
  refine Kept.ite ?_ ?_
  · extract_lets x3 x4
    clear_value x3 x4
    exact Kept.ite (State.writeSample_kept (Kept.upd h rfl)) (Kept.upd h rfl)
  · exact h

theorem State.occurN_kept {a1} {a2} {a3} {a4} (h : Kept r s) : Kept r (State.occurN s a1 a2 a3 a4) := by
  unfold State.occurN
  refine Kept.foldl (State.countAll_kept h) fun t2 a3 h4 => ?_
  exact State.sampleAt_kept h4

theorem State.interrupt_kept {a1} (h : Kept r s) : Kept r (State.interrupt s a1) := by
  unfold State.interrupt
  extract_lets x2
  have h3 : Kept r x2 := State.requestVector_kept h
  clear_value x2
  exact Kept.ite (State.occurN_kept h3) h3

theorem State.writeHost_kept {a1} (h : Kept r s) : Kept r (State.writeHost s a1) := by
  unfold State.writeHost
  extract_lets x2 x3
  have h4 : Kept r x3 := State.wr_kept (State.emit_kept h)
  clear_value x3
  clear_value x2
  exact State.interrupt_kept h4

theorem State.deliverHost_kept {a1} (h : Kept r s) : Kept1 r (State.deliverHost s a1) := by
  unfold State.deliverHost
  refine Kept1.ite ?_ ?_
  · exact Kept1.mk h
  · refine Kept1.ite ?_ ?_
    · exact Kept1.mk (Kept.upd h rfl)
    · refine Kept1.ite ?_ ?_
      · exact Kept1.mk (State.writeHost_kept h)
      · split
        · exact Kept1.mk (Kept.upd h rfl)
        · extract_lets x15 x16
          clear_value x16
          refine Kept1.ite ?_ ?_
          · split
            · unfold x15
              exact Kept1.mk (State.bump_kept (Kept.upd h rfl))
            · exact Kept1.mk (Kept.upd h rfl)
          · refine Kept1.ite ?_ ?_
            · exact Kept1.mk (Kept.upd h rfl)
            · unfold x15
              exact Kept1.mk (State.bump_kept h)

theorem State.drainHost_kept {n} (h : Kept r s) : Kept r (State.drainHost s n) := by
  induction n generalizing s with
  | zero => exact h
  | succ n ih =>
    unfold State.drainHost
    split
    · exact h
    · split
      · exact ih (State.wr_kept (State.writeHost_kept h))
      · split
        · exact h
        · extract_lets x t
          have ht : Kept r t := Kept.upd h rfl
          clear_value t
          exact ih (Kept.ite ht (State.writeHost_kept ht))

theorem State.sendPldm_kept {a1} (h : Kept r s) : Kept r (State.sendPldm s a1) := by
  unfold State.sendPldm
  split
  · exact h
  · extract_lets x9 x10
    exact Kept.ite h (Kept.ite (State.emit_kept (Kept.upd h rfl)) (Kept.upd h rfl))

theorem State.beginHand_kept {a1} (h : Kept r s) : Kept r (State.beginHand s a1) := by
  unfold State.beginHand
  exact Kept.upd h rfl

theorem State.preempt_kept {a1} (h : Kept r s) : Kept1 r (State.preempt s a1) := by
  unfold State.preempt
  exact Kept1.ite (Kept1.mk (State.beginHand_kept h)) (Kept1.mk h)

theorem State.enqueueFault_kept {a1} (h : Kept r s) : Kept1 r (State.enqueueFault s a1) := by
  unfold State.enqueueFault
  refine Kept1.ite ?_ ?_
  · exact Kept1.mk (Kept.upd h rfl)
  · split
    · exact Kept1.ite (Kept1.mk h) (Kept1.mk (State.bump_kept (Kept.upd h rfl)))
    · exact Kept1.ite (Kept1.mk h) (Kept1.mk h)

theorem State.mergeFault_kept {a1 a2 p} (e : State.mergeFault s a1 a2 = some p) (h : Kept r s) : Kept r p.1 := by
  unfold State.mergeFault at e
  split at e
  · cases e
  · split at e
    · cases e; exact Kept.upd h rfl
    · split at e
      · dsimp only at e
        split at e <;> cases e <;> exact Kept.upd h rfl
      · split at e
        · dsimp only at e
          split at e
          · cases e; exact State.preempt_kept (Kept.upd h rfl)
          · cases e; exact Kept.upd h rfl
        · cases e
theorem State.placeFault_kept {a1} {a2} {a3} (h : Kept r s) : Kept1 r (State.placeFault s a1 a2 a3) := by
  unfold State.placeFault
  refine Kept1.ite h ?_
  extract_lets x s1 e
  have h1 : Kept r s1 := Kept.upd h rfl
  clear_value s1 e
  split
  · next hm => exact State.mergeFault_kept hm h1
  · split
    · exact Kept1.ite (State.beginHand_kept h1) (State.enqueueFault_kept h1)
    · exact Kept1.ite (State.preempt_kept h1) (State.enqueueFault_kept h1)

theorem State.raiseOne_kept {a1} {a2} {a3} {a4} (h : Kept r s) : Kept1 r (State.raiseOne s a1 a2 a3 a4) := by
  unfold State.raiseOne
  extract_lets x2 x3 x4 x5 x6 x7 x8 x9 x10
  have h11 : Kept r x5 := State.occurN_kept h
  clear_value x5
  have h12 : Kept r x7 := Kept.upd h11 rfl
  clear_value x7
  have h13 : Kept r x8 := Kept.ite (State.wr_kept (State.wr_kept (State.bump_kept h12))) h12
  clear_value x8
  have h14 : Kept r x9 := Kept.ite h13 (State.sendPldm_kept h13)
  clear_value x9
  have h15 : Kept r x10 := Kept.ite (State.log_kept h14) h14
  clear_value x10
  clear_value x2 x3 x4 x6
  split
  · rename_i y17 y18 y19 y20
    have h21 : Kept r y18 := .of1 y20 (State.deliverHost_kept h15)
    extract_lets x23
    clear_value x23
    split
    · rename_i y25 y26 y27 y28
      have h29 : Kept r y26 := .of1 y28 (Kept1.ite (Kept1.mk (State.wr_kept h21)) (Kept1.mk h21))
      refine Kept1.ite ?_ ?_
      · exact Kept1.mk (State.fatalAct_kept h29)
      · split
        · rename_i y33 y34 y35 y36
          have h37 : Kept r y34 := .of1 y36 (State.placeFault_kept h29)
          split
          · rename_i y39
            have h40 : Kept r y34 := .of1 y36 (State.placeFault_kept h29)
            exact Kept1.mk h37
          · rename_i y42 y43 y44
            have h45 : Kept r y34 := .of1 y36 (State.placeFault_kept h29)
            exact Kept1.mk h37
          · rename_i y47
            have h48 : Kept r y34 := .of1 y36 (State.placeFault_kept h29)
            exact Kept1.mk h37

theorem State.raiseAll_kept {a1} {n} (h : Kept r s) : Kept r (State.raiseAll s a1 n) := by
  induction n generalizing s a1 with
  | zero => exact h
  | succ n ih =>
    unfold State.raiseAll
    refine Kept.foldl h fun t e ht => ?_
    split
    next hp => exact ih (.of1 hp (State.raiseOne_kept ht))

theorem State.settleSample_kept (h : Kept r s) : Kept r (State.settleSample s) := by
  unfold State.settleSample
  refine Kept.ite ?_ ?_
  · extract_lets x3 x4 x5
    have h6 : Kept r x4 := Kept.upd h rfl
    clear_value x4
    clear_value x3 x5
    exact Kept.ite h6 (State.raiseAll_kept (Kept.upd h6 rfl))
  · exact h

theorem State.raise_kept {a1} {a2} {a3} (h : Kept r s) : Kept r (State.raise s a1 a2 a3) := by
  unfold State.raise
  exact State.settleSample_kept (State.raiseAll_kept h)

theorem State.countN_kept {a1} {a2} {a3} {a4} (h : Kept r s) : Kept r (State.countN s a1 a2 a3 a4) := by
  unfold State.countN
  exact State.settleSample_kept (State.occurN_kept h)

theorem State.count_kept {a1} {a2} {a3} (h : Kept r s) : Kept r (State.count s a1 a2 a3) := by
  unfold State.count
  exact State.countN_kept h

theorem State.irq_kept {a1} (h : Kept r s) : Kept r (State.irq s a1) := by
  unfold State.irq
  exact State.settleSample_kept (State.interrupt_kept h)

theorem State.countOpen_kept {a1} {a2} {a3} {a4} (h : Kept r s) : Kept r (State.countOpen s a1 a2 a3 a4) := by
  unfold State.countOpen
  exact Kept.ite (State.countN_kept h) h

theorem State.dropOne_kept {a1} {a2} {a3} (h : Kept r s) : Kept r (State.dropOne s a1 a2 a3) := by
  unfold State.dropOne
  exact State.countOpen_kept (State.bump_kept h)

theorem State.raiseOnce_kept {a1} {a2} {a3} {a4} (h : Kept r s) : Kept r (State.raiseOnce s a1 a2 a3 a4) := by
  unfold State.raiseOnce
  exact Kept.ite (State.count_kept h) (State.raise_kept (Kept.upd h rfl))

theorem State.beginQueued_kept (h : Kept r s) : Kept r (State.beginQueued s) := by
  unfold State.beginQueued
  split
  · exact Kept.ite (State.beginHand_kept (Kept.upd h rfl)) h
  · exact h

theorem State.endHandling_kept {a1} (h : Kept r s) : Kept r (State.endHandling s a1) := by
  unfold State.endHandling
  exact Kept.ite (State.beginQueued_kept (Kept.upd h rfl)) h

theorem State.routeFunctions_kept (h : Kept r s) : Kept r (State.routeFunctions s) := by
  unfold State.routeFunctions
  extract_lets x2 x3 x4 x5 x6 x7
  have h8 : Kept r x6 := Kept.upd h rfl
  clear_value x6
  have h9 : Kept r x7 := State.wr_kept (State.wr_kept h8)
  clear_value x7
  clear_value x2 x3 x4 x5
  exact Kept.ite (State.raise_kept h9) h9

theorem State.publish_kept {a1} {a2} (h : Kept r s) : Kept r (State.publish s a1 a2) := by
  unfold State.publish
  extract_lets x2 x3 x4 x5 x6 x7
  have h8 : Kept r x2 := Kept.ite (State.wake_kept h) h
  clear_value x2
  have h9 : Kept r x3 := Kept.ite (State.emit_kept h8) h8
  clear_value x3
  have h10 : Kept r x6 := State.irq_kept h9
  clear_value x6
  clear_value x4 x5 x7
  exact Kept.ite (Kept.ite (State.irq_kept h9) (Kept.ite (Kept.upd h9 rfl) (Kept.upd h10 rfl))) h9

theorem State.putEntry_kept {a1} {a2} {a3} {a4} {a5} {a6} {a7} {a8} (h : Kept r s) : Kept r (State.putEntry s a1 a2 a3 a4 a5 a6 a7 a8) := by
  unfold State.putEntry
  extract_lets x2
  clear_value x2
  exact State.publish_kept (State.wr_kept (State.emit_kept h))

theorem State.noticeLost_kept {a1} (h : Kept r s) : Kept r (State.noticeLost s a1) := by
  unfold State.noticeLost
  exact State.wr_kept (State.putEntry_kept h)

theorem State.fallbackEvent_kept {a1} {a2} (h : Kept r s) : Kept r (State.fallbackEvent s a1 a2) := by
  unfold State.fallbackEvent
  exact State.raise_kept h

theorem State.passTo_kept {a1} (h : Kept r s) : Kept r (State.passTo s a1) := by
  unfold State.passTo
  exact State.pass_kept h

theorem State.handOver_kept {a1} {a2} {a3} {a4} {a5} {a6} {a7} (h : Kept r s) : Kept1 r (State.handOver s a1 a2 a3 a4 a5 a6 a7) := by
  unfold State.handOver
  refine Kept1.ite ?_ ?_
  · exact Kept1.mk h
  · extract_lets x4 x5 x6 x7 x8 x9 x10
    have h11 : Kept r x8 := Kept.upd h rfl
    clear_value x8
    have h12 : Kept r x9 := State.putEntry_kept h11
    clear_value x9
    have h13 : Kept r x10 := Kept.ite (State.sendPldm_kept h12) h12
    clear_value x10
    clear_value x4 x5 x6 x7
    exact Kept1.ite (Kept1.mk (State.raiseOnce_kept (State.fallbackEvent_kept h))) (Kept1.mk (State.countOpen_kept h13))

theorem State.endItem_kept {a1} (h : Kept r s) : Kept r (State.endItem s a1) := by
  unfold State.endItem
  exact Kept.upd h rfl

theorem State.fallItem_kept {a1} (h : Kept r s) : Kept r (State.fallItem s a1) := by
  unfold State.fallItem
  extract_lets x2 x3
  have h4 : Kept r x2 := State.endItem_kept h
  clear_value x2
  clear_value x3
  exact State.fallbackEvent_kept (Kept.upd h4 rfl)

theorem State.notice_kept {a1} {a2} (h : Kept r s) : Kept r (State.notice s a1 a2) := by
  unfold State.notice
  extract_lets x2 x3
  have h4 : Kept r x3 := Kept.ite (State.noticeLost_kept h) h
  clear_value x3
  clear_value x2
  exact Kept.ite (State.putEntry_kept h4) (State.raiseOnce_kept (State.bump_kept h4))

theorem State.showUnits_kept {a1} (h : Kept r s) : Kept r (State.showUnits s a1) := by
  unfold State.showUnits
  extract_lets x2 x3
  clear_value x2 x3
  split
  · exact State.wr_kept (State.wr_kept h)
  · exact State.wr_kept (State.wr_kept h)
  · exact State.wr_kept h
  · exact State.wr_kept h

theorem State.drawn_kept (h : Kept r s) : Kept r (State.drawn s) := by
  unfold State.drawn
  exact State.free_kept h

theorem State.slip_kept {a1} {a2} (h : Kept r s) : Kept r (State.slip s a1 a2) := by
  unfold State.slip
  extract_lets x2 x3 x4 x5 x6 x7
  have h8 : Kept r x3 := by
    unfold x3
    split
    · rename_i y10
      exact State.bump_kept h
    · rename_i y12
      exact h
    · rename_i y14
      exact State.bump_kept h
    · rename_i y16
      exact State.bump_kept h
  clear_value x3
  have h18 : Kept r x4 := State.countOpen_kept h8
  clear_value x4
  have h19 : Kept r x5 := by
    unfold x5
    split
    · exact State.raise_kept h18
    · exact h18
  clear_value x5
  clear_value x2 x6 x7
  exact Kept.ite (State.raise_kept (State.showUnits_kept (Kept.upd h19 rfl))) (Kept.upd h19 rfl)

theorem State.cipherRuns_kept {a1} {a2} {n} (h : Kept r s) : Kept1 r (State.cipherRuns s a1 a2 n) := by
  induction n generalizing s a2 with
  | zero => exact h
  | succ n ih =>
    unfold State.cipherRuns
    split
    · exact h
    · exact Kept1.ite (State.drawn_kept h) (ih (State.slip_kept (State.drawn_kept h)))

theorem State.cipherRun_kept {a1} (h : Kept r s) : Kept1 r (State.cipherRun s a1) := by
  unfold State.cipherRun
  exact State.cipherRuns_kept h

theorem State.eachOf_kept {α β : Type} {f : State → α → State × Option β} {l : List α} (h : Kept r s)
    (g : ∀ t a, Kept r t → Kept1 r (f t a)) : Kept1 r (State.eachOf f s l) := by
  induction l generalizing s with
  | nil => exact h
  | cons a l ih =>
    unfold State.eachOf
    have h1 := g s a h
    split
    · next e => exact Kept.of1 e h1
    · next e =>
      have h2 := ih (Kept.of1 e h1)
      split
      · next e2 => exact Kept.of1 e2 h2
      · next e2 => exact Kept.of1 e2 h2

theorem State.setDom_kept {a1} {a2} {a3} {a4} (h : Kept r s) : Kept r (State.setDom s a1 a2 a3 a4) := by
  unfold State.setDom
  extract_lets x2 x3 x4
  have h5 : Kept r x4 := State.wr_kept h
  clear_value x4
  clear_value x2 x3
  exact State.wr_kept h5

theorem State.setRef_kept {a1} {a2} (h : Kept r s) : Kept r (State.setRef s a1 a2) := by
  unfold State.setRef
  exact Kept.ite (State.wr_kept h) (State.wr_kept h)

theorem State.settleCclk_kept (h : Kept r s) : Kept r (State.settleCclk s) := by
  unfold State.settleCclk
  exact Kept.ite (State.wr_kept h) h

theorem State.setActive_kept {a1} (h : Kept r s) : Kept r (State.setActive s a1) := by
  unfold State.setActive
  exact State.settleCclk_kept (State.wr_kept h)

theorem State.measuredGap_kept (h : Kept r s) : Kept r (State.measuredGap s) := by
  unfold State.measuredGap
  exact State.pass_kept (State.tick_kept h)

theorem State.cutDom_kept {a0} {a1} (h : Kept r s) : Kept r (State.cutDom a0 a1 s) := by
  unfold State.cutDom
  exact Kept.ite (State.setDom_kept (State.measuredGap_kept h)) (State.setDom_kept h)

theorem State.cutAll_kept {a1} (h : Kept r s) : Kept r (State.cutAll s a1) := by
  unfold State.cutAll
  extract_lets x2 x3
  have h4 : Kept r x2 := by
    unfold x2
    refine Kept.foldl h fun t6 a7 h8 => ?_
    exact State.cutDom_kept h8
  clear_value x2
  clear_value x3
  exact State.setActive_kept (Kept.upd h4 rfl)

theorem State.switchAll_kept {a1} {a2} (h : Kept r s) : Kept r (State.switchAll s a1 a2) := by
  unfold State.switchAll
  extract_lets x2 x3
  have h4 : Kept r x2 := by
    unfold x2
    refine Kept.foldl h fun t6 a7 h8 => ?_
    exact State.setDom_kept h8
  clear_value x2
  clear_value x3
  exact Kept.upd h4 rfl

theorem State.commandSwitch_kept {a1} {a2} (h : Kept r s) : Kept r (State.commandSwitch s a1 a2) := by
  unfold State.commandSwitch
  exact Kept.ite (Kept.upd h rfl) (Kept.ite (State.raise_kept h) (Kept.ite (State.cutAll_kept h) (State.switchAll_kept h)))

theorem State.runWaiting_kept (h : Kept r s) : Kept r (State.runWaiting s) := by
  unfold State.runWaiting
  split
  · exact State.commandSwitch_kept (Kept.upd h rfl)
  · exact h

theorem State.switchDone_kept (h : Kept r s) : Kept r (State.switchDone s) := by
  unfold State.switchDone
  exact Kept.ite h (State.runWaiting_kept (State.setActive_kept (Kept.upd h rfl)))

theorem State.enterHoldover_kept (h : Kept r s) : Kept r (State.enterHoldover s) := by
  unfold State.enterHoldover
  extract_lets x2 x3 x4
  have h5 : Kept r x2 := by
    unfold x2
    refine Kept.foldl h fun t7 a8 h9 => ?_
    exact State.setDom_kept h9
  clear_value x2
  have h11 : Kept r x4 := Kept.upd h5 rfl
  clear_value x4
  clear_value x3
  exact State.runWaiting_kept (State.raise_kept (State.setActive_kept (State.cutDom_kept h11)))

theorem State.failover_kept {a1} (h : Kept r s) : Kept r (State.failover s a1) := by
  unfold State.failover
  extract_lets x2
  clear_value x2
  exact Kept.ite (Kept.ite (State.runWaiting_kept (State.raise_kept (State.cutAll_kept h))) (State.raise_kept (State.switchAll_kept h))) (State.enterHoldover_kept h)

theorem State.clockItemFalls_kept (h : Kept r s) : Kept r (State.clockItemFalls s) := by
  unfold State.clockItemFalls
  split
  · exact State.fallItem_kept h
  · exact h

theorem State.turnBack_kept (h : Kept r s) : Kept r (State.turnBack s) := by
  unfold State.turnBack
  exact State.switchAll_kept h

theorem State.refFails_kept {a1} {a2} (h : Kept r s) : Kept r (State.refFails s a1 a2) := by
  unfold State.refFails
  refine Kept.ite ?_ ?_
  · exact h
  · extract_lets x4 x5 x6 x7
    have h8 : Kept r x6 := State.setRef_kept h
    clear_value x6
    have h9 : Kept r x7 := Kept.ite (State.raise_kept h8) h8
    clear_value x7
    clear_value x4 x5
    refine Kept.ite ?_ ?_
    · exact Kept.ite (State.enterHoldover_kept h8) h8
    · refine Kept.ite ?_ ?_
      · exact State.failover_kept (State.clockItemFalls_kept h9)
      · refine Kept.ite ?_ ?_
        · refine Kept.ite ?_ ?_
          · split
            · rename_i y17 y18 y19 y20
              have h21 : Kept r y18 := .of1 y20 (State.handOver_kept h9)
              exact Kept.ite h21 (State.failover_kept h21)
          · exact State.failover_kept h9
        · exact Kept.ite (State.enterHoldover_kept h9) (Kept.ite (State.turnBack_kept h9) h9)

theorem State.setChecks_kept {a1} {a2} (h : Kept r s) : Kept r (State.setChecks s a1 a2) := by
  unfold State.setChecks
  exact Kept.upd h rfl

theorem State.settleRef_kept {a1} (h : Kept r s) : Kept r (State.settleRef s a1) := by
  unfold State.settleRef
  extract_lets x2
  clear_value x2
  exact Kept.ite h (Kept.ite (State.refFails_kept h) (Kept.ite h (State.setRef_kept h)))

theorem actReferenceStopped_kept {a0} (h : Kept r s) : KeptNext r (actReferenceStopped a0 s) := by
  unfold actReferenceStopped
  refine KeptNext.next ?_
  exact Kept.ite (State.settleRef_kept (State.setChecks_kept h)) h

theorem actGrossWindow_kept {a0} {a1} (h : Kept r s) : KeptNext r (actGrossWindow a0 a1 s) := by
  unfold actGrossWindow
  refine KeptNext.next ?_
  refine Kept.ite ?_ ?_
  · extract_lets x4
    clear_value x4
    exact State.settleRef_kept (State.setChecks_kept h)
  · exact h

theorem actPpmWindow_kept {a0} {a1} {a2} (h : Kept r s) : KeptNext r (actPpmWindow a0 a1 a2 s) := by
  unfold actPpmWindow
  extract_lets x2 x3 x4 x5 x6 x7 x8 x9
  have h10 : Kept r x3 := Kept.upd h rfl
  clear_value x3
  have h11 : Kept r x4 := State.wr_kept h10
  clear_value x4
  have h12 : Kept r x9 := State.setChecks_kept (State.setChecks_kept h11)
  clear_value x9
  clear_value x2 x5 x6 x7 x8
  refine KeptNext.next ?_
  exact State.settleRef_kept (State.settleRef_kept h12)

theorem actReferenceReturnGood_kept {a0} (h : Kept r s) : KeptNext r (actReferenceReturnGood a0 s) := by
  unfold actReferenceReturnGood
  refine KeptNext.ite ?_ ?_
  · refine KeptNext.next ?_
    exact h
  · extract_lets x5 x6
    have h7 : Kept r x5 := State.raise_kept (State.setRef_kept (State.setChecks_kept h))
    clear_value x5
    clear_value x6
    refine KeptNext.next ?_
    exact Kept.ite (Kept.ite (State.raise_kept (State.cutAll_kept h7)) (State.raise_kept (State.switchAll_kept h7))) h7

theorem actClkMuxGlitchFreeSwitch_kept {a0} (h : Kept r s) : KeptNext r (actClkMuxGlitchFreeSwitch a0 s) := by
  unfold actClkMuxGlitchFreeSwitch
  refine KeptNext.next ?_
  exact Kept.ite (State.commandSwitch_kept h) h

theorem actClkMuxHardCut_kept {a0} (h : Kept r s) : KeptNext r (actClkMuxHardCut a0 s) := by
  unfold actClkMuxHardCut
  refine KeptNext.next ?_
  exact Kept.ite (State.commandSwitch_kept h) h

theorem actMuxSwitchComplete_kept {a0} (h : Kept r s) : KeptNext r (actMuxSwitchComplete a0 s) := by
  unfold actMuxSwitchComplete
  refine KeptNext.ite ?_ ?_
  · refine KeptNext.next ?_
    exact State.switchDone_kept (State.setDom_kept h)
  · refine KeptNext.next ?_
    exact h

theorem actMuxHangBreak_kept {a0} (h : Kept r s) : KeptNext r (actMuxHangBreak a0 s) := by
  unfold actMuxHangBreak
  refine KeptNext.ite ?_ ?_
  · refine KeptNext.next ?_
    exact State.raise_kept (State.switchDone_kept (State.cutDom_kept h))
  · refine KeptNext.next ?_
    exact h

theorem execPllRelock_kept {a0} (h : Kept r s) : KeptNext r (execPllRelock a0 s) := by
  unfold execPllRelock
  refine KeptNext.ite ?_ ?_
  · refine KeptNext.next ?_
    exact State.setDom_kept h
  · refine KeptNext.next ?_
    exact h

theorem execGateReopen_kept {a0} (h : Kept r s) : KeptNext r (execGateReopen a0 s) := by
  unfold execGateReopen
  refine KeptNext.next ?_
  exact State.wake_kept h

theorem State.showBuffer_kept (h : Kept r s) : Kept r (State.showBuffer s) := by
  unfold State.showBuffer
  exact State.wr_kept (State.wr_kept h)

theorem State.marks_kept {a1} {a2} {a3} (h : Kept r s) : Kept1 r (State.marks s a1 a2 a3) := by
  unfold State.marks
  refine Kept1.ite ?_ ?_
  · exact Kept1.mk h
  · extract_lets x4 x5 x6 x7
    clear_value x4 x5 x6 x7
    exact Kept1.ite (Kept1.mk h) (Kept1.ite (Kept1.mk h) (Kept1.ite (Kept1.mk h) (Kept1.mk (State.tick_kept h))))

theorem State.refuseFrame_kept {a1} (h : Kept r s) : Kept r (State.refuseFrame s a1) := by
  unfold State.refuseFrame
  extract_lets x2 x3
  have h4 : Kept r x2 := State.dropOne_kept h
  clear_value x2
  have h5 : Kept r x3 := State.raiseOnce_kept h4
  clear_value x3
  exact Kept.ite (State.raiseOnce_kept h5) h5

theorem State.hold_kept {a1} (h : Kept r s) : Kept r (State.hold s a1) := by
  unfold State.hold
  extract_lets x2 x3
  have h4 : Kept r x2 := Kept.ite (State.wake_kept h) h
  clear_value x2
  clear_value x3
  exact State.showBuffer_kept (Kept.upd h4 rfl)

theorem State.admitFrame_kept {a1} {a2} {a3} {a4} {a5} {a6} (h : Kept r s) : Kept1 r (State.admitFrame s a1 a2 a3 a4 a5 a6) := by
  unfold State.admitFrame
  split
  · split
    · rename_i y5 y6 y7 y8
      have h9 : Kept r y6 := .of1 y8 (Kept1.ite (State.marks_kept h) (Kept1.mk h))
      extract_lets x11 x12 x13
      have h14 : Kept r x13 := State.hold_kept (Kept.upd h9 rfl)
      clear_value x13
      clear_value x11 x12
      exact Kept1.mk (Kept.ite (State.countOpen_kept h14) h14)
  · exact Kept1.mk (State.refuseFrame_kept h)

theorem State.sendFrame_kept {a1} {a2} {a3} {a4} (h : Kept r s) : Kept r (State.sendFrame s a1 a2 a3 a4) := by
  unfold State.sendFrame
  exact Kept1.fst (State.admitFrame_kept h)

theorem State.sendControl_kept {a1} {a2} (h : Kept r s) : Kept r (State.sendControl s a1 a2) := by
  unfold State.sendControl
  exact Kept1.fst (State.admitFrame_kept h)

theorem State.endCopy_kept {a1} (h : Kept r s) : Kept r (State.endCopy s a1) := by
  unfold State.endCopy
  split
  · exact h
  · extract_lets x7 x8
    clear_value x7 x8
    exact State.showBuffer_kept (Kept.upd h rfl)

theorem State.unhold_kept {a1} (h : Kept r s) : Kept r (State.unhold s a1) := by
  unfold State.unhold
  exact State.endCopy_kept (State.showBuffer_kept (Kept.upd h rfl))

theorem State.offerCopy_kept {a1} (h : Kept r s) : Kept r (State.offerCopy s a1) := by
  unfold State.offerCopy
  refine Kept.ite ?_ ?_
  · split
    · rename_i y3 y4 y5 y6
      have h7 : Kept r y4 := .of1 y6 (State.marks_kept h)
      exact State.hold_kept h7
  · exact Kept.ite (State.showBuffer_kept (Kept.upd h rfl)) (State.endCopy_kept (State.raiseOnce_kept (State.dropOne_kept h)))

theorem State.sendCopies_kept {a1} {a2} {a3} (h : Kept r s) : Kept r (State.sendCopies s a1 a2 a3) := by
  unfold State.sendCopies
  extract_lets x2 x3 x4 x5 x6 x7
  have h8 : Kept r x7 := Kept.upd h rfl
  clear_value x7
  clear_value x2 x3 x4 x5 x6
  refine Kept.ite ?_ ?_
  · exact State.refuseFrame_kept h
  · refine Kept.foldl (State.showBuffer_kept h8) fun t12 a13 h14 => ?_
    extract_lets x16 x17
    clear_value x16 x17
    exact State.offerCopy_kept (Kept.upd h14 rfl)

theorem State.offerResidue_kept {a1} {n} (h : Kept r s) : Kept r (State.offerResidue s a1 n) := by
  induction n generalizing s with
  | zero => exact h
  | succ n ih =>
    unfold State.offerResidue
    split
    · exact h
    · split
      · exact ih (State.offerCopy_kept (Kept.upd h rfl))
      · exact h

theorem State.takeInternal_kept {a1} (h : Kept r s) : Kept1 r (State.takeInternal s a1) := by
  unfold State.takeInternal
  split
  · exact Kept1.mk (State.unhold_kept h)
  · exact Kept1.mk h

theorem State.announceEntry_kept {a1} (h : Kept r s) : Kept r (State.announceEntry s a1) := by
  unfold State.announceEntry
  extract_lets x2 x3 x4
  clear_value x2 x3 x4
  exact State.sendControl_kept (State.emit_kept (Kept.upd h rfl))

theorem State.settleAddrs_kept {a1} (h : Kept r s) : Kept r (State.settleAddrs s a1) := by
  unfold State.settleAddrs
  refine Kept.foldl h fun t2 a3 h4 => ?_
  extract_lets x6 x7 x8 x9 x10
  have h11 : Kept r x9 := Kept.ite h4 (Kept.upd h4 rfl)
  clear_value x9
  have h12 : Kept r x10 := Kept.ite h11 (State.wr_kept h11)
  clear_value x10
  clear_value x6 x7 x8
  exact Kept.ite (State.announceEntry_kept h12) h12

theorem State.lportDown_kept {a1} (h : Kept r s) : Kept r (State.lportDown s a1) := by
  unfold State.lportDown
  refine Kept.ite ?_ ?_
  · exact h
  · extract_lets x4 x5 x6 x7 x8
    have h9 : Kept r x4 := State.wrBit_kept h
    clear_value x4
    have h10 : Kept r x6 := by
      unfold x6
      refine Kept.foldl h9 fun t12 a13 h14 => ?_
      exact State.dropOne_kept (State.unhold_kept h14)
    clear_value x6
    have h16 : Kept r x8 := by
      unfold x8
      refine Kept.foldl h10 fun t18 a19 h20 => ?_
      exact State.endCopy_kept (State.dropOne_kept (Kept.upd h20 rfl))
    clear_value x8
    clear_value x5 x7
    exact State.raise_kept (State.settleAddrs_kept (State.showBuffer_kept h16))

theorem State.showUse_kept {a1} (h : Kept r s) : Kept r (State.showUse s a1) := by
  unfold State.showUse
  extract_lets x2 x3
  have h4 : Kept r x3 := State.wr_kept h
  clear_value x3
  clear_value x2
  exact Kept.ite (State.wr_kept h4) h4

theorem State.exhausted_kept {a1} (h : Kept r s) : Kept r (State.exhausted s a1) := by
  unfold State.exhausted
  exact State.raiseOnce_kept (State.wrBit_kept h)

theorem State.takeBuffers_kept {a1} {a2} {a3} (h : Kept r s) : Kept1 r (State.takeBuffers s a1 a2 a3) := by
  unfold State.takeBuffers
  exact Kept1.ite (Kept1.mk h) (Kept1.ite (Kept1.mk (State.countOpen_kept (State.showUse_kept (Kept.upd h rfl)))) (Kept1.mk (State.exhausted_kept h)))

theorem State.freeBuffers_kept {a1} {a2} (h : Kept r s) : Kept r (State.freeBuffers s a1 a2) := by
  unfold State.freeBuffers
  exact State.showUse_kept (Kept.upd h rfl)

theorem State.awaitBuffers_kept {a1} {a2} {a3} (h : Kept r s) : Kept r (State.awaitBuffers s a1 a2 a3) := by
  unfold State.awaitBuffers
  exact State.countOpen_kept (Kept.upd h rfl)

theorem State.dropWait_kept {a1} {a2} (h : Kept r s) : Kept r (State.dropWait s a1 a2) := by
  unfold State.dropWait
  exact Kept.upd h rfl

theorem State.grantBuffers_kept {a1} (h : Kept r s) : Kept1 r (State.grantBuffers s a1) := by
  unfold State.grantBuffers
  split
  · exact Kept1.mk h
  · refine Kept1.mk ?_
    refine State.countOpen_kept ?_
    refine State.showUse_kept ?_
    extract_lets x12 x13
    have h14 : Kept r x12 := State.dropWait_kept h
    clear_value x12
    clear_value x13
    exact Kept.upd h14 rfl

theorem State.keepBuffers_kept {a1} {a2} {a3} (h : Kept r s) : Kept r (State.keepBuffers s a1 a2 a3) := by
  unfold State.keepBuffers
  extract_lets x2 x3
  clear_value x2 x3
  exact State.showUse_kept (Kept.upd h rfl)

theorem State.passBuffers_kept {a1} {a2} {a3} (h : Kept r s) : Kept r (State.passBuffers s a1 a2 a3) := by
  unfold State.passBuffers
  exact Kept.upd h rfl

theorem State.acquireFor_kept {a1} {a2} {a3} (h : Kept r s) : Kept1 r (State.acquireFor s a1 a2 a3) := by
  unfold State.acquireFor
  extract_lets x2
  clear_value x2
  refine Kept1.ite ?_ ?_
  · exact Kept1.mk h
  · refine Kept1.ite ?_ ?_
    · exact Kept1.mk (Kept.ite h (State.awaitBuffers_kept h))
    · split
      · rename_i y8 y9 y10 y11
        have h12 : Kept r y9 := .of1 y11 (State.takeBuffers_kept h)
        exact Kept1.ite (Kept1.mk (State.dropWait_kept h12)) (Kept1.mk (Kept.ite h12 (State.awaitBuffers_kept h12)))

theorem State.setAligned_kept {a1} (h : Kept r s) : Kept r (State.setAligned s a1) := by
  unfold State.setAligned
  exact Kept.ite (State.wr_kept h) (Kept.ite (State.raise_kept (State.wr_kept h)) h)

theorem State.shiftOffset_kept {a1} (h : Kept r s) : Kept r (State.shiftOffset s a1) := by
  unfold State.shiftOffset
  refine Kept.ite ?_ ?_
  · exact h
  · extract_lets x4 x5
    have h6 : Kept r x5 := State.wr_kept h
    clear_value x5
    clear_value x4
    exact Kept.ite (State.setAligned_kept h6) h6

theorem State.sendTwin_kept {a1} (h : Kept r s) : Kept r (State.sendTwin s a1) := by
  unfold State.sendTwin
  refine Kept.ite ?_ ?_
  · exact h
  · extract_lets x4 x5 x6
    have h7 : Kept r x5 := State.emit_kept (State.wake_kept h)
    clear_value x5
    clear_value x4 x6
    exact Kept.upd h7 rfl

theorem State.mirror_kept {a1} (h : Kept r s) : Kept1 r (State.mirror s a1) := by
  unfold State.mirror
  exact Kept1.ite (Kept1.mk (State.sendTwin_kept h)) (Kept1.mk h)

end Sys2Proof.Machine
end

