-- ==== Sys2Proof/Laws/KeptSkiff.lean ====
section
/-!
SUPPORT. For each operation of Skiff, Cipher, CrewBase, Journal, RowIo: what `Kept` says of the state it gives, so that
no later proof unfolds it.
-/

set_option linter.unusedVariables false

namespace Sys2Proof.Machine

variable {r s : State}

theorem State.setFlow_kept {a1} (h : Kept r s) : Kept r (State.setFlow s a1) := by
  unfold State.setFlow
  exact Kept.upd h rfl

theorem State.touchFlow_kept {a1} (h : Kept r s) : Kept r (State.touchFlow s a1) := by
  unfold State.touchFlow
  exact Kept.upd h rfl

theorem State.dropPeer_kept {a1} (h : Kept r s) : Kept r (State.dropPeer s a1) := by
  unfold State.dropPeer
  exact Kept.ite h (Kept.upd h rfl)

theorem State.freeMsg_kept {a1} {a2} (h : Kept r s) : Kept r (State.freeMsg s a1 a2) := by
  unfold State.freeMsg
  exact State.freeBuffers_kept h

theorem State.dropFlow_kept {a1} (h : Kept r s) : Kept r (State.dropFlow s a1) := by
  unfold State.dropFlow
  extract_lets x2 x3
  have h4 : Kept r x2 := by
    unfold x2
    split
    · exact h
    · extract_lets x13
      have h14 : Kept r x13 := by
        unfold x13
        split
        · exact State.freeMsg_kept h
        · exact h
      clear_value x13
      refine Kept.foldl h14 fun t24 a25 h26 => ?_
      split
      · exact State.freeMsg_kept h26
      · exact h26
  clear_value x2
  clear_value x3
  exact State.dropPeer_kept (Kept.upd h4 rfl)

theorem State.frameOut_kept {a1} {a2} {a3} {a4} {a5} (h : Kept r s) : Kept r (State.frameOut s a1 a2 a3 a4 a5) := by
  unfold State.frameOut
  exact State.sendFrame_kept h

theorem State.countSent_kept {a1} (h : Kept r s) : Kept r (State.countSent s a1) := by
  unfold State.countSent
  extract_lets x2
  have h3 : Kept r x2 := State.countOpen_kept h
  clear_value x2
  exact Kept.ite (State.countOpen_kept h3) h3

theorem State.sendAck_kept {a1} (h : Kept r s) : Kept r (State.sendAck s a1) := by
  unfold State.sendAck
  split
  · exact h
  · split
    · exact h
    · extract_lets x16 x17
      have h18 : Kept r x17 := State.countSent_kept (State.emit_kept h)
      clear_value x17
      clear_value x16
      exact State.frameOut_kept (State.setFlow_kept h18)

theorem State.emitNak_kept {a1} {a2} {a3} {a4} {a5} {a6} (h : Kept r s) : Kept r (State.emitNak s a1 a2 a3 a4 a5 a6) := by
  unfold State.emitNak
  split
  · exact h
  · extract_lets x9
    clear_value x9
    exact State.frameOut_kept (State.count_kept (State.emit_kept h))

theorem State.sendNak_kept {a1} {a2} {a3} {a4} {a5} (h : Kept r s) : Kept r (State.sendNak s a1 a2 a3 a4 a5) := by
  unfold State.sendNak
  split
  · exact State.emitNak_kept h
  · exact State.emitNak_kept h

theorem State.nakGen_kept {a1} {a2} (h : Kept r s) : Kept r (State.nakGen s a1 a2) := by
  unfold State.nakGen
  exact State.raiseOnce_kept (State.sendNak_kept h)

theorem State.nakTakeover_kept {a1} (h : Kept r s) : Kept r (State.nakTakeover s a1) := by
  unfold State.nakTakeover
  exact State.raiseOnce_kept (State.emitNak_kept h)

theorem State.nextNonce_kept {a1} (h : Kept r s) : Kept1 r (State.nextNonce s a1) := by
  unfold State.nextNonce
  extract_lets x2 x3 x4
  clear_value x2 x3 x4
  exact Kept1.mk (Kept.upd h rfl)

theorem State.transmitBody_kept {a1} {a2} {a3} (h : Kept r s) : Kept r (State.transmitBody s a1 a2 a3) := by
  unfold State.transmitBody
  split
  · exact h
  · split
    · exact h
    · split
      · rename_i y16 y17 y18 y19 y20
        have h21 : Kept r y17 := by
          refine .of1 y20 ?_
          split
          · split
            · rename_i y27 y28 y29 y30
              have h31 : Kept r y28 := .of1 y30 (State.nextNonce_kept h)
              split
              · rename_i y33 y34 y35 y36
                have h37 : Kept r y34 := .of1 y36 (State.cipherRun_kept h31)
                exact Kept1.mk h37
          · exact Kept1.mk h
        extract_lets x43 x44 x45 x46 x47
        have h48 : Kept r x47 := State.countSent_kept (State.emit_kept (State.tick_kept h21))
        clear_value x47
        clear_value x43 x44 x45 x46
        exact Kept.ite (State.setFlow_kept h21) (State.frameOut_kept (State.setFlow_kept h48))

theorem State.occurs_kept {a1} {a2} {a3} {a4} (h : Kept r s) : Kept r (State.occurs s a1 a2 a3 a4) := by
  unfold State.occurs
  extract_lets x2 x3
  clear_value x3
  exact Kept.upd h rfl

theorem State.pumpFlow_kept {a1} {n} (h : Kept r s) : Kept r (State.pumpFlow s a1 n) := by
  induction n generalizing s with
  | zero => exact h
  | succ n ih =>
    unfold State.pumpFlow
    split
    · exact h
    · split
      · exact h
      · split
        · refine ih ?_
          split
          · exact State.occurs_kept (State.transmitBody_kept (State.setFlow_kept h))
          · exact State.transmitBody_kept (State.setFlow_kept h)
        · exact h

theorem State.makeRoom_kept {t} (e : State.makeRoom s = .inl t) (h : Kept r s) : Kept r t := by
  unfold State.makeRoom at e
  split at e
  · cases e; exact h
  · split at e
    · cases e
    · split at e
      · cases e; exact State.setFlow_kept h
      · split at e
        · cases e; exact State.setFlow_kept (State.dropFlow_kept h)
        · cases e
theorem State.restore_kept {a1} (h : Kept r s) : Kept r (State.restore s a1) := by
  unfold State.restore
  refine Kept.ite h ?_
  dsimp only
  split
  · exact h
  · next t ht =>
    have h1 := State.makeRoom_kept (r := r) ht (Kept.upd h rfl)
    exact State.count_kept (Kept.upd h1 rfl)

theorem State.sendOn_kept {a1} {a2} (h : Kept r s) : Kept r (State.sendOn s a1 a2) := by
  unfold State.sendOn
  extract_lets x2 x3
  clear_value x2 x3
  split
  · extract_lets x9 x10
    have h11 : Kept r x9 := State.setFlow_kept h
    clear_value x9
    have h12 : Kept r x10 := by
      unfold x10
      split
      · exact Kept.ite (State.restore_kept h11) h11
      · exact h11
    clear_value x10
    exact State.pumpFlow_kept h12
  · exact Kept.upd h rfl

theorem State.sendHeldFor_kept {a1} (h : Kept r s) : Kept r (State.sendHeldFor s a1) := by
  unfold State.sendHeldFor
  extract_lets x2 x3 x4
  have h5 : Kept r x4 := Kept.upd h rfl
  clear_value x4
  clear_value x2 x3
  exact Kept.ite h (State.sendOn_kept h5)

theorem State.dropQueued_kept {a1} (h : Kept r s) : Kept r (State.dropQueued s a1) := by
  unfold State.dropQueued
  exact Kept.upd h rfl

theorem State.dropPlaces_kept {a1} (h : Kept r s) : Kept r (State.dropPlaces s a1) := by
  unfold State.dropPlaces
  extract_lets x2 x3 x4
  have h5 : Kept r x3 := State.dropQueued_kept h
  clear_value x3
  clear_value x4
  exact Kept.upd h5 rfl

theorem State.loseFlow_kept {a1} (h : Kept r s) : Kept r (State.loseFlow s a1) := by
  unfold State.loseFlow
  extract_lets x2
  clear_value x2
  split
  · extract_lets x9
    have h10 : Kept r x9 := by
      unfold x9
      refine Kept.foldl h fun t12 a13 h14 => ?_
      split
      · exact State.freeBuffers_kept (State.freeBuffers_kept h14)
      · exact h14
    clear_value x9
    exact State.sendOn_kept (State.dropFlow_kept h10)

theorem State.ackedResponse_kept {a1} {a2} {a3} (h : Kept r s) : Kept r (State.ackedResponse s a1 a2 a3) := by
  unfold State.ackedResponse
  extract_lets x2 x3 x4
  have h5 : Kept r x3 := Kept.upd h rfl
  clear_value x3
  have h6 : Kept r x4 := State.freeBuffers_kept (State.freeBuffers_kept h5)
  clear_value x4
  clear_value x2
  split
  · rename_i y8 y9 y10 y11
    have h12 : Kept r y9 := .of1 y11 (Kept1.ite (State.mirror_kept h6) (Kept1.mk h6))
    exact State.occurs_kept (State.wr_kept (State.dropPlaces_kept h12))

theorem State.ackFlow_kept {a1} {a2} {a3} {a4} (h : Kept r s) : Kept r (State.ackFlow s a1 a2 a3 a4) := by
  unfold State.ackFlow
  split
  · exact h
  · extract_lets x9 x10 x11 x12
    have h13 : Kept r x11 := State.setFlow_kept h
    clear_value x11
    have h14 : Kept r x12 := by
      unfold x12
      refine Kept.foldl h13 fun t16 a17 h18 => ?_
      split
      · exact State.ackedResponse_kept h18
      · exact h18
    clear_value x12
    clear_value x9 x10
    exact State.pumpFlow_kept h14

theorem State.newGen_kept (h : Kept r s) : Kept1 r (State.newGen s) := by
  unfold State.newGen
  extract_lets x2 x3
  exact Kept1.mk (State.wr_kept h)

theorem State.countRecord_kept (h : Kept r s) : Kept r (State.countRecord s) := by
  unfold State.countRecord
  extract_lets x2 x3 x4
  clear_value x2 x3 x4
  exact Kept.upd h rfl

theorem State.refuseNew_kept (h : Kept r s) : Kept r (State.refuseNew s) := by
  unfold State.refuseNew
  exact State.dropOne_kept h

theorem State.learnPeer_kept {a1 t} (e : State.learnPeer s a1 = some t) (h : Kept r s) : Kept r t := by
  unfold State.learnPeer at e
  dsimp only at e
  split at e
  · cases e; exact Kept.upd h rfl
  · split at e
    · cases e; exact Kept.upd h rfl
    · cases e

theorem State.learnPeerD_kept {a1} (h : Kept r s) : Kept r ((State.learnPeer s a1).getD s) := by
  cases hl : s.learnPeer a1 with
  | none => exact h
  | some t => exact State.learnPeer_kept hl h

theorem State.createFlow_kept {a1} {a2} (h : Kept r s) : Kept1 r (State.createFlow s a1 a2) := by
  unfold State.createFlow
  refine Kept1.ite (Kept1.mk (State.refuseNew_kept h)) (Kept1.ite (Kept1.mk (State.raise_kept h)) ?_)
  split
  · exact Kept1.mk (State.raise_kept (State.refuseNew_kept h))
  · next s1 h1 =>
    have k2 : Kept r ((s1.learnPeer a1).getD s1) := State.learnPeerD_kept (State.makeRoom_kept h1 h)
    dsimp only
    generalize (s1.learnPeer a1).getD s1 = s2 at k2
    have k3 : Kept r s2.newGen.1 := State.newGen_kept k2
    exact Kept1.mk (Kept.upd (State.countRecord_kept (State.tick_kept k3)) rfl)

theorem State.malformed_kept (h : Kept r s) : Kept r (State.malformed s) := by
  unfold State.malformed
  exact State.raiseOnce_kept (State.dropOne_kept h)

theorem State.newMsgid_kept {a1} {a2} (h : Kept r s) : Kept1 r (State.newMsgid s a1 a2) := by
  unfold State.newMsgid
  extract_lets x2 x3 x4
  clear_value x3 x4
  exact Kept1.mk (Kept.upd h rfl)

theorem State.noteError_kept {a1} {a2} (h : Kept r s) : Kept r (State.noteError s a1 a2) := by
  unfold State.noteError
  refine Kept.ite ?_ ?_
  · extract_lets x3 x4 x5
    clear_value x3 x4 x5
    exact Kept.upd h rfl
  · exact h

theorem State.refuseCapsule_kept {a1} {a2} {a3} {a4} (h : Kept r s) : Kept r (State.refuseCapsule s a1 a2 a3 a4) := by
  unfold State.refuseCapsule
  split
  · rename_i y2 y3 y4 y5
    have h6 : Kept r y3 := .of1 y5 (State.newMsgid_kept (State.noteError_kept h))
    exact State.sendOn_kept h6

theorem State.resendResponse_kept {a1} {a2} (h : Kept r s) : Kept r (State.resendResponse s a1 a2) := by
  unfold State.resendResponse
  split
  · exact State.sendOn_kept h
  · exact h

theorem State.matchCapsule_kept {a1} {a2} {a3} (h : Kept r s) : Kept1 r (State.matchCapsule s a1 a2 a3) := by
  unfold State.matchCapsule
  extract_lets x2 x3
  clear_value x2
  split
  · exact Kept1.ite (Kept1.mk h) (Kept1.ite (Kept1.ite (Kept1.mk h) (Kept1.mk (State.refuseCapsule_kept h))) (Kept1.ite (Kept1.mk (State.resendResponse_kept h)) (Kept1.mk (State.ackedResponse_kept h))))
  · split
    · exact Kept1.ite (Kept1.mk h) (Kept1.mk (State.refuseCapsule_kept h))
    · exact Kept1.mk h

theorem State.deliver_kept {a1} {a2} {a3} {a4} (h : Kept r s) : Kept r (State.deliver s a1 a2 a3 a4) := by
  unfold State.deliver
  extract_lets x2
  split
  · split
    · rename_i y12 y13 y14 y15
      have h16 : Kept r y13 := .of1 y15 (State.matchCapsule_kept h)
      refine Kept.ite ?_ ?_
      · unfold x2
        exact Kept.upd h16 rfl
      · exact State.freeMsg_kept h16
  · unfold x2
    exact Kept.upd h rfl

theorem State.takePart_kept {a1} {a2} {a3} {a4} (h : Kept r s) : Kept r (State.takePart s a1 a2 a3 a4) := by
  unfold State.takePart
  split
  · exact h
  · extract_lets x9
    split
    · refine Kept.ite ?_ ?_
      · exact Kept.ite (State.deliver_kept h) (State.setFlow_kept h)
      · unfold x9
        extract_lets x17
        have h18 : Kept r x17 := by
          unfold x17
          split
          · exact State.freeMsg_kept h
          · exact h
        clear_value x17
        exact State.malformed_kept (State.setFlow_kept (State.freeMsg_kept h18))
    · refine Kept.ite ?_ ?_
      · exact Kept.ite (State.deliver_kept (State.setFlow_kept h)) (State.setFlow_kept h)
      · unfold x9
        extract_lets x35
        have h36 : Kept r x35 := by
          unfold x35
          split
          · exact State.freeMsg_kept h
          · exact h
        clear_value x35
        exact State.malformed_kept (State.setFlow_kept (State.freeMsg_kept h36))

theorem State.takeFdata_kept {a1} {a2} {a3} {a4} {a5} (h : Kept r s) : Kept r (State.takeFdata s a1 a2 a3 a4 a5) := by
  unfold State.takeFdata
  split
  · exact h
  · refine Kept.ite ?_ ?_
    · exact h
    · extract_lets x11 x12
      have h13 : Kept r x12 := Kept.upd h rfl
      clear_value x12
      clear_value x11
      exact h13

theorem State.takeInOrder_kept {a1} {n} (h : Kept r s) : Kept r (State.takeInOrder s a1 n) := by
  induction n generalizing s with
  | zero => exact h
  | succ n ih =>
    unfold State.takeInOrder
    split
    · exact h
    · split
      · exact h
      · split
        · refine ih ?_
          split
          · exact State.takePart_kept (State.setFlow_kept h)
          · exact State.takeFdata_kept (State.setFlow_kept h)
          · exact State.setFlow_kept h
        · exact h

theorem State.nakHole_kept {a1} (h : Kept r s) : Kept r (State.nakHole s a1) := by
  unfold State.nakHole
  split
  · exact h
  · extract_lets x9 x10 x11
    clear_value x9 x10 x11
    exact Kept.ite h (State.sendNak_kept (State.setFlow_kept h))

theorem State.ackPacket_kept {a1} {a2} {a3} (h : Kept r s) : Kept r (State.ackPacket s a1 a2 a3) := by
  unfold State.ackPacket
  split
  · exact h
  · extract_lets x9 x10
    have h11 : Kept r x10 := State.setFlow_kept h
    clear_value x10
    clear_value x9
    exact Kept.ite (State.sendAck_kept h11) h11

theorem State.useSequenced_kept {a1} {a2} {a3} (h : Kept r s) : Kept r (State.useSequenced s a1 a2 a3) := by
  unfold State.useSequenced
  extract_lets x2 x3 x4
  have h5 : Kept r x3 := Kept.ite (State.ackFlow_kept h) h
  clear_value x3
  clear_value x2 x4
  split
  · exact h5
  · extract_lets x14 x15 x16 x17
    refine Kept.ite ?_ ?_
    · unfold x15
      exact State.ackPacket_kept (State.touchFlow_kept h5)
    · refine Kept.ite ?_ ?_
      · exact State.dropOne_kept (State.touchFlow_kept h5)
      · refine Kept.ite ?_ ?_
        · unfold x15
          exact State.ackPacket_kept (State.touchFlow_kept h5)
        · split
          · rename_i y27 y28 y29 y30
            have h31 : Kept r y28 := by
              refine .of1 y30 ?_
              split
              · rename_i y33 y34
                have h35 : Kept r y28 := by
                  refine .of1 y30 ?_
                  split
                  · exact State.takeBuffers_kept h5
                  · exact State.takeBuffers_kept h5
                exact State.takeBuffers_kept h5
              · exact Kept1.mk h5
            refine Kept.ite ?_ ?_
            · exact State.bump_kept h31
            · extract_lets x51 x52 x53
              have h54 : Kept r x51 := State.touchFlow_kept h31
              clear_value x51
              have h55 : Kept r x52 := by
                unfold x52
                split
                · rename_i y57 y58
                  have h59 : Kept r y28 := by
                    refine .of1 y30 ?_
                    split
                    · exact State.takeBuffers_kept h5
                    · exact State.takeBuffers_kept h5
                  exact Kept.ite (State.occurs_kept h54) h54
                · exact h54
              clear_value x52
              have h72 : Kept r x53 := Kept.ite (State.nakHole_kept h55) h55
              clear_value x53
              exact State.takeInOrder_kept (State.ackPacket_kept h72)

theorem State.retransmit_kept {a1} {a2} (h : Kept r s) : Kept r (State.retransmit s a1 a2) := by
  unfold State.retransmit
  split
  · exact State.countOpen_kept (State.transmitBody_kept h)
  · exact h

theorem State.openFed_kept {a1} (h : Kept r s) : Kept1 r (State.openFed s a1) := by
  unfold State.openFed
  refine Kept1.ite ?_ ?_
  · exact Kept1.mk h
  · extract_lets x4 x5
    clear_value x4 x5
    split
    · rename_i y7 y8 y9 y10
      have h11 : Kept r y8 := .of1 y10 (State.createFlow_kept h)
      refine Kept1.ite ?_ ?_
      · exact Kept1.mk h11
      · split
        · exact Kept1.mk (State.sendHeldFor_kept (State.setFlow_kept h11))
        · exact Kept1.mk h11

theorem State.reopenFed_kept {a1} (h : Kept r s) : Kept r (State.reopenFed s a1) := by
  unfold State.reopenFed
  extract_lets x2
  have h3 : Kept r x2 := State.dropFlow_kept h
  clear_value x2
  split
  · exact h3
  · split
    · rename_i y12 y13 y14 y15
      have h16 : Kept r y13 := .of1 y15 (State.openFed_kept h3)
      exact State.sendOn_kept h16
    · rename_i y18 y19 y20
      have h21 : Kept r y19 := .of1 y20 (State.openFed_kept h3)
      exact State.sendOn_kept h21

theorem State.takeNak_kept {a1} {a2} {a3} (h : Kept r s) : Kept r (State.takeNak s a1 a2 a3) := by
  unfold State.takeNak
  split
  · exact h
  · split
    · exact State.retransmit_kept h
    · exact Kept.ite (State.reopenFed_kept h) (State.loseFlow_kept h)
    · exact State.loseFlow_kept h
    · exact Kept.ite (State.setFlow_kept h) h
    · exact h

theorem State.usePacket_kept {a1} {a2} {a3} (h : Kept r s) : Kept r (State.usePacket s a1 a2 a3) := by
  unfold State.usePacket
  extract_lets x2
  have h3 : Kept r x2 := by
    unfold x2
    split
    · exact State.touchFlow_kept h
    · exact h
  clear_value x2
  split
  · exact State.ackFlow_kept h3
  · exact State.takeNak_kept h3
  · exact State.useSequenced_kept h

theorem State.submitOn_kept {a1} {a2} {a3} {a4} (h : Kept r s) : Kept r (State.submitOn s a1 a2 a3 a4) := by
  unfold State.submitOn
  split
  · rename_i y2 y3 y4 y5
    have h6 : Kept r y3 := .of1 y5 (State.matchCapsule_kept h)
    exact Kept.ite (Kept.upd h6 rfl) h6

theorem State.fireEntry_kept {a1} {a2} (h : Kept r s) : Kept r (State.fireEntry s a1 a2) := by
  unfold State.fireEntry
  split
  · split
    · exact State.submitOn_kept h
    · exact Kept.upd h rfl
  · extract_lets x20
    clear_value x20
    exact State.sendOn_kept h

theorem State.fireNext_kept {n} (h : Kept r s) : Kept r (State.fireNext s n) := by
  induction n generalizing s with
  | zero => exact h
  | succ n ih =>
    unfold State.fireNext
    split
    · exact h
    · exact ih (Kept.foldl (State.count_kept (Kept.upd h rfl)) fun t e ht => State.fireEntry_kept ht)

theorem State.fireDue_kept (h : Kept r s) : Kept r (State.fireDue s) := by
  unfold State.fireDue
  exact State.fireNext_kept h

theorem State.submitHeldFor_kept {a1} (h : Kept r s) : Kept r (State.submitHeldFor s a1) := by
  unfold State.submitHeldFor
  extract_lets x2 x3 x4
  have h5 : Kept r x4 := Kept.upd h rfl
  clear_value x4
  clear_value x3
  refine Kept.foldl h5 fun t7 a8 h9 => ?_
  split
  · exact State.submitOn_kept h9
  · exact h9

theorem State.sequenced_kept {a1} {a2} {a3} (h : Kept r s) : Kept r (State.sequenced s a1 a2 a3) := by
  unfold State.sequenced
  split
  · exact h
  · refine Kept.ite ?_ (State.nakGen_kept h)
    dsimp only
    have h1 : Kept r ((s.learnPeer a1).getD s) := State.learnPeerD_kept h
    split
    · exact State.submitHeldFor_kept (State.sendHeldFor_kept (State.usePacket_kept (State.setFlow_kept h1)))
    · exact State.usePacket_kept (State.setFlow_kept h1)

theorem State.park_kept {a1} {a2} {a3} (h : Kept r s) : Kept r (State.park s a1 a2 a3) := by
  unfold State.park
  exact Kept.ite (State.dropOne_kept h) (Kept.ite (State.raiseOnce_kept (State.exhausted_kept (State.dropOne_kept h))) (State.showUse_kept (State.touchFlow_kept h)))

theorem State.unpark_kept {a1} (h : Kept r s) : Kept r (State.unpark s a1) := by
  unfold State.unpark
  split
  · exact h
  · extract_lets x9
    clear_value x9
    refine Kept.foldl (State.showUse_kept (State.setFlow_kept h)) fun t11 a12 h13 => ?_
    exact State.sequenced_kept h13

theorem State.fromSwitch_kept {a1} (h : Kept r s) : Kept1 r (State.fromSwitch s a1) := by
  unfold State.fromSwitch
  split
  · rename_i y2 y3 y4 y5
    have h6 : Kept r y3 := .of1 y5 (State.takeInternal_kept h)
    exact Kept1.mk h6

theorem State.arrive_kept {a1} {a2} {a3} (h : Kept r s) : Kept r (State.arrive s a1 a2 a3) := by
  unfold State.arrive
  extract_lets x2 x3 x4 x5
  have h6 : Kept r x3 := State.countOpen_kept h
  clear_value x3
  clear_value x2 x4 x5
  refine Kept.ite ?_ ?_
  · exact h6
  · refine Kept.ite ?_ ?_
    · exact State.sendNak_kept h6
    · split
      · exact Kept.ite (Kept.ite (State.park_kept h6) (State.sendNak_kept h6)) (Kept.ite (State.park_kept h6) (State.sequenced_kept h6))
      · refine Kept.ite ?_ ?_
        · exact State.nakGen_kept h6
        · split
          · rename_i y21 y22 y23 y24
            have h25 : Kept r y22 := .of1 y24 (State.createFlow_kept h6)
            refine Kept.ite ?_ ?_
            · exact h25
            · refine Kept.ite ?_ ?_
              · split
                · exact h25
                · extract_lets x37
                  have h38 : Kept r x37 := State.park_kept h25
                  clear_value x37
                  split
                  · rename_i y40 y41 y42 y43
                    have h44 : Kept r y41 := .of1 y43 (State.handOver_kept h38)
                    split
                    · exact h44
                    · exact Kept.ite (State.setFlow_kept h44) (State.unpark_kept (State.setFlow_kept h44))
              · exact State.sequenced_kept h25

theorem State.xtsSeal_kept {a1} {a2} {a3} {a4} (h : Kept r s) : Kept1 r (State.xtsSeal s a1 a2 a3 a4) := by
  unfold State.xtsSeal
  split
  · rename_i y2 y3 y4
    have h5 : Kept r y3 := .of1 y4 (State.cipherRun_kept h)
    exact Kept1.mk h5
  · rename_i y7 y8 y9
    have h10 : Kept r y8 := .of1 y9 (State.cipherRun_kept h)
    exact Kept1.mk h10

theorem State.xtsOpen_kept {a1} {a2} {a3} {a4} (h : Kept r s) : Kept1 r (State.xtsOpen s a1 a2 a3 a4) := by
  unfold State.xtsOpen
  split
  · rename_i y2 y3 y4
    have h5 : Kept r y3 := .of1 y4 (State.cipherRun_kept h)
    exact Kept1.mk h5
  · rename_i y7 y8 y9
    have h10 : Kept r y8 := .of1 y9 (State.cipherRun_kept h)
    exact Kept1.mk h10

theorem State.beginUnwrap_kept {a1} (h : Kept r s) : Kept r (State.beginUnwrap s a1) := by
  unfold State.beginUnwrap
  refine Kept.ite ?_ ?_
  · exact h
  · extract_lets x4
    clear_value x4
    split
    · rename_i y6 y7 y8 y9
      have h10 : Kept r y7 := .of1 y9 (Kept1.ite (State.handOver_kept h) (Kept1.mk h))
      exact Kept.upd h10 rfl

theorem State.useXts_kept {a1} (h : Kept r s) : Kept1 r (State.useXts s a1) := by
  unfold State.useXts
  refine Kept1.ite ?_ ?_
  · exact Kept1.mk h
  · split
    · exact Kept1.mk h
    · exact Kept1.mk (State.beginUnwrap_kept h)
    · exact Kept1.mk h

theorem State.failTag_kept (h : Kept r s) : Kept r (State.failTag s) := by
  unfold State.failTag
  exact State.raiseOnce_kept (State.bump_kept h)

theorem State.checkEnvelope_kept {a1} {a2} (h : Kept r s) : Kept1 r (State.checkEnvelope s a1 a2) := by
  unfold State.checkEnvelope
  refine Kept1.ite ?_ ?_
  · exact Kept1.mk h
  · split
    · exact Kept1.ite (Kept1.mk (State.failTag_kept h)) (Kept1.ite (Kept1.mk (State.raiseOnce_kept (State.bump_kept h))) (Kept1.mk h))
    · extract_lets x11
      clear_value x11
      refine Kept1.ite ?_ ?_
      · exact Kept1.mk (State.failTag_kept h)
      · split
        · split
          · rename_i y18 y19 y20
            have h21 : Kept r y19 := .of1 y20 (State.cipherRun_kept h)
            exact Kept1.ite (Kept1.mk h21) (Kept1.mk (State.failTag_kept h21))
          · rename_i y23 y24 y25
            have h26 : Kept r y24 := .of1 y25 (State.cipherRun_kept h)
            exact Kept1.mk (State.failTag_kept h26)
        · exact Kept1.mk (State.beginUnwrap_kept h)
        · exact Kept1.mk (State.failTag_kept h)

theorem State.kloadEnd_kept {a1} {a2} (h : Kept r s) : Kept r (State.kloadEnd s a1 a2) := by
  unfold State.kloadEnd
  exact State.wr_kept (State.wr_kept (State.wr_kept h))

theorem State.dropKey_kept {a1} (h : Kept r s) : Kept r (State.dropKey s a1) := by
  unfold State.dropKey
  exact Kept.upd h rfl

theorem State.kload_kept {a1} (h : Kept r s) : Kept r (State.kload s a1) := by
  unfold State.kload
  refine Kept.ite ?_ ?_
  · exact State.kloadEnd_kept h
  · extract_lets x4 x5 x6 x7 x8 x9
    have h10 : Kept r x6 := State.dropKey_kept h
    clear_value x6
    have h11 : Kept r x8 := Kept.upd h10 rfl
    clear_value x8
    have h12 : Kept r x9 := State.wr_kept (State.wr_kept (State.wr_kept h11))
    clear_value x9
    clear_value x4 x5 x7
    exact Kept.ite (State.kloadEnd_kept h) (State.kloadEnd_kept (State.wr_kept (State.wr_kept h12)))

theorem State.kclear_kept {a1} (h : Kept r s) : Kept r (State.kclear s a1) := by
  unfold State.kclear
  refine Kept.ite ?_ ?_
  · exact State.kloadEnd_kept h
  · extract_lets x4
    have h5 : Kept r x4 := State.wr_kept (State.wr_kept (State.dropKey_kept h))
    clear_value x4
    exact State.kloadEnd_kept (State.wr_kept (State.wr_kept (State.wr_kept h5)))

theorem State.kprepare_kept {a1} (h : Kept r s) : Kept r (State.kprepare s a1) := by
  unfold State.kprepare
  split
  · exact State.kloadEnd_kept h
  · exact State.kloadEnd_kept h
  · extract_lets x11 x12
    have h13 : Kept r x11 := State.beginUnwrap_kept h
    clear_value x11
    clear_value x12
    exact Kept.ite (State.kloadEnd_kept (State.tick_kept h13)) (State.wr_kept (State.wr_kept (Kept.upd h13 rfl)))
  · exact State.kloadEnd_kept (State.tick_kept h)

theorem State.kloadCmd_kept {a1} (h : Kept r s) : Kept r (State.kloadCmd s a1) := by
  unfold State.kloadCmd
  extract_lets x2
  clear_value x2
  refine Kept.ite ?_ ?_
  · exact h
  · split
    · exact State.kload_kept h
    · exact State.kclear_kept h
    · exact State.kprepare_kept h
    · exact h

theorem State.endUnwrap_kept {a1} {a2} {a3} {a4} (h : Kept r s) : Kept r (State.endUnwrap s a1 a2 a3 a4) := by
  unfold State.endUnwrap
  refine Kept.ite h ?_
  have h0 : Kept r ({ s with cip := { s.cip with unwraps := s.cip.unwraps.filter fun u => u.1 != a1 } }.countOpen 0x380 6 (keyUnit a1)) :=
    State.countOpen_kept (Kept.upd h rfl)
  dsimp only
  generalize State.countOpen _ 0x380 6 (keyUnit a1) = s0 at h0
  generalize (if (!a2) = true then 5 else if (!a3 || s.rd F.CIP_SLOT_TYPE a1 == 1 && a4 % 2 ^ 256 == a4 / 2 ^ 256 % 2 ^ 256) = true then 4
    else 0) = result
  have h1 : Kept r (match result with
      | 0x00 => { s0 with cip := { s0.cip with material := (s0.cip.material.filter fun (e : Nat × Nat) => e.1 != a1) ++
          [(a1, a4 % 2 ^ 512)] } }.wr F.CIP_SLOT_STATE 2 a1
      | 0x05 => s0.raise 467 (keyUnit a1)
      | _ => (s0.wr F.CIP_SLOT_STATE 3 a1).raise 467 (keyUnit a1)) := by
    split
    · exact State.wr_kept (Kept.upd h0 rfl)
    · exact State.raise_kept h0
    · exact State.raise_kept (State.wr_kept h0)
  exact Kept.ite (State.kloadEnd_kept (Kept.upd h1 rfl)) h1

theorem State.syncKek_kept (h : Kept r s) : Kept r (State.syncKek s) := by
  unfold State.syncKek
  exact State.wr_kept h

theorem State.kekCleared_kept {a1} (h : Kept r s) : Kept r (State.kekCleared s a1) := by
  unfold State.kekCleared
  exact State.raise_kept (State.vendor_kept (State.syncKek_kept (Kept.upd h rfl)))

theorem State.seatEvent_kept {a1} {a2} {a3} (h : Kept r s) : Kept r (State.seatEvent s a1 a2 a3) := by
  unfold State.seatEvent
  split
  · exact State.raise_kept h
  · exact State.raise_kept (State.tick_kept h)

theorem State.seatOnce_kept {a1} {a2} {a3} {a4} (h : Kept r s) : Kept r (State.seatOnce s a1 a2 a3 a4) := by
  unfold State.seatOnce
  split
  · exact State.raiseOnce_kept h
  · exact State.raiseOnce_kept (State.tick_kept h)

theorem State.showTorn_kept (h : Kept r s) : Kept r (State.showTorn s) := by
  unfold State.showTorn
  exact State.wr_kept h

theorem State.showCrew_kept {a1} {a2} (h : Kept r s) : Kept r (State.showCrew s a1 a2) := by
  unfold State.showCrew
  extract_lets x2 x3 x4 x5
  have h6 : Kept r x2 := by
    unfold x2
    refine Kept.foldl h fun t8 a9 h10 => ?_
    exact State.wr_kept h10
  clear_value x2
  have h12 : Kept r x3 := by
    unfold x3
    refine Kept.foldl h6 fun t14 a15 h16 => ?_
    exact State.wr_kept h16
  clear_value x3
  have h18 : Kept r x4 := State.wr_kept (State.wr_kept h12)
  clear_value x4
  have h19 : Kept r x5 := State.wr_kept (State.wr_kept h18)
  clear_value x5
  exact State.showTorn_kept h19

theorem State.setCrew_kept {a1} {a2} (h : Kept r s) : Kept r (State.setCrew s a1 a2) := by
  unfold State.setCrew
  extract_lets x2 x3 x4
  clear_value x2 x3 x4
  exact State.showCrew_kept (Kept.upd h rfl)

theorem State.modCrew_kept {a1} {a2} (h : Kept r s) : Kept r (State.modCrew s a1 a2) := by
  unfold State.modCrew
  split
  · exact State.setCrew_kept h
  · exact h

theorem State.modSeat_kept {a1} {a2} {a3} (h : Kept r s) : Kept r (State.modSeat s a1 a2 a3) := by
  unfold State.modSeat
  exact State.modCrew_kept h

theorem State.setVol_kept {a1} (h : Kept r s) : Kept r (State.setVol s a1) := by
  unfold State.setVol
  exact Kept.upd h rfl

theorem State.modVol_kept {a1} {a2} (h : Kept r s) : Kept r (State.modVol s a1 a2) := by
  unfold State.modVol
  split
  · exact State.setVol_kept h
  · exact h

theorem State.putIo_kept {a1} {a2} {a3} (h : Kept r s) : Kept r (State.putIo s a1 a2 a3) := by
  unfold State.putIo
  extract_lets x2 x3 x4 x5
  have h6 : Kept r x4 := Kept.ite h (State.countOpen_kept (State.emit_kept (State.wake_kept h)))
  clear_value x4
  clear_value x2 x3 x5
  exact Kept.upd h6 rfl

theorem State.issueIo_kept {a1} {a2} {a3} {a4} {a5} (h : Kept r s) : Kept r (State.issueIo s a1 a2 a3 a4 a5) := by
  unfold State.issueIo
  split
  · exact h
  · split
    · exact h
    · exact State.putIo_kept h

theorem State.issueBay_kept {a1} {a2} (h : Kept r s) : Kept r (State.issueBay s a1 a2) := by
  unfold State.issueBay
  exact State.putIo_kept h

theorem State.dropIo_kept {a1} (h : Kept r s) : Kept r (State.dropIo s a1) := by
  unfold State.dropIo
  exact Kept.upd h rfl

theorem State.freeSlots_kept {a1} {a2} (h : Kept r s) : Kept r (State.freeSlots s a1 a2) := by
  unfold State.freeSlots
  exact State.modCrew_kept h

theorem State.modSegment_kept {a1} {a2} {a3} (h : Kept r s) : Kept r (State.modSegment s a1 a2 a3) := by
  unfold State.modSegment
  exact State.modCrew_kept h

theorem State.pushBlock_kept {a1} {a2} {a3} {a4} (h : Kept r s) : Kept r (State.pushBlock s a1 a2 a3 a4) := by
  unfold State.pushBlock
  refine Kept.ite ?_ ?_
  · exact h
  · split
    · extract_lets x11 x12 x13 x14
      have h15 : Kept r x13 := State.issueIo_kept h
      clear_value x13
      have h16 : Kept r x14 := State.modSeat_kept h15
      clear_value x14
      clear_value x11 x12
      exact Kept.ite (State.raiseOnce_kept h) (State.modSegment_kept h16)
    · exact h

theorem State.pushSegment_kept {a1} {a2} (h : Kept r s) : Kept r (State.pushSegment s a1 a2) := by
  unfold State.pushSegment
  refine Kept.foldl h fun t2 a3 h4 => ?_
  refine Kept.ite ?_ ?_
  · refine Kept.foldl h4 fun t7 a8 h9 => ?_
    exact State.pushBlock_kept h9
  · exact h4

theorem State.pushBlocks_kept {a1} (h : Kept r s) : Kept r (State.pushBlocks s a1) := by
  unfold State.pushBlocks
  split
  · exact h
  · refine Kept.foldl h fun t9 a10 h11 => ?_
    exact State.pushSegment_kept h11

theorem State.mirrorSegment_kept {a1} {a2} (h : Kept r s) : Kept r (State.mirrorSegment s a1 a2) := by
  unfold State.mirrorSegment
  split
  · exact h
  · refine Kept.foldl h fun t9 a10 h11 => ?_
    refine Kept.ite ?_ ?_
    · split
      · rename_i y14 y15 y16 y17
        have h18 : Kept r y15 := .of1 y17 (State.mirror_kept h11)
        exact State.modSegment_kept h18
    · exact h11

theorem State.settleSegment_kept {a1} {a2} (h : Kept r s) : Kept r (State.settleSegment s a1 a2) := by
  unfold State.settleSegment
  exact State.pushBlocks_kept (State.mirrorSegment_kept h)

theorem State.journalRoom_kept {a1} {a2} {a3} {a4} (h : Kept r s) : Kept1 r (State.journalRoom s a1 a2 a3 a4) := by
  unfold State.journalRoom
  split
  · rename_i y2 y3 y4 y5
    have h6 : Kept r y3 := .of1 y5 (State.acquireFor_kept h)
    exact Kept1.mk (Kept.ite (State.passBuffers_kept h6) h6)

theorem State.placeGroup_kept {a1} {a2} {a3} {a4} {a5} (h : Kept r s) : Kept1 r (State.placeGroup s a1 a2 a3 a4 a5) := by
  unfold State.placeGroup
  split
  · exact Kept1.mk h
  · extract_lets x9 x10 x11 x12 x13 x14 x15 x16 x17 x18
    clear_value x9 x10 x11 x12 x13 x14 x15 x16 x17 x18
    split
    · rename_i y20 y21 y22 y23
      have h24 : Kept r y21 := .of1 y23 (State.journalRoom_kept h)
      exact Kept1.ite (Kept1.mk h24) (Kept1.mk (State.countOpen_kept (State.settleSegment_kept (State.modCrew_kept h24))))

theorem State.placeRec_kept {a1} {a2} {a3} (h : Kept r s) : Kept r (State.placeRec s a1 a2 a3) := by
  unfold State.placeRec
  split
  · exact h
  · split
    · exact h
    · extract_lets x16
      clear_value x16
      split
      · rename_i y18 y19 y20 y21
        have h22 : Kept r y19 := .of1 y21 (Kept1.ite (State.journalRoom_kept h) (Kept1.mk h))
        exact Kept.ite (State.settleSegment_kept (State.modSegment_kept h22)) (State.modCrew_kept h22)

theorem State.placeLoose_kept {a1} {a2} (h : Kept r s) : Kept r (State.placeLoose s a1 a2) := by
  unfold State.placeLoose
  exact State.placeRec_kept h

theorem State.cancelGroup_kept {a1} {a2} {a3} (h : Kept r s) : Kept r (State.cancelGroup s a1 a2 a3) := by
  unfold State.cancelGroup
  exact State.placeRec_kept (State.modSegment_kept h)

theorem State.closeBlocks_kept {a1} {a2} {a3} (h : Kept r s) : Kept r (State.closeBlocks s a1 a2 a3) := by
  unfold State.closeBlocks
  exact State.settleSegment_kept (State.modSegment_kept h)

theorem State.markCommitted_kept {a1} {a2} {a3} (h : Kept r s) : Kept r (State.markCommitted s a1 a2 a3) := by
  unfold State.markCommitted
  exact State.modSegment_kept h

theorem State.placeMark_kept {a1} {a2} {a3} (h : Kept r s) : Kept r (State.placeMark s a1 a2 a3) := by
  unfold State.placeMark
  split
  · extract_lets x9
    clear_value x9
    split
    · rename_i y11 y12 y13 y14
      have h15 : Kept r y12 := .of1 y14 (Kept1.ite (State.journalRoom_kept h) (Kept1.mk h))
      exact Kept.ite (State.settleSegment_kept (State.modSegment_kept h15)) (State.modCrew_kept h15)
  · exact h

theorem State.checkpoint_kept {a1} {a2} (h : Kept r s) : Kept r (State.checkpoint s a1 a2) := by
  unfold State.checkpoint
  split
  · exact h
  · exact State.placeMark_kept (State.closeBlocks_kept (State.closeBlocks_kept h))

theorem State.placeOwed_kept {a1} (h : Kept r s) : Kept r (State.placeOwed s a1) := by
  unfold State.placeOwed
  split
  · exact h
  · refine Kept.ite ?_ ?_
    · exact h
    · extract_lets x11 x12
      have h13 : Kept r x11 := State.modCrew_kept h
      clear_value x11
      have h14 : Kept r x12 := by
        unfold x12
        refine Kept.foldl h13 fun t16 a17 h18 => ?_
        exact State.placeRec_kept h18
      clear_value x12
      refine Kept.foldl h14 fun t21 a22 h23 => ?_
      exact State.placeMark_kept h23

theorem State.openSegment_kept {a1} (h : Kept r s) : Kept r (State.openSegment s a1) := by
  unfold State.openSegment
  split
  · exact h
  · split
    · extract_lets x14 x15
      have h16 : Kept r x15 := State.setCrew_kept h
      clear_value x15
      clear_value x14
      exact Kept.ite (State.raise_kept h16) h16

theorem State.replaceSeat_kept {a1} {a2} (h : Kept r s) : Kept r (State.replaceSeat s a1 a2) := by
  unfold State.replaceSeat
  exact State.pushBlocks_kept (State.modCrew_kept h)

theorem State.setJob_kept {a1} (h : Kept r s) : Kept r (State.setJob s a1) := by
  unfold State.setJob
  exact Kept.upd h rfl

theorem State.dropJob_kept {a1} (h : Kept r s) : Kept r (State.dropJob s a1) := by
  unfold State.dropJob
  exact Kept.upd h rfl

theorem State.lockRow_kept {a1} (h : Kept r s) : Kept1 r (State.lockRow s a1) := by
  unfold State.lockRow
  refine Kept1.ite ?_ ?_
  · exact Kept1.mk h
  · extract_lets x4 x5
    clear_value x4 x5
    exact Kept1.mk (State.setJob_kept h)

theorem State.readSector_kept {a1} {a2} {a3} (h : Kept r s) : Kept r (State.readSector s a1 a2 a3) := by
  unfold State.readSector
  split
  · exact h
  · split
    · exact h
    · split
      · exact State.setJob_kept h
      · exact Kept.ite h (State.issueIo_kept h)
      · exact h

theorem State.reconBuffers_kept {a1} (h : Kept r s) : Kept1 r (State.reconBuffers s a1) := by
  unfold State.reconBuffers
  split
  · exact State.acquireFor_kept h
  · exact Kept1.mk h

theorem State.pushReads_kept {a1} (h : Kept r s) : Kept r (State.pushReads s a1) := by
  unfold State.pushReads
  split
  · exact h
  · split
    · exact h
    · refine Kept.foldl h fun t16 a17 h18 => ?_
      split
      · exact h18
      · split
        · split
          · rename_i y32 y33 y34 y35
            have h36 : Kept r y33 := .of1 y35 (Kept1.ite (State.reconBuffers_kept h18) (Kept1.mk h18))
            refine Kept.ite ?_ ?_
            · exact h36
            · refine Kept.ite ?_ ?_
              · split
                · rename_i y41 y42 y43 y44
                  have h45 : Kept r y42 := .of1 y44 (State.lockRow_kept h36)
                  refine Kept.ite ?_ ?_
                  · refine Kept.foldl h45 fun t48 a49 h50 => ?_
                    exact State.readSector_kept h50
                  · exact h45
              · refine Kept.foldl h36 fun t54 a55 h56 => ?_
                exact State.readSector_kept h56

theorem State.rewriteBad_kept {a1} {a2} {a3} {a4} (h : Kept r s) : Kept r (State.rewriteBad s a1 a2 a3 a4) := by
  unfold State.rewriteBad
  split
  · exact h
  · split
    · exact State.seatEvent_kept (State.issueIo_kept h)
    · exact h

theorem State.finishReads_kept {a1} {a2} (h : Kept r s) : Kept r (State.finishReads s a1 a2) := by
  unfold State.finishReads
  extract_lets x2 x3 x4 x5 x6
  have h7 : Kept r x5 := State.setJob_kept h
  clear_value x5
  have h8 : Kept r x6 := Kept.ite (State.countOpen_kept h7) h7
  clear_value x6
  clear_value x2 x3 x4
  refine Kept.foldl h8 fun t10 a11 h12 => ?_
  split
  · exact State.rewriteBad_kept h12
  · exact h12

theorem State.advanceReads_kept {a1} (h : Kept r s) : Kept r (State.advanceReads s a1) := by
  unfold State.advanceReads
  split
  · exact h
  · refine Kept.ite ?_ ?_
    · exact h
    · extract_lets x11
      have h12 : Kept r x11 := State.pushReads_kept h
      clear_value x11
      split
      · exact h12
      · split
        · exact h12
        · exact Kept.ite h12 (Kept.ite (State.finishReads_kept h12) h12)

theorem State.startJob_kept {a1} (h : Kept r s) : Kept1 r (State.startJob s a1) := by
  unfold State.startJob
  extract_lets x2 x3 x4 x5 x6
  have h7 : Kept r x5 := Kept.upd h rfl
  clear_value x5
  have h8 : Kept r x6 := Kept.ite (Kept1.fst (State.lockRow_kept h7)) h7
  clear_value x6
  clear_value x2 x3 x4
  exact Kept1.mk (State.advanceReads_kept h8)

theorem State.grantRow_kept {a1} {a2} (h : Kept r s) : Kept r (State.grantRow s a1 a2) := by
  unfold State.grantRow
  refine Kept.ite ?_ ?_
  · exact h
  · split
    · exact h
    · exact State.advanceReads_kept (State.setJob_kept h)

theorem State.addLog_kept {a1} {a2} {a3} {a4} {a5} (h : Kept r s) : Kept r (State.addLog s a1 a2 a3 a4 a5) := by
  unfold State.addLog
  exact State.modSeat_kept h

theorem State.seatMissed_kept {a1} {a2} (h : Kept r s) : Kept r (State.seatMissed s a1 a2) := by
  unfold State.seatMissed
  split
  · exact State.setJob_kept h
  · exact h

theorem State.writeSector_kept {a1} {a2} {a3} {a4} {a5} (h : Kept r s) : Kept r (State.writeSector s a1 a2 a3 a4 a5) := by
  unfold State.writeSector
  split
  · exact h
  · split
    · exact h
    · split
      · exact State.issueIo_kept h
      · extract_lets x22
        have h23 : Kept r x22 := State.freeBuffers_kept (State.modSeat_kept h)
        clear_value x22
        exact State.issueIo_kept h23
      · exact Kept.ite (State.issueIo_kept h) h
      · refine Kept.ite ?_ ?_
        · exact State.addLog_kept h
        · split
          · rename_i y33 y34 y35 y36
            have h37 : Kept r y34 := .of1 y36 (State.takeBuffers_kept h)
            exact Kept.ite (State.addLog_kept h37) (State.awaitBuffers_kept h37)
      · refine Kept.ite ?_ ?_
        · exact State.addLog_kept h
        · split
          · rename_i y44 y45 y46 y47
            have h48 : Kept r y45 := .of1 y47 (State.takeBuffers_kept h)
            exact Kept.ite (State.addLog_kept h48) (State.awaitBuffers_kept h48)
      · exact h

theorem State.checkWrites_kept {a1} (h : Kept r s) : Kept r (State.checkWrites s a1) := by
  unfold State.checkWrites
  split
  · exact h
  · exact Kept.ite (State.grantRow_kept (State.setJob_kept h)) h

theorem State.startWrites_kept {a1} {a2} {a3} (h : Kept r s) : Kept r (State.startWrites s a1 a2 a3) := by
  unfold State.startWrites
  split
  · exact h
  · extract_lets x9 x10 x11
    have h12 : Kept r x10 := State.setJob_kept h
    clear_value x10
    have h13 : Kept r x11 := State.modCrew_kept h12
    clear_value x11
    clear_value x9
    refine State.checkWrites_kept ?_
    refine Kept.foldl h13 fun t16 a17 h18 => ?_
    exact State.writeSector_kept h18

theorem State.orphan_kept {a1} (h : Kept r s) : Kept r (State.orphan s a1) := by
  unfold State.orphan
  extract_lets x2 x3
  clear_value x2 x3
  exact State.dropJob_kept (Kept.upd h rfl)

end Sys2Proof.Machine
end

