-- ==== Sys2Proof/Laws/KeptBayOps.lean ====
section
/-!
SUPPORT. For each operation of BayOps, Seats, Torn, Compress, Stripes, Target, Blocks, SkiffCmds, Mirror, Rows: what
`Kept` says of the state it gives, so that no later proof unfolds it.
-/

set_option linter.unusedVariables false

namespace Sys2Proof.Machine

variable {r s : State}

theorem State.setBay_kept {a1} {a2} (h : Kept r s) : Kept r (State.setBay s a1 a2) := by
  unfold State.setBay
  exact Kept.upd h rfl

theorem State.modBay_kept {a1} {a2} (h : Kept r s) : Kept r (State.modBay s a1 a2) := by
  unfold State.modBay
  exact State.setBay_kept h

theorem State.toBay_kept {a1} {a2} (h : Kept r s) : Kept r (State.toBay s a1 a2) := by
  unfold State.toBay
  extract_lets x2
  have h3 : Kept r x2 := State.wr_kept h
  clear_value x2
  exact Kept.ite h3 (State.modBay_kept h3)

theorem State.bayEvent_kept {a1} {a2} (h : Kept r s) : Kept r (State.bayEvent s a1 a2) := by
  unfold State.bayEvent
  exact State.raise_kept h

theorem State.bayEventIf_kept {a1} {a2} {a3} (h : Kept r s) : Kept r (State.bayEventIf s a1 a2 a3) := by
  unfold State.bayEventIf
  exact Kept.ite (State.bayEvent_kept h) h

theorem State.measureFeeds_kept {a1} {a2} (h : Kept r s) : Kept r (State.measureFeeds s a1 a2) := by
  unfold State.measureFeeds
  extract_lets x2
  exact State.wr_kept (State.wr_kept (State.wr_kept (State.wr_kept h)))

theorem State.setPerst_kept {a1} {a2} (h : Kept r s) : Kept r (State.setPerst s a1 a2) := by
  unfold State.setPerst
  exact State.modBay_kept h

theorem State.dropLink_kept {a1} (h : Kept r s) : Kept r (State.dropLink s a1) := by
  unfold State.dropLink
  exact Kept.ite (State.bayEventIf_kept (State.modBay_kept (State.wr_kept (State.wr_kept (State.wr_kept (State.wr_kept h)))))) h

theorem State.holdReset_kept {a1} (h : Kept r s) : Kept r (State.holdReset s a1) := by
  unfold State.holdReset
  exact State.dropLink_kept (State.setPerst_kept h)

theorem State.setGate_kept {a1} {a2} (h : Kept r s) : Kept r (State.setGate s a1 a2) := by
  unfold State.setGate
  exact State.modBay_kept h

theorem State.stopTimer_kept {a1} (h : Kept r s) : Kept r (State.stopTimer s a1) := by
  unfold State.stopTimer
  exact Kept.ite (State.modBay_kept (State.wr_kept h)) h

theorem State.withdraw_kept {a1} (h : Kept r s) : Kept r (State.withdraw s a1) := by
  unfold State.withdraw
  exact Kept.ite (State.holdReset_kept (State.modBay_kept (State.wr_kept h))) h

theorem State.trip_kept {a1} {a2} (h : Kept r s) : Kept r (State.trip s a1 a2) := by
  unfold State.trip
  extract_lets x2 x3 x4 x5 x6 x7 x8 x9 x10 x11
  have h12 : Kept r x5 := State.withdraw_kept (State.setGate_kept (State.stopTimer_kept h))
  clear_value x5
  have h13 : Kept r x6 := State.wr_kept (State.wr_kept h12)
  clear_value x6
  have h14 : Kept r x7 := State.bayEventIf_kept h13
  clear_value x7
  have h15 : Kept r x8 := Kept.ite (State.bayEvent_kept h14) h14
  clear_value x8
  have h16 : Kept r x9 := State.modBay_kept (State.bump_kept h15)
  clear_value x9
  have h17 : Kept r x10 := Kept.ite (State.wr_kept h16) h16
  clear_value x10
  exact Kept.ite h15 (Kept.ite (State.bayEvent_kept (State.toBay_kept h17)) (State.toBay_kept (State.modBay_kept h17)))

theorem State.cutPower_kept {a1} (h : Kept r s) : Kept r (State.cutPower s a1) := by
  unfold State.cutPower
  exact State.modBay_kept (State.withdraw_kept (State.setGate_kept (State.stopTimer_kept h)))

theorem State.bayOff_kept {a1} (h : Kept r s) : Kept r (State.bayOff s a1) := by
  unfold State.bayOff
  exact State.toBay_kept (State.cutPower_kept h)

theorem State.powerOn_kept {a1} (h : Kept r s) : Kept r (State.powerOn s a1) := by
  unfold State.powerOn
  extract_lets x2
  have h3 : Kept r x2 := State.wr_kept h
  clear_value x2
  exact Kept.ite (State.toBay_kept h3) (Kept.ite (State.toBay_kept (State.wr_kept h3)) h3)

theorem State.powerCycle_kept {a1} (h : Kept r s) : Kept1 r (State.powerCycle s a1) := by
  unfold State.powerCycle
  exact Kept1.ite (Kept1.mk h) (Kept1.ite (Kept1.mk h) (Kept1.mk (State.toBay_kept (State.holdReset_kept (State.cutPower_kept h)))))

theorem State.showTherm_kept {a1} (h : Kept r s) : Kept r (State.showTherm s a1) := by
  unfold State.showTherm
  extract_lets x2 x3 x4
  clear_value x2 x3 x4
  split
  · exact State.wr_kept (State.wr_kept h)
  · exact State.wr_kept (State.wr_kept h)

theorem State.fetModel_kept {a1} (h : Kept r s) : Kept r (State.fetModel s a1) := by
  unfold State.fetModel
  extract_lets x2 x3 x4 x5
  clear_value x2 x3 x4 x5
  exact State.showTherm_kept (State.modBay_kept h)

theorem State.ownBay_kept {a1} (h : Kept r s) : Kept r (State.ownBay s a1) := by
  unfold State.ownBay
  extract_lets x2
  have h3 : Kept r x2 := State.wr_kept h
  clear_value x2
  exact Kept.ite (State.toBay_kept (State.setGate_kept h3)) (Kept.ite (State.toBay_kept (State.wr_kept h3)) (State.toBay_kept h3))

theorem State.becomeOwner_kept (h : Kept r s) : Kept r (State.becomeOwner s) := by
  unfold State.becomeOwner
  refine Kept.ite ?_ ?_
  · exact h
  · extract_lets x4 x5
    have h6 : Kept r x4 := by
      unfold x4
      refine Kept.foldl h fun t8 a9 h10 => ?_
      exact State.ownBay_kept h10
    clear_value x4
    clear_value x5
    exact Kept.upd h6 rfl

theorem State.loseOwner_kept (h : Kept r s) : Kept r (State.loseOwner s) := by
  unfold State.loseOwner
  extract_lets x2 x3
  have h4 : Kept r x2 := by
    unfold x2
    refine Kept.foldl h fun t6 a7 h8 => ?_
    exact State.toBay_kept (State.setGate_kept (State.wr_kept h8))
  clear_value x2
  clear_value x3
  exact Kept.upd h4 rfl

theorem State.settleOwner_kept (h : Kept r s) : Kept r (State.settleOwner s) := by
  unfold State.settleOwner
  refine Kept.ite ?_ ?_
  · refine Kept.foldl h fun t3 a4 h5 => ?_
    extract_lets x7
    have h8 : Kept r x7 := State.wr_kept h5
    clear_value x7
    exact Kept.ite (State.toBay_kept h8) h8
  · exact State.loseOwner_kept h

theorem State.reportPresence_kept {a1} (h : Kept r s) : Kept r (State.reportPresence s a1) := by
  unfold State.reportPresence
  extract_lets x2
  have h3 : Kept r x2 := State.wr_kept (State.wr_kept h)
  clear_value x2
  exact State.bayEventIf_kept h3

theorem State.startBays_kept (h : Kept r s) : Kept r (State.startBays s) := by
  unfold State.startBays
  extract_lets x2 x3 x4 x5 x6 x7 x8
  have h9 : Kept r x3 := Kept.upd h rfl
  clear_value x3
  have h10 : Kept r x4 := by
    unfold x4
    refine Kept.foldl h9 fun t12 a13 h14 => ?_
    exact Kept.ite h14 (State.reportPresence_kept h14)
  clear_value x4
  have h16 : Kept r x6 := by
    unfold x6
    refine Kept.foldl h10 fun t18 a19 h20 => ?_
    exact State.modBay_kept h20
  clear_value x6
  have h22 : Kept r x8 := Kept.ite h10 (Kept.upd h16 rfl)
  clear_value x8
  clear_value x2 x5 x7
  refine Kept.foldl h22 fun t24 a25 h26 => ?_
  exact Kept.ite (State.modBay_kept (State.setPerst_kept h26)) h26

theorem State.logFrontier_kept {a1} {a2} (h : Kept r s) : Kept r (State.logFrontier s a1 a2) := by
  unfold State.logFrontier
  split
  · exact State.logOpen_kept h
  · exact h

theorem State.writeLabels_kept {a1} (h : Kept r s) : Kept r (State.writeLabels s a1) := by
  unfold State.writeLabels
  split
  · exact h
  · refine Kept.foldl (State.modCrew_kept h) fun t9 a10 h11 => ?_
    split
    · refine Kept.ite ?_ ?_
      · exact h11
      · extract_lets x19
        clear_value x19
        exact State.issueIo_kept (State.issueIo_kept h11)
    · exact h11

theorem State.labelChange_kept {a1} (h : Kept r s) : Kept r (State.labelChange s a1) := by
  unfold State.labelChange
  split
  · exact h
  · split
    · rename_i y9 y10 y11 y12
      have h13 : Kept r y10 := .of1 y12 (State.mirror_kept h)
      extract_lets x15
      have h16 : Kept r x15 := State.modCrew_kept h13
      clear_value x15
      exact Kept.ite (State.writeLabels_kept h16) h16

theorem State.labelsDue_kept (h : Kept r s) : Kept r (State.labelsDue s) := by
  unfold State.labelsDue
  refine Kept.foldl h fun t2 a3 h4 => ?_
  exact Kept.ite (State.writeLabels_kept h4) h4

theorem State.endSeatIos_kept {a1} {a2} (h : Kept r s) : Kept r (State.endSeatIos s a1 a2) := by
  unfold State.endSeatIos
  extract_lets x2 x3 x4 x5 x6 x7 x8 x9
  have h10 : Kept r x4 := Kept.upd h rfl
  clear_value x4
  have h11 : Kept r x7 := Kept.upd h10 rfl
  clear_value x7
  have h12 : Kept r x8 := by
    unfold x8
    refine Kept.foldl h11 fun t14 a15 h16 => ?_
    split
    · exact State.advanceReads_kept h16
    · exact Kept.ite h16 (State.checkWrites_kept (State.seatMissed_kept h16))
    · exact h16
  clear_value x8
  clear_value x2 x3 x5 x6 x9
  refine Kept.foldl h12 fun t33 a34 h35 => ?_
  exact State.checkWrites_kept (State.seatMissed_kept h35)

theorem State.wakeReads_kept {a1} (h : Kept r s) : Kept r (State.wakeReads s a1) := by
  unfold State.wakeReads
  refine Kept.foldl h fun t2 a3 h4 => ?_
  exact State.advanceReads_kept h4

theorem State.startRebuild_kept {a1} {a2} {a3} {a4} (h : Kept r s) : Kept r (State.startRebuild s a1 a2 a3 a4) := by
  unfold State.startRebuild
  split
  · exact h
  · extract_lets x9 x10 x11
    clear_value x9 x10 x11
    exact State.modSeat_kept h

theorem State.takeSpare_kept {a1} {a2} (h : Kept r s) : Kept r (State.takeSpare s a1 a2) := by
  unfold State.takeSpare
  split
  · exact h
  · split
    · exact Kept.ite h (State.seatEvent_kept (State.modCrew_kept h))
    · extract_lets x16 x17 x18 x19 x20
      have h21 : Kept r x18 := State.modSeat_kept h
      clear_value x18
      have h22 : Kept r x19 := State.seatEvent_kept (State.logFrontier_kept (State.labelChange_kept (State.modCrew_kept h21)))
      clear_value x19
      have h23 : Kept r x20 := Kept.ite (State.issueIo_kept h22) h22
      clear_value x20
      clear_value x16 x17
      refine Kept.ite ?_ ?_
      · split
        · rename_i y26 y27 y28 y29
          have h30 : Kept r y27 := .of1 y29 (State.handOver_kept h23)
          exact Kept.ite (State.modSeat_kept h30) (State.startRebuild_kept h30)
      · exact State.startRebuild_kept h23

theorem State.seatOut_kept {a1} {a2} {a3} {a4} (h : Kept r s) : Kept r (State.seatOut s a1 a2 a3 a4) := by
  unfold State.seatOut
  split
  · refine Kept.ite ?_ ?_
    · exact h
    · extract_lets x11 x12 x13 x14
      have h15 : Kept r x11 := State.modSeat_kept h
      clear_value x11
      have h16 : Kept r x12 := State.replaceSeat_kept (State.endSeatIos_kept h15)
      clear_value x12
      have h17 : Kept r x13 := State.seatEvent_kept h16
      clear_value x13
      have h18 : Kept r x14 := by
        unfold x14
        split
        · exact h17
        · extract_lets x27 x28
          have h29 : Kept r x28 := by
            unfold x28
            refine Kept.ite ?_ ?_
            · refine Kept.foldl h17 fun t32 a33 h34 => ?_
              split
              · exact Kept.ite (State.seatEvent_kept (State.modSeat_kept h34)) h34
              · exact h34
            · exact h17
          clear_value x28
          clear_value x27
          exact Kept.ite (State.raise_kept h29) h29
      clear_value x14
      exact State.takeSpare_kept (State.wakeReads_kept (State.labelChange_kept h18))
  · exact h

theorem State.failSeat_kept {a1} {a2} {a3} (h : Kept r s) : Kept r (State.failSeat s a1 a2 a3) := by
  unfold State.failSeat
  exact State.seatOut_kept h

theorem State.absentSeat_kept {a1} {a2} (h : Kept r s) : Kept r (State.absentSeat s a1 a2) := by
  unfold State.absentSeat
  exact State.seatOut_kept h

theorem State.easySeat_kept {a1} {a2} (h : Kept r s) : Kept r (State.easySeat s a1 a2) := by
  unfold State.easySeat
  split
  · exact Kept.ite (State.seatEvent_kept (State.replaceSeat_kept (State.modSeat_kept h))) h
  · exact h

theorem State.backInService_kept {a1} {a2} {a3} (h : Kept r s) : Kept r (State.backInService s a1 a2 a3) := by
  unfold State.backInService
  extract_lets x2
  have h3 : Kept r x2 := State.modSeat_kept h
  clear_value x2
  exact Kept.ite (State.seatEvent_kept h3) h3

theorem State.logChanged_kept {a1} {a2} (h : Kept r s) : Kept r (State.logChanged s a1 a2) := by
  unfold State.logChanged
  split
  · exact h
  · exact Kept.ite h (Kept.ite (State.backInService_kept h) (Kept.ite (State.backInService_kept h) h))

theorem State.resendAll_kept {a1} {a2} (h : Kept r s) : Kept r (State.resendAll s a1 a2) := by
  unfold State.resendAll
  refine Kept.foldl h fun t2 a3 h4 => ?_
  exact State.emit_kept h4

theorem State.slowReads_kept {a1} {a2} (h : Kept r s) : Kept r (State.slowReads s a1 a2) := by
  unfold State.slowReads
  refine Kept.foldl h fun t2 a3 h4 => ?_
  split
  · exact State.advanceReads_kept (State.setJob_kept h4)
  · exact h4

theorem State.restForLadder_kept {a1} {a2} (h : Kept r s) : Kept1 r (State.restForLadder s a1 a2) := by
  unfold State.restForLadder
  split
  · exact Kept1.ite (Kept1.mk h) (Kept1.ite (Kept1.mk h) (Kept1.ite (Kept1.mk (State.slowReads_kept (State.replaceSeat_kept (State.modSeat_kept h)))) (Kept1.mk (State.failSeat_kept h))))
  · exact Kept1.mk h

theorem State.abortLate_kept {a1} {a2} {a3} (h : Kept r s) : Kept r (State.abortLate s a1 a2 a3) := by
  unfold State.abortLate
  refine Kept.foldl (State.emit_kept h) fun t2 a3 h4 => ?_
  exact State.emit_kept h4

theorem State.ladderStep_kept {a1} {a2} {a3} (h : Kept r s) : Kept r (State.ladderStep s a1 a2 a3) := by
  unfold State.ladderStep
  split
  · rename_i y2 y3 y4 y5
    have h6 : Kept r y3 := .of1 y5 (State.restForLadder_kept h)
    refine Kept.ite ?_ ?_
    · exact h6
    · extract_lets x10 x11
      have h12 : Kept r x10 := State.seatEvent_kept (State.modSeat_kept h6)
      clear_value x10
      clear_value x11
      split
      · exact State.abortLate_kept h12
      · exact State.resendAll_kept (State.emit_kept h12)
      · exact State.resendAll_kept (State.emit_kept (State.emit_kept h12))
      · split
        · rename_i y22 y23 y24 y25
          have h26 : Kept r y23 := .of1 y25 (State.powerCycle_kept h12)
          exact Kept.ite (State.resendAll_kept (State.emit_kept h26)) (State.failSeat_kept h26)
      · exact State.failSeat_kept h12

theorem State.nextLadder_kept {a1} {a2} {a3} (h : Kept r s) : Kept r (State.nextLadder s a1 a2 a3) := by
  unfold State.nextLadder
  refine Kept.ite ?_ ?_
  · split
    · split
      · rename_i y8 y9 y10 y11
        have h12 : Kept r y9 := .of1 y11 (State.handOver_kept h)
        exact Kept.ite (State.modSeat_kept h12) (State.ladderStep_kept h12)
  · exact State.ladderStep_kept h

theorem State.ladderDone_kept {a1} {a2} (h : Kept r s) : Kept r (State.ladderDone s a1 a2) := by
  unfold State.ladderDone
  split
  · exact h
  · exact Kept.ite (State.logChanged_kept (State.seatEvent_kept (State.modSeat_kept h))) (State.modSeat_kept h)

theorem State.commandFails_kept {a1} (h : Kept r s) : Kept r (State.commandFails s a1) := by
  unfold State.commandFails
  split
  · exact State.dropIo_kept h
  · extract_lets x9 x10 x11
    clear_value x9 x10 x11
    exact Kept.ite h (Kept.ite (State.nextLadder_kept h) (Kept.ite (State.emit_kept (Kept.upd h rfl)) (State.nextLadder_kept h)))

theorem State.driveGone_kept {a1} (h : Kept r s) : Kept r (State.driveGone s a1) := by
  unfold State.driveGone
  extract_lets x2 x3 x4
  have h5 : Kept r x3 := Kept.upd h rfl
  clear_value x3
  clear_value x2 x4
  split
  · exact State.absentSeat_kept h5
  · exact Kept.upd h5 rfl

theorem State.driveArrives_kept {a1} (h : Kept r s) : Kept r (State.driveArrives s a1) := by
  unfold State.driveArrives
  refine Kept.foldl h fun t2 a3 h4 => ?_
  refine Kept.foldl h4 fun t6 a7 h8 => ?_
  split
  · exact Kept.ite (State.takeSpare_kept h8) h8
  · exact h8

theorem State.takeEntry_kept {a1} {a2} (h : Kept r s) : Kept1 r (State.takeEntry s a1 a2) := by
  unfold State.takeEntry
  extract_lets x2 x3
  clear_value x2 x3
  exact Kept1.mk (Kept.upd h rfl)

theorem State.writeTorn_kept {a1} (h : Kept r s) : Kept r (State.writeTorn s a1) := by
  unfold State.writeTorn
  split
  · exact h
  · refine Kept.foldl (State.showTorn_kept h) fun t9 a10 h11 => ?_
    split
    · exact Kept.ite h11 (State.issueIo_kept (State.issueIo_kept h11))
    · exact h11

theorem State.enterAll_kept {a1} {a2} (h : Kept r s) : Kept r (State.enterAll s a1 a2) := by
  unfold State.enterAll
  refine Kept.foldl h fun t2 a3 h4 => ?_
  split
  · exact h4
  · split
    · extract_lets x19 x20 x21 x22
      have h23 : Kept r x19 := State.modCrew_kept h4
      clear_value x19
      have h24 : Kept r x20 := by
        unfold x20
        refine Kept.foldl h23 fun t26 a27 h28 => ?_
        exact State.placeLoose_kept h28
      clear_value x20
      have h30 : Kept r x21 := by
        unfold x21
        refine Kept.foldl h24 fun t32 a33 h34 => ?_
        exact State.placeLoose_kept h34
      clear_value x21
      have h36 : Kept r x22 := Kept.ite (State.raise_kept h30) h30
      clear_value x22
      split
      · exact State.log_kept h36
      · exact h36

theorem State.tear_kept {a1} {a2} {a3} {a4} {a5} (h : Kept r s) : Kept r (State.tear s a1 a2 a3 a4 a5) := by
  unfold State.tear
  split
  · rename_i y2 y3 y4 y5
    have h6 : Kept r y3 := .of1 y5 (State.takeEntry_kept h)
    exact State.writeTorn_kept (State.enterAll_kept h6)

theorem State.untear_kept {a1} {a2} {a3} {a4} (h : Kept r s) : Kept r (State.untear s a1 a2 a3 a4) := by
  unfold State.untear
  split
  · exact h
  · refine Kept.ite ?_ ?_
    · exact h
    · extract_lets x11 x12 x13 x14 x15 x16 x17
      have h18 : Kept r x13 := State.modCrew_kept h
      clear_value x13
      have h19 : Kept r x14 := by
        unfold x14
        refine Kept.foldl h18 fun t21 a22 h23 => ?_
        exact State.placeLoose_kept h23
      clear_value x14
      have h25 : Kept r x15 := State.enterAll_kept h19
      clear_value x15
      have h26 : Kept r x17 := State.modCrew_kept h25
      clear_value x17
      clear_value x11 x12 x16
      exact State.writeTorn_kept (State.enterAll_kept h26)

theorem State.deferError_kept {a1} {a2} {a3} {a4} {a5} (h : Kept r s) : Kept r (State.deferError s a1 a2 a3 a4 a5) := by
  unfold State.deferError
  split
  · rename_i y2 y3 y4 y5
    have h6 : Kept r y3 := .of1 y5 (State.takeEntry_kept h)
    exact State.raise_kept (Kept.upd h6 rfl)

theorem State.showStreams_kept (h : Kept r s) : Kept r (State.showStreams s) := by
  unfold State.showStreams
  exact State.wr_kept h

theorem State.endStreams_kept {a1} (h : Kept r s) : Kept r (State.endStreams s a1) := by
  unfold State.endStreams
  exact State.showStreams_kept (Kept.upd h rfl)

theorem State.beginStream_kept {a1} {a2} {a3} (h : Kept r s) : Kept r (State.beginStream s a1 a2 a3) := by
  unfold State.beginStream
  extract_lets x2
  have h3 : Kept r x2 := Kept.ite h (State.raiseOnce_kept (Kept.upd h rfl))
  clear_value x2
  split
  · rename_i y5 y6 y7 y8
    have h9 : Kept r y6 := .of1 y8 (Kept1.ite (State.handOver_kept h3) (Kept1.mk h3))
    extract_lets x11
    clear_value x11
    exact State.showStreams_kept (Kept.upd h9 rfl)

theorem State.afterGrain_kept {a1} {a2} {a3} {a4} (h : Kept r s) : Kept r (State.afterGrain s a1 a2 a3 a4) := by
  unfold State.afterGrain
  extract_lets x2 x3 x4 x5 x6
  clear_value x2 x3 x4 x5 x6
  exact Kept.upd h rfl

theorem State.loadStream_kept {a1} (h : Kept r s) : Kept1 r (State.loadStream s a1) := by
  unfold State.loadStream
  exact Kept1.ite (Kept1.mk (State.drawn_kept h)) (Kept1.mk (State.raise_kept (State.drawn_kept h)))

theorem State.countGrain_kept {a1} {a2} {a3} (h : Kept r s) : Kept r (State.countGrain s a1 a2 a3) := by
  unfold State.countGrain
  extract_lets x2 x3
  have h4 : Kept r x3 := State.countOpen_kept (State.countOpen_kept h)
  clear_value x3
  clear_value x2
  exact Kept.ite (State.countOpen_kept (State.bump_kept (State.wr_kept h4))) (State.countOpen_kept (State.wr_kept (State.wr_kept h4)))

theorem State.checkedGrain_kept {a1} {a2} {a3} (h : Kept r s) : Kept1 r (State.checkedGrain s a1 a2 a3) := by
  unfold State.checkedGrain
  split
  · extract_lets x8
    clear_value x8
    exact Kept1.ite (Kept1.mk (State.drawn_kept h)) (Kept1.mk (State.slip_kept (State.drawn_kept h)))
  · exact Kept1.mk h

theorem State.storeFor_kept {a1} {a2} {a3} {a4} {a5} (h : Kept r s) : Kept1 r (State.storeFor s a1 a2 a3 a4 a5) := by
  unfold State.storeFor
  refine Kept1.ite ?_ ?_
  · exact Kept1.mk h
  · refine Kept1.ite ?_ ?_
    · exact Kept1.mk (State.countGrain_kept h)
    · extract_lets x6 x7 x8 x9
      have h10 : Kept r x6 := by
        unfold x6
        split
        · exact h
        · exact State.beginStream_kept h
      clear_value x6
      clear_value x7 x8 x9
      split
      · exact Kept1.mk h10
      · refine Kept1.ite ?_ ?_
        · exact Kept1.mk h10
        · split
          · rename_i y29 y30 y31 y32
            have h33 : Kept r y30 := .of1 y32 (State.acquireFor_kept h10)
            refine Kept1.ite ?_ ?_
            · exact Kept1.mk h33
            · split
              · rename_i y37 y38 y39 y40
                have h41 : Kept r y38 := .of1 y40 (State.loadStream_kept h33)
                extract_lets x43
                clear_value x43
                split
                · rename_i y45 y46 y47 y48
                  have h49 : Kept r y46 := .of1 y48 (State.checkedGrain_kept h41)
                  extract_lets x51
                  have h52 : Kept r x51 := State.keepBuffers_kept h49
                  clear_value x51
                  exact Kept1.mk (State.countGrain_kept (State.afterGrain_kept h52))

theorem State.decodeGrain_kept {a1} {a2} {a3} (h : Kept r s) : Kept1 r (State.decodeGrain s a1 a2 a3) := by
  unfold State.decodeGrain
  extract_lets x2 x3
  have h4 : Kept r x3 := State.drawn_kept h
  clear_value x3
  split
  · exact Kept1.mk h
  · split
    · exact Kept1.mk (State.drawn_kept h)
    · split
      · exact Kept1.mk h4
      · split
        · exact Kept1.mk (State.slip_kept (State.drawn_kept h4))
        · exact Kept1.mk (State.drawn_kept h4)

theorem State.showPvols_kept (h : Kept r s) : Kept r (State.showPvols s) := by
  unfold State.showPvols
  extract_lets x2
  clear_value x2
  refine Kept.foldl h fun t4 a5 h6 => ?_
  split
  · exact State.wr_kept (State.wr_kept (State.wr_kept (State.wr_kept h6)))
  · exact State.wr_kept (State.wr_kept (State.wr_kept (State.wr_kept h6)))

theorem State.showPvol_kept {a1} (h : Kept r s) : Kept r (State.showPvol s a1) := by
  unfold State.showPvol
  split
  · exact State.wr_kept (State.wr_kept h)
  · exact h

theorem State.gcLevel_kept {a1} (h : Kept r s) : Kept r (State.gcLevel s a1) := by
  unfold State.gcLevel
  split
  · exact h
  · extract_lets x9 x10 x11 x12
    clear_value x9 x10 x11 x12
    exact Kept.ite (State.raise_kept (State.setVol_kept h)) (Kept.ite (State.setVol_kept h) h)

theorem State.setEntry_kept {a1} {a2} {a3} (h : Kept r s) : Kept r (State.setEntry s a1 a2 a3) := by
  unfold State.setEntry
  split
  · exact h
  · extract_lets x9 x10 x11 x12 x13 x14 x15 x16
    have h17 : Kept r x15 := State.showPvol_kept (State.setVol_kept h)
    clear_value x15
    have h18 : Kept r x16 := Kept.ite (State.notice_kept h17) h17
    clear_value x16
    clear_value x9 x10 x11 x12 x13 x14
    exact Kept.ite h (State.gcLevel_kept h18)

theorem State.freeDrained_kept {a1} {a2} (h : Kept r s) : Kept r (State.freeDrained s a1 a2) := by
  unfold State.freeDrained
  refine Kept.foldl h fun t2 a3 h4 => ?_
  exact State.gcLevel_kept (State.showPvol_kept (State.modVol_kept h4))

theorem State.sealSector_kept {a1} {a2} {a3} {a4} {a5} (h : Kept r s) : Kept1 r (State.sealSector s a1 a2 a3 a4 a5) := by
  unfold State.sealSector
  exact State.xtsSeal_kept h

theorem State.openSector_kept {a1} {a2} {a3} {a4} {a5} (h : Kept r s) : Kept1 r (State.openSector s a1 a2 a3 a4 a5) := by
  unfold State.openSector
  exact State.xtsOpen_kept h

theorem State.stripeSectors_kept {a1} {a2} (h : Kept r s) : Kept1 r (State.stripeSectors s a1 a2) := by
  unfold State.stripeSectors
  extract_lets x2 x3 x4 x5 x6
  clear_value x2 x3 x4 x5 x6
  split
  · rename_i y8 y9 y10 y11
    have h12 : Kept r y9 := by
      refine .of1 y11 ?_
      refine Kept1.foldl (Kept1.mk h) fun t14 a15 h16 => ?_
      extract_lets x18
      clear_value x18
      split
      · rename_i y20 y21 y22 y23
        have h24 : Kept r y21 := .of1 y23 (State.xtsSeal_kept (State.tick_kept (Kept1.fst h16)))
        exact Kept1.mk (State.tick_kept h24)
    exact Kept1.mk h12

theorem State.writeStripe_kept {a1} {a2} (h : Kept r s) : Kept r (State.writeStripe s a1 a2) := by
  unfold State.writeStripe
  split
  · rename_i y2 y3 y4 y5
    have h6 : Kept r y3 := .of1 y5 (State.stripeSectors_kept h)
    extract_lets x8 x9 x10 x11 x12 x13 x14
    clear_value x8 x9 x10 x11 x12 x13 x14
    split
    · rename_i y16 y17 y18 y19
      have h20 : Kept r y17 := .of1 y19 (State.startJob_kept h6)
      exact State.countOpen_kept (State.startWrites_kept h20)

theorem State.closeStripe_kept {a1} {a2} (h : Kept r s) : Kept r (State.closeStripe s a1 a2) := by
  unfold State.closeStripe
  split
  · exact h
  · split
    · exact h
    · extract_lets x16 x17 x18
      clear_value x16 x17 x18
      exact State.writeStripe_kept (State.setVol_kept h)

theorem State.placeGrain_kept {a1} {a2} {a3} {a4} {a5} {a6} {a7} {a8} (h : Kept r s) : Kept1 r (State.placeGrain s a1 a2 a3 a4 a5 a6 a7 a8) := by
  unfold State.placeGrain
  split
  · exact Kept1.mk h
  · extract_lets x9 x10
    have h11 : Kept r x10 := Kept.ite (State.closeStripe_kept h) h
    clear_value x10
    clear_value x9
    split
    · exact Kept1.mk h11
    · extract_lets x20 x21 x22
      clear_value x20 x21 x22
      split
      · exact Kept1.mk (State.raiseOnce_kept h11)
      · extract_lets x29 x30 x31
        clear_value x29 x30 x31
        exact Kept1.mk (State.gcLevel_kept (State.showPvol_kept (State.setVol_kept h11)))

theorem State.setAssoc_kept {a1} (h : Kept r s) : Kept r (State.setAssoc s a1) := by
  unfold State.setAssoc
  exact Kept.upd h rfl

theorem State.showTarget_kept (h : Kept r s) : Kept r (State.showTarget s) := by
  unfold State.showTarget
  exact State.wr_kept (State.wr_kept h)

theorem State.sendAnswer_kept {a1} {a2} {a3} {a4} (h : Kept r s) : Kept r (State.sendAnswer s a1 a2 a3 a4) := by
  unfold State.sendAnswer
  split
  · rename_i y2 y3 y4 y5
    have h6 : Kept r y3 := .of1 y5 (State.newMsgid_kept h)
    extract_lets x8 x9
    have h10 : Kept r x8 := State.setCmd_kept h6
    clear_value x8
    have h11 : Kept r x9 := Kept.ite h10 (State.noteError_kept h10)
    clear_value x9
    exact State.sendOn_kept (State.countOpen_kept h11)

theorem State.putAnswer_kept {a1} {a2} {a3} {a4} (h : Kept r s) : Kept r (State.putAnswer s a1 a2 a3 a4) := by
  unfold State.putAnswer
  refine Kept.ite ?_ ?_
  · exact State.setCmd_kept h
  · split
    · rename_i y4 y5 y6 y7
      have h8 : Kept r y5 := .of1 y7 (State.acquireFor_kept h)
      exact Kept.ite (State.sendAnswer_kept h8) (State.setCmd_kept h8)

theorem State.answer_kept {a1} {a2} {a3} {a4} (h : Kept r s) : Kept r (State.answer s a1 a2 a3 a4) := by
  unfold State.answer
  split
  · exact h
  · refine Kept.ite ?_ ?_
    · exact h
    · refine Kept.ite ?_ ?_
      · exact Kept.ite (State.dropCmd_kept h) (State.setCmd_kept h)
      · split
        · split
          · rename_i y19 y20 y21 y22
            have h23 : Kept r y20 := .of1 y22 (Kept1.ite (State.mirror_kept h) (Kept1.mk h))
            exact State.putAnswer_kept h23

theorem State.answersDue_kept (h : Kept r s) : Kept r (State.answersDue s) := by
  unfold State.answersDue
  refine Kept.foldl h fun t2 a3 h4 => ?_
  split
  · exact State.putAnswer_kept h4
  · exact h4

theorem State.takeBack_kept {a1} {a2} (h : Kept r s) : Kept r (State.takeBack s a1 a2) := by
  unfold State.takeBack
  split
  · exact Kept.ite (State.answer_kept (State.setCmd_kept (State.dropWait_kept h))) h
  · exact h

theorem State.endItems_kept {a1} (h : Kept r s) : Kept r (State.endItems s a1) := by
  unfold State.endItems
  refine Kept.foldl h fun t2 a3 h4 => ?_
  split
  · extract_lets x10 x11
    have h12 : Kept r x10 := State.endItem_kept h4
    clear_value x10
    clear_value x11
    exact Kept.upd h12 rfl
  · exact h4

theorem State.setRsv_kept {a1} (h : Kept r s) : Kept r (State.setRsv s a1) := by
  unfold State.setRsv
  exact Kept.upd h rfl

theorem State.undoRsv_kept {a1} (h : Kept r s) : Kept r (State.undoRsv s a1) := by
  unfold State.undoRsv
  split
  · exact h
  · extract_lets x9 x10
    clear_value x9
    split
    · rename_i y12 y13 y14 y15
      have h16 : Kept r y13 := by
        refine .of1 y15 ?_
        refine Kept1.foldl (Kept1.mk (State.setCmd_kept h)) fun t18 a19 h20 => ?_
        unfold x10
        extract_lets x23
        clear_value x23
        exact Kept1.mk (State.setCmd_kept (Kept1.fst h20))
      split
      · exact State.placeLoose_kept (State.setRsv_kept h16)
      · exact State.setRsv_kept h16

theorem State.stopWork_kept {a1} (h : Kept r s) : Kept r (State.stopWork s a1) := by
  unfold State.stopWork
  split
  · exact h
  · extract_lets x9 x10 x11 x12 x13 x14 x15 x16 x17 x18 x19 x20 x21 x22 x23
    have h24 : Kept r x9 := State.endItems_kept h
    clear_value x9
    have h25 : Kept r x10 := by
      unfold x10
      refine Kept.foldl h24 fun t27 a28 h29 => ?_
      exact State.orphan_kept h29
    clear_value x10
    have h31 : Kept r x11 := by
      unfold x11
      split
      · exact Kept.ite (State.cancelGroup_kept h25) h25
      · exact h25
    clear_value x11
    have h42 : Kept r x12 := Kept.ite (State.undoRsv_kept h31) h31
    clear_value x12
    have h43 : Kept r x17 := Kept.upd h42 rfl
    clear_value x17
    have h44 : Kept r x22 := Kept.upd h43 rfl
    clear_value x22
    have h45 : Kept r x23 := by
      unfold x23
      refine Kept.foldl h44 fun t47 a48 h49 => ?_
      exact State.freeBuffers_kept h49
    clear_value x23
    clear_value x13 x14 x15 x16 x20 x21
    split
    · exact State.setCmd_kept h45
    · exact h45

theorem State.refuse_kept {a1} {a2} (h : Kept r s) : Kept r (State.refuse s a1 a2) := by
  unfold State.refuse
  exact State.answer_kept (State.stopWork_kept h)

theorem State.giveNotice_kept {a1} {a2} (h : Kept r s) : Kept r (State.giveNotice s a1 a2) := by
  unfold State.giveNotice
  split
  · exact h
  · split
    · exact State.answer_kept (State.setAssoc_kept h)
    · exact State.setAssoc_kept h

theorem State.rsvNotice_kept {a1} {a2} {a3} (h : Kept r s) : Kept r (State.rsvNotice s a1 a2 a3) := by
  unfold State.rsvNotice
  refine Kept.foldl h fun t2 a3 h4 => ?_
  split
  · exact h4
  · exact Kept.ite h4 (State.giveNotice_kept (State.setAssoc_kept h4))

theorem State.endWith_kept {a1} (h : Kept r s) : Kept r (State.endWith s a1) := by
  unfold State.endWith
  extract_lets x2 x3 x4
  have h5 : Kept r x4 := Kept.ite (State.setCmd_kept h) (State.dropCmd_kept h)
  clear_value x4
  clear_value x3
  refine Kept.ite ?_ ?_
  · refine Kept.ite ?_ ?_
    · exact h5
    · unfold x2
      exact State.freeBuffers_kept (State.freeBuffers_kept h5)
  · refine Kept.ite ?_ ?_
    · unfold x2
      exact State.freeBuffers_kept (State.freeBuffers_kept (State.setCmd_kept (State.dropWait_kept h)))
    · unfold x2
      exact State.freeBuffers_kept (State.freeBuffers_kept (State.dropCmd_kept (State.stopWork_kept h)))

theorem State.endAssoc_kept {a1} (h : Kept r s) : Kept r (State.endAssoc s a1) := by
  unfold State.endAssoc
  split
  · exact h
  · extract_lets x9 x10 x11 x12 x13
    have h14 : Kept r x9 := by
      unfold x9
      refine Kept.foldl h fun t16 a17 h18 => ?_
      exact State.endWith_kept h18
    clear_value x9
    have h20 : Kept r x11 := Kept.upd h14 rfl
    clear_value x11
    have h21 : Kept r x12 := State.dropQueued_kept (State.endStreams_kept h20)
    clear_value x12
    clear_value x10
    split
    · rename_i y23 y24 y25 y26
      have h27 : Kept r y24 := .of1 y26 (State.mirror_kept h21)
      extract_lets x29 x30
      have h31 : Kept r x29 := by
        unfold x29
        refine Kept.foldl h27 fun t33 a34 h35 => ?_
        exact State.freeMsg_kept h35
      clear_value x29
      clear_value x30
      exact State.showTarget_kept (Kept.upd h31 rfl)

theorem State.takeCapsule_kept {a1} {a2} (h : Kept r s) : Kept1 r (State.takeCapsule s a1 a2) := by
  unfold State.takeCapsule
  extract_lets x2 x3
  clear_value x3
  split
  · exact Kept1.mk (State.freeMsg_kept (Kept.upd h rfl))
  · exact Kept1.mk (Kept.upd h rfl)
  · exact Kept1.mk h

theorem State.refuseOn_kept {a1} {a2} (h : Kept r s) : Kept r (State.refuseOn s a1 a2) := by
  unfold State.refuseOn
  exact State.refuseCapsule_kept h

theorem State.holdCmd_kept {a1} {a2} {a3} {a4} {a5} (h : Kept r s) : Kept r (State.holdCmd s a1 a2 a3 a4 a5) := by
  unfold State.holdCmd
  extract_lets x2 x3 x4 x5
  clear_value x2 x3 x4 x5
  split
  · rename_i y7 y8 y9 y10
    have h11 : Kept r y8 := .of1 y10 (Kept1.ite (Kept1.mk h) (State.mirror_kept h))
    extract_lets x13 x14
    clear_value x13 x14
    exact Kept.upd h11 rfl

theorem State.answerData_kept {a1} {a2} (h : Kept r s) : Kept r (State.answerData s a1 a2) := by
  unfold State.answerData
  split
  · exact h
  · split
    · exact State.answer_kept h
    · exact State.answer_kept h

theorem State.fetchData_kept {a1} {a2} (h : Kept r s) : Kept r (State.fetchData s a1 a2) := by
  unfold State.fetchData
  split
  · exact h
  · extract_lets x9 x10
    have h11 : Kept r x10 := State.setCmd_kept h
    clear_value x10
    clear_value x9
    split
    · rename_i y13 y14 y15 y16
      have h17 : Kept r y14 := by
        refine .of1 y16 ?_
        refine Kept1.foldl (Kept1.mk h11) fun t19 a20 h21 => ?_
        extract_lets x23 x24 x25 x26 x27
        have h28 : Kept r x24 := Kept1.fst h21
        clear_value x24
        have h29 : Kept r x27 := Kept.upd h28 rfl
        clear_value x27
        clear_value x23 x25 x26
        exact Kept1.mk h29
      exact State.sendOn_kept h17

theorem State.bareArrive_kept {a1} {a2} (h : Kept r s) : Kept r (State.bareArrive s a1 a2) := by
  unfold State.bareArrive
  refine Kept.ite ?_ ?_
  · exact h
  · split
    · rename_i y4 y5 y6 y7
      have h8 : Kept r y5 := .of1 y7 (State.fromSwitch_kept h)
      exact Kept.ite (State.malformed_kept h8) (State.fireDue_kept (State.arrive_kept h8))

theorem State.nakArrive_kept {a1} {a2} {a3} (h : Kept r s) : Kept r (State.nakArrive s a1 a2 a3) := by
  unfold State.nakArrive
  exact State.bareArrive_kept h

theorem State.takeControl_kept {a1} {a2} {a3} (h : Kept r s) : Kept1 r (State.takeControl s a1 a2 a3) := by
  unfold State.takeControl
  extract_lets x2 x3 x4
  clear_value x3 x4
  exact Kept1.mk (State.freeMsg_kept (Kept.upd h rfl))

theorem State.releaseKey_kept {a1} {a2} (h : Kept r s) : Kept r (State.releaseKey s a1 a2) := by
  unfold State.releaseKey
  exact State.dropPeer_kept (Kept.upd h rfl)

theorem State.setKey_kept {a1} {a2} {a3} (h : Kept r s) : Kept r (State.setKey s a1 a2 a3) := by
  unfold State.setKey
  exact Kept.upd h rfl

theorem actAckReceive_kept {a0} (h : Kept r s) : KeptNext r (actAckReceive a0 s) := by
  unfold actAckReceive
  refine KeptNext.next ?_
  exact State.bareArrive_kept h

theorem actNakSeq_kept {a0} {a1} (h : Kept r s) : KeptNext r (actNakSeq a0 a1 s) := by
  unfold actNakSeq
  refine KeptNext.next ?_
  exact State.nakArrive_kept h

theorem actNakGen_kept {a0} {a1} (h : Kept r s) : KeptNext r (actNakGen a0 a1 s) := by
  unfold actNakGen
  refine KeptNext.next ?_
  exact State.nakArrive_kept h

theorem actNakPending_kept {a0} {a1} (h : Kept r s) : KeptNext r (actNakPending a0 a1 s) := by
  unfold actNakPending
  refine KeptNext.next ?_
  exact State.nakArrive_kept h

theorem actNakRefused_kept {a0} {a1} (h : Kept r s) : KeptNext r (actNakRefused a0 a1 s) := by
  unfold actNakRefused
  refine KeptNext.next ?_
  exact State.nakArrive_kept h

theorem actNakShelf_kept {a0} {a1} (h : Kept r s) : KeptNext r (actNakShelf a0 a1 s) := by
  unfold actNakShelf
  refine KeptNext.next ?_
  exact State.nakArrive_kept h

theorem actNakKeyfull_kept {a0} {a1} (h : Kept r s) : KeptNext r (actNakKeyfull a0 a1 s) := by
  unfold actNakKeyfull
  refine KeptNext.next ?_
  exact State.nakArrive_kept h

theorem actNakChainfull_kept {a0} {a1} (h : Kept r s) : KeptNext r (actNakChainfull a0 a1 s) := by
  unfold actNakChainfull
  refine KeptNext.next ?_
  exact State.nakArrive_kept h

theorem actKeyreg_kept {a0} {a1} {a2} (h : Kept r s) : KeptNext r (actKeyreg a0 a1 a2 s) := by
  unfold actKeyreg
  extract_lets x2
  have h3 : Kept1 r x2 := State.takeControl_kept h
  clear_value x2
  refine KeptNext.next ?_
  exact Kept.ite (State.setKey_kept (Kept1.fst h3)) (State.raise_kept (State.sendNak_kept (Kept1.fst h3)))

theorem execKeyrevoke_kept {a0} {a1} (h : Kept r s) : KeptNext r (execKeyrevoke a0 a1 s) := by
  unfold execKeyrevoke
  refine KeptNext.next ?_
  exact State.releaseKey_kept (Kept1.fst (State.takeControl_kept h))

theorem actChainpost_kept {a0} {a1} {a2} {a3} {a4} {a5} {a6} (h : Kept r s) : KeptNext r (actChainpost a0 a1 a2 a3 a4 a5 a6 s) := by
  unfold actChainpost
  extract_lets x2 x3 x4
  have h5 : Kept1 r x2 := State.takeControl_kept h
  clear_value x2
  have h6 : Kept r x3 := Kept1.fst h5
  clear_value x3
  clear_value x4
  refine KeptNext.next ?_
  exact Kept.ite (Kept1.fst h5) (Kept.ite (State.raise_kept (State.sendNak_kept (Kept1.fst h5))) (Kept.upd h6 rfl))

theorem execChaincancel_kept {a0} {a1} {a2} (h : Kept r s) : KeptNext r (execChaincancel a0 a1 a2 s) := by
  unfold execChaincancel
  extract_lets x2 x3
  have h4 : Kept r x2 := Kept1.fst (State.takeControl_kept h)
  clear_value x2
  clear_value x3
  refine KeptNext.next ?_
  exact Kept.upd h4 rfl

theorem actAckDelayExpiry_kept {a0} (h : Kept r s) : KeptNext r (actAckDelayExpiry a0 s) := by
  unfold actAckDelayExpiry
  refine KeptNext.next ?_
  split
  · exact Kept.ite (State.sendAck_kept h) h
  · exact h

theorem actRetransmissionTimeout_kept {a0} (h : Kept r s) : KeptNext r (actRetransmissionTimeout a0 s) := by
  unfold actRetransmissionTimeout
  refine KeptNext.next ?_
  split
  · exact h
  · split
    · exact h
    · split
      · exact h
      · extract_lets x27 x28
        have h29 : Kept r x27 := State.passTo_kept h
        clear_value x27
        have h30 : Kept r x28 := State.raise_kept (State.loseFlow_kept h29)
        clear_value x28
        exact Kept.ite (State.fireDue_kept (Kept.ite (State.raise_kept h30) h30)) (State.retransmit_kept (State.setFlow_kept h29))

theorem execFlowIdleDrop_kept {a0} (h : Kept r s) : KeptNext r (execFlowIdleDrop a0 s) := by
  unfold execFlowIdleDrop
  refine KeptNext.next ?_
  split
  · exact Kept.ite (State.dropFlow_kept h) h
  · exact h

theorem execReachKeyRelease_kept {a0} {a1} (h : Kept r s) : KeptNext r (execReachKeyRelease a0 a1 s) := by
  unfold execReachKeyRelease
  refine KeptNext.next ?_
  exact Kept.ite h (State.releaseKey_kept h)

theorem State.fedFlow_kept {a1} (h : Kept r s) : Kept1 r (State.fedFlow s a1) := by
  unfold State.fedFlow
  split
  · exact Kept1.mk h
  · exact State.openFed_kept h

theorem State.sendFed_kept {a1} {a2} {a3} (h : Kept r s) : Kept r (State.sendFed s a1 a2 a3) := by
  unfold State.sendFed
  split
  · rename_i y2 y3 y4
    have h5 : Kept r y3 := .of1 y4 (State.fedFlow_kept h)
    exact h5
  · rename_i y7 y8 y9 y10
    have h11 : Kept r y8 := .of1 y10 (State.fedFlow_kept h)
    split
    · rename_i y13 y14 y15 y16
      have h17 : Kept r y14 := .of1 y16 (State.newMsgid_kept h11)
      extract_lets x19 x20
      clear_value x19 x20
      exact State.sendOn_kept h17

theorem State.setDirty_kept {a1} {a2} (h : Kept r s) : Kept r (State.setDirty s a1 a2) := by
  unfold State.setDirty
  extract_lets x2 x3
  clear_value x3
  exact Kept.upd h rfl

theorem State.mirrorWrite_kept {a1} {a2} {a3} {a4} {a5} {a6} {a7} {a8} (h : Kept r s) : Kept r (State.mirrorWrite s a1 a2 a3 a4 a5 a6 a7 a8) := by
  unfold State.mirrorWrite
  split
  · exact h
  · extract_lets x9 x10 x11 x12 x13 x14
    have h15 : Kept r x10 := Kept.ite (State.setDirty_kept h) h
    clear_value x10
    have h16 : Kept r x13 := Kept.upd h15 rfl
    clear_value x13
    have h17 : Kept r x14 := by
      unfold x14
      split
      · exact State.setCmd_kept h16
      · exact h16
    clear_value x14
    clear_value x9 x11 x12
    refine Kept.ite ?_ ?_
    · exact h15
    · split
      · exact h15
      · exact State.sendFed_kept h17

theorem State.sendXmAck_kept {a1} (h : Kept r s) : Kept r (State.sendXmAck s a1) := by
  unfold State.sendXmAck
  split
  · exact h
  · extract_lets x11 x12
    have h13 : Kept r x12 := Kept.upd h rfl
    clear_value x12
    clear_value x11
    split
    · exact State.sendFed_kept h13
    · exact h13

theorem State.dropJobs_kept {a1} (h : Kept r s) : Kept r (State.dropJobs s a1) := by
  unfold State.dropJobs
  refine Kept.foldl h fun t2 a3 h4 => ?_
  exact State.grantRow_kept (State.orphan_kept h4)

theorem State.startRowReads_kept {a1} {a2} {a3} {a4} (h : Kept r s) : Kept r (State.startRowReads s a1 a2 a3 a4) := by
  unfold State.startRowReads
  refine Kept.foldl h fun t2 a3 h4 => ?_
  extract_lets x6 x7
  clear_value x6 x7
  exact Kept1.fst (State.startJob_kept h4)

theorem State.sealLba_kept {a1} {a2} (h : Kept r s) : Kept1 r (State.sealLba s a1 a2) := by
  unfold State.sealLba
  split
  · rename_i y2 y3 y4 y5
    have h6 : Kept r y3 := .of1 y5 (State.xtsSeal_kept h)
    exact Kept1.mk h6
  · rename_i y8 y9 y10
    have h11 : Kept r y9 := .of1 y10 (State.xtsSeal_kept h)
    exact Kept1.mk h11

theorem State.openLba_kept {a1} {a2} (h : Kept r s) : Kept1 r (State.openLba s a1 a2) := by
  unfold State.openLba
  exact State.xtsOpen_kept h

theorem State.noCipher_kept {a1} (h : Kept r s) : Kept r (State.noCipher s a1) := by
  unfold State.noCipher
  exact State.raiseOnce_kept h

theorem State.startRmw_kept {a1} {a2} {a3} (h : Kept r s) : Kept r (State.startRmw s a1 a2 a3) := by
  unfold State.startRmw
  extract_lets x2
  clear_value x2
  refine Kept.foldl h fun t4 a5 h6 => ?_
  extract_lets x8 x9
  clear_value x8 x9
  exact State.countOpen_kept (Kept1.fst (State.startJob_kept h6))

theorem State.tearGrains_kept {a1} {a2} {a3} (h : Kept r s) : Kept r (State.tearGrains s a1 a2 a3) := by
  unfold State.tearGrains
  extract_lets x2 x3
  have h4 : Kept r x2 := by
    unfold x2
    refine Kept.foldl h fun t6 a7 h8 => ?_
    exact State.setEntry_kept h8
  clear_value x2
  clear_value x3
  refine Kept.foldl h4 fun t11 a12 h13 => ?_
  split
  · rename_i y15 y16 y17 y18
    have h19 : Kept r y16 := .of1 y18 (State.takeEntry_kept h13)
    exact Kept.upd h19 rfl

theorem State.tearChunks_kept {a1} {a2} {a3} (h : Kept r s) : Kept r (State.tearChunks s a1 a2 a3) := by
  unfold State.tearChunks
  split
  · exact h
  · extract_lets x9 x10 x11 x12
    clear_value x9 x10 x11 x12
    refine Kept.ite ?_ ?_
    · refine Kept.foldl h fun t15 a16 h17 => ?_
      extract_lets x19 x20
      clear_value x19 x20
      exact Kept.ite (State.tear_kept h17) h17
    · exact Kept.ite h (State.tearGrains_kept h)

theorem State.loseChunks_kept {a1} {a2} {a3} (h : Kept r s) : Kept r (State.loseChunks s a1 a2 a3) := by
  unfold State.loseChunks
  refine Kept.ite ?_ ?_
  · exact h
  · extract_lets x4 x5 x6 x7
    have h8 : Kept r x4 := State.raise_kept (State.log_kept (State.tearChunks_kept h))
    clear_value x4
    clear_value x5 x6 x7
    exact Kept1.fst (State.startJob_kept h8)

theorem State.rereadRow_kept {a1} {a2} (h : Kept r s) : Kept r (State.rereadRow s a1 a2) := by
  unfold State.rereadRow
  extract_lets x2 x3
  have h4 : Kept r x3 := State.loseChunks_kept (State.setJob_kept h)
  clear_value x3
  clear_value x2
  exact State.advanceReads_kept (Kept1.fst (State.lockRow_kept h4))

theorem State.repairRow_kept {a1} (h : Kept r s) : Kept r (State.repairRow s a1) := by
  unfold State.repairRow
  extract_lets x2 x3 x4 x5
  clear_value x2 x3 x4 x5
  exact State.startWrites_kept (State.setJob_kept h)

end Sys2Proof.Machine
end

