-- ==== Sys2Proof/Laws/KeptGrains.lean ====
section
/-!
SUPPORT. For each operation of Grains, Internal, Engine, Reserve: what `Kept` says of the state it gives, so that no
later proof unfolds it.
-/

set_option linter.unusedVariables false

namespace Sys2Proof.Machine

variable {r s : State}

theorem State.useEntry_kept {a1} {a2} {a3} (h : Kept r s) : Kept r (State.useEntry s a1 a2 a3) := by
  unfold State.useEntry
  extract_lets x2 x3
  clear_value x2 x3
  exact Kept.upd h rfl

theorem State.giveEntry_kept {a1} {a2} {a3} {a4} (h : Kept r s) : Kept r (State.giveEntry s a1 a2 a3 a4) := by
  unfold State.giveEntry
  split
  · exact State.useEntry_kept (State.setCmd_kept h)
  · exact h

theorem State.lookupGrain_kept {a1} {a2} {a3} (h : Kept r s) : Kept r (State.lookupGrain s a1 a2 a3) := by
  unfold State.lookupGrain
  split
  · exact h
  · refine Kept.ite ?_ ?_
    · exact h
    · refine Kept.ite ?_ ?_
      · exact State.giveEntry_kept h
      · split
        · rename_i y13 y14 y15 y16
          have h17 : Kept r y14 := .of1 y16 (State.handOver_kept h)
          refine Kept.ite ?_ ?_
          · exact State.giveEntry_kept h17
          · extract_lets x21 x22
            clear_value x21 x22
            exact State.setCmd_kept (Kept.upd h17 rfl)

theorem State.startGrainRead_kept {a1} {a2} {a3} {a4} (h : Kept r s) : Kept r (State.startGrainRead s a1 a2 a3 a4) := by
  unfold State.startGrainRead
  refine Kept.ite ?_ ?_
  · exact h
  · extract_lets x4 x5
    clear_value x4 x5
    exact Kept1.fst (State.startJob_kept h)

theorem State.plainGrain_kept {a1} {a2} {a3} {a4} {a5} (h : Kept r s) : Kept1 r (State.plainGrain s a1 a2 a3 a4 a5) := by
  unfold State.plainGrain
  split
  · rename_i y2 y3 y4
    have h5 : Kept r y3 := by
      refine .of1 y4 ?_
      refine State.eachOf_kept h (fun t7 t8 h9 => ?_)
      exact State.openSector_kept h9
    exact Kept1.mk h5
  · rename_i y12 y13 y14 y15
    have h16 : Kept r y13 := by
      refine .of1 y15 ?_
      refine State.eachOf_kept h (fun t18 t19 h20 => ?_)
      exact State.openSector_kept h20
    refine Kept1.ite ?_ ?_
    · exact Kept1.mk h16
    · split
      · rename_i y25 y26 y27 y28
        have h29 : Kept r y26 := .of1 y28 (State.decodeGrain_kept h16)
        exact Kept1.mk h29
      · rename_i y31 y32 y33
        have h34 : Kept r y32 := .of1 y33 (State.decodeGrain_kept h16)
        exact Kept1.mk h34

theorem State.retryGrain_kept {a1} {a2} (h : Kept r s) : Kept1 r (State.retryGrain s a1 a2) := by
  unfold State.retryGrain
  split
  · exact Kept1.mk h
  · extract_lets x9
    clear_value x9
    split
    · refine Kept1.ite ?_ ?_
      · exact Kept1.mk h
      · extract_lets x17
        clear_value x17
        exact Kept1.mk (State.advanceReads_kept (State.setJob_kept h))
    · exact Kept1.mk h

theorem State.healGrain_kept {a1} {a2} {a3} (h : Kept r s) : Kept r (State.healGrain s a1 a2 a3) := by
  unfold State.healGrain
  split
  · exact h
  · split
    · exact h
    · extract_lets x16
      clear_value x16
      refine State.raise_kept ?_
      refine Kept.foldl (State.setJob_kept h) fun t19 a20 h21 => ?_
      exact State.issueIo_kept h21

theorem State.failGrain_kept {a1} {a2} (h : Kept r s) : Kept r (State.failGrain s a1 a2) := by
  unfold State.failGrain
  exact State.raise_kept (State.log_kept (State.bump_kept h))

theorem State.buffersToHeat_kept {a1} {a2} {a3} (h : Kept r s) : Kept r (State.buffersToHeat s a1 a2 a3) := by
  unfold State.buffersToHeat
  refine Kept.foldl h fun t2 a3 h4 => ?_
  exact State.passBuffers_kept h4

theorem State.markRecorded_kept {a1} {a2} (h : Kept r s) : Kept r (State.markRecorded s a1 a2) := by
  unfold State.markRecorded
  exact State.modVol_kept h

theorem State.stripeEnded_kept {a1} {a2} {a3} (h : Kept r s) : Kept r (State.stripeEnded s a1 a2 a3) := by
  unfold State.stripeEnded
  extract_lets x2 x3
  have h4 : Kept r x3 := State.modVol_kept h
  clear_value x3
  clear_value x2
  exact Kept.ite (State.placeLoose_kept h4) h4

theorem State.stripeFull_kept {a1} {a2} (h : Kept r s) : Kept r (State.stripeFull s a1 a2) := by
  unfold State.stripeFull
  exact State.modVol_kept h

theorem State.applyMap_kept {a1} (h : Kept r s) : Kept r (State.applyMap s a1) := by
  unfold State.applyMap
  refine Kept.foldl h fun t e ht => ?_
  split
  · exact State.setEntry_kept ht
  · exact State.setEntry_kept ht
  · cases t.volOf e.vol with
    | none => exact ht
    | some x => exact Kept.ite (Kept.foldl ht fun u g hu => Kept.ite (State.setEntry_kept hu) hu) ht
  · split
    · exact Kept.ite (State.setEntry_kept ht) ht
    · exact ht
  · exact ht

theorem State.retire_kept {a1} (h : Kept r s) : Kept r (State.retire s a1) := by
  unfold State.retire
  extract_lets x2
  have h3 : Kept r x2 := State.grantRow_kept (State.orphan_kept h)
  clear_value x2
  exact Kept.ite (State.freeBuffers_kept h3) h3

theorem State.patrolRead_kept {a1} {a2} (h : Kept r s) : Kept r (State.patrolRead s a1 a2) := by
  unfold State.patrolRead
  extract_lets x2 x3 x4 x5 x6 x7 x8 x9 x10
  have h11 : Kept r x8 := by
    unfold x8
    refine Kept.foldl h fun t13 a14 h15 => ?_
    exact State.raise_kept h15
  clear_value x8
  have h17 : Kept r x9 := Kept.ite (State.log_kept h11) h11
  clear_value x9
  have h18 : Kept r x10 := Kept.ite h17 (State.raise_kept h17)
  clear_value x10
  clear_value x2 x3 x4 x5 x6 x7
  exact Kept.ite (State.loseChunks_kept (State.retire_kept h)) (Kept.ite (State.retire_kept h18) (State.startWrites_kept (State.setJob_kept h18)))

theorem State.rebuildRead_kept {a1} {a2} (h : Kept r s) : Kept r (State.rebuildRead s a1 a2) := by
  unfold State.rebuildRead
  extract_lets x2 x3 x4 x5
  have h6 : Kept r x5 := State.setJob_kept h
  clear_value x5
  clear_value x2 x3 x4
  refine Kept.ite ?_ ?_
  · exact Kept.ite (State.retire_kept h) (State.rereadRow_kept h)
  · refine State.checkWrites_kept ?_
    refine Kept.foldl h6 fun t11 a12 h13 => ?_
    exact State.issueIo_kept h13

theorem State.passFrontier_kept {a1} {a2} (h : Kept r s) : Kept r (State.passFrontier s a1 a2) := by
  unfold State.passFrontier
  split
  · exact Kept1.fst (State.mirror_kept (State.logFrontier_kept h))
  · exact h

theorem State.passRow_kept {a1} {a2} {a3} (h : Kept r s) : Kept r (State.passRow s a1 a2 a3) := by
  unfold State.passRow
  split
  · exact h
  · extract_lets x9 x10 x11 x12 x13 x14
    have h15 : Kept r x13 := State.modSeat_kept h
    clear_value x13
    have h16 : Kept r x14 := Kept.ite (State.passFrontier_kept h15) h15
    clear_value x14
    clear_value x9 x10 x11 x12
    exact Kept.ite (State.seatEvent_kept (State.labelChange_kept (State.modSeat_kept h16))) h16

theorem State.rebuildWritten_kept {a1} {a2} (h : Kept r s) : Kept r (State.rebuildWritten s a1 a2) := by
  unfold State.rebuildWritten
  extract_lets x2
  have h3 : Kept r x2 := by
    unfold x2
    refine Kept.foldl h fun t5 a6 h7 => ?_
    exact Kept.ite h7 (State.passRow_kept h7)
  clear_value x2
  exact State.retire_kept (State.countOpen_kept h3)

theorem State.collectRead_kept {a1} {a2} (h : Kept r s) : Kept r (State.collectRead s a1 a2) := by
  unfold State.collectRead
  split
  · exact State.retire_kept h
  · extract_lets x9 x10 x11 x12
    clear_value x9 x10 x11 x12
    refine Kept.ite ?_ ?_
    · exact State.retire_kept h
    · refine Kept.ite ?_ ?_
      · exact Kept.ite (State.retire_kept h) (State.loseChunks_kept (State.retire_kept h))
      · split
        · rename_i y18 y19 y20 y21
          have h22 : Kept r y19 := .of1 y21 (State.acquireFor_kept h)
          refine Kept.ite ?_ ?_
          · exact h22
          · split
            · rename_i y26 y27 y28 y29
              have h30 : Kept r y27 := .of1 y29 (State.placeGrain_kept h22)
              split
              · rename_i y32 y33
                have h34 : Kept r y27 := .of1 y29 (State.placeGrain_kept h22)
                exact State.retire_kept h30
              · rename_i y36
                have h37 : Kept r y27 := .of1 y29 (State.placeGrain_kept h22)
                exact h30

theorem State.ownBuffers_kept {a1} {a2} {a3} {a4} {a5} (h : Kept r s) : Kept1 r (State.ownBuffers s a1 a2 a3 a4 a5) := by
  unfold State.ownBuffers
  extract_lets x2
  clear_value x2
  exact State.acquireFor_kept h

theorem State.collectGrain_kept {a1} {a2} {a3} (h : Kept r s) : Kept r (State.collectGrain s a1 a2 a3) := by
  unfold State.collectGrain
  split
  · exact h
  · extract_lets x9 x10
    clear_value x9 x10
    refine Kept.ite ?_ ?_
    · exact h
    · split
      · rename_i y14 y15 y16 y17
        have h18 : Kept r y15 := .of1 y17 (State.ownBuffers_kept h)
        exact Kept.ite h18 (Kept1.fst (State.startJob_kept h18))

theorem State.collectStripe_kept {a1} {a2} {a3} (h : Kept r s) : Kept r (State.collectStripe s a1 a2 a3) := by
  unfold State.collectStripe
  split
  · exact h
  · refine Kept.ite ?_ ?_
    · exact h
    · extract_lets x11
      clear_value x11
      split
      · rename_i y13 y14 y15 y16
        have h17 : Kept r y14 := .of1 y16 (State.ownBuffers_kept h)
        exact Kept.ite h17 (Kept1.fst (State.startJob_kept h17))

theorem State.summaryRead_kept {a1} (h : Kept r s) : Kept r (State.summaryRead s a1) := by
  unfold State.summaryRead
  split
  · exact State.retire_kept h
  · extract_lets x9 x10 x11 x12
    clear_value x9 x10 x11 x12
    refine Kept.foldl (State.retire_kept h) fun t14 a15 h16 => ?_
    exact State.collectGrain_kept h16

theorem State.recordRelocs_kept {a1} (h : Kept r s) : Kept r (State.recordRelocs s a1) := by
  unfold State.recordRelocs
  split
  · exact h
  · refine Kept.foldl h fun t9 a10 h11 => ?_
    refine Kept.foldl h11 fun t13 a14 h15 => ?_
    split
    · rename_i y17 y18 y19 y20
      have h21 : Kept r y18 := .of1 y20 (State.placeGroup_kept h15)
      split
      · rename_i y23 y24
        have h25 : Kept r y18 := .of1 y20 (State.placeGroup_kept h15)
        exact State.passBuffers_kept (State.markRecorded_kept h21)
      · rename_i y27
        have h28 : Kept r y18 := .of1 y20 (State.placeGroup_kept h15)
        exact h21

theorem State.commitRelocs_kept {a1} (h : Kept r s) : Kept r (State.commitRelocs s a1) := by
  unfold State.commitRelocs
  split
  · exact h
  · refine Kept.foldl h fun t9 a10 h11 => ?_
    refine Kept.foldl h11 fun t13 a14 h15 => ?_
    exact Kept.ite (State.applyMap_kept (State.markCommitted_kept h15)) h15

theorem State.stripeFailed_kept {a1} {a2} {a3} (h : Kept r s) : Kept r (State.stripeFailed s a1 a2 a3) := by
  unfold State.stripeFailed
  extract_lets x2
  clear_value x2
  refine Kept.foldl h fun t4 a5 h6 => ?_
  extract_lets x8 x9 x10
  have h11 : Kept r x10 := by
    unfold x10
    split
    · split
      · exact State.setCmd_kept h6
      · exact h6
    · exact h6
  clear_value x10
  clear_value x8 x9
  exact Kept.ite (State.deferError_kept (State.tearGrains_kept h11)) h11

theorem State.drainEmpty_kept {a1} (h : Kept r s) : Kept r (State.drainEmpty s a1) := by
  unfold State.drainEmpty
  split
  · exact h
  · extract_lets x9
    clear_value x9
    exact Kept.ite h (State.modVol_kept h)

theorem State.endStripes_kept {a1} (h : Kept r s) : Kept r (State.endStripes s a1) := by
  unfold State.endStripes
  split
  · exact h
  · refine Kept.foldl h fun t st ht => ?_
    extract_lets job t1 runs
    have h1 : Kept r t1 := by
      unfold t1
      generalize job = j
      split
      · exact Kept.ite (State.stripeEnded_kept (State.retire_kept (Kept.ite (State.stripeFailed_kept ht) ht))) ht
      · exact ht
    clear_value t1
    exact Kept.ite (State.stripeFull_kept h1) h1

theorem State.flushSeats_kept {a1} {a2} (h : Kept r s) : Kept r (State.flushSeats s a1 a2) := by
  unfold State.flushSeats
  split
  · exact h
  · refine Kept.foldl h fun t9 a10 h11 => ?_
    split
    · exact Kept.ite (State.issueIo_kept h11) h11
    · exact h11

theorem State.releaseSegment_kept {a1} {a2} (h : Kept r s) : Kept r (State.releaseSegment s a1 a2) := by
  unfold State.releaseSegment
  exact Kept.ite h (Kept1.fst (State.mirror_kept (State.freeBuffers_kept (State.modSegment_kept h))))

theorem State.settleOld_kept {a1} {a2} (h : Kept r s) : Kept r (State.settleOld s a1 a2) := by
  unfold State.settleOld
  refine Kept.ite ?_ ?_
  · exact h
  · extract_lets x4 x5 x6
    have h7 : Kept r x4 := State.freeDrained_kept h
    clear_value x4
    have h8 : Kept r x5 := by
      unfold x5
      refine Kept.foldl (State.releaseSegment_kept h7) fun t10 a11 h12 => ?_
      exact Kept.ite (State.freeBuffers_kept h12) h12
    clear_value x5
    have h14 : Kept r x6 := State.modSegment_kept h8
    clear_value x6
    exact Kept.ite h7 (Kept.ite h8 (State.flushSeats_kept h14))

theorem State.settleReplay_kept {a1} (h : Kept r s) : Kept r (State.settleReplay s a1) := by
  unfold State.settleReplay
  split
  · exact h
  · extract_lets x9 x10
    have h11 : Kept r x9 := Kept.ite (State.modCrew_kept h) h
    clear_value x9
    clear_value x10
    exact Kept.ite (State.flushSeats_kept (State.modCrew_kept h11)) h11

theorem State.replayMark_kept {a1} (h : Kept r s) : Kept r (State.replayMark s a1) := by
  unfold State.replayMark
  split
  · exact h
  · split
    · exact h
    · refine Kept.ite ?_ ?_
      · exact h
      · extract_lets x18 x19 x20
        have h21 : Kept r x18 := State.modCrew_kept h
        clear_value x18
        clear_value x19 x20
        exact State.settleSegment_kept (State.modSegment_kept h21)

theorem State.replayWritten_kept {a1} (h : Kept r s) : Kept r (State.replayWritten s a1) := by
  unfold State.replayWritten
  extract_lets x2 x3 x4
  have h5 : Kept r x3 := State.retire_kept h
  clear_value x3
  have h6 : Kept r x4 := by
    unfold x4
    split
    · exact Kept.ite (State.modCrew_kept h5) h5
    · exact h5
  clear_value x4
  clear_value x2
  split
  · exact h6
  · refine Kept.ite ?_ ?_
    · extract_lets x24 x25
      clear_value x24 x25
      refine Kept.foldl h6 fun t27 a28 h29 => ?_
      exact State.deferError_kept (State.tear_kept h29)
    · exact h6

theorem State.settleJob_kept {a1} (h : Kept r s) : Kept r (State.settleJob s a1) := by
  unfold State.settleJob
  split
  · exact h
  · split
    · exact State.dropJob_kept h
    · refine Kept.ite ?_ ?_
      · split
        · exact State.patrolRead_kept h
        · exact State.rebuildRead_kept h
        · exact State.collectRead_kept h
        · exact State.summaryRead_kept h
        · extract_lets x32 x33
          have h34 : Kept r x33 := Kept.ite h (State.tearChunks_kept h)
          clear_value x33
          clear_value x32
          exact State.repairRow_kept h34
        · exact h
      · refine Kept.ite ?_ ?_
        · split
          · exact State.rebuildWritten_kept h
          · exact State.replayWritten_kept h
          · exact State.retire_kept h
          · exact State.retire_kept h
          · exact State.retire_kept h
          · exact h
        · exact h

theorem State.settleCrews_kept (h : Kept r s) : Kept r (State.settleCrews s) := by
  unfold State.settleCrews
  extract_lets x2 x3 x4 x5
  have h6 : Kept r x2 := by
    unfold x2
    refine Kept.foldl h fun t8 a9 h10 => ?_
    exact State.grantRow_kept h10
  clear_value x2
  have h12 : Kept r x3 := by
    unfold x3
    refine Kept.foldl h6 fun t14 a15 h16 => ?_
    exact State.advanceReads_kept h16
  clear_value x3
  have h18 : Kept r x4 := by
    unfold x4
    refine Kept.foldl h12 fun t20 a21 h22 => ?_
    exact State.settleJob_kept h22
  clear_value x4
  have h24 : Kept r x5 := by
    unfold x5
    refine Kept.foldl h18 fun t26 a27 h28 => ?_
    exact State.drainEmpty_kept (State.endStripes_kept (State.recordRelocs_kept h28))
  clear_value x5
  refine Kept.foldl h24 fun t31 a32 h33 => ?_
  refine Kept.foldl (State.settleReplay_kept (State.commitRelocs_kept (State.placeOwed_kept h33))) fun t35 a36 h37 => ?_
  exact State.settleOld_kept h37

theorem State.toStep_kept {a1} {a2} (h : Kept r s) : Kept r (State.toStep s a1 a2) := by
  unfold State.toStep
  split
  · exact State.setCmd_kept h
  · exact h

theorem State.endCmd_kept {a1} (h : Kept r s) : Kept r (State.endCmd s a1) := by
  unfold State.endCmd
  extract_lets x2
  have h3 : Kept r x2 := State.freeBuffers_kept (State.toStep_kept (State.dropJobs_kept h))
  clear_value x2
  split
  · exact Kept.ite (State.showTarget_kept (State.dropCmd_kept h3)) h3
  · exact h3

theorem State.failCmd_kept {a1} {a2} (h : Kept r s) : Kept r (State.failCmd s a1 a2) := by
  unfold State.failCmd
  exact State.refuse_kept (State.dropJobs_kept h)

theorem State.takeData_kept {a1} (h : Kept r s) : Kept r (State.takeData s a1) := by
  unfold State.takeData
  refine Kept.ite ?_ ?_
  · exact h
  · extract_lets x4
    split
    · unfold x4
      split
      · rename_i y11 y12 y13 y14
        have h15 : Kept r y12 := .of1 y14 (State.acquireFor_kept h)
        refine Kept.ite ?_ ?_
        · exact h15
        · split
          · exact State.fetchData_kept (State.toStep_kept h15)
          · split
            · exact State.setCmd_kept h15
            · exact h15
          · exact h15
    · unfold x4
      split
      · rename_i y43 y44 y45 y46
        have h47 : Kept r y44 := .of1 y46 (State.acquireFor_kept h)
        refine Kept.ite ?_ ?_
        · exact h47
        · split
          · exact State.fetchData_kept (State.toStep_kept h47)
          · split
            · exact State.setCmd_kept h47
            · exact h47
          · exact h47
    · unfold x4
      split
      · rename_i y78 y79 y80 y81
        have h82 : Kept r y79 := .of1 y81 (State.acquireFor_kept h)
        refine Kept.ite ?_ ?_
        · exact h82
        · split
          · exact State.fetchData_kept (State.toStep_kept h82)
          · split
            · exact State.setCmd_kept h82
            · exact h82
          · exact h82
    · unfold x4
      split
      · rename_i y116 y117 y118 y119
        have h120 : Kept r y117 := .of1 y119 (State.acquireFor_kept h)
        refine Kept.ite ?_ ?_
        · exact h120
        · split
          · exact State.fetchData_kept (State.toStep_kept h120)
          · split
            · exact State.setCmd_kept h120
            · exact h120
          · exact h120
    · unfold x4
      split
      · rename_i y154 y155 y156 y157
        have h158 : Kept r y155 := .of1 y157 (State.acquireFor_kept h)
        refine Kept.ite ?_ ?_
        · exact h158
        · split
          · exact State.fetchData_kept (State.toStep_kept h158)
          · split
            · exact State.setCmd_kept h158
            · exact h158
          · exact h158
    · unfold x4
      split
      · rename_i y191 y192 y193 y194
        have h195 : Kept r y192 := .of1 y194 (State.acquireFor_kept h)
        refine Kept.ite ?_ ?_
        · exact h195
        · split
          · exact State.fetchData_kept (State.toStep_kept h195)
          · split
            · exact State.setCmd_kept h195
            · exact h195
          · exact h195
    · extract_lets x227
      clear_value x227
      split
      · rename_i y229 y230 y231 y232
        have h233 : Kept r y230 := .of1 y232 (State.acquireFor_kept h)
        exact Kept.ite (State.toStep_kept h233) h233
    · exact State.toStep_kept h

theorem State.dataWhole_kept {a1} (h : Kept r s) : Kept r (State.dataWhole s a1) := by
  unfold State.dataWhole
  refine Kept.ite ?_ ?_
  · exact h
  · refine Kept.ite ?_ ?_
    · exact State.toStep_kept h
    · extract_lets x6 x7
      have h8 : Kept r x7 := State.freeBuffers_kept (State.setCmd_kept h)
      clear_value x7
      clear_value x6
      exact Kept.ite (State.failCmd_kept h8) h8

theorem State.begin__kept {a1} (h : Kept r s) : Kept r (State.begin_ s a1) := by
  unfold State.begin_
  split
  · exact State.failCmd_kept h
  · extract_lets x9 x10 x11 x12 x13 x14 x15 x16 x17 x18 x19
    clear_value x9 x10 x11 x12 x13 x14 x15 x16 x17 x18 x19
    refine Kept.ite ?_ ?_
    · exact h
    · refine Kept.ite ?_ ?_
      · exact State.failCmd_kept h
      · refine Kept.ite ?_ ?_
        · exact State.failCmd_kept h
        · split
          · rename_i y27 y28 y29 y30
            have h31 : Kept r y28 := .of1 y30 (State.useXts_kept h)
            split
            · rename_i y33
              have h34 : Kept r y28 := .of1 y30 (State.useXts_kept h)
              exact h31
            · rename_i y36
              have h37 : Kept r y28 := .of1 y30 (State.useXts_kept h)
              exact State.failCmd_kept (State.noCipher_kept h31)
            · rename_i y39
              have h40 : Kept r y28 := .of1 y30 (State.useXts_kept h)
              extract_lets x42
              clear_value x42
              split
              · rename_i y44 y45 y46 y47
                have h48 : Kept r y45 := by
                  refine .of1 y47 ?_
                  refine Kept1.ite ?_ ?_
                  · exact State.acquireFor_kept h31
                  · split
                    · rename_i y52 y53 y54 y55
                      have h56 : Kept r y53 := .of1 y55 (State.acquireFor_kept h31)
                      exact Kept1.ite (Kept1.mk h56) (State.acquireFor_kept h56)
                refine Kept.ite ?_ ?_
                · exact h48
                · split
                  · split
                    · exact State.failCmd_kept h48
                    · extract_lets x73 x74 x75 x76 x77 x78
                      have h79 : Kept r x74 := by
                        unfold x74
                        split
                        · refine Kept.ite ?_ ?_
                          · exact State.free_kept h48
                          · exact h48
                        · exact h48
                      clear_value x74
                      have h90 : Kept r x75 := by
                        unfold x75
                        refine Kept.foldl h48 fun t92 a93 h94 => ?_
                        exact State.lookupGrain_kept h94
                      clear_value x75
                      have h96 : Kept r x77 := by
                        unfold x77
                        refine Kept.foldl h90 fun t98 a99 h100 => ?_
                        exact State.startGrainRead_kept h100
                      clear_value x77
                      have h102 : Kept r x78 := by
                        unfold x78
                        refine Kept.ite ?_ ?_
                        · unfold x73
                          refine Kept.foldl h96 fun t106 a107 h108 => ?_
                          extract_lets x110 x111
                          clear_value x110 x111
                          exact State.mirrorWrite_kept h108
                        · exact h96
                      clear_value x78
                      clear_value x76
                      refine Kept.ite ?_ ?_
                      · refine Kept.ite ?_ ?_
                        · split
                          · rename_i y117 y118 y119 y120
                            have h121 : Kept r y118 := by
                              refine .of1 y120 ?_
                              refine State.eachOf_kept h79 (fun t123 t124 h125 => ?_)
                              exact State.sealLba_kept h125
                            refine State.toStep_kept ?_
                            refine State.startRmw_kept ?_
                            unfold x73
                            refine Kept.foldl h121 fun t131 a132 h133 => ?_
                            extract_lets x135 x136
                            clear_value x135 x136
                            exact State.mirrorWrite_kept h133
                          · rename_i y138 y139 y140
                            have h141 : Kept r y139 := by
                              refine .of1 y140 ?_
                              refine State.eachOf_kept h79 (fun t143 t144 h145 => ?_)
                              exact State.sealLba_kept h145
                            exact State.failCmd_kept (State.noCipher_kept h141)
                        · exact State.toStep_kept (State.startRowReads_kept h48)
                      · exact Kept.ite h90 (Kept.ite (State.failCmd_kept h90) (State.toStep_kept h102))

theorem State.answerRead_kept {a1} {a2} {a3} (h : Kept r s) : Kept r (State.answerRead s a1 a2 a3) := by
  unfold State.answerRead
  extract_lets x2 x3
  split
  · split
    · unfold x2
      exact State.endCmd_kept (State.answer_kept h)
    · unfold x2
      exact State.endCmd_kept (State.answerData_kept h)
  · split
    · unfold x2
      exact State.endCmd_kept (State.answer_kept h)
    · extract_lets x30 x31
      clear_value x30 x31
      unfold x2
      exact State.endCmd_kept (State.answer_kept h)
  · exact h

theorem State.finishRowRead_kept {a1} {a2} (h : Kept r s) : Kept r (State.finishRowRead s a1 a2) := by
  unfold State.finishRowRead
  extract_lets x2 x3 x4 x5
  have h6 : Kept r x5 := by
    unfold x5
    split
    · refine Kept.ite ?_ ?_
      · exact h
      · refine Kept.foldl h fun t14 a15 h16 => ?_
        exact State.loseChunks_kept h16
    · exact h
  clear_value x5
  clear_value x2 x3 x4
  refine Kept.ite ?_ ?_
  · exact h
  · refine Kept.ite ?_ ?_
    · split
      · rename_i y25 y26 y27 y28
        have h29 : Kept r y26 := by
          refine .of1 y28 ?_
          refine State.eachOf_kept h (fun t31 t32 h33 => ?_)
          exact State.openLba_kept h33
        exact State.answerRead_kept h29
      · rename_i y36 y37 y38
        have h39 : Kept r y37 := by
          refine .of1 y38 ?_
          refine State.eachOf_kept h (fun t41 t42 h43 => ?_)
          exact State.openLba_kept h43
        exact State.failCmd_kept (State.noCipher_kept h39)
    · exact State.failCmd_kept h6

theorem State.decodeGrains_kept {a1} {a2} {l} (h : Kept r s) : Kept1 r (State.decodeGrains s a1 a2 l) := by
  induction l generalizing s with
  | nil => exact h
  | cons e l ih =>
    obtain ⟨g, last, v⟩ := e
    have hd : ∀ (t : State) (bs : List Nat), Kept r t → Kept1 r (match t.decodeGrains a1 a2 l with
        | (u, .whole l) => (u, GrainsRead.whole ((g, bs) :: l))
        | r => r) := by
      intro t bs ht
      have h1 := ih (s := t) ht
      split
      · next e => exact Kept.of1 e h1
      · exact h1
    unfold State.decodeGrains
    extract_lets done
    split
    · exact hd _ _ h
    · split
      · next e =>
        have h2 := Kept.of1 e (State.plainGrain_kept h)
        split
        · exact hd _ _ (State.healGrain_kept (State.setCmd_kept h2))
        · exact h2
      · next e =>
        have h2 := Kept.of1 e (State.plainGrain_kept h)
        split
        · next e2 => exact Kept.of1 e2 (State.retryGrain_kept h2)
        · next e2 => exact State.failGrain_kept (Kept.of1 e2 (State.retryGrain_kept h2))
      · next e => exact State.noCipher_kept (Kept.of1 e (State.plainGrain_kept h))
    · exact h

theorem State.grainsReady_kept {a1} {a2} {a3} (h : Kept r s) : Kept1 r (State.grainsReady s a1 a2 a3) := by
  unfold State.grainsReady
  extract_lets x2
  clear_value x2
  refine Kept1.ite ?_ ?_
  · exact Kept1.mk h
  · refine Kept1.ite ?_ ?_
    · exact Kept1.mk h
    · split
      · extract_lets x12
        have h13 : Kept r x12 := by
          unfold x12
          split
          · exact Kept.ite h (State.loseChunks_kept h)
          · exact h
        clear_value x12
        exact Kept1.mk h13
      · exact State.decodeGrains_kept h

theorem State.finishGrainRead_kept {a1} {a2} (h : Kept r s) : Kept r (State.finishGrainRead s a1 a2) := by
  unfold State.finishGrainRead
  extract_lets x2 x3
  clear_value x2 x3
  split
  · rename_i y5 y6 y7
    have h8 : Kept r y6 := .of1 y7 (State.grainsReady_kept h)
    exact h8
  · rename_i y10 y11 y12 y13
    have h14 : Kept r y11 := .of1 y13 (State.grainsReady_kept h)
    exact State.failCmd_kept h14
  · rename_i y16 y17 y18 y19
    have h20 : Kept r y17 := .of1 y19 (State.grainsReady_kept h)
    exact State.answerRead_kept h20

theorem State.placeCmd_kept {a1} {a2} {a3} {a4} {a5} (h : Kept r s) : Kept1 r (State.placeCmd s a1 a2 a3 a4 a5) := by
  unfold State.placeCmd
  split
  · exact Kept1.mk h
  · split
    · rename_i y9 y10 y11 y12
      have h13 : Kept r y10 := .of1 y12 (State.placeGroup_kept h)
      split
      · rename_i y15 y16 y17 y18 y19
        have h20 : Kept r y10 := .of1 y12 (State.placeGroup_kept h)
        exact Kept1.mk (State.setCmd_kept h13)
      · rename_i y22 y23 y24 y25
        have h26 : Kept r y10 := .of1 y12 (State.placeGroup_kept h)
        exact Kept1.mk h13

theorem State.finishRmw_kept {a1} {a2} (h : Kept r s) : Kept r (State.finishRmw s a1 a2) := by
  unfold State.finishRmw
  extract_lets x2 x3 x4
  have h5 : Kept r x3 := by
    unfold x3
    refine Kept.foldl h fun t7 a8 h9 => ?_
    refine Kept.ite ?_ ?_
    · exact h9
    · split
      · exact State.setJob_kept h9
      · refine Kept.ite ?_ ?_
        · exact h9
        · split
          · exact State.rereadRow_kept h9
          · exact h9
  clear_value x3
  clear_value x2 x4
  exact Kept.ite (State.failCmd_kept h5) (Kept.ite h5 (Kept1.fst (State.placeCmd_kept h5)))

theorem State.storeNext_kept {a1} {a2} {a3} {a4} (h : Kept r s) : Kept1 r (State.storeNext s a1 a2 a3 a4) := by
  unfold State.storeNext
  split
  · exact Kept1.ite (Kept1.mk h) (Kept1.mk h)
  · split
    · rename_i y12 y13 y14 y15
      have h16 : Kept r y13 := .of1 y15 (State.storeFor_kept h)
      split
      · rename_i y18
        have h19 : Kept r y13 := .of1 y15 (State.storeFor_kept h)
        exact Kept1.mk h16
      · rename_i y21 y22
        have h23 : Kept r y13 := .of1 y15 (State.storeFor_kept h)
        split
        · rename_i y25 y26 y27
          have h28 : Kept r y26 := by
            refine .of1 y27 ?_
            refine State.eachOf_kept h16 (fun t30 t31 h32 => ?_)
            exact State.sealSector_kept h32
          exact Kept1.mk (State.failCmd_kept (State.noCipher_kept h28))
        · rename_i y35 y36 y37 y38
          have h39 : Kept r y36 := by
            refine .of1 y38 ?_
            refine State.eachOf_kept h16 (fun t41 t42 h43 => ?_)
            exact State.sealSector_kept h43
          split
          · exact Kept1.mk (State.setCmd_kept h39)
          · exact Kept1.mk h39

theorem State.placeNext_kept {k x old blocks gs n} (h : Kept r s) : Kept r (State.placeNext s k x old blocks gs n) := by
  induction n generalizing s k with
  | zero => exact h
  | succ n ih =>
    unfold State.placeNext
    split
    · exact h
    · split
      · exact h
      · extract_lets now bs
        split
        · next e => exact Kept.of1 e (State.storeNext_kept h)
        · next e =>
          split
          next s2 q h2 =>
            have k2 : Kept r s2 := .of1 h2 (State.placeGrain_kept (Kept.of1 e (State.storeNext_kept h)))
            split
            · exact ih (State.setCmd_kept k2)
            · exact k2

theorem State.finishGrains_kept {a1} {a2} (h : Kept r s) : Kept r (State.finishGrains s a1 a2) := by
  unfold State.finishGrains
  extract_lets x2 x3 x4 x5 x6 x7
  clear_value x2 x3 x4 x5 x6 x7
  split
  · rename_i y9 y10 y11
    have h12 : Kept r y10 := .of1 y11 (State.grainsReady_kept h)
    exact h12
  · rename_i y14 y15 y16 y17
    have h18 : Kept r y15 := .of1 y17 (State.grainsReady_kept h)
    exact State.failCmd_kept h18
  · rename_i y20 y21 y22 y23
    have h24 : Kept r y21 := .of1 y23 (State.grainsReady_kept h)
    split
    · extract_lets x31
      have h32 : Kept r x31 := State.placeNext_kept h24
      clear_value x31
      split
      · extract_lets x41 x42 x43
        clear_value x41 x42 x43
        refine Kept.ite ?_ ?_
        · exact h32
        · split
          · rename_i y47 y48 y49 y50
            have h51 : Kept r y48 := .of1 y50 (State.placeCmd_kept h32)
            exact Kept.ite (State.markRecorded_kept h51) h51
      · exact h32

theorem State.commit_kept {a1} (h : Kept r s) : Kept r (State.commit s a1) := by
  unfold State.commit
  split
  · exact h
  · split
    · exact h
    · refine Kept.ite ?_ ?_
      · exact State.failCmd_kept h
      · split
        · rename_i y20 y21 y22 y23
          have h24 : Kept r y21 := .of1 y23 (State.mirror_kept h)
          extract_lets x26 x27 x28 x29
          have h30 : Kept r x26 := State.buffersToHeat_kept (State.markCommitted_kept (State.setCmd_kept h24))
          clear_value x26
          have h31 : Kept r x27 := State.sendXmAck_kept h30
          clear_value x27
          have h32 : Kept r x28 := State.applyMap_kept h31
          clear_value x28
          have h33 : Kept r x29 := by
            unfold x29
            refine Kept.foldl h31 fun t35 a36 h37 => ?_
            exact State.startWrites_kept h37
          clear_value x29
          split
          · exact State.endCmd_kept (State.answer_kept h31)
          · exact State.endCmd_kept (State.answer_kept h31)
          · exact State.endCmd_kept (State.answer_kept h31)
          · extract_lets x80
            clear_value x80
            exact Kept.ite (Kept.ite (State.endCmd_kept (State.answer_kept h32)) h32) (Kept.ite (State.answer_kept h33) h33)
          · exact State.endCmd_kept (State.answer_kept h31)

theorem State.finishWrite_kept {a1} (h : Kept r s) : Kept r (State.finishWrite s a1) := by
  unfold State.finishWrite
  split
  · exact State.endCmd_kept h
  · refine Kept.ite ?_ ?_
    · exact h
    · refine Kept.ite ?_ ?_
      · exact Kept.ite (State.endCmd_kept (State.answer_kept h)) h
      · extract_lets x13 x14 x15
        have h16 : Kept r x15 := by
          unfold x15
          refine Kept.foldl h fun t18 a19 h20 => ?_
          exact State.untear_kept h20
        clear_value x15
        clear_value x13 x14
        refine Kept.ite ?_ ?_
        · exact h
        · refine Kept.ite ?_ ?_
          · refine State.endCmd_kept ?_
            refine Kept.foldl h16 fun t27 a28 h29 => ?_
            exact State.deferError_kept (State.tear_kept h29)
          · exact State.endCmd_kept (State.answer_kept h16)

theorem State.dropMirrored_kept {a1} (h : Kept r s) : Kept r (State.dropMirrored s a1) := by
  unfold State.dropMirrored
  split
  · split
    · exact Kept.ite (State.showTarget_kept (State.dropCmd_kept h)) h
    · exact h
  · exact h

theorem State.stepCmd_kept {a1} (h : Kept r s) : Kept r (State.stepCmd s a1) := by
  unfold State.stepCmd
  split
  · exact h
  · refine Kept.ite ?_ ?_
    · exact h
    · extract_lets x11
      clear_value x11
      split
      · exact State.takeData_kept h
      · exact State.dataWhole_kept h
      · exact State.begin__kept h
      · split
        · exact State.failCmd_kept h
        · split
          · exact State.finishRowRead_kept h
          · exact State.finishGrainRead_kept h
          · exact State.finishRmw_kept h
          · exact State.finishGrains_kept h
      · exact Kept.ite (State.finishWrite_kept h) h
      · exact h

theorem State.runCmd_kept {a1} (h : Kept r s) : Kept r (State.runCmd s a1) := by
  unfold State.runCmd
  refine State.dropMirrored_kept ?_
  refine Kept.foldl h fun t3 a4 h5 => ?_
  exact State.stepCmd_kept h5

theorem State.settleFatal_kept (h : Kept r s) : Kept r (State.settleFatal s) := by
  unfold State.settleFatal
  refine Kept.ite ?_ ?_
  · exact h
  · refine Kept.ite ?_ ?_
    · refine Kept.ite ?_ ?_
      · exact h
      · extract_lets x7 x8 x9
        have h10 : Kept r x7 := State.sendTwin_kept h
        clear_value x7
        have h11 : Kept r x9 := Kept.upd h10 rfl
        clear_value x9
        clear_value x8
        refine Kept.foldl h11 fun t13 a14 h15 => ?_
        exact State.lportDown_kept h15
    · refine Kept.ite ?_ ?_
      · exact h
      · extract_lets x20
        have h21 : Kept r x20 := State.raise_kept (State.wr_kept h)
        clear_value x20
        refine Kept.foldl h21 fun t23 a24 h25 => ?_
        exact Kept.ite (State.takeBack_kept h25) (Kept.ite (State.failCmd_kept h25) h25)

theorem State.settleOnce_kept (h : Kept r s) : Kept r (State.settleOnce s) := by
  unfold State.settleOnce
  extract_lets x2 x3
  have h4 : Kept r x2 := State.settleCrews_kept h
  clear_value x2
  have h5 : Kept r x3 := by
    unfold x3
    refine Kept.foldl h4 fun t7 a8 h9 => ?_
    exact State.runCmd_kept h9
  clear_value x3
  exact State.labelsDue_kept (State.answersDue_kept h5)

theorem State.settle_kept (h : Kept r s) : Kept r (State.settle s) := by
  unfold State.settle
  refine Kept.foldl (State.settleFatal_kept h) fun t2 a3 h4 => ?_
  exact State.settleOnce_kept h4

theorem State.rsvNotices_kept {a1} {a2} {a3} {a4} (h : Kept r s) : Kept r (State.rsvNotices s a1 a2 a3 a4) := by
  unfold State.rsvNotices
  extract_lets x2
  have h3 : Kept r x2 := by
    unfold x2
    refine Kept.foldl h fun t5 a6 h7 => ?_
    exact State.rsvNotice_kept h7
  clear_value x2
  refine Kept.ite ?_ ?_
  · refine Kept.foldl h3 fun t11 a12 h13 => ?_
    exact State.rsvNotice_kept h13
  · exact h3

theorem State.preemptAbort_kept {a1} {a2} {a3} (h : Kept r s) : Kept r (State.preemptAbort s a1 a2 a3) := by
  unfold State.preemptAbort
  refine Kept.foldl h fun t2 a3 h4 => ?_
  exact Kept.ite (State.failCmd_kept h4) h4

theorem State.reserve_kept {a1} {a2} {a3} {a4} {a5} {a6} (h : Kept r s) : Kept r (State.reserve s a1 a2 a3 a4 a5 a6) := by
  unfold State.reserve
  refine Kept.ite ?_ ?_
  · exact State.answer_kept h
  · extract_lets x4 x5 x6
    have h7 : Kept r x5 := State.rsvNotices_kept (State.setRsv_kept (State.setCmd_kept h))
    clear_value x5
    have h8 : Kept r x6 := Kept.ite (State.preemptAbort_kept h7) h7
    clear_value x6
    clear_value x4
    split
    · exact State.answer_kept (State.setCmd_kept h8)
    · exact Kept1.fst (State.placeCmd_kept h8)

theorem State.recordRsv_kept {a1} (h : Kept r s) : Kept r (State.recordRsv s a1) := by
  unfold State.recordRsv
  split
  · exact State.placeLoose_kept h
  · exact h

end Sys2Proof.Machine
end

