-- ==== Sys2Proof/Laws/KeptAdmit.lean ====
section
/-!
SUPPORT. For each operation of Admit, Volumes, Replay, Assembly, Pace, DriveEnds, TargetCmds: what `Kept` says of the
state it gives, so that no later proof unfolds it.
-/

set_option linter.unusedVariables false

namespace Sys2Proof.Machine

variable {r s : State}

theorem State.admissionCheck_kept {a1} {a2} (h : Kept r s) : Kept1 r (State.admissionCheck s a1 a2) := by
  unfold State.admissionCheck
  extract_lets x2 x3 x4 x5
  clear_value x2 x3 x4 x5
  refine Kept1.ite ?_ ?_
  · exact Kept1.mk h
  · refine Kept1.ite ?_ ?_
    · exact Kept1.mk h
    · refine Kept1.ite ?_ ?_
      · exact Kept1.mk h
      · refine Kept1.ite ?_ ?_
        · refine Kept1.ite ?_ ?_
          · exact Kept1.mk h
          · split
            · exact Kept1.mk (State.setAssoc_kept h)
            · exact Kept1.ite (Kept1.mk h) (Kept1.ite (Kept1.mk h) (Kept1.ite (Kept1.mk h) (Kept1.mk h)))
        · exact Kept1.mk h

theorem State.setFeature_kept {a1} {a2} {a3} {a4} (h : Kept r s) : Kept1 r (State.setFeature s a1 a2 a3 a4) := by
  unfold State.setFeature
  split
  · refine Kept1.ite ?_ ?_
    · exact Kept1.mk h
    · extract_lets x6
      clear_value x6
      exact Kept1.mk (State.setAssoc_kept h)
  · exact Kept1.mk (State.setAssoc_kept h)
  · exact Kept1.mk (State.setAssoc_kept h)
  · extract_lets x14
    clear_value x14
    exact Kept1.ite (Kept1.mk (State.setAssoc_kept h)) (Kept1.mk h)
  · exact Kept1.ite (Kept1.mk (State.recordRsv_kept (State.setRsv_kept h))) (Kept1.mk h)
  · exact Kept1.mk h

theorem State.abortCmd_kept {a1} {a2} {a3} (h : Kept r s) : Kept r (State.abortCmd s a1 a2 a3) := by
  unfold State.abortCmd
  split
  · exact Kept.ite (State.answer_kept (State.failCmd_kept h)) (State.answer_kept h)
  · exact State.answer_kept h

theorem State.logPage_kept {a lid nsid p} (e : State.logPage s a lid nsid = .inl p) (h : Kept r s) : Kept r p.1 := by
  unfold State.logPage at e
  split at e
  · cases e; exact h
  · cases e; exact h
  · cases e; exact h
  · cases e; exact State.setAssoc_kept h
  · cases e; exact h
  · split at e
    · cases e; exact State.setAssoc_kept h
    · cases e; exact h
  · split at e
    · cases e; exact h
    · cases e
  · split at e
    · cases e; exact h
    · cases e
  · cases e
theorem State.executePlain_kept {a1} {a2} (h : Kept r s) : Kept r (State.executePlain s a1 a2) := by
  unfold State.executePlain
  extract_lets x2 x3
  clear_value x2
  split
  · unfold x3
    exact State.answer_kept h
  · unfold x3
    exact State.answer_kept h
  · unfold x3
    exact State.answer_kept h
  · exact State.reserve_kept h
  · exact State.reserve_kept h
  · exact State.reserve_kept h
  · exact State.answerData_kept h
  · split
    · rename_i y67 y68 y69 y70
      refine State.answerData_kept ?_
      exact State.logPage_kept y70 h
    · exact State.answer_kept h
  · split
    · exact State.answerData_kept h
    · exact State.answer_kept h
  · exact State.abortCmd_kept h
  · extract_lets x104
    have h105 : Kept1 r x104 := State.setFeature_kept h
    clear_value x104
    exact State.answer_kept (Kept1.fst h105)
  · refine Kept.ite ?_ ?_
    · exact State.answerData_kept h
    · extract_lets x115
      clear_value x115
      exact State.answer_kept h
  · split
    · exact State.answer_kept (State.setAssoc_kept h)
    · exact Kept.ite (State.answer_kept h) (State.setAssoc_kept h)
  · refine Kept.ite ?_ ?_
    · unfold x3
      exact State.answer_kept (State.setAssoc_kept h)
    · exact State.answer_kept h
  · split
    · exact State.answer_kept h
    · exact State.answer_kept h
  · refine Kept.ite ?_ ?_
    · unfold x3
      exact State.answer_kept h
    · unfold x3
      exact State.answer_kept (State.setAssoc_kept h)
  · exact h

theorem State.keysPassed_kept {a1} (h : Kept r s) : Kept r (State.keysPassed s a1) := by
  unfold State.keysPassed
  split
  · exact h
  · extract_lets x9
    have h10 : Kept r x9 := State.setCmd_kept h
    clear_value x9
    refine Kept.ite ?_ ?_
    · exact h10
    · split
      · exact State.executePlain_kept h10
      · exact h10

theorem State.keyFails_kept {a1} (h : Kept r s) : Kept r (State.keyFails s a1) := by
  unfold State.keyFails
  exact State.raise_kept (State.failCmd_kept h)

theorem State.checkKeys_kept {a1} (h : Kept r s) : Kept r (State.checkKeys s a1) := by
  unfold State.checkKeys
  split
  · exact h
  · split
    · extract_lets x13
      clear_value x13
      refine Kept.ite ?_ ?_
      · exact Kept.ite (State.keysPassed_kept h) (State.keyFails_kept h)
      · split
        · rename_i y17 y18 y19 y20 y21
          have h22 : Kept r y18 := by
            refine .of1 y21 ?_
            refine Kept1.foldl (Kept1.mk h) fun t24 a25 h26 => ?_
            split
            · rename_i y28 y29 y30 y31
              have h32 : Kept r y29 := .of1 y31 (State.handOver_kept (Kept1.fst h26))
              exact Kept1.ite (Kept1.mk h32) (Kept1.mk h32)
          extract_lets x35
          have h36 : Kept r x35 := by
            unfold x35
            split
            · exact State.setCmd_kept h22
            · exact h22
          clear_value x35
          exact Kept.ite (State.keyFails_kept h36) (Kept.ite (State.keysPassed_kept h36) h36)
    · exact State.keysPassed_kept h

theorem State.checked_kept {a1} {a2} (h : Kept r s) : Kept r (State.checked s a1 a2) := by
  unfold State.checked
  split
  · rename_i y2 y3 y4 y5
    have h6 : Kept r y3 := .of1 y5 (State.admissionCheck_kept (State.setCmd_kept h))
    split
    · rename_i y8 y9 y10
      have h11 : Kept r y3 := .of1 y5 (State.admissionCheck_kept (State.setCmd_kept h))
      exact State.answer_kept (State.stopWork_kept h6)
    · rename_i y13
      have h14 : Kept r y3 := .of1 y5 (State.admissionCheck_kept (State.setCmd_kept h))
      exact State.checkKeys_kept h6

theorem State.checkWaiting_kept (h : Kept r s) : Kept r (State.checkWaiting s) := by
  unfold State.checkWaiting
  refine Kept.foldl h fun t2 a3 h4 => ?_
  split
  · exact Kept.ite (State.checked_kept h4) h4
  · exact h4

theorem State.connectAnswer_kept {a1} {a2} {a3} {a4} {a5} (h : Kept r s) : Kept r (State.connectAnswer s a1 a2 a3 a4 a5) := by
  unfold State.connectAnswer
  exact State.answer_kept (State.setCmd_kept h)

theorem State.connect_kept {a1} {a2} {a3} {a4} {a5} {a6} {a7} (h : Kept r s) : Kept r (State.connect s a1 a2 a3 a4 a5 a6 a7) := by
  unfold State.connect
  extract_lets x2 x3
  clear_value x2 x3
  refine Kept.ite ?_ ?_
  · exact State.connectAnswer_kept h
  · split
    · extract_lets x12
      have h13 : Kept r x12 := by
        unfold x12
        split
        · rename_i y15 y16 y17
          exact State.raise_kept h
        · rename_i y19 y20
          exact h
      clear_value x12
      exact State.connectAnswer_kept h13
    · refine Kept.ite ?_ ?_
      · split
        · extract_lets x34 x35
          have h36 : Kept r x35 := Kept.upd h rfl
          clear_value x35
          clear_value x34
          split
          · rename_i y38 y39 y40 y41
            have h42 : Kept r y39 := .of1 y41 (State.mirror_kept h36)
            exact State.connectAnswer_kept (State.showTarget_kept h42)
        · exact h
      · split
        · extract_lets x53
          clear_value x53
          split
          · rename_i y55 y56 y57 y58
            have h59 : Kept r y56 := .of1 y58 (State.mirror_kept (State.setAssoc_kept h))
            exact State.connectAnswer_kept h59
        · exact State.connectAnswer_kept h

theorem State.countAdmitted_kept {a1} (h : Kept r s) : Kept r (State.countAdmitted s a1) := by
  unfold State.countAdmitted
  exact Kept.ite (State.count_kept h) h

theorem State.giveContext_kept {a1} (h : Kept r s) : Kept r (State.giveContext s a1) := by
  unfold State.giveContext
  split
  · exact h
  · extract_lets x9 x10 x11 x12
    have h13 : Kept r x12 := State.countAdmitted_kept (State.showTarget_kept (State.setCmd_kept (Kept.upd h rfl)))
    clear_value x12
    clear_value x9 x10 x11
    split
    · exact State.connect_kept h13
    · exact Kept.ite h13 (State.checked_kept h13)
    · exact h13

theorem State.beginWait_kept (h : Kept r s) : Kept r (State.beginWait s) := by
  unfold State.beginWait
  exact State.raiseOnce_kept (State.countOpen_kept h)

theorem State.start_kept {a1} (h : Kept r s) : Kept r (State.start s a1) := by
  unfold State.start
  split
  · exact h
  · refine Kept.ite ?_ ?_
    · exact State.giveContext_kept h
    · split
      · exact Kept.ite (State.giveContext_kept h) (State.beginWait_kept h)
      · exact State.beginWait_kept h

theorem State.takeCmd_kept {a1} {a2} (h : Kept r s) : Kept r (State.takeCmd s a1 a2) := by
  unfold State.takeCmd
  split
  · rename_i y2 y3 y4 y5
    have h6 : Kept r y3 := .of1 y5 (State.takeCapsule_kept h)
    split
    · rename_i y8 y9 y10 y11
      have h12 : Kept r y9 := by
        refine .of1 y11 ?_
        split
        · rename_i y14 y15 y16
          have h17 : Kept r y3 := .of1 y5 (State.takeCapsule_kept h)
          have h18 : Kept r y9 := by
            refine .of1 y11 ?_
            split
            · exact Kept1.mk h6
            · exact State.matchCapsule_kept h6
          exact Kept1.mk h6
        · rename_i y29
          have h30 : Kept r y3 := .of1 y5 (State.takeCapsule_kept h)
          have h31 : Kept r y9 := by
            refine .of1 y11 ?_
            split
            · exact Kept1.mk h6
            · exact State.matchCapsule_kept h6
          exact State.matchCapsule_kept h6
      extract_lets x43 x44 x45 x46 x47 x48
      clear_value x43 x44 x45 x46 x47 x48
      refine Kept.ite ?_ ?_
      · exact h12
      · refine Kept.ite ?_ ?_
        · exact State.refuseOn_kept h12
        · split
          · rename_i y54 y55 y56 y57 y58 y59 y60
            have h61 : Kept r y3 := .of1 y5 (State.takeCapsule_kept h)
            exact Kept.ite (State.refuseOn_kept h12) (State.start_kept (State.holdCmd_kept h12))
          · split
            · exact State.refuseOn_kept h12
            · refine Kept.ite ?_ ?_
              · exact State.refuseOn_kept h12
              · split
                · exact State.start_kept (State.setCmd_kept h12)
                · refine Kept.ite ?_ ?_
                  · exact State.raiseOnce_kept (State.refuseOn_kept h12)
                  · split
                    · extract_lets x87
                      have h88 : Kept r x87 := State.holdCmd_kept (State.setAssoc_kept h12)
                      clear_value x87
                      exact Kept.ite (State.answer_kept (State.stopWork_kept h88)) (State.start_kept h88)

theorem State.endDisconnected_kept (h : Kept r s) : Kept r (State.endDisconnected s) := by
  unfold State.endDisconnected
  refine Kept.foldl h fun t2 a3 h4 => ?_
  exact State.endAssoc_kept h4

theorem State.retryReserve_kept (h : Kept r s) : Kept r (State.retryReserve s) := by
  unfold State.retryReserve
  refine Kept.foldl h fun t2 a3 h4 => ?_
  split
  · exact Kept1.fst (State.placeCmd_kept h4)
  · exact h4

theorem State.runWithData_kept (h : Kept r s) : Kept r (State.runWithData s) := by
  unfold State.runWithData
  refine Kept.foldl h fun t2 a3 h4 => ?_
  split
  · exact Kept.ite (State.executePlain_kept (State.toStep_kept h4)) h4
  · exact h4

theorem State.carryOnce_kept (h : Kept r s) : Kept r (State.carryOnce s) := by
  unfold State.carryOnce
  exact State.retryReserve_kept (State.checkWaiting_kept (State.runWithData_kept (State.settle_kept (State.fireDue_kept h))))

theorem State.carryOn_kept (h : Kept r s) : Kept r (State.carryOn s) := by
  unfold State.carryOn
  exact State.fireDue_kept (State.endDisconnected_kept (State.carryOnce_kept (State.carryOnce_kept h)))

theorem State.atOnce_kept (h : Kept r s) : Kept r (State.atOnce s) := by
  unfold State.atOnce
  exact Kept.ite (State.carryOn_kept h) h

theorem KeptNext.settled {o : Host.Outcome State Fault Refusal} (h : KeptNext r o) : KeptNext r (settled o) := by
  obtain ⟨t, rfl, k⟩ := h
  exact ⟨_, rfl, State.atOnce_kept k⟩

theorem KeptNext0.settled {o : Host.Outcome State Fault Refusal} (h : KeptNext0 r o) : KeptNext0 r (settled o) := by
  obtain ⟨t, rfl, k⟩ := h
  exact ⟨_, rfl, k.trans (State.atOnce_kept (.refl t)).weak⟩

theorem State.addVolume_kept {a1} (h : Kept r s) : Kept r (State.addVolume s a1) := by
  unfold State.addVolume
  extract_lets x2 x3
  have h4 : Kept r x3 := Kept.upd h rfl
  clear_value x3
  clear_value x2
  exact State.showPvols_kept (Kept.ite (State.keepBuffers_kept h4) h4)

theorem State.dropVolumes_kept {a1} (h : Kept r s) : Kept r (State.dropVolumes s a1) := by
  unfold State.dropVolumes
  extract_lets x2 x3 x4 x5
  have h6 : Kept r x5 := Kept.upd h rfl
  clear_value x5
  clear_value x2 x3 x4
  refine State.endStreams_kept ?_
  refine State.showPvols_kept ?_
  refine Kept.foldl h6 fun t10 a11 h12 => ?_
  exact State.freeBuffers_kept h12

theorem State.configureVolume_kept {a1} (h : Kept r s) : Kept r (State.configureVolume s a1) := by
  unfold State.configureVolume
  extract_lets x2 x3 x4
  clear_value x2 x3 x4
  exact Kept.ite (State.addVolume_kept (Kept.upd h rfl)) (State.raise_kept h)

theorem State.turnVolumes_kept {a1} (h : Kept r s) : Kept r (State.turnVolumes s a1) := by
  unfold State.turnVolumes
  extract_lets x2 x3 x4
  have h5 : Kept r x4 := Kept.ite h (State.dropVolumes_kept (Kept.upd h rfl))
  clear_value x4
  clear_value x2 x3
  refine Kept.foldl h5 fun t7 a8 h9 => ?_
  split
  · exact Kept.ite h9 (State.raise_kept h9)
  · exact Kept.ite h9 (State.configureVolume_kept h9)

theorem State.crewVolumes_kept {a1} (h : Kept r s) : Kept r (State.crewVolumes s a1) := by
  unfold State.crewVolumes
  refine Kept.foldl h fun t2 a3 h4 => ?_
  exact State.configureVolume_kept h4

theorem State.turnNamespaces_kept {a1} (h : Kept r s) : Kept r (State.turnNamespaces s a1) := by
  unfold State.turnNamespaces
  extract_lets x2 x3 x4 x5 x6
  have h7 : Kept r x5 := Kept.upd h rfl
  clear_value x5
  have h8 : Kept r x6 := by
    unfold x6
    refine Kept.foldl h7 fun t10 a11 h12 => ?_
    refine Kept.foldl h12 fun t14 a15 h16 => ?_
    split
    · exact State.giveNotice_kept (State.setAssoc_kept h16)
    · exact h16
  clear_value x6
  clear_value x2 x3 x4
  exact Kept.ite (State.raise_kept h8) h8

theorem State.addRow_kept {a1} {a2} {a3} {a4} (h : Kept r s) : Kept r (State.addRow s a1 a2 a3 a4) := by
  unfold State.addRow
  extract_lets x2
  split
  · exact State.setJob_kept h
  · exact Kept1.fst (State.startJob_kept h)

theorem State.takeRsvRec_kept {a1} {a2} (h : Kept r s) : Kept r (State.takeRsvRec s a1 a2) := by
  unfold State.takeRsvRec
  extract_lets x2 x3
  clear_value x2 x3
  exact Kept.ite (State.setRsv_kept h) (Kept.upd h rfl)

theorem State.noteTorn_kept {a1} (h : Kept r s) : Kept r (State.noteTorn s a1) := by
  unfold State.noteTorn
  refine Kept.foldl h fun t2 a3 h4 => ?_
  extract_lets x6 x7
  clear_value x6 x7
  exact Kept.upd h4 rfl

theorem State.replayRec_kept {a1} {a2} {a3} {a4} (h : Kept r s) : Kept r (State.replayRec s a1 a2 a3 a4) := by
  unfold State.replayRec
  split
  · split
    · refine Kept.ite ?_ ?_
      · exact h
      · extract_lets x11
        clear_value x11
        exact State.addRow_kept h
    · exact h
  · split
    · refine Kept.ite ?_ ?_
      · exact State.setEntry_kept h
      · split
        · rename_i y25 y26 y27 y28
          have h29 : Kept r y26 := .of1 y28 (State.placeGrain_kept h)
          exact State.markRecorded_kept (State.setEntry_kept h29)
        · rename_i y31 y32 y33
          have h34 : Kept r y32 := .of1 y33 (State.placeGrain_kept h)
          exact h34
    · exact h
  · exact State.takeRsvRec_kept h
  · extract_lets x45
    clear_value x45
    exact State.modCrew_kept h
  · exact State.applyMap_kept h

theorem State.replayRecs_kept {n keep later l} (h : Kept r s) : Kept r (State.replayRecs s n keep later l) := by
  induction l generalizing s with
  | nil => exact h
  | cons e l ih =>
    unfold State.replayRecs
    exact ih (State.replayRec_kept h)

theorem State.startReplayed_kept {a1} (h : Kept r s) : Kept r (State.startReplayed s a1) := by
  unfold State.startReplayed
  refine Kept.foldl h fun t2 a3 h4 => ?_
  exact State.startWrites_kept h4

theorem State.restoreRecs_kept {v n keep later l} (h : Kept r s) : Kept r (State.restoreRecs s v n keep later l) := by
  induction l generalizing s with
  | nil => exact h
  | cons e l ih =>
    unfold State.restoreRecs
    exact ih (Kept.ite (State.replayRec_kept h) h)

theorem State.markFull_kept {a1} {a2} (h : Kept r s) : Kept r (State.markFull s a1 a2) := by
  unfold State.markFull
  exact State.modVol_kept h

theorem State.keepLive_kept {a1} (h : Kept r s) : Kept r (State.keepLive s a1) := by
  unfold State.keepLive
  exact State.modVol_kept h

theorem State.tearIntents_kept {a1} {a2} (h : Kept r s) : Kept r (State.tearIntents s a1 a2) := by
  unfold State.tearIntents
  extract_lets x2
  clear_value x2
  refine Kept.foldl h fun t4 a5 h6 => ?_
  split
  · exact h6
  · extract_lets x15 x16 x17 x18 x19
    have h20 : Kept r x18 := State.tearGrains_kept h6
    clear_value x18
    clear_value x15 x16 x17 x19
    refine Kept.ite ?_ ?_
    · refine Kept.ite ?_ ?_
      · refine Kept.foldl h20 fun t24 a25 h26 => ?_
        exact State.deferError_kept h26
      · exact h20
    · refine Kept.foldl h6 fun t30 a31 h32 => ?_
      extract_lets x34 x35 x36
      have h37 : Kept r x36 := State.tear_kept h32
      clear_value x36
      clear_value x34 x35
      exact Kept.ite h32 (Kept.ite (State.deferError_kept h37) h37)

theorem State.dirtyIntents_kept {a1} {a2} (h : Kept r s) : Kept r (State.dirtyIntents s a1 a2) := by
  unfold State.dirtyIntents
  refine Kept.foldl h fun t2 a3 h4 => ?_
  extract_lets x6 x7
  clear_value x6 x7
  split
  · exact Kept.ite (State.setDirty_kept h4) (State.setDirty_kept h4)
  · exact h4

theorem State.loadMap_kept {a1} {a2} (h : Kept r s) : Kept r (State.loadMap s a1 a2) := by
  unfold State.loadMap
  split
  · exact State.setVol_kept h
  · exact h

theorem State.hiddenVolumes_kept {a1} {a2} (h : Kept r s) : Kept r (State.hiddenVolumes s a1 a2) := by
  unfold State.hiddenVolumes
  extract_lets x2
  clear_value x2
  refine Kept.foldl h fun t4 a5 h6 => ?_
  extract_lets x8
  clear_value x8
  exact Kept.ite (State.addVolume_kept h6) h6

theorem State.seatRings_kept {a1} {a2} {a3} (h : Kept r s) : Kept r (State.seatRings s a1 a2 a3) := by
  unfold State.seatRings
  extract_lets x2
  exact State.modCrew_kept h

theorem State.replay_kept {a1} {a2} {a3} {a4} (h : Kept r s) : Kept1 r (State.replay s a1 a2 a3 a4) := by
  unfold State.replay
  extract_lets x2 x3 x4 x5 x6 x7 x8 x9 x10 x11 x12 x13 x14 x15 x16 x17 x18 x19 x20 x21
  have h22 : Kept r x4 := State.hiddenVolumes_kept (State.crewVolumes_kept (State.modCrew_kept h))
  clear_value x4
  have h23 : Kept r x5 := by
    unfold x5
    refine Kept.foldl h22 fun t25 a26 h27 => ?_
    exact State.loadMap_kept h27
  clear_value x5
  have h29 : Kept r x10 := by
    unfold x10
    refine Kept.foldl h23 fun t31 a32 h33 => ?_
    exact State.markFull_kept h33
  clear_value x10
  have h35 : Kept r x11 := by
    unfold x11
    refine Kept.foldl h29 fun t37 a38 h39 => ?_
    refine Kept.foldl h39 fun t41 a42 h43 => ?_
    exact Kept.ite h43 (State.restoreRecs_kept h43)
  clear_value x11
  have h45 : Kept r x12 := by
    unfold x12
    refine Kept.foldl h35 fun t47 a48 h49 => ?_
    refine Kept.foldl h49 fun t51 a52 h53 => ?_
    exact State.takeRsvRec_kept h53
  clear_value x12
  have h55 : Kept r x14 := by
    unfold x14
    refine Kept.foldl h45 fun t57 a58 h59 => ?_
    extract_lets x61
    clear_value x61
    exact Kept.ite (State.tearIntents_kept (State.raise_kept h59)) (State.replayRecs_kept h59)
  clear_value x14
  have h63 : Kept r x15 := by
    unfold x15
    refine Kept.foldl h55 fun t65 a66 h67 => ?_
    exact State.keepLive_kept h67
  clear_value x15
  have h69 : Kept r x16 := Kept.ite (State.raise_kept h63) h63
  clear_value x16
  have h70 : Kept r x17 := Kept.ite (State.raise_kept h69) h69
  clear_value x17
  have h71 : Kept r x19 := State.startReplayed_kept (State.dirtyIntents_kept h70)
  clear_value x19
  have h72 : Kept r x20 := State.noteTorn_kept h71
  clear_value x20
  clear_value x2 x3 x6 x8 x9 x13 x18 x21
  split
  · exact Kept1.mk (State.log_kept (State.raise_kept h45))
  · exact Kept1.mk (State.showTorn_kept (State.modCrew_kept h72))

theorem State.notAssembled_kept {a1} (h : Kept r s) : Kept r (State.notAssembled s a1) := by
  unfold State.notAssembled
  extract_lets x2 x3 x4 x5
  have h6 : Kept r x3 := State.dropVolumes_kept h
  clear_value x3
  have h7 : Kept r x5 := State.wr_kept (Kept.upd h6 rfl)
  clear_value x5
  clear_value x2 x4
  exact State.crewVolumes_kept (State.raise_kept h7)

theorem State.strangers_kept {a1} {a2} (h : Kept r s) : Kept r (State.strangers s a1 a2) := by
  unfold State.strangers
  refine Kept.foldl h fun t2 a3 h4 => ?_
  exact State.raise_kept h4

theorem State.reserveSeats_kept {a1} (h : Kept r s) : Kept r (State.reserveSeats s a1) := by
  unfold State.reserveSeats
  refine Kept.ite ?_ ?_
  · exact h
  · split
    · exact h
    · refine Kept.foldl h fun t11 a12 h13 => ?_
      extract_lets x15
      clear_value x15
      exact State.issueIo_kept (State.issueIo_kept h13)

theorem State.resumeRebuild_kept {a1} {a2} (h : Kept r s) : Kept r (State.resumeRebuild s a1 a2) := by
  unfold State.resumeRebuild
  extract_lets x2 x3 x4
  clear_value x2 x3 x4
  exact State.modSeat_kept h

theorem State.enterCrew_kept {a1} {a2} {a3} {a4} {a5} {a6} (h : Kept r s) : Kept r (State.enterCrew s a1 a2 a3 a4 a5 a6) := by
  unfold State.enterCrew
  extract_lets x2 x3 x4
  have h5 : Kept r x4 := State.wrBit_kept (State.setCrew_kept (State.wr_kept h))
  clear_value x4
  clear_value x2 x3
  split
  · rename_i y7 y8 y9 y10
    have h11 : Kept r y8 := .of1 y10 (State.mirror_kept h5)
    extract_lets x13
    have h14 : Kept r x13 := State.openSegment_kept (State.seatRings_kept (State.reserveSeats_kept h11))
    clear_value x13
    split
    · rename_i y16 y17 y18 y19
      have h20 : Kept r y17 := .of1 y19 (State.replay_kept h14)
      refine Kept.ite ?_ ?_
      · exact State.notAssembled_kept h20
      · extract_lets x24 x25 x26
        have h27 : Kept r x24 := Kept.ite (State.raise_kept h20) h20
        clear_value x24
        have h28 : Kept r x25 := Kept.ite (State.labelChange_kept h27) h27
        clear_value x25
        have h29 : Kept r x26 := by
          unfold x26
          refine Kept.foldl h28 fun t31 a32 h33 => ?_
          split
          · exact Kept.ite (State.resumeRebuild_kept h33) (Kept.ite (State.takeSpare_kept h33) h33)
          · exact h33
        clear_value x26
        split
        · exact Kept.ite h29 (State.writeTorn_kept h29)
        · exact h29

theorem State.initialise_kept {a1} {a2} (h : Kept r s) : Kept r (State.initialise s a1 a2) := by
  unfold State.initialise
  extract_lets x2 x3
  clear_value x2 x3
  exact Kept.ite (State.notAssembled_kept h) (State.writeTorn_kept (State.enterCrew_kept (State.tick_kept h)))

theorem State.assemble_kept {a1} {a2} {a3} (h : Kept r s) : Kept r (State.assemble s a1 a2 a3) := by
  unfold State.assemble
  refine Kept.ite ?_ ?_
  · exact h
  · extract_lets x4 x5 x6
    clear_value x4 x5 x6
    refine Kept.ite ?_ ?_
    · refine Kept.ite ?_ ?_
      · refine State.notAssembled_kept ?_
        refine Kept.foldl h fun t11 a12 h13 => ?_
        exact State.raise_kept h13
      · split
        · exact State.initialise_kept h
        · exact Kept.ite (State.notAssembled_kept h) h
    · split
      · exact Kept.ite (State.notAssembled_kept h) h
      · extract_lets x31 x32
        clear_value x31 x32
        exact Kept.ite (State.enterCrew_kept (State.strangers_kept h)) (Kept.ite (State.notAssembled_kept (State.strangers_kept h)) h)

theorem State.excludeCanaries_kept {a1} {a2} (h : Kept r s) : Kept r (State.excludeCanaries s a1 a2) := by
  unfold State.excludeCanaries
  extract_lets x2 x3 x4
  clear_value x2 x3 x4
  refine Kept.foldl h fun t6 a7 h8 => ?_
  exact State.raise_kept (State.bump_kept (Kept.upd h8 rfl))

theorem State.paceDomain_kept {a0} {a2} (h : Kept r s) : Kept r (State.paceDomain a0 s a2) := by
  unfold State.paceDomain
  extract_lets x2 x3 x4 x5 x6 x7 x8 x9 x10 x11 x12 x13
  have h14 : Kept r x2 := State.excludeCanaries_kept h
  clear_value x2
  have h15 : Kept r x8 := State.wr_kept h14
  clear_value x8
  have h16 : Kept r x11 := by
    unfold x11
    refine Kept.ite ?_ ?_
    · unfold x10
      exact Kept.upd (State.wr_kept h15) rfl
    · refine Kept.ite ?_ ?_
      · refine Kept.ite ?_ ?_
        · unfold x10
          exact Kept.upd (State.wr_kept h15) rfl
        · unfold x10
          exact Kept.upd (State.wr_kept h15) rfl
      · refine Kept.ite ?_ ?_
        · unfold x10
          exact Kept.upd (State.wr_kept h15) rfl
        · unfold x10
          exact Kept.upd (State.wr_kept h15) rfl
  clear_value x11
  clear_value x3 x4 x5 x6 x7 x9 x12 x13
  exact Kept.ite (Kept.ite h16 (State.raise_kept (Kept.upd h16 rfl))) (Kept.upd h16 rfl)

theorem actPaceControlTick_kept {a0} (h : Kept r s) : KeptNext r (actPaceControlTick a0 s) := by
  unfold actPaceControlTick
  extract_lets x2 x3
  have h4 : Kept r x2 := by
    unfold x2
    refine Kept.foldl h fun t6 a7 h8 => ?_
    exact State.paceDomain_kept h8
  clear_value x2
  clear_value x3
  refine KeptNext.next ?_
  exact State.wr_kept (State.wr_kept h4)

theorem actPaceThermalStep_kept {a0} (h : Kept r s) : KeptNext r (actPaceThermalStep a0 s) := by
  unfold actPaceThermalStep
  extract_lets x2 x3 x4 x5 x6 x7
  have h8 : Kept r x5 := Kept.upd h rfl
  clear_value x5
  have h9 : Kept r x7 := Kept.upd h rfl
  clear_value x7
  clear_value x2 x3 x4 x6
  refine KeptNext.ite ?_ ?_
  · refine KeptNext.next ?_
    exact Kept.ite h8 (State.raise_kept (State.wr_kept h8))
  · refine KeptNext.ite ?_ ?_
    · refine KeptNext.next ?_
      exact Kept.ite (State.wr_kept h9) h9
    · refine KeptNext.next ?_
      exact h

theorem State.setIo_kept {a1} (h : Kept r s) : Kept r (State.setIo s a1) := by
  unfold State.setIo
  exact Kept.upd h rfl

theorem State.countLatency_kept {a1} {a2} (h : Kept r s) : Kept r (State.countLatency s a1 a2) := by
  unfold State.countLatency
  exact Kept.ite (State.modSeat_kept h) h

theorem State.countDrive_kept {a1} {a2} {a3} (h : Kept r s) : Kept r (State.countDrive s a1 a2 a3) := by
  unfold State.countDrive
  extract_lets x2 x3
  have h4 : Kept r x3 := State.countOpen_kept h
  clear_value x3
  clear_value x2
  refine Kept.foldl h4 fun t6 a7 h8 => ?_
  exact Kept.ite (State.countOpen_kept h8) h8

theorem State.readDone_kept {a1} {a2} {a3} (h : Kept r s) : Kept r (State.readDone s a1 a2 a3) := by
  unfold State.readDone
  split
  · exact Kept.ite (State.advanceReads_kept (State.setJob_kept h)) h
  · exact h

theorem State.writeDone_kept {a1} {a2} (h : Kept r s) : Kept r (State.writeDone s a1 a2) := by
  unfold State.writeDone
  refine Kept.ite ?_ ?_
  · exact State.checkWrites_kept h
  · split
    · exact h
    · exact Kept.ite (State.logChanged_kept (State.freeBuffers_kept (State.modSeat_kept h))) h

theorem State.blockDone_kept {a1} {a2} {a3} {a4} (h : Kept r s) : Kept r (State.blockDone s a1 a2 a3 a4) := by
  unfold State.blockDone
  exact State.modSegment_kept h

theorem State.labelDone_kept {a1} {a2} (h : Kept r s) : Kept r (State.labelDone s a1 a2) := by
  unfold State.labelDone
  exact Kept.upd h rfl

theorem State.unreadable_kept {a1} {a2} (h : Kept r s) : Kept r (State.unreadable s a1 a2) := by
  unfold State.unreadable
  extract_lets x2 x3 x4 x5
  have h6 : Kept r x3 := State.modSeat_kept h
  clear_value x3
  have h7 : Kept r x5 := by
    unfold x5
    split
    · exact State.advanceReads_kept (State.setJob_kept h6)
    · exact h6
  clear_value x5
  clear_value x2 x4
  exact Kept.ite (State.failSeat_kept h7) h7

theorem State.noteStatus_kept {a1} {a2} (h : Kept r s) : Kept r (State.noteStatus s a1 a2) := by
  unfold State.noteStatus
  exact State.modSeat_kept h

theorem State.ioEnds_kept {a1} {a2} {a3} (h : Kept r s) : Kept r (State.ioEnds s a1 a2 a3) := by
  unfold State.ioEnds
  split
  · exact State.setIo_kept h
  · exact State.readDone_kept (State.countDrive_kept (State.countLatency_kept (State.dropIo_kept h)))
  · exact State.writeDone_kept (State.countDrive_kept (State.countLatency_kept (State.dropIo_kept h)))
  · exact State.blockDone_kept (State.dropIo_kept h)
  · exact State.labelDone_kept (State.dropIo_kept h)
  · exact State.dropIo_kept h
  · exact State.unreadable_kept (State.noteStatus_kept (State.countLatency_kept (State.dropIo_kept h)))
  · exact State.commandFails_kept (State.noteStatus_kept h)
  · exact State.commandFails_kept (State.noteStatus_kept h)

theorem State.rebuildRow_kept {a1} (h : Kept r s) : Kept r (State.rebuildRow s a1) := by
  unfold State.rebuildRow
  split
  · exact h
  · split
    · exact h
    · refine Kept.ite ?_ ?_
      · exact h
      · split
        · rename_i y18 y19 y20 y21
          have h22 : Kept r y19 := .of1 y21 (State.ownBuffers_kept h)
          refine Kept.ite ?_ ?_
          · exact h22
          · extract_lets x26
            clear_value x26
            exact Kept1.fst (State.startJob_kept h22)

theorem State.beginPass_kept {a1} (h : Kept r s) : Kept r (State.beginPass s a1) := by
  unfold State.beginPass
  extract_lets x2 x3 x4 x5 x6 x7 x8
  have h9 : Kept r x8 := State.setVol_kept h
  clear_value x8
  clear_value x2 x3 x4 x5 x6 x7
  refine Kept.foldl h9 fun t11 a12 h13 => ?_
  extract_lets x15 x16
  clear_value x15 x16
  split
  · rename_i y18 y19 y20 y21
    have h22 : Kept r y19 := .of1 y21 (State.startJob_kept h13)
    exact State.startWrites_kept h22

theorem State.collect_kept {a1} {a2} (h : Kept r s) : Kept r (State.collect s a1 a2) := by
  unfold State.collect
  split
  · exact h
  · extract_lets x9
    clear_value x9
    refine Kept.foldl (State.setVol_kept h) fun t11 a12 h13 => ?_
    exact State.collectStripe_kept h13

theorem State.collectOwn_kept {a1} (h : Kept r s) : Kept r (State.collectOwn s a1) := by
  unfold State.collectOwn
  split
  · exact State.collect_kept h
  · exact h

theorem State.gcRound_kept {a1} (h : Kept r s) : Kept r (State.gcRound s a1) := by
  unfold State.gcRound
  split
  · exact h
  · refine Kept.ite ?_ ?_
    · exact h
    · refine Kept.ite ?_ ?_
      · extract_lets x12
        clear_value x12
        split
        · rename_i y14 y15 y16 y17
          have h18 : Kept r y15 := .of1 y17 (State.handOver_kept h)
          exact Kept.ite (State.modVol_kept h18) (State.collectOwn_kept h18)
      · exact State.collectOwn_kept h

theorem State.patrolRow_kept {a1} {a2} {a3} (h : Kept r s) : Kept1 r (State.patrolRow s a1 a2 a3) := by
  unfold State.patrolRow
  split
  · rename_i y2 y3 y4 y5
    have h6 : Kept r y3 := .of1 y5 (State.ownBuffers_kept h)
    refine Kept1.ite ?_ ?_
    · exact Kept1.mk h6
    · extract_lets x10 x11
      clear_value x10 x11
      exact Kept1.mk (Kept1.fst (State.startJob_kept h6))

theorem State.beginPatrol_kept {a1} (h : Kept r s) : Kept r (State.beginPatrol s a1) := by
  unfold State.beginPatrol
  extract_lets x2
  have h3 : Kept r x2 := State.modCrew_kept h
  clear_value x2
  refine Kept.ite ?_ ?_
  · exact h3
  · split
    · rename_i y7 y8 y9 y10
      have h11 : Kept r y8 := .of1 y10 (State.handOver_kept h3)
      exact Kept.ite (State.modCrew_kept h11) h11

theorem State.patrol_kept {a1} (h : Kept r s) : Kept r (State.patrol s a1) := by
  unfold State.patrol
  split
  · exact h
  · refine Kept.ite ?_ ?_
    · exact h
    · extract_lets x11 x12 x13
      have h14 : Kept r x11 := Kept.ite (State.beginPatrol_kept h) h
      clear_value x11
      clear_value x12 x13
      split
      · exact h14
      · refine Kept.ite ?_ ?_
        · exact h14
        · refine Kept.ite ?_ ?_
          · refine Kept.ite ?_ ?_
            · exact State.wr_kept (State.modCrew_kept h14)
            · split
              · rename_i y28 y29 y30 y31
                have h32 : Kept r y29 := .of1 y31 (State.patrolRow_kept h14)
                exact Kept.ite (State.wr_kept h32) h32
          · split
            · split
              · rename_i y39 y40 y41 y42
                have h43 : Kept r y40 := .of1 y42 (State.patrolRow_kept h14)
                exact Kept.ite (State.modCrew_kept h43) h43
            · exact Kept.ite (State.raise_kept (State.wr_kept (State.modCrew_kept h14))) h14

theorem State.keepRsv_kept {a1} {a2} (h : Kept r s) : Kept r (State.keepRsv s a1 a2) := by
  unfold State.keepRsv
  split
  · exact h
  · extract_lets x9 x10
    clear_value x9
    refine Kept.foldl h fun t12 a13 h14 => ?_
    split
    · exact Kept.ite (State.placeLoose_kept h14) h14
    · exact h14

theorem State.freeSegment_kept {a1} {a2} (h : Kept r s) : Kept r (State.freeSegment s a1 a2) := by
  unfold State.freeSegment
  split
  · exact h
  · split
    · exact h
    · exact Kept.ite (State.freeSlots_kept (State.modCrew_kept (State.keepRsv_kept (State.releaseSegment_kept h)))) h

theorem State.freeFound_kept {a1} (h : Kept r s) : Kept r (State.freeFound s a1) := by
  unfold State.freeFound
  split
  · exact h
  · exact Kept.ite (State.freeSlots_kept (State.modCrew_kept (State.keepRsv_kept h))) h

theorem State.checkLaggard_kept {a1} {a2} {a3} (h : Kept r s) : Kept r (State.checkLaggard s a1 a2 a3) := by
  unfold State.checkLaggard
  split
  · split
    · refine Kept.ite ?_ ?_
      · extract_lets x16 x17
        have h18 : Kept r x17 := State.modSeat_kept h
        clear_value x17
        clear_value x16
        refine Kept.ite ?_ ?_
        · exact h18
        · refine Kept.ite ?_ ?_
          · split
            · rename_i y23 y24 y25 y26
              have h27 : Kept r y24 := .of1 y26 (State.handOver_kept h18)
              exact Kept.ite (State.modSeat_kept h27) (State.easySeat_kept h27)
          · exact State.easySeat_kept h18
      · exact Kept.ite (State.modSeat_kept h) (State.modSeat_kept h)
    · exact State.modSeat_kept h
  · exact h

theorem State.packetIn_kept {a1} {a2} {a3} (h : Kept r s) : Kept r (State.packetIn s a1 a2 a3) := by
  unfold State.packetIn
  refine Kept.ite ?_ ?_
  · exact h
  · split
    · rename_i y4 y5 y6 y7
      have h8 : Kept r y5 := .of1 y7 (State.fromSwitch_kept h)
      refine Kept.ite ?_ ?_
      · exact State.malformed_kept h8
      · extract_lets x12
        clear_value x12
        split
        · rename_i y14 y15 y16 y17
          have h18 : Kept r y15 := .of1 y17 (State.checkEnvelope_kept h8)
          split
          · rename_i y20
            have h21 : Kept r y15 := .of1 y17 (State.checkEnvelope_kept h8)
            exact State.arrive_kept h18
          · rename_i y23
            have h24 : Kept r y15 := .of1 y17 (State.checkEnvelope_kept h8)
            exact h18
          · rename_i y26
            have h27 : Kept r y15 := .of1 y17 (State.checkEnvelope_kept h8)
            exact Kept.upd h18 rfl

theorem execMsgReceive_kept {a0} {a1} (h : Kept r s) : KeptNext r (execMsgReceive a0 a1 s) := by
  unfold execMsgReceive
  refine KeptNext.next ?_
  exact State.carryOn_kept (State.packetIn_kept h)

theorem execFdataReceive_kept {a0} {a1} {a2} {a3} (h : Kept r s) : KeptNext r (execFdataReceive a0 a1 a2 a3 s) := by
  unfold execFdataReceive
  extract_lets x2
  clear_value x2
  refine KeptNext.next ?_
  exact State.carryOn_kept (State.packetIn_kept h)

theorem execRecordRestore_kept {a0} (h : Kept r s) : KeptNext r (execRecordRestore a0 s) := by
  unfold execRecordRestore
  refine KeptNext.next ?_
  split
  · exact h
  · refine Kept.ite ?_ ?_
    · exact h
    · extract_lets x12
      have h13 : Kept r x12 := State.restore_kept h
      clear_value x12
      refine State.carryOn_kept ?_
      split
      · exact Kept.ite (State.pumpFlow_kept (State.unpark_kept h13)) h13
      · exact h13

theorem execConnect_kept {a0} {a1} {a2} {a3} {a4} {a5} {a6} (h : Kept r s) : KeptNext r (execConnect a0 a1 a2 a3 a4 a5 a6 s) := by
  unfold execConnect
  refine KeptNext.next ?_
  exact State.carryOn_kept (State.takeCmd_kept h)

theorem execPropertySet_kept {a0} {a1} {a2} (h : Kept r s) : KeptNext r (execPropertySet a0 a1 a2 s) := by
  unfold execPropertySet
  refine KeptNext.next ?_
  exact State.carryOn_kept (State.takeCmd_kept h)

theorem execPropertyGet_kept {a0} {a1} (h : Kept r s) : KeptNext r (execPropertyGet a0 a1 s) := by
  unfold execPropertyGet
  refine KeptNext.next ?_
  exact State.carryOn_kept (State.takeCmd_kept h)

theorem execDisconnect_kept {a0} (h : Kept r s) : KeptNext r (execDisconnect a0 s) := by
  unfold execDisconnect
  refine KeptNext.next ?_
  exact State.carryOn_kept (State.takeCmd_kept h)

theorem execFlush_kept {a0} {a1} (h : Kept r s) : KeptNext r (execFlush a0 a1 s) := by
  unfold execFlush
  refine KeptNext.next ?_
  exact State.carryOn_kept (State.takeCmd_kept h)

theorem execWrite_kept {a0} {a1} (h : Kept r s) : KeptNext r (execWrite a0 a1 s) := by
  unfold execWrite
  refine KeptNext.next ?_
  exact State.carryOn_kept (State.takeCmd_kept h)

theorem execRead_kept {a0} {a1} (h : Kept r s) : KeptNext r (execRead a0 a1 s) := by
  unfold execRead
  refine KeptNext.next ?_
  exact State.carryOn_kept (State.takeCmd_kept h)

theorem execCompare_kept {a0} {a1} (h : Kept r s) : KeptNext r (execCompare a0 a1 s) := by
  unfold execCompare
  refine KeptNext.next ?_
  exact State.carryOn_kept (State.takeCmd_kept h)

theorem execWriteZeroes_kept {a0} {a1} (h : Kept r s) : KeptNext r (execWriteZeroes a0 a1 s) := by
  unfold execWriteZeroes
  refine KeptNext.next ?_
  exact State.carryOn_kept (State.takeCmd_kept h)

theorem execDatasetManagement_kept {a0} {a1} {a2} {a3} {a4} (h : Kept r s) : KeptNext r (execDatasetManagement a0 a1 a2 a3 a4 s) := by
  unfold execDatasetManagement
  refine KeptNext.next ?_
  exact State.carryOn_kept (State.takeCmd_kept h)

theorem execReservationRegister_kept {a0} {a1} {a2} {a3} {a4} {a5} (h : Kept r s) : KeptNext r (execReservationRegister a0 a1 a2 a3 a4 a5 s) := by
  unfold execReservationRegister
  refine KeptNext.next ?_
  exact State.carryOn_kept (State.takeCmd_kept h)

theorem execReservationReport_kept {a0} {a1} {a2} {a3} {a4} (h : Kept r s) : KeptNext r (execReservationReport a0 a1 a2 a3 a4 s) := by
  unfold execReservationReport
  refine KeptNext.next ?_
  exact State.carryOn_kept (State.takeCmd_kept h)

theorem execReservationAcquire_kept {a0} {a1} {a2} {a3} {a4} {a5} (h : Kept r s) : KeptNext r (execReservationAcquire a0 a1 a2 a3 a4 a5 s) := by
  unfold execReservationAcquire
  refine KeptNext.next ?_
  exact State.carryOn_kept (State.takeCmd_kept h)

theorem execReservationRelease_kept {a0} {a1} {a2} {a3} {a4} {a5} (h : Kept r s) : KeptNext r (execReservationRelease a0 a1 a2 a3 a4 a5 s) := by
  unfold execReservationRelease
  refine KeptNext.next ?_
  exact State.carryOn_kept (State.takeCmd_kept h)

theorem execGetLogPage_kept {a0} {a1} {a2} {a3} {a4} {a5} (h : Kept r s) : KeptNext r (execGetLogPage a0 a1 a2 a3 a4 a5 s) := by
  unfold execGetLogPage
  refine KeptNext.next ?_
  exact State.carryOn_kept (State.takeCmd_kept h)

theorem execIdentify_kept {a0} {a1} {a2} {a3} {a4} {a5} (h : Kept r s) : KeptNext r (execIdentify a0 a1 a2 a3 a4 a5 s) := by
  unfold execIdentify
  refine KeptNext.next ?_
  exact State.carryOn_kept (State.takeCmd_kept h)

theorem execAbort_kept {a0} {a1} {a2} (h : Kept r s) : KeptNext r (execAbort a0 a1 a2 s) := by
  unfold execAbort
  refine KeptNext.next ?_
  exact State.carryOn_kept (State.takeCmd_kept h)

theorem execSetFeatures_kept {a0} {a1} {a2} {a3} (h : Kept r s) : KeptNext r (execSetFeatures a0 a1 a2 a3 s) := by
  unfold execSetFeatures
  refine KeptNext.next ?_
  exact State.carryOn_kept (State.takeCmd_kept h)

theorem execGetFeatures_kept {a0} {a1} {a2} {a3} (h : Kept r s) : KeptNext r (execGetFeatures a0 a1 a2 a3 s) := by
  unfold execGetFeatures
  refine KeptNext.next ?_
  exact State.carryOn_kept (State.takeCmd_kept h)

theorem execAsynchronousEventRequest_kept {a0} (h : Kept r s) : KeptNext r (execAsynchronousEventRequest a0 s) := by
  unfold execAsynchronousEventRequest
  refine KeptNext.next ?_
  exact State.carryOn_kept (State.takeCmd_kept h)

theorem execKeepAlive_kept {a0} (h : Kept r s) : KeptNext r (execKeepAlive a0 s) := by
  unfold execKeepAlive
  refine KeptNext.next ?_
  exact State.carryOn_kept (State.takeCmd_kept h)

theorem execContextAssign_kept (h : Kept r s) : KeptNext r (execContextAssign s) := by
  unfold execContextAssign
  refine KeptNext.next ?_
  refine Kept.ite ?_ ?_
  · exact h
  · split
    · exact State.carryOn_kept (State.giveContext_kept h)
    · exact h

theorem execKeepAliveExpiry_kept {a0} (h : Kept r s) : KeptNext r (execKeepAliveExpiry a0 s) := by
  unfold execKeepAliveExpiry
  refine KeptNext.next ?_
  split
  · exact State.carryOn_kept (State.raise_kept (State.endAssoc_kept h))
  · exact h

theorem execCutPoint_kept {a0} {a1} {a2} {a3} (h : Kept r s) : KeptNext r (execCutPoint a0 a1 a2 a3 s) := by
  unfold execCutPoint
  refine KeptNext.next ?_
  split
  · exact h
  · refine Kept.ite ?_ ?_
    · exact h
    · extract_lets x12 x13
      have h14 : Kept r x12 := State.passTo_kept h
      clear_value x12
      have h15 : Kept r x13 := Kept.ite (State.takeBack_kept h14) (Kept.ite (State.answer_kept h14) (State.failCmd_kept h14))
      clear_value x13
      exact State.carryOn_kept (State.raiseOnce_kept (State.countOpen_kept h15))

theorem execCommitPoint_kept {a0} {a1} {a2} {a3} (h : Kept r s) : KeptNext r (execCommitPoint a0 a1 a2 a3 s) := by
  unfold execCommitPoint
  extract_lets x2
  clear_value x2
  refine KeptNext.next ?_
  split
  · exact Kept.ite (State.carryOn_kept (State.commit_kept h)) h
  · exact h

end Sys2Proof.Machine
end

