-- ==== Sys2Proof/Laws/KeptCrewCmds.lean ====
section
/-!
SUPPORT. For each operation of CrewCmds, RegAccess, Rings, Image, Keep, Start: what `Kept` says of the state it gives,
so that no later proof unfolds it.
-/

set_option linter.unusedVariables false

namespace Sys2Proof.Machine

variable {r s : State}

theorem execCrewAssembly_kept {a0} {a1} (h : Kept r s) : KeptNext r (execCrewAssembly a0 a1 s) := by
  unfold execCrewAssembly
  refine KeptNext.next ?_
  exact Kept.ite (State.carryOn_kept (State.assemble_kept h)) h

theorem execAssemblyWaitExpiry_kept {a0} {a1} (h : Kept r s) : KeptNext r (execAssemblyWaitExpiry a0 a1 s) := by
  unfold execAssemblyWaitExpiry
  refine KeptNext.next ?_
  exact Kept.ite (State.carryOn_kept (State.assemble_kept h)) h

theorem execReplayCleanMark_kept {a0} (h : Kept r s) : KeptNext r (execReplayCleanMark a0 s) := by
  unfold execReplayCleanMark
  refine KeptNext.next ?_
  exact State.carryOn_kept (State.replayMark_kept h)

theorem execRowLockGrant_kept {a0} {a1} (h : Kept r s) : KeptNext r (execRowLockGrant a0 a1 s) := by
  unfold execRowLockGrant
  refine KeptNext.next ?_
  exact State.carryOn_kept (State.grantRow_kept h)

theorem execDriveCommandCompletion_kept {a0} {a1} {a2} (h : Kept r s) : KeptNext r (execDriveCommandCompletion a0 a1 a2 s) := by
  unfold execDriveCommandCompletion
  refine KeptNext.next ?_
  split
  · exact State.carryOn_kept (State.ioEnds_kept h)
  · exact h

theorem execDriveCommandTimeout_kept {a0} (h : Kept r s) : KeptNext r (execDriveCommandTimeout a0 s) := by
  unfold execDriveCommandTimeout
  refine KeptNext.next ?_
  split
  · exact State.carryOn_kept (State.commandFails_kept h)
  · exact h

theorem execDrivePathErrorWaitEnd_kept {a0} (h : Kept r s) : KeptNext r (execDrivePathErrorWaitEnd a0 s) := by
  unfold execDrivePathErrorWaitEnd
  refine KeptNext.next ?_
  split
  · exact Kept.ite (State.carryOn_kept (State.commandFails_kept h)) h
  · exact h

theorem execReadHedge_kept {a0} (h : Kept r s) : KeptNext r (execReadHedge a0 s) := by
  unfold execReadHedge
  refine KeptNext.next ?_
  split
  · split
    · extract_lets x17 x18
      have h19 : Kept r x18 := State.setJob_kept (State.setIo_kept h)
      clear_value x18
      clear_value x17
      exact Kept.ite h (State.carryOn_kept (State.advanceReads_kept (State.seatOnce_kept (State.countOpen_kept h19))))
    · exact h
  · exact h

theorem execRecoveryLadderStep_kept {a0} {a1} {a2} (h : Kept r s) : KeptNext r (execRecoveryLadderStep a0 a1 a2 s) := by
  unfold execRecoveryLadderStep
  refine KeptNext.next ?_
  split
  · split
    · exact State.carryOn_kept (Kept.ite (State.ladderDone_kept h) (State.nextLadder_kept h))
    · exact h
  · exact h

theorem execLaggardCheck_kept {a0} (h : Kept r s) : KeptNext r (execLaggardCheck a0 s) := by
  unfold execLaggardCheck
  refine KeptNext.next ?_
  split
  · extract_lets x7
    clear_value x7
    refine State.carryOn_kept ?_
    refine Kept.foldl h fun t10 a11 h12 => ?_
    exact State.checkLaggard_kept h12
  · exact h

theorem actCatchUpWrite_kept {a0} {a1} (h : Kept r s) : KeptNext r (actCatchUpWrite a0 a1 s) := by
  unfold actCatchUpWrite
  refine KeptNext.next ?_
  split
  · refine Kept.ite ?_ ?_
    · exact h
    · extract_lets x9
      clear_value x9
      split
      · exact State.countOpen_kept (State.issueIo_kept (State.modSeat_kept h))
      · exact h
  · exact h

theorem execEasyClear_kept {a0} {a1} (h : Kept r s) : KeptNext r (execEasyClear a0 a1 s) := by
  unfold execEasyClear
  refine KeptNext.next ?_
  split
  · split
    · exact Kept.ite (State.carryOn_kept (State.backInService_kept h)) h
    · exact h
  · exact h

theorem execEasyLimitExpiry_kept {a0} {a1} (h : Kept r s) : KeptNext r (execEasyLimitExpiry a0 a1 s) := by
  unfold execEasyLimitExpiry
  refine KeptNext.next ?_
  split
  · exact Kept.ite (State.carryOn_kept (State.failSeat_kept h)) h
  · exact h

theorem execCatchUpFullExpiry_kept {a0} {a1} (h : Kept r s) : KeptNext r (execCatchUpFullExpiry a0 a1 s) := by
  unfold execCatchUpFullExpiry
  refine KeptNext.next ?_
  exact Kept.ite (State.carryOn_kept (State.failSeat_kept h)) h

theorem execRebuildRow_kept {a0} (h : Kept r s) : KeptNext r (execRebuildRow a0 s) := by
  unfold execRebuildRow
  refine KeptNext.next ?_
  exact State.carryOn_kept (State.rebuildRow_kept h)

theorem execHoldExpiry_kept {a0} {a1} (h : Kept r s) : KeptNext r (execHoldExpiry a0 a1 s) := by
  unfold execHoldExpiry
  extract_lets x2
  refine KeptNext.next ?_
  exact State.carryOn_kept (State.modVol_kept h)

theorem execJournalBlockFlush_kept {a0} (h : Kept r s) : KeptNext r (execJournalBlockFlush a0 s) := by
  unfold execJournalBlockFlush
  refine KeptNext.next ?_
  split
  · exact State.carryOn_kept (State.closeBlocks_kept (State.closeBlocks_kept h))
  · exact h

theorem execJournalBlockWritten_kept {a0} {a1} (h : Kept r s) : KeptNext r (execJournalBlockWritten a0 a1 s) := by
  unfold execJournalBlockWritten
  refine KeptNext.next ?_
  split
  · split
    · exact State.carryOn_kept (State.ioEnds_kept h)
    · exact h
  · exact h

theorem execSegmentFree_kept {a0} {a1} (h : Kept r s) : KeptNext r (execSegmentFree a0 a1 s) := by
  unfold execSegmentFree
  refine KeptNext.next ?_
  exact State.carryOn_kept (State.freeFound_kept (State.freeSegment_kept h))

theorem execMapPass_kept {a0} (h : Kept r s) : KeptNext r (execMapPass a0 s) := by
  unfold execMapPass
  refine KeptNext.next ?_
  split
  · exact Kept.ite h (Kept.ite (State.raise_kept (State.setVol_kept h)) (State.carryOn_kept (State.beginPass_kept h)))
  · exact h

theorem execMapPassComplete_kept {a0} (h : Kept r s) : KeptNext r (execMapPassComplete a0 s) := by
  unfold execMapPassComplete
  refine KeptNext.next ?_
  split
  · split
    · refine Kept.ite ?_ ?_
      · exact h
      · extract_lets x14 x15 x16 x17 x18
        have h19 : Kept r x17 := State.issueIo_kept h
        clear_value x17
        have h20 : Kept r x18 := State.showPvol_kept (State.setVol_kept h19)
        clear_value x18
        clear_value x14 x15 x16
        exact State.carryOn_kept (Kept.ite (State.beginPass_kept h20) h20)
    · exact h
  · exact h

theorem execGcRound_kept {a0} (h : Kept r s) : KeptNext r (execGcRound a0 s) := by
  unfold execGcRound
  refine KeptNext.next ?_
  exact State.carryOn_kept (State.gcRound_kept h)

theorem execPatrolRow_kept {a0} (h : Kept r s) : KeptNext r (execPatrolRow a0 s) := by
  unfold execPatrolRow
  refine KeptNext.next ?_
  exact State.carryOn_kept (State.patrol_kept h)

theorem execStreamIdleEnd_kept {a0} {a1} (h : Kept r s) : KeptNext r (execStreamIdleEnd a0 a1 s) := by
  unfold execStreamIdleEnd
  refine KeptNext.next ?_
  exact State.endStreams_kept h

theorem State.beginOwn_kept {a1} {a2} (h : Kept r s) : Kept r (State.beginOwn s a1 a2) := by
  unfold State.beginOwn
  extract_lets x2 x3 x4
  have h5 : Kept r x4 := Kept.ite (State.rebuildRow_kept h) (Kept.ite (State.patrol_kept h) (Kept.ite (State.collectStripe_kept h) (State.collectGrain_kept h)))
  clear_value x4
  clear_value x2 x3
  exact Kept.ite h5 (State.freeBuffers_kept h5)

theorem execHamperBufferGrant_kept {a0} (h : Kept r s) : KeptNext r (execHamperBufferGrant a0 s) := by
  unfold execHamperBufferGrant
  refine KeptNext.next ?_
  split
  · rename_i y3 y4 y5
    have h6 : Kept r y4 := .of1 y5 (State.grantBuffers_kept h)
    exact h
  · rename_i y8 y9 y10 y11
    have h12 : Kept r y9 := .of1 y11 (State.grantBuffers_kept h)
    extract_lets x14 x15 x16
    clear_value x14 x15 x16
    refine State.carryOn_kept ?_
    split
    · exact State.checkWrites_kept (State.addLog_kept h12)
    · exact Kept.ite (State.beginOwn_kept h12) h12

theorem execDriveReady_kept {a0} {a1} {a2} {a3} {a4} {a5} (h : Kept r s) : KeptNext r (execDriveReady a0 a1 a2 a3 a4 a5 s) := by
  unfold execDriveReady
  refine KeptNext.next ?_
  refine Kept.ite ?_ ?_
  · extract_lets x4 x5 x6 x7 x8
    have h9 : Kept r x5 := State.modBay_kept h
    clear_value x5
    have h10 : Kept r x7 := Kept.upd h9 rfl
    clear_value x7
    have h11 : Kept r x8 := Kept.ite (State.issueBay_kept h10) h10
    clear_value x8
    clear_value x4 x6
    exact State.carryOn_kept (State.driveArrives_kept h11)
  · exact h

theorem State.kloadOp_kept {a1} {a2} (h : Kept r s) : Kept r (State.kloadOp s a1 a2) := by
  unfold State.kloadOp
  exact Kept.ite (State.carryOn_kept (State.kloadCmd_kept h)) h

theorem State.afterUnwrap_kept {a1} (h : Kept r s) : Kept r (State.afterUnwrap s a1) := by
  unfold State.afterUnwrap
  extract_lets x2 x3 x4 x5 x6
  have h7 : Kept r x4 := Kept.upd h rfl
  clear_value x4
  have h8 : Kept r x5 := by
    unfold x5
    refine Kept.foldl h7 fun t10 a11 h12 => ?_
    exact Kept.ite (State.packetIn_kept h12) (State.failTag_kept h12)
  clear_value x5
  have h14 : Kept r x6 := by
    unfold x6
    refine Kept.ite ?_ ?_
    · refine Kept.foldl h8 fun t17 a18 h19 => ?_
      split
      · exact Kept.ite (State.failCmd_kept (State.raiseOnce_kept h19)) h19
      · exact h19
    · exact h8
  clear_value x6
  clear_value x2 x3
  exact State.carryOn_kept h14

theorem State.unwrapOwn_kept {a1} {a2} {a3} (h : Kept r s) : Kept r (State.unwrapOwn s a1 a2 a3) := by
  unfold State.unwrapOwn
  extract_lets x2 x3
  have h4 : Kept r x3 := State.afterUnwrap_kept (State.endUnwrap_kept h)
  clear_value x3
  clear_value x2
  exact Kept.ite (State.kekCleared_kept h4) h4

theorem actLoad_kept {a0} (h : Kept r s) : KeptNext r (actLoad a0 s) := by
  unfold actLoad
  refine KeptNext.next ?_
  exact State.kloadOp_kept h

theorem actClear_kept {a0} (h : Kept r s) : KeptNext r (actClear a0 s) := by
  unfold actClear
  refine KeptNext.next ?_
  exact State.kloadOp_kept h

theorem actPrepare_kept {a0} (h : Kept r s) : KeptNext r (actPrepare a0 s) := by
  unfold actPrepare
  refine KeptNext.next ?_
  exact State.kloadOp_kept h

theorem actUnwrap_kept {a0} {a1} {a2} (h : Kept r s) : KeptNext r (actUnwrap a0 a1 a2 s) := by
  unfold actUnwrap
  refine KeptNext.next ?_
  exact Kept.ite (State.unwrapOwn_kept h) h

theorem State.clearRc_kept {a1} (h : Kept r s) : Kept r (State.clearRc s a1) := by
  unfold State.clearRc
  refine Kept.foldl h fun t2 a3 h4 => ?_
  exact Kept.ite (State.wr_kept h4) h4

theorem State.readReg_kept {a1} (h : Kept r s) : Kept1 r (State.readReg s a1) := by
  unfold State.readReg
  split
  · exact Kept1.mk (Kept.upd h rfl)
  · extract_lets x9
    clear_value x9
    split
    · exact Kept1.mk (State.clearRc_kept h)
    · exact Kept1.mk (Kept.upd h rfl)

theorem State.wakeFor_kept {a1} (h : Kept r s) : Kept r (State.wakeFor s a1) := by
  unfold State.wakeFor
  split
  · exact State.wake_kept h
  · exact h

theorem State.refuseB_kept {a1} {a2} (h : Kept r s) : Kept r (State.refuseB s a1 a2) := by
  unfold State.refuseB
  extract_lets x2 x3 x4
  have h5 : Kept r x3 := State.wr_kept (State.bump_kept (State.wr_kept h))
  clear_value x3
  have h6 : Kept r x4 := Kept.ite (State.raise_kept h5) h5
  clear_value x4
  clear_value x2
  split
  · exact State.emit_kept h6
  · exact State.emit_kept h6
  · exact h6
  · exact h6

theorem State.storeField_kept {a1} {a2} {a3} (h : Kept r s) : Kept r (State.storeField s a1 a2 a3) := by
  unfold State.storeField
  extract_lets x2 x3 x4 x5
  clear_value x2 x3 x4 x5
  split
  · exact Kept.ite (Kept.ite (State.raise_kept h) h) (State.wr_kept h)
  · exact Kept.ite (Kept.ite (State.raise_kept h) h) (State.wr_kept h)
  · exact State.wr_kept h
  · exact h

theorem State.storeWord_kept {a1} {a2} {a3} (h : Kept r s) : Kept r (State.storeWord s a1 a2 a3) := by
  unfold State.storeWord
  extract_lets x2
  clear_value x2
  split
  · exact State.raise_kept h
  · refine Kept.foldl h fun t11 a12 h13 => ?_
    exact State.storeField_kept h13

theorem State.applyField_kept {a1} {a2} {a3} (h : Kept r s) : Kept r (State.applyField s a1 a2 a3) := by
  unfold State.applyField
  exact Kept.ite h (State.wrBoth_kept h)

theorem State.applyWord_kept {a1} {a2} {a3} (h : Kept r s) : Kept r (State.applyWord s a1 a2 a3) := by
  unfold State.applyWord
  refine Kept.foldl h fun t2 a3 h4 => ?_
  exact State.applyField_kept h4

theorem State.newRound_kept {a1} (h : Kept r s) : Kept r (State.newRound s a1) := by
  unfold State.newRound
  refine Kept.ite ?_ ?_
  · exact h
  · extract_lets x4 x5
    clear_value x4 x5
    exact Kept.upd h rfl

theorem State.visit_kept {a1} (h : Kept r s) : Kept r (State.visit s a1) := by
  unfold State.visit
  exact Kept.upd h rfl

theorem State.dropTaken_kept {a1} (h : Kept r s) : Kept r (State.dropTaken s a1) := by
  unfold State.dropTaken
  refine Kept.foldl (Kept.upd h rfl) fun t2 a3 h4 => ?_
  extract_lets x6 x7
  have h8 : Kept r x7 := Kept.ite (State.dropWait_kept h4) h4
  clear_value x7
  clear_value x6
  exact Kept.ite h8 (State.freeBuffers_kept h8)

theorem State.complete_kept {a1} {a2} {a3} {a4} (h : Kept r s) : Kept r (State.complete s a1 a2 a3 a4) := by
  unfold State.complete
  extract_lets x2 x3 x4 x5 x6
  have h7 : Kept r x2 := State.dropTaken_kept h
  clear_value x2
  have h8 : Kept r x5 := Kept.ite (State.emit_kept h7) (State.publish_kept (State.wr_kept (State.emit_kept h7)))
  clear_value x5
  have h9 : Kept r x6 := Kept.ite (State.publish_kept (State.wr_kept h8)) h8
  clear_value x6
  clear_value x3 x4
  exact Kept.ite (State.raiseOnce_kept h9) h9

theorem State.flushInvalid_kept {a1} {n} (h : Kept r s) : Kept r (State.flushInvalid s a1 n) := by
  induction n generalizing s with
  | zero => exact h
  | succ n ih =>
    unfold State.flushInvalid
    split
    · exact Kept.ite (ih (State.complete_kept h)) h
    · exact h

theorem State.finish_kept {a1} {a2} {a3} (h : Kept r s) : Kept r (State.finish s a1 a2 a3) := by
  unfold State.finish
  exact State.flushInvalid_kept (State.complete_kept h)

theorem State.takeIn_kept {a1} {a2} (h : Kept r s) : Kept r (State.takeIn s a1 a2) := by
  unfold State.takeIn
  extract_lets x2 x3 x4 x5 x6
  have h7 : Kept r x4 := Kept.upd h rfl
  clear_value x4
  have h8 : Kept r x5 := Kept.ite h7 (State.publish_kept (State.wr_kept h7))
  clear_value x5
  have h9 : Kept r x6 := State.countOpen_kept h8
  clear_value x6
  clear_value x2 x3
  exact Kept.ite (Kept1.fst (State.acquireFor_kept h9)) h9

theorem State.takeCopies_kept {a1 a2 l n} (h : Kept r s) : Kept r (State.takeCopies s a1 a2 l n) := by
  induction n generalizing s l with
  | zero =>
    unfold State.takeCopies
    exact h
  | succ n ih =>
    unfold State.takeCopies
    split
    · exact h
    · exact h
    · dsimp only
      split
      · exact h
      · next c rest n' hn _ =>
        cases hn
        split
        · exact State.raiseOnce_kept (State.bump_kept h)
        · exact ih (State.takeIn_kept h)

theorem State.checkCq_kept {a1} (h : Kept r s) : Kept r (State.checkCq s a1) := by
  unfold State.checkCq
  extract_lets x2 x3
  clear_value x2 x3
  exact Kept.ite h (State.raise_kept (Kept.upd h rfl))

theorem State.writePi_kept {a1} {a2} (h : Kept r s) : Kept r (State.writePi s a1 a2) := by
  unfold State.writePi
  exact Kept.ite h (Kept.ite (State.raise_kept h) (State.checkCq_kept (State.wr_kept h)))

theorem State.writeCi_kept {a1} {a2} (h : Kept r s) : Kept r (State.writeCi s a1 a2) := by
  unfold State.writeCi
  refine Kept.ite ?_ ?_
  · exact h
  · refine Kept.ite ?_ ?_
    · exact State.raise_kept h
    · extract_lets x6
      have h7 : Kept r x6 := State.wr_kept h
      clear_value x6
      exact Kept.ite (State.noticeLost_kept h7) h7

theorem State.enableRing_kept {a1} {a2} (h : Kept r s) : Kept r (State.enableRing s a1 a2) := by
  unfold State.enableRing
  extract_lets x2 x3 x4 x5 x6
  have h7 : Kept r x2 := State.storeWord_kept h
  clear_value x2
  have h8 : Kept r x3 := State.wr_kept (State.wr_kept (State.wr_kept h7))
  clear_value x3
  have h9 : Kept r x4 := State.dropTaken_kept h8
  clear_value x4
  have h10 : Kept r x6 := Kept.upd h9 rfl
  clear_value x6
  clear_value x5
  exact State.wr_kept h10

theorem actDoorbell_kept {a0} {a1} {a2} (h : Kept r s) : KeptNext r (actDoorbell a0 a1 a2 s) := by
  unfold actDoorbell
  refine KeptNext.next ?_
  exact Kept.ite h (Kept.ite (State.raise_kept h) (State.writePi_kept h))

theorem actCiWrite_kept {a0} {a1} {a2} (h : Kept r s) : KeptNext r (actCiWrite a0 a1 a2 s) := by
  unfold actCiWrite
  refine KeptNext.next ?_
  exact Kept.ite h (Kept.ite (State.raise_kept h) (State.writeCi_kept h))

theorem actEntryFetch_kept {a0} {a1} {a2} (h : Kept r s) : KeptNext r (actEntryFetch a0 a1 a2 s) := by
  unfold actEntryFetch
  refine KeptNext.ite ?_ ?_
  · refine KeptNext.next ?_
    exact h
  · extract_lets x5
    have h6 : Kept r x5 := State.newRound_kept h
    clear_value x5
    refine KeptNext.ite ?_ ?_
    · refine KeptNext.next ?_
      exact State.flushInvalid_kept (State.takeCopies_kept (State.visit_kept h6))
    · refine KeptNext.next ?_
      exact h

theorem actNop_kept {a0} (h : Kept r s) : KeptNext r (actNop a0 s) := by
  unfold actNop
  split
  · extract_lets x6 x7
    clear_value x6 x7
    refine KeptNext.next ?_
    exact State.finish_kept h
  · refine KeptNext.next ?_
    exact h

theorem actRingEnable_kept {a0} {a1} (h : Kept r s) : KeptNext r (actRingEnable a0 a1 s) := by
  unfold actRingEnable
  refine KeptNext.next ?_
  exact Kept.ite (State.enableRing_kept h) h

theorem actCoalesceExpiry_kept {a0} (h : Kept r s) : KeptNext r (actCoalesceExpiry a0 s) := by
  unfold actCoalesceExpiry
  split
  · refine KeptNext.next ?_
    exact h
  · refine KeptNext.ite ?_ ?_
    · extract_lets x11 x12
      have h13 : Kept r x12 := Kept.upd h rfl
      clear_value x12
      clear_value x11
      refine KeptNext.next ?_
      exact State.irq_kept h13
    · refine KeptNext.next ?_
      exact Kept.upd h rfl

theorem State.norErase_kept {a1} {a2} (h : Kept r s) : Kept r (State.norErase s a1 a2) := by
  unfold State.norErase
  exact Kept.upd h rfl

theorem State.norProgram_kept {a l} (h : Kept r s) : Kept r (State.norProgram s a l) := by
  induction l generalizing s a with
  | nil => exact h
  | cons b l ih =>
    unfold State.norProgram
    exact ih (Kept.upd h rfl)

/-- What every start keeps is kept from the state before it, whatever the cleared state holds, where its stores are canonical. -/
theorem State.keepAlways_kept {t : State} (h : Kept r s) (ht : t.Canonical) : Kept r (State.keepAlways t s) := by
  unfold State.keepAlways
  extract_lets life blocks
  clear_value life blocks
  apply State.wr_kept
  apply State.wr_kept
  refine h.trans ⟨rfl, List.prefix_refl _, Nat.le_refl _, ⟨rfl, rfl, rfl, Nat.le_refl _,
    List.prefix_append _ _, List.prefix_refl _⟩, fun _ => ht, fun hl => hl, Nat.le_refl _⟩

theorem State.keepBays_kept {s' : State} (h : Kept r s) : Kept r (State.keepBays s s') := by
  unfold State.keepBays
  extract_lets t1 t2
  have h1 : Kept r t1 := Kept.foldl h fun u kv hu => State.writeRegs_kept hu
  clear_value t1
  have h2 : Kept r t2 := State.wr_kept h1
  clear_value t2
  exact Kept.upd h2 rfl

theorem State.sampleStraps_kept {a1} (h : Kept r s) : Kept r (State.sampleStraps s a1) := by
  unfold State.sampleStraps
  exact State.settleOwner_kept (State.wr_kept (State.wr_kept (State.wr_kept (Kept.upd h rfl))))

theorem State.resetNor_kept (h : Kept r s) : Kept r (State.resetNor s) := by
  unfold State.resetNor
  extract_lets x2 x3
  have h4 : Kept r x2 := State.emit_kept (State.emit_kept (State.emit_kept (State.emit_kept h)))
  clear_value x2
  clear_value x3
  exact Kept.upd h4 rfl

theorem State.watchDomains_kept (h : Kept r s) : Kept r (State.watchDomains s) := by
  unfold State.watchDomains
  exact State.setDom_kept (State.setDom_kept h)

theorem State.readHeaders_kept (h : Kept r s) : Kept r (State.readHeaders s) := by
  unfold State.readHeaders
  extract_lets x2
  have h3 : Kept r x2 := State.resetNor_kept h
  clear_value x2
  exact State.wr_kept (State.wr_kept (State.wr_kept (State.wr_kept h3)))

theorem State.haltStart_kept {a1} {a2} (h : Kept r s) : Kept r (State.haltStart s a1 a2) := by
  unfold State.haltStart
  exact State.logOpen_kept (State.setStage_kept h)

theorem State.orHalt_kept {a1} {a2 : State → State} (h : Kept r s) (g2 : ∀ b0, Kept r b0 → Kept r (a2 b0)) : Kept r (State.orHalt s a1 a2) := by
  unfold State.orHalt
  split
  · exact State.haltStart_kept h
  · exact g2 _ h

theorem State.holdIfFailing_kept (h : Kept r s) : Kept r (State.holdIfFailing s) := by
  unfold State.holdIfFailing
  exact Kept.ite (Kept.upd h rfl) h

theorem State.step1_kept {a1 : State → State} (h : Kept r s) (g1 : ∀ b0, Kept r b0 → Kept r (a1 b0)) : Kept r (State.step1 s a1) := by
  unfold State.step1
  exact Kept.ite h (State.holdIfFailing_kept (g1 _ h))

theorem State.enterRecovery_kept (h : Kept r s) : Kept r (State.enterRecovery s) := by
  unfold State.enterRecovery
  extract_lets x2 x3
  have h4 : Kept r x3 := State.setStage_kept (Kept.upd h rfl)
  clear_value x3
  clear_value x2
  refine Kept.foldl h4 fun t6 a7 h8 => ?_
  exact Kept.ite (State.bayOff_kept h8) h8

theorem State.reset_canonical : State.reset.Canonical := ⟨rfl, rfl⟩
theorem State.systemClear_kept {a1} (h : Kept r s) : Kept r (State.systemClear s a1) := by
  unfold State.systemClear
  exact State.wr_kept (State.wr_kept (State.keepBays_kept (State.keepAlways_kept h State.reset_canonical)))

theorem State.restart3_kept {a1} (h : Kept r s) : Kept r (State.restart3 s a1) := by
  unfold State.restart3
  extract_lets x2 x3 x4
  have h5 : Kept r x2 := State.readHeaders_kept (State.sampleStraps_kept (State.watchDomains_kept h))
  clear_value x2
  have h6 : Kept r x3 := State.setStage_kept h5
  clear_value x3
  clear_value x4
  exact State.holdIfFailing_kept (Kept.upd h6 rfl)

theorem State.systemReset_kept {a1} {a2} (h : Kept r s) : Kept r (State.systemReset s a1 a2) := by
  unfold State.systemReset
  exact State.restart3_kept (State.systemClear_kept h)

theorem State.powerLoss_kept (h : Kept r s) : Kept r (State.powerLoss s) :=
  State.keepAlways_kept h State.reset_canonical

theorem State.referenceChecked_kept {a1} {a2} (h : Kept r s) : Kept r (State.referenceChecked s a1 a2) := by
  unfold State.referenceChecked
  extract_lets x2 x3 x4 x5 x6 x7 x8 x9 x10 x11 x12
  have h13 : Kept r x3 := State.setChecks_kept (State.setChecks_kept (State.setRef_kept (State.setRef_kept h)))
  have h14 : Kept r x5 := by
    unfold x5
    refine Kept.foldl (State.setActive_kept h13) fun t16 a17 h18 => ?_
    exact State.setDom_kept h18
  clear_value x5
  have h20 : Kept r x7 := Kept.upd h14 rfl
  clear_value x7
  have h21 : Kept r x8 := State.setStage_kept h20
  clear_value x8
  have h22 : Kept r x11 := Kept.upd h13 rfl
  have h23 : Kept r x12 := State.setStage_kept h22
  clear_value x12
  exact Kept.ite (Kept.ite (Kept.upd h21 rfl) (State.enterRecovery_kept h20)) (Kept.ite (State.enterRecovery_kept h22) (Kept.ite h22 (State.logOpen_kept h23)))

theorem State.setFail_kept {a1} {a2} (h : Kept r s) : Kept r (State.setFail s a1 a2) := by
  unfold State.setFail
  exact Kept.ite (State.wr_kept h) (State.wr_kept h)

theorem State.copyChecked_kept {a1} {a2} (h : Kept r s) : Kept r (State.copyChecked s a1 a2) := by
  unfold State.copyChecked
  extract_lets x2 x3 x4 x5 x6
  have h7 : Kept r x3 := State.setFail_kept h
  clear_value x3
  have h8 : Kept r x4 := State.setStage_kept (State.wr_kept (State.wr_kept h7))
  clear_value x4
  have h9 : Kept r x6 := State.enterRecovery_kept h7
  clear_value x6
  clear_value x2 x5
  exact Kept.ite (Kept.upd h8 rfl) (Kept.ite (Kept.upd h7 rfl) (Kept.upd h9 rfl))

theorem State.answerRecovery_kept {a1} {a2} {a3} (h : Kept r s) : Kept r (State.answerRecovery s a1 a2 a3) := by
  unfold State.answerRecovery
  refine Kept.ite ?_ ?_
  · extract_lets x3 x4
    clear_value x3 x4
    exact Kept.upd h rfl
  · exact State.emit_kept h

theorem execColdStart_kept {a0} {a1} {a2} {a3} (h : Kept r s) : KeptNext r (execColdStart a0 a1 a2 a3 s) := by
  unfold execColdStart
  have h0 : Kept r ((State.reset.keepAlways s).watchDomains.sampleStraps a0) :=
    State.sampleStraps_kept (State.watchDomains_kept (State.keepAlways_kept h State.reset_canonical))
  dsimp only
  generalize ((State.reset.keepAlways s).watchDomains.sampleStraps a0) = s0 at h0
  have hx : Kept r (s0.setStage 1) := State.setStage_kept h0
  split
  · exact .next (State.haltStart_kept (Kept.upd hx rfl))
  · exact .next (State.holdIfFailing_kept (State.wr_kept (State.wr_kept (State.readHeaders_kept (Kept.upd hx rfl)))))

theorem execSettleDelayEnd_kept {a0} (h : Kept r s) : KeptNext r (execSettleDelayEnd a0 s) := by
  unfold execSettleDelayEnd
  refine KeptNext.next ?_
  refine Kept.ite ?_ ?_
  · refine State.step1_kept h (fun t4 h5 => ?_)
    refine State.orHalt_kept h5 (fun t7 h8 => ?_)
    exact State.setStage_kept h8
  · exact h

theorem execReferenceCheck_kept {a0} {a1} {a2} (h : Kept r s) : KeptNext r (execReferenceCheck a0 a1 a2 s) := by
  unfold execReferenceCheck
  refine KeptNext.next ?_
  refine Kept.ite ?_ ?_
  · refine State.step1_kept h (fun t4 h5 => ?_)
    refine State.orHalt_kept h5 (fun t7 h8 => ?_)
    exact State.referenceChecked_kept h8
  · exact h

theorem execReferenceCheckRetry_kept {a0} {a1} {a2} (h : Kept r s) : KeptNext r (execReferenceCheckRetry a0 a1 a2 s) := by
  unfold execReferenceCheckRetry
  refine KeptNext.next ?_
  refine Kept.ite ?_ ?_
  · refine State.step1_kept h (fun t4 h5 => ?_)
    refine State.orHalt_kept h5 (fun t7 h8 => ?_)
    exact State.referenceChecked_kept h8
  · exact h

theorem execCopyCheckComplete_kept {a0} {a1} (h : Kept r s) : KeptNext r (execCopyCheckComplete a0 a1 s) := by
  unfold execCopyCheckComplete
  split
  · refine KeptNext.next ?_
    refine Kept.ite ?_ ?_
    · refine State.step1_kept h (fun t8 h9 => ?_)
      refine State.orHalt_kept h9 (fun t11 h12 => ?_)
      exact State.copyChecked_kept h12
    · exact h
  · refine KeptNext.next ?_
    exact h

theorem execPwrFailBeforeReady_kept (h : Kept r s) : KeptNext r (execPwrFailBeforeReady s) := by
  unfold execPwrFailBeforeReady
  refine KeptNext.next ?_
  exact Kept.ite h (Kept.upd h rfl)

theorem execRecoveryStatus_kept {a0} (h : Kept r s) : KeptNext r (execRecoveryStatus a0 s) := by
  unfold execRecoveryStatus
  refine KeptNext.next ?_
  exact Kept.ite (State.answerRecovery_kept h) h

theorem execRecoveryErase_kept {a0} (h : Kept r s) : KeptNext r (execRecoveryErase a0 s) := by
  unfold execRecoveryErase
  extract_lets x2 x3
  clear_value x2 x3
  refine KeptNext.next ?_
  exact Kept.ite h (Kept.ite (State.answerRecovery_kept h) (State.answerRecovery_kept (State.norErase_kept h)))

theorem execRecoveryWrite_kept {a0} (h : Kept r s) : KeptNext r (execRecoveryWrite a0 s) := by
  unfold execRecoveryWrite
  extract_lets x2 x3 x4 x5
  clear_value x2 x3 x4 x5
  refine KeptNext.next ?_
  exact Kept.ite h (Kept.ite (State.answerRecovery_kept h) (State.answerRecovery_kept (State.norProgram_kept h)))

theorem execRecoveryCheck_kept {a0} {a1} (h : Kept r s) : KeptNext r (execRecoveryCheck a0 a1 s) := by
  unfold execRecoveryCheck
  extract_lets x2 x3 x4
  clear_value x2 x3 x4
  refine KeptNext.next ?_
  exact Kept.ite (State.answerRecovery_kept (State.setFail_kept h)) h

theorem execRecoveryRestart_kept {a0} {a1} (h : Kept r s) : KeptNext r (execRecoveryRestart a0 a1 s) := by
  unfold execRecoveryRestart
  refine KeptNext.next ?_
  exact Kept.ite (State.systemReset_kept h) h

theorem execSysRstN_kept (h : Kept r s) : KeptNext r (execSysRstN s) := by
  unfold execSysRstN
  extract_lets x2 x3
  have h4 : Kept r x2 := State.systemClear_kept h
  clear_value x2
  clear_value x3
  refine KeptNext.next ?_
  exact Kept.upd h4 rfl

theorem execSysRstNRelease_kept {a0} (h : Kept r s) : KeptNext r (execSysRstNRelease a0 s) := by
  unfold execSysRstNRelease
  refine KeptNext.ite ?_ ?_
  · refine KeptNext.next ?_
    exact State.restart3_kept (Kept.upd h rfl)
  · refine KeptNext.next ?_
    exact h

theorem execSysResetSystem_kept {a0} {a1} (h : Kept r s) : KeptNext r (execSysResetSystem a0 a1 s) := by
  unfold execSysResetSystem
  refine KeptNext.next ?_
  exact Kept.ite (State.systemReset_kept h) h

theorem execWatchModeRestart_kept {a0} (h : Kept r s) : KeptNext r (execWatchModeRestart a0 s) := by
  unfold execWatchModeRestart
  refine KeptNext.next ?_
  exact Kept.ite (State.systemReset_kept h) h

theorem execVin12Undervoltage_kept (h : Kept r s) : KeptNext r (execVin12Undervoltage s) := by
  unfold execVin12Undervoltage
  refine KeptNext.next ?_
  exact State.powerLoss_kept h

theorem execVin12Overvoltage_kept (h : Kept r s) : KeptNext r (execVin12Overvoltage s) := by
  unfold execVin12Overvoltage
  refine KeptNext.next ?_
  exact State.powerLoss_kept h

theorem actVin12Excursion_kept {a0} (h : Kept r s) : KeptNext r (actVin12Excursion a0 s) := by
  unfold actVin12Excursion
  refine KeptNext.next ?_
  split
  · exact Kept.ite (State.raise_kept h) h
  · exact State.raise_kept h

end Sys2Proof.Machine
end

