-- ==== Sys2Proof/Laws/KeptTwin.lean ====
section
/-!
SUPPORT. For each operation of Twin, Answers, Bays: what `Kept` says of the state it gives, so that no later proof
unfolds it.
-/

set_option linter.unusedVariables false

namespace Sys2Proof.Machine

variable {r s : State}

theorem State.holdBlock_kept {a1} (h : Kept r s) : Kept1 r (State.holdBlock s a1) := by
  unfold State.holdBlock
  extract_lets x2
  clear_value x2
  split
  · rename_i y4 y5 y6 y7
    have h8 : Kept r y5 := .of1 y7 (Kept1.ite (State.takeBuffers_kept h) (Kept1.mk h))
    refine Kept1.ite ?_ ?_
    · exact Kept1.mk h8
    · extract_lets x12 x13
      have h14 : Kept r x13 := Kept.upd h8 rfl
      clear_value x13
      clear_value x12
      refine Kept1.mk ?_
      refine Kept.foldl h14 fun t17 a18 h19 => ?_
      exact State.setRsv_kept h19

theorem State.releaseHeld_kept {a1} {a2} (h : Kept r s) : Kept r (State.releaseHeld s a1 a2) := by
  unfold State.releaseHeld
  extract_lets x2 x3 x4 x5
  have h6 : Kept r x5 := Kept.upd h rfl
  clear_value x5
  clear_value x2 x3 x4
  refine Kept.foldl h6 fun t8 a9 h10 => ?_
  exact State.freeBuffers_kept h10

theorem State.holdCmdRec_kept {a1} (h : Kept r s) : Kept1 r (State.holdCmdRec s a1) := by
  unfold State.holdCmdRec
  split
  · rename_i y2 y3 y4 y5
    have h6 : Kept r y3 := .of1 y5 (Kept1.ite (Kept1.mk h) (State.takeBuffers_kept h))
    exact Kept1.ite (Kept1.mk h6) (Kept1.mk (Kept.upd h6 rfl))

theorem State.dropRecs_kept {a1} (h : Kept r s) : Kept r (State.dropRecs s a1) := by
  unfold State.dropRecs
  refine Kept.foldl (Kept.upd h rfl) fun t2 a3 h4 => ?_
  exact State.freeBuffers_kept h4

theorem State.holdState_kept {a1} (h : Kept r s) : Kept r (State.holdState s a1) := by
  unfold State.holdState
  refine Kept.ite ?_ ?_
  · exact State.dropRecs_kept h
  · extract_lets x4 x5
    clear_value x5
    exact Kept.upd h rfl

theorem State.holdAssoc_kept {a1} (h : Kept r s) : Kept r (State.holdAssoc s a1) := by
  unfold State.holdAssoc
  extract_lets x2 x3
  clear_value x2 x3
  exact Kept.ite (State.dropRecs_kept (Kept.upd h rfl)) (Kept.upd h rfl)

theorem State.showPartner_kept {a1} (h : Kept r s) : Kept r (State.showPartner s a1) := by
  unfold State.showPartner
  extract_lets x2
  clear_value x2
  exact State.showCrew_kept h

theorem State.holdCrew_kept {a1} (h : Kept r s) : Kept r (State.holdCrew s a1) := by
  unfold State.holdCrew
  extract_lets x2 x3 x4 x5 x6 x7
  have h8 : Kept r x3 := State.showPartner_kept (State.wr_kept (Kept.upd h rfl))
  clear_value x3
  have h9 : Kept r x4 := by
    unfold x4
    refine Kept.ite ?_ ?_
    · exact h8
    · refine Kept.foldl h8 fun t13 a14 h15 => ?_
      refine Kept.foldl h15 fun t17 a18 h19 => ?_
      split
      · split
        · exact Kept.ite (State.absentSeat_kept h19) h19
        · exact h19
      · exact h19
  clear_value x4
  have h35 : Kept r x7 := Kept.upd h9 rfl
  clear_value x7
  clear_value x2 x5 x6
  exact Kept.ite (Kept.ite (State.raise_kept h35) h35) h9

theorem State.ackTwin_kept {a1} (h : Kept r s) : Kept r (State.ackTwin s a1) := by
  unfold State.ackTwin
  extract_lets x2 x3 x4 x5 x6 x7
  have h8 : Kept r x3 := Kept.upd h rfl
  clear_value x3
  have h9 : Kept r x5 := State.raise_kept (State.wr_kept (Kept.upd h8 rfl))
  clear_value x5
  clear_value x2 x4 x6 x7
  split
  · exact h8
  · exact Kept.ite h8 (Kept.ite (Kept.upd h9 rfl) h9)

theorem State.rxFrame_kept {a1} {a2 : State → State × Bool} (h : Kept r s) (g2 : ∀ b0, Kept r b0 → Kept1 r (a2 b0)) : Kept r (State.rxFrame s a1 a2) := by
  unfold State.rxFrame
  refine Kept.ite ?_ ?_
  · exact h
  · refine Kept.ite ?_ ?_
    · exact State.sendTwin_kept h
    · extract_lets x6 x7
      have h8 : Kept r x6 := State.ackTwin_kept h
      clear_value x6
      clear_value x7
      refine Kept.ite ?_ ?_
      · split
        · rename_i y11 y12 y13 y14
          have h15 : Kept r y12 := .of1 y14 (g2 _ (Kept.upd h8 rfl))
          exact Kept.ite h15 (Kept.upd h15 rfl)
      · exact Kept.ite h8 (State.sendTwin_kept h8)

theorem State.resendTwin_kept (h : Kept r s) : Kept r (State.resendTwin s) := by
  unfold State.resendTwin
  refine Kept.foldl h fun t2 a3 h4 => ?_
  exact State.emit_kept h4

theorem State.unframe_kept (h : Kept r s) : Kept r (State.unframe s) := by
  unfold State.unframe
  extract_lets x2 x3 x4 x5 x6
  clear_value x2 x4 x5 x6
  exact Kept.upd h rfl

theorem State.syncSegment_kept {a1} {a2} (h : Kept r s) : Kept r (State.syncSegment s a1 a2) := by
  unfold State.syncSegment
  refine Kept.foldl h fun t2 a3 h4 => ?_
  extract_lets x6
  clear_value x6
  exact State.modSegment_kept (State.sendTwin_kept h4)

theorem State.syncPartner_kept (h : Kept r s) : Kept r (State.syncPartner s) := by
  unfold State.syncPartner
  extract_lets x2 x3 x4 x5 x6 x7 x8 x9 x10 x11
  have h12 : Kept r x3 := by
    unfold x3
    refine Kept.foldl h fun t14 a15 h16 => ?_
    unfold x2
    exact State.sendTwin_kept h16
  clear_value x3
  have h19 : Kept r x4 := by
    unfold x4
    refine Kept.foldl h12 fun t21 a22 h23 => ?_
    extract_lets x25
    have h26 : Kept r x25 := by
      unfold x25
      unfold x2
      exact State.sendTwin_kept h23
    clear_value x25
    refine Kept.ite ?_ ?_
    · unfold x2
      exact State.sendTwin_kept h26
    · exact h26
  clear_value x4
  have h33 : Kept r x5 := by
    unfold x5
    refine Kept.foldl h19 fun t35 a36 h37 => ?_
    unfold x2
    exact State.sendTwin_kept h37
  clear_value x5
  have h40 : Kept r x6 := by
    unfold x6
    refine Kept.foldl h33 fun t42 a43 h44 => ?_
    refine Kept.foldl h44 fun t46 a47 h48 => ?_
    exact State.syncSegment_kept h48
  clear_value x6
  have h50 : Kept r x7 := by
    unfold x7
    refine Kept.foldl h40 fun t52 a53 h54 => ?_
    unfold x2
    exact State.sendTwin_kept h54
  clear_value x7
  have h57 : Kept r x8 := by
    unfold x8
    refine Kept.foldl h50 fun t59 a60 h61 => ?_
    unfold x2
    exact State.sendTwin_kept h61
  clear_value x8
  have h64 : Kept r x10 := by
    unfold x10
    unfold x2
    exact State.sendTwin_kept h57
  clear_value x10
  clear_value x9 x11
  exact Kept.upd h64 rfl

theorem State.takeSync_kept {a1} (h : Kept r s) : Kept1 r (State.takeSync s a1) := by
  unfold State.takeSync
  split
  · exact Kept1.mk (State.holdAssoc_kept h)
  · exact State.holdCmdRec_kept h
  · exact Kept1.mk (State.holdState_kept h)
  · exact State.holdBlock_kept h
  · exact Kept1.mk (State.holdCrew_kept h)
  · exact Kept1.mk (Kept.upd h rfl)
  · exact Kept1.mk (State.setRsv_kept h)
  · exact Kept1.ite (Kept1.mk (State.raise_kept (State.wr_kept h))) (Kept1.mk h)

theorem State.clearMirror_kept (h : Kept r s) : Kept r (State.clearMirror s) := by
  unfold State.clearMirror
  extract_lets x2 x3
  have h4 : Kept r x2 := by
    unfold x2
    refine Kept.foldl (State.dropRecs_kept h) fun t6 a7 h8 => ?_
    exact State.freeBuffers_kept h8
  clear_value x2
  clear_value x3
  exact Kept.upd h4 rfl

theorem State.linkTrained_kept {a1} {a2} {a3} {a4} {a5} (h : Kept r s) : Kept r (State.linkTrained s a1 a2 a3 a4 a5) := by
  unfold State.linkTrained
  refine Kept.ite ?_ ?_
  · exact h
  · extract_lets x4 x5 x6 x7 x8 x9 x10 x11
    have h12 : Kept r x4 := State.wr_kept h
    clear_value x4
    have h13 : Kept r x6 := State.unframe_kept (Kept.upd h12 rfl)
    clear_value x6
    have h14 : Kept r x9 := State.wr_kept (Kept.upd h13 rfl)
    clear_value x9
    have h15 : Kept r x10 := Kept.ite h14 (State.raise_kept (Kept.ite (State.wrBoth_kept h14) h14))
    clear_value x10
    clear_value x5 x7 x8 x11
    exact Kept.ite (State.raise_kept (State.wr_kept (State.wr_kept (Kept.upd h13 rfl)))) (Kept.ite (Kept.ite (State.wr_kept (Kept.upd h15 rfl)) (State.wr_kept h15)) (Kept.ite h15 (State.syncPartner_kept h15)))

theorem State.acquireBays_kept {a1} {a2} (h : Kept r s) : Kept r (State.acquireBays s a1 a2) := by
  unfold State.acquireBays
  extract_lets x2 x3
  have h4 : Kept r x2 := by
    unfold x2
    refine Kept.foldl h fun t6 a7 h8 => ?_
    exact State.issueBay_kept h8
  clear_value x2
  clear_value x3
  exact Kept.upd h4 rfl

theorem State.startTakeover_kept (h : Kept r s) : Kept r (State.startTakeover s) := by
  unfold State.startTakeover
  extract_lets x2
  have h3 : Kept r x2 := Kept.ite h (State.becomeOwner_kept h)
  clear_value x2
  exact State.acquireBays_kept h3

theorem State.partnerLost_kept {a1} (h : Kept r s) : Kept r (State.partnerLost s a1) := by
  unfold State.partnerLost
  extract_lets x2 x3 x4 x5 x6 x7 x8 x9
  have h10 : Kept r x4 := Kept.ite h (State.clearMirror_kept h)
  clear_value x4
  have h11 : Kept r x5 := State.wr_kept (State.wr_kept h10)
  clear_value x5
  have h12 : Kept r x7 := Kept.upd h11 rfl
  clear_value x7
  have h13 : Kept r x8 := State.raise_kept h12
  clear_value x8
  clear_value x2 x3 x6 x9
  refine Kept.ite ?_ ?_
  · exact h
  · refine Kept.ite ?_ ?_
    · exact Kept.ite (State.startTakeover_kept h) h
    · refine Kept.ite ?_ ?_
      · exact Kept.upd h rfl
      · refine Kept.ite ?_ ?_
        · exact h
        · split
          · rename_i y23 y24 y25 y26
            have h27 : Kept r y24 := .of1 y26 (Kept1.ite (State.handOver_kept h13) (Kept1.mk h13))
            extract_lets x29 x30
            have h31 : Kept r x30 := Kept.upd h27 rfl
            clear_value x30
            clear_value x29
            exact Kept.ite h31 (State.startTakeover_kept h31)

theorem State.goTakeover_kept (h : Kept r s) : Kept r (State.goTakeover s) := by
  unfold State.goTakeover
  extract_lets x2 x3
  have h4 : Kept r x3 := Kept.upd h rfl
  clear_value x3
  clear_value x2
  exact Kept.ite h4 (Kept.ite h4 (State.startTakeover_kept h4))

theorem State.declineTakeover_kept (h : Kept r s) : Kept r (State.declineTakeover s) := by
  unfold State.declineTakeover
  exact State.raise_kept (State.wr_kept (Kept.upd h rfl))

theorem State.deferEnds_kept (h : Kept r s) : Kept r (State.deferEnds s) := by
  unfold State.deferEnds
  refine Kept.ite ?_ ?_
  · exact h
  · extract_lets x4 x5 x6
    have h7 : Kept r x4 := State.becomeOwner_kept h
    clear_value x4
    have h8 : Kept r x6 := Kept.upd h7 rfl
    clear_value x6
    clear_value x5
    exact Kept.ite (State.startTakeover_kept h8) h8

theorem State.fence_kept {a1} (h : Kept r s) : Kept r (State.fence s a1) := by
  unfold State.fence
  extract_lets x2 x3 x4
  have h5 : Kept r x3 := Kept.upd h rfl
  clear_value x3
  have h6 : Kept r x4 := by
    unfold x4
    refine Kept.foldl h5 fun t8 a9 h10 => ?_
    exact State.lportDown_kept h10
  clear_value x4
  clear_value x2
  exact State.systemReset_kept (State.raise_kept (State.wr_kept h6))

theorem State.adoptCrew_kept {a1} {a2} {a3} (h : Kept r s) : Kept r (State.adoptCrew s a1 a2 a3) := by
  unfold State.adoptCrew
  extract_lets x2 x3 x4 x5 x6 x7 x8 x9 x10 x11 x12 x13
  have h14 : Kept r x9 := by
    unfold x9
    refine Kept.foldl ?_ fun t16 a17 h18 => ?_
    · exact State.free_kept h
    · exact State.freeBuffers_kept h18
  clear_value x9
  have h21 : Kept r x11 := Kept.upd h14 rfl
  clear_value x11
  clear_value x2 x3 x4 x5 x6 x7 x8 x10 x12 x13
  split
  · extract_lets x28 x29 x30 x31 x32 x33 x34 x35 x36 x37 x38 x39
    have h40 : Kept r x29 := State.crewVolumes_kept (State.wrBit_kept (State.setCrew_kept h21))
    clear_value x29
    have h41 : Kept r x30 := by
      unfold x30
      refine Kept.foldl h40 fun t43 a44 h45 => ?_
      exact State.modSeat_kept h45
    clear_value x30
    have h47 : Kept r x32 := by
      unfold x32
      refine Kept.foldl h41 fun t49 a50 h51 => ?_
      exact State.modVol_kept h51
    clear_value x32
    have h53 : Kept r x33 := by
      unfold x33
      refine Kept.foldl h47 fun t55 a56 h57 => ?_
      exact State.markFull_kept h57
    clear_value x33
    have h59 : Kept r x34 := by
      unfold x34
      refine Kept.foldl (State.replayRecs_kept h53) fun t61 a62 h63 => ?_
      exact State.keepLive_kept h63
    clear_value x34
    have h65 : Kept r x36 := State.noteTorn_kept (State.startReplayed_kept (State.modCrew_kept h59))
    clear_value x36
    have h66 : Kept r x37 := by
      unfold x37
      refine Kept.foldl (State.pushBlocks_kept h65) fun t68 a69 h70 => ?_
      split
      · split
        · exact Kept.ite (State.failSeat_kept h70) h70
        · exact h70
      · exact h70
    clear_value x37
    have h86 : Kept r x38 := by
      unfold x38
      split
      · refine Kept.foldl h66 fun t92 a93 h94 => ?_
        exact State.cancelGroup_kept h94
      · exact h66
    clear_value x38
    clear_value x28 x31 x35 x39
    exact Kept.upd h86 rfl

theorem State.adoptAssoc_kept {a1} (h : Kept r s) : Kept r (State.adoptAssoc s a1) := by
  unfold State.adoptAssoc
  extract_lets x2 x3 x4 x5 x6
  clear_value x2 x3 x4 x5 x6
  exact State.showTarget_kept (Kept.upd h rfl)

theorem State.adoptCmd_kept {a1} (h : Kept r s) : Kept r (State.adoptCmd s a1) := by
  unfold State.adoptCmd
  extract_lets x2 x3 x4 x5 x6 x7
  clear_value x2 x3 x4 x5 x6 x7
  refine Kept.ite ?_ ?_
  · exact h
  · split
    · rename_i y11 y12 y13 y14
      have h15 : Kept r y12 := .of1 y14 (Kept1.ite (State.newMsgid_kept h) (Kept1.mk h))
      extract_lets x17 x18 x19 x20
      have h21 : Kept r x19 := Kept.upd h15 rfl
      clear_value x19
      clear_value x17 x18 x20
      split
      · rename_i y23 y24 y25 y26
        have h27 : Kept r y12 := .of1 y14 (Kept1.ite (State.newMsgid_kept h) (Kept1.mk h))
        exact Kept.upd h21 rfl
      · exact Kept.ite (State.toStep_kept (State.answer_kept h21)) h21

theorem State.adoptAll_kept {a1} {a2} (h : Kept r s) : Kept r (State.adoptAll s a1 a2) := by
  unfold State.adoptAll
  extract_lets x2 x3 x4 x5 x6 x7 x8 x9 x10 x11 x12 x13 x14 x15 x16 x17 x18
  have h19 : Kept r x5 := Kept.upd h rfl
  clear_value x5
  have h20 : Kept r x6 := by
    unfold x6
    refine Kept.foldl h19 fun t22 a23 h24 => ?_
    exact State.raise_kept h24
  clear_value x6
  have h26 : Kept r x8 := Kept.ite (State.settleAddrs_kept (Kept.upd h20 rfl)) h20
  clear_value x8
  have h27 : Kept r x9 := by
    unfold x9
    refine Kept.foldl h26 fun t29 a30 h31 => ?_
    exact State.adoptCrew_kept h31
  clear_value x9
  have h33 : Kept r x10 := by
    unfold x10
    refine Kept.foldl h27 fun t35 a36 h37 => ?_
    exact State.adoptAssoc_kept h37
  clear_value x10
  have h39 : Kept r x11 := by
    unfold x11
    refine Kept.foldl h33 fun t41 a42 h43 => ?_
    exact State.adoptCmd_kept h43
  clear_value x11
  have h45 : Kept r x12 := by
    unfold x12
    refine Kept.foldl h39 fun t47 a48 h49 => ?_
    exact State.nakTakeover_kept h49
  clear_value x12
  have h51 : Kept r x13 := State.dropRecs_kept h45
  clear_value x13
  have h52 : Kept r x16 := Kept.upd h51 rfl
  clear_value x16
  clear_value x2 x3 x4 x7 x14 x15 x17 x18
  refine Kept.ite ?_ ?_
  · exact State.wr_kept (State.raise_kept (State.wr_kept (Kept.upd h52 rfl)))
  · refine State.raise_kept ?_
    refine Kept.foldl h52 fun t57 a58 h59 => ?_
    split
    · exact Kept1.fst (State.mirror_kept h59)
    · exact h59

theorem State.crewToMirror_kept {a1} {a2} (h : Kept r s) : Kept r (State.crewToMirror s a1 a2) := by
  unfold State.crewToMirror
  extract_lets x2 x3 x4 x5 x6 x7
  have h8 : Kept r x4 := by
    unfold x4
    refine Kept.foldl h fun t10 a11 h12 => ?_
    exact State.freeBuffers_kept h12
  clear_value x4
  have h14 : Kept r x6 := Kept.upd h8 rfl
  clear_value x6
  clear_value x2 x3 x5 x7
  exact Kept.upd h14 rfl

theorem State.dropCrew_kept {a1} (h : Kept r s) : Kept r (State.dropCrew s a1) := by
  unfold State.dropCrew
  extract_lets x2 x3 x4 x5 x6
  have h7 : Kept r x3 := State.dropVolumes_kept h
  clear_value x3
  have h8 : Kept r x4 := by
    unfold x4
    refine Kept.foldl h7 fun t10 a11 h12 => ?_
    exact State.freeBuffers_kept h12
  clear_value x4
  have h14 : Kept r x6 := Kept.upd h8 rfl
  clear_value x6
  clear_value x2 x5
  exact State.wrBit_kept h14

theorem State.handAssocs_kept {a1} (h : Kept r s) : Kept r (State.handAssocs s a1) := by
  unfold State.handAssocs
  extract_lets x2 x3 x4 x5 x6 x7 x8 x9
  have h10 : Kept r x6 := by
    unfold x6
    refine Kept.foldl h fun t12 a13 h14 => ?_
    extract_lets x16 x17 x18 x19
    have h20 : Kept r x16 := State.endItems_kept h14
    clear_value x16
    clear_value x17 x18 x19
    refine Kept.foldl (Kept.upd h20 rfl) fun t22 a23 h24 => ?_
    exact State.freeBuffers_kept h24
  clear_value x6
  clear_value x2 x4 x5 x7 x8 x9
  exact State.showTarget_kept (Kept.upd h10 rfl)

theorem State.handOverCrews_kept {a1} {a2} (h : Kept r s) : Kept r (State.handOverCrews s a1 a2) := by
  unfold State.handOverCrews
  extract_lets x2 x3 x4 x5 x6 x7 x8 x9 x10 x11 x12 x13
  have h14 : Kept r x3 := Kept.upd h rfl
  clear_value x3
  have h15 : Kept r x5 := by
    unfold x5
    refine Kept.foldl h14 fun t17 a18 h19 => ?_
    refine Kept.foldl h19 fun t21 a22 h23 => ?_
    exact State.issueIo_kept h23
  clear_value x5
  have h25 : Kept r x6 := State.sendTwin_kept h15
  clear_value x6
  have h26 : Kept r x7 := by
    unfold x7
    refine Kept.foldl h25 fun t28 a29 h30 => ?_
    exact State.crewToMirror_kept h30
  clear_value x7
  have h32 : Kept r x8 := by
    unfold x8
    refine Kept.foldl (State.handAssocs_kept h26) fun t34 a35 h36 => ?_
    exact State.dropCrew_kept h36
  clear_value x8
  have h38 : Kept r x10 := State.showPvols_kept (Kept.upd h32 rfl)
  clear_value x10
  have h39 : Kept r x12 := State.settleAddrs_kept (Kept.upd h38 rfl)
  clear_value x12
  clear_value x2 x4 x9 x11 x13
  exact Kept.ite (Kept.ite (Kept.ite h39 (Kept.upd h39 rfl)) (Kept.ite (State.loseOwner_kept h39) h39)) h39

theorem State.takeHandover_kept {a1} {a2} (h : Kept r s) : Kept r (State.takeHandover s a1 a2) := by
  unfold State.takeHandover
  extract_lets x2 x3 x4 x5 x6 x7
  have h8 : Kept r x3 := Kept.ite (State.becomeOwner_kept h) h
  clear_value x3
  have h9 : Kept r x5 := Kept.ite (State.settleAddrs_kept (Kept.upd h8 rfl)) h8
  clear_value x5
  clear_value x2 x4 x6 x7
  exact State.acquireBays_kept (Kept.upd h9 rfl)

theorem State.dropItem_kept {a1} {a2} (h : Kept r s) : Kept r (State.dropItem s a1 a2) := by
  unfold State.dropItem
  exact State.setCmd_kept h

theorem State.admitFlow_kept {a1} (h : Kept r s) : Kept r (State.admitFlow s a1) := by
  unfold State.admitFlow
  split
  · exact State.unpark_kept (State.setFlow_kept h)
  · exact h

theorem State.refuseFlow_kept {a1} (h : Kept r s) : Kept r (State.refuseFlow s a1) := by
  unfold State.refuseFlow
  split
  · extract_lets x6
    clear_value x6
    exact State.dropFlow_kept (State.sendNak_kept h)
  · exact h

theorem State.keyCompared_kept {a1} {a2} (h : Kept r s) : Kept r (State.keyCompared s a1 a2) := by
  unfold State.keyCompared
  split
  · exact h
  · refine Kept.ite ?_ ?_
    · exact State.keyFails_kept h
    · extract_lets x11
      have h12 : Kept r x11 := State.dropItem_kept h
      clear_value x11
      exact Kept.ite (State.keysPassed_kept h12) h12

theorem State.missEnds_kept {a1} {a2} (h : Kept r s) : Kept r (State.missEnds s a1 a2) := by
  unfold State.missEnds
  split
  · exact h
  · extract_lets x9 x10 x11 x12
    have h13 : Kept r x9 := State.dropItem_kept h
    clear_value x9
    have h14 : Kept r x12 := Kept.upd h13 rfl
    clear_value x12
    clear_value x10 x11
    split
    · exact h14
    · extract_lets x23 x24
      clear_value x23 x24
      exact State.giveEntry_kept h14

theorem State.victimsChosen_kept {a1} {a2} (h : Kept r s) : Kept r (State.victimsChosen s a1 a2) := by
  unfold State.victimsChosen
  split
  · refine Kept.ite ?_ ?_
    · exact h
    · extract_lets x8
      have h9 : Kept r x8 := State.modVol_kept h
      clear_value x8
      split
      · exact State.collect_kept h9
      · exact State.collectOwn_kept h9
  · exact h

theorem State.planChosen_kept {a1} {a2} {a3} (h : Kept r s) : Kept r (State.planChosen s a1 a2 a3) := by
  unfold State.planChosen
  split
  · exact Kept.ite (State.startRebuild_kept h) h
  · exact h

theorem State.pacingChosen_kept {a1} {a2} (h : Kept r s) : Kept r (State.pacingChosen s a1 a2) := by
  unfold State.pacingChosen
  exact State.modCrew_kept h

theorem State.seatJudged_kept {a1} {a2} (h : Kept r s) : Kept r (State.seatJudged s a1 a2) := by
  unfold State.seatJudged
  split
  · refine Kept.ite ?_ ?_
    · exact h
    · extract_lets x8
      have h9 : Kept r x8 := State.modSeat_kept h
      clear_value x8
      exact Kept.ite (State.easySeat_kept h9) (Kept.ite (State.failSeat_kept h9) h9)
  · exact h

theorem State.modeChosen_kept {a1} {a2} (h : Kept r s) : Kept r (State.modeChosen s a1 a2) := by
  unfold State.modeChosen
  exact Kept.upd h rfl

theorem State.ladderChosen_kept {a1} {a2} (h : Kept r s) : Kept r (State.ladderChosen s a1 a2) := by
  unfold State.ladderChosen
  split
  · refine Kept.ite ?_ ?_
    · exact h
    · split
      · exact State.ladderStep_kept h
      · exact State.ladderDone_kept h
  · exact h

theorem State.completeOwn_kept {a1} (h : Kept r s) : Kept r (State.completeOwn s a1) := by
  unfold State.completeOwn
  split
  · exact State.admitFlow_kept h
  · split
    · exact State.keyCompared_kept h
    · exact h
  · exact State.missEnds_kept h
  · exact State.victimsChosen_kept h
  · exact State.planChosen_kept h
  · exact State.pacingChosen_kept h
  · exact State.seatJudged_kept h
  · extract_lets x33 x34
    clear_value x33 x34
    exact Kept.upd h rfl
  · exact State.modeChosen_kept h
  · split
    · exact State.ladderChosen_kept h
    · exact h
  · exact Kept.ite (State.failover_kept h) h
  · exact Kept.ite (State.goTakeover_kept h) h
  · exact h

theorem State.fallBack_kept {a1} (h : Kept r s) : Kept r (State.fallBack s a1) := by
  unfold State.fallBack
  split
  · exact State.completeOwn_kept (State.fallItem_kept h)
  · exact h

theorem State.fallAll_kept {a1} (h : Kept r s) : Kept r (State.fallAll s a1) := by
  unfold State.fallAll
  refine Kept.foldl h fun t2 a3 h4 => ?_
  exact State.fallBack_kept h4

theorem State.unroute_kept {a1} (h : Kept r s) : Kept r (State.unroute s a1) := by
  unfold State.unroute
  extract_lets x2 x3 x4
  clear_value x3 x4
  exact Kept.upd h rfl

theorem State.hostReadFailed_kept {a1} (h : Kept r s) : Kept r (State.hostReadFailed s a1) := by
  unfold State.hostReadFailed
  exact State.raise_kept (State.raiseOnce_kept (State.bump_kept h))

theorem State.finishAnswer_kept {a1} {a2} (h : Kept r s) : Kept r (State.finishAnswer s a1 a2) := by
  unfold State.finishAnswer
  exact State.countOpen_kept (State.finish_kept h)

theorem State.answerWith_kept {a1 a2 a3 a4} {act : Entry → Item → State → Option State} (h : Kept r s)
    (g : ∀ e it t u, Kept r t → act e it t = some u → Kept r u) : Kept r (State.answerWith s a1 a2 a3 a4 act) := by
  unfold State.answerWith
  split
  · exact h
  · extract_lets e cox
    split
    · exact State.finishAnswer_kept h
    · refine Kept.ite (State.finishAnswer_kept h) (Kept.ite h (Kept.ite (State.finishAnswer_kept h) (Kept.ite h
        (Kept.ite (State.finishAnswer_kept (State.hostReadFailed_kept h)) ?_))))
      split
      · next hu => exact State.carryOn_kept (State.finishAnswer_kept (g _ _ _ _ (State.endItem_kept h) hu))
      · exact State.finishAnswer_kept h

theorem State.answerPlain_kept {a1 a2 a3} {act : Item → State → State} (h : Kept r s)
    (g : ∀ it t, Kept r t → Kept r (act it t)) : Kept r (State.answerPlain s a1 a2 a3 act) := by
  unfold State.answerPlain
  refine State.answerWith_kept h fun e it t u ht hu => ?_
  split at hu
  · obtain rfl := Option.some.inj hu; exact g _ _ ht
  · cases hu

theorem execFallbackPoint_kept {a0} (h : Kept r s) : KeptNext r (execFallbackPoint a0 s) := by
  unfold execFallbackPoint
  refine KeptNext.next ?_
  split
  · exact State.carryOn_kept (State.fallBack_kept (State.passTo_kept h))
  · exact h

theorem actAnswerAdmit_kept {a0} (h : Kept r s) : KeptNext r (actAnswerAdmit a0 s) := by
  unfold actAnswerAdmit
  refine KeptNext.next ?_
  refine State.answerPlain_kept h (fun t3 t4 h5 => ?_)
  exact State.admitFlow_kept h5

theorem actAnswerRefuse_kept {a0} (h : Kept r s) : KeptNext r (actAnswerRefuse a0 s) := by
  unfold actAnswerRefuse
  refine KeptNext.next ?_
  refine State.answerPlain_kept h (fun t3 t4 h5 => ?_)
  exact State.refuseFlow_kept h5

theorem actAnswerMatch_kept {a0} (h : Kept r s) : KeptNext r (actAnswerMatch a0 s) := by
  unfold actAnswerMatch
  refine KeptNext.next ?_
  refine State.answerPlain_kept h (fun t3 t4 h5 => ?_)
  exact State.keyCompared_kept h5

theorem actAnswerMismatch_kept {a0} (h : Kept r s) : KeptNext r (actAnswerMismatch a0 s) := by
  unfold actAnswerMismatch
  refine KeptNext.next ?_
  refine State.answerPlain_kept h (fun t3 t4 h5 => ?_)
  exact State.keyCompared_kept h5

theorem actAnswerMapEntry_kept {a0} (h : Kept r s) : KeptNext r (actAnswerMapEntry a0 s) := by
  unfold actAnswerMapEntry
  refine .next (State.answerWith_kept h fun e it t u ht hu => ?_)
  split at hu
  · obtain rfl := Option.some.inj hu; exact State.missEnds_kept ht
  · cases hu

theorem actAnswerVictims_kept {a0} {a1} (h : Kept r s) : KeptNext r (actAnswerVictims a0 a1 s) := by
  unfold actAnswerVictims
  refine .next (State.answerWith_kept h fun e it t u ht hu => ?_)
  dsimp only at hu
  split at hu
  · cases hu
  · obtain rfl := Option.some.inj hu; exact State.victimsChosen_kept ht

theorem actAnswerRebuildPlan_kept {a0} {a1} (h : Kept r s) : KeptNext r (actAnswerRebuildPlan a0 a1 s) := by
  unfold actAnswerRebuildPlan
  refine .next (State.answerWith_kept h fun e it t u ht hu => ?_)
  dsimp only at hu
  split at hu
  · cases hu
  · obtain rfl := Option.some.inj hu; exact State.planChosen_kept ht

theorem actAnswerPatrolWindows_kept {a0} {a1} (h : Kept r s) : KeptNext r (actAnswerPatrolWindows a0 a1 s) := by
  unfold actAnswerPatrolWindows
  refine .next (State.answerWith_kept h fun e it t u ht hu => ?_)
  dsimp only at hu
  split at hu
  · cases hu
  · obtain rfl := Option.some.inj hu; exact State.pacingChosen_kept ht

theorem actAnswerEasy_kept {a0} (h : Kept r s) : KeptNext r (actAnswerEasy a0 s) := by
  unfold actAnswerEasy
  refine KeptNext.next ?_
  refine State.answerPlain_kept h (fun t3 t4 h5 => ?_)
  exact State.seatJudged_kept h5

theorem actAnswerKeep_kept {a0} (h : Kept r s) : KeptNext r (actAnswerKeep a0 s) := by
  unfold actAnswerKeep
  refine KeptNext.next ?_
  refine State.answerPlain_kept h (fun t3 t4 h5 => ?_)
  exact State.seatJudged_kept h5

theorem actAnswerFail_kept {a0} (h : Kept r s) : KeptNext r (actAnswerFail a0 s) := by
  unfold actAnswerFail
  refine KeptNext.next ?_
  refine State.answerPlain_kept h (fun t3 t4 h5 => ?_)
  exact State.seatJudged_kept h5

theorem actAnswerKeyMaterial_kept {a0} {a1} (h : Kept r s) : KeptNext r (actAnswerKeyMaterial a0 a1 s) := by
  unfold actAnswerKeyMaterial
  refine .next (State.answerWith_kept h fun e it t u ht hu => ?_)
  dsimp only at hu
  split at hu
  · cases hu
  · obtain rfl := Option.some.inj hu; exact State.afterUnwrap_kept (State.endUnwrap_kept ht)

theorem actAnswerUnwrapRefuse_kept {a0} (h : Kept r s) : KeptNext r (actAnswerUnwrapRefuse a0 s) := by
  unfold actAnswerUnwrapRefuse
  refine KeptNext.next ?_
  refine State.answerPlain_kept h (fun t3 t4 h5 => ?_)
  exact State.afterUnwrap_kept (State.endUnwrap_kept h5)

theorem actAnswerStatic_kept {a0} (h : Kept r s) : KeptNext r (actAnswerStatic a0 s) := by
  unfold actAnswerStatic
  refine KeptNext.next ?_
  refine State.answerPlain_kept h (fun t3 t4 h5 => ?_)
  exact State.modeChosen_kept h5

theorem actAnswerDynamicByRule_kept {a0} (h : Kept r s) : KeptNext r (actAnswerDynamicByRule a0 s) := by
  unfold actAnswerDynamicByRule
  refine KeptNext.next ?_
  refine State.answerPlain_kept h (fun t3 t4 h5 => ?_)
  exact State.modeChosen_kept h5

theorem actAnswerDynamicAlways_kept {a0} (h : Kept r s) : KeptNext r (actAnswerDynamicAlways a0 s) := by
  unfold actAnswerDynamicAlways
  refine KeptNext.next ?_
  refine State.answerPlain_kept h (fun t3 t4 h5 => ?_)
  exact State.modeChosen_kept h5

theorem actAnswerHostTables_kept {a0} {a1} (h : Kept r s) : KeptNext r (actAnswerHostTables a0 a1 s) := by
  unfold actAnswerHostTables
  refine .next (State.answerWith_kept h fun e it t u ht hu => ?_)
  dsimp only at hu
  split at hu
  · cases hu
  · split at hu
    · obtain rfl := Option.some.inj hu; exact State.modeChosen_kept ht
    · obtain rfl := Option.some.inj hu; exact State.raise_kept (State.modeChosen_kept ht)

theorem actAnswerTakeStep_kept {a0} (h : Kept r s) : KeptNext r (actAnswerTakeStep a0 s) := by
  unfold actAnswerTakeStep
  refine .next (State.answerWith_kept h fun e it t u ht hu => ?_)
  split at hu
  · obtain rfl := Option.some.inj hu; exact State.ladderChosen_kept ht
  · cases hu

theorem actAnswerResume_kept {a0} (h : Kept r s) : KeptNext r (actAnswerResume a0 s) := by
  unfold actAnswerResume
  refine KeptNext.next ?_
  refine State.answerPlain_kept h (fun t3 t4 h5 => ?_)
  exact State.ladderChosen_kept h5

theorem actAnswerClockKeep_kept {a0} (h : Kept r s) : KeptNext r (actAnswerClockKeep a0 s) := by
  unfold actAnswerClockKeep
  refine KeptNext.next ?_
  refine State.answerPlain_kept h (fun t3 t4 h5 => ?_)
  exact h5

theorem actAnswerClockSwitch_kept {a0} (h : Kept r s) : KeptNext r (actAnswerClockSwitch a0 s) := by
  unfold actAnswerClockSwitch
  refine KeptNext.next ?_
  refine State.answerPlain_kept h (fun t3 t4 h5 => ?_)
  exact Kept.ite h5 (Kept.ite (State.failover_kept h5) (State.raise_kept h5))

theorem actAnswerTakeOver_kept {a0} (h : Kept r s) : KeptNext r (actAnswerTakeOver a0 s) := by
  unfold actAnswerTakeOver
  refine KeptNext.next ?_
  refine State.answerPlain_kept h (fun t3 t4 h5 => ?_)
  exact Kept.ite (State.goTakeover_kept h5) h5

theorem State.dropDrive_kept {a1} (h : Kept r s) : Kept r (State.dropDrive s a1) := by
  unfold State.dropDrive
  exact State.carryOn_kept (State.driveGone_kept h)

theorem State.reactTo_kept {b nn} (h : Kept r s) : Kept r (State.reactTo b s nn) := by
  unfold State.reactTo
  exact Kept.ite (State.dropDrive_kept h) h

theorem State.requestStop_kept {a1} (h : Kept r s) : Kept r (State.requestStop s a1) := by
  unfold State.requestStop
  exact Kept.ite (State.dropDrive_kept (State.toBay_kept h)) (State.bayEvent_kept (State.modBay_kept (State.wr_kept h)))

theorem State.stopBay_kept {a1} (h : Kept r s) : Kept r (State.stopBay s a1) := by
  unfold State.stopBay
  extract_lets x2
  clear_value x2
  exact Kept.ite (State.requestStop_kept h) (Kept.ite (State.modBay_kept h) (Kept.ite (State.reactTo_kept (State.bayOff_kept h)) h))

theorem State.samplePins_kept {a1} {a2} (h : Kept r s) : Kept r (State.samplePins s a1 a2) := by
  unfold State.samplePins
  exact Kept.ite h (Kept.ite (State.toBay_kept h) (Kept.ite (State.toBay_kept h) h))

theorem State.verdict_kept {a1} {a2} (h : Kept r s) : Kept r (State.verdict s a1 a2) := by
  unfold State.verdict
  extract_lets x2
  have h3 : Kept r x2 := State.modBay_kept h
  clear_value x2
  exact Kept.ite h3 (State.reportPresence_kept h3)

theorem State.enterChangeover_kept {a1} (h : Kept r s) : Kept r (State.enterChangeover s a1) := by
  unfold State.enterChangeover
  exact State.bayEvent_kept (State.toBay_kept (State.setGate_kept h))

theorem actPresenceSample_kept {a0} {a1} {a2} {a3} {a4} (h : Kept r s) : KeptNext r (actPresenceSample a0 a1 a2 a3 a4 s) := by
  unfold actPresenceSample
  refine KeptNext.ite ?_ ?_
  · refine KeptNext.next ?_
    exact h
  · extract_lets x5 x6 x7
    have h8 : Kept r x5 := State.measureFeeds_kept (State.pass_kept h)
    clear_value x5
    have h9 : Kept r x6 := by
      unfold x6
      refine Kept.foldl h8 fun t11 a12 h13 => ?_
      exact Kept.ite (State.wr_kept (State.wr_kept h13)) h13
    clear_value x6
    have h15 : Kept r x7 := State.countOpen_kept h9
    clear_value x7
    refine KeptNext.next ?_
    refine Kept.foldl h15 fun t18 a19 h20 => ?_
    exact State.samplePins_kept h20

theorem actDriveSeated_kept {a0} (h : Kept r s) : KeptNext r (actDriveSeated a0 s) := by
  unfold actDriveSeated
  refine KeptNext.ite ?_ ?_
  · refine KeptNext.next ?_
    exact h
  · extract_lets x5
    have h6 : Kept r x5 := Kept.ite (State.modBay_kept (State.toBay_kept h)) h
    clear_value x5
    refine KeptNext.next ?_
    exact State.verdict_kept h6

theorem actDriveLost_kept {a0} (h : Kept r s) : KeptNext r (actDriveLost a0 s) := by
  unfold actDriveLost
  refine KeptNext.ite ?_ ?_
  · refine KeptNext.next ?_
    exact h
  · extract_lets x5 x6
    have h7 : Kept r x5 := State.wr_kept (State.holdReset_kept (State.cutPower_kept (State.verdict_kept h)))
    clear_value x5
    have h8 : Kept r x6 := Kept.ite h7 (State.toBay_kept h7)
    clear_value x6
    refine KeptNext.next ?_
    exact State.dropDrive_kept h8

theorem actBayRampStart_kept {a0} {a1} {a2} {a3} (h : Kept r s) : KeptNext r (actBayRampStart a0 a1 a2 a3 s) := by
  unfold actBayRampStart
  extract_lets x2
  have h3 : Kept r x2 := State.measureFeeds_kept h
  clear_value x2
  split
  · refine KeptNext.next ?_
    exact h3
  · refine KeptNext.ite ?_ ?_
    · refine KeptNext.next ?_
      exact State.toBay_kept (State.modBay_kept (State.wr_kept h3))
    · refine KeptNext.next ?_
      exact h3

theorem actRampEnd_kept {a0} (h : Kept r s) : KeptNext r (actRampEnd a0 s) := by
  unfold actRampEnd
  refine KeptNext.next ?_
  exact Kept.ite (State.toBay_kept (State.modBay_kept h)) h

theorem actRampTimeout_kept {a0} (h : Kept r s) : KeptNext r (actRampTimeout a0 s) := by
  unfold actRampTimeout
  refine KeptNext.next ?_
  exact Kept.ite (State.trip_kept h) h

theorem actPowerGoodAssert_kept {a0} (h : Kept r s) : KeptNext r (actPowerGoodAssert a0 s) := by
  unfold actPowerGoodAssert
  refine KeptNext.ite ?_ ?_
  · extract_lets x3
    have h4 : Kept r x3 := State.wr_kept h
    clear_value x3
    refine KeptNext.next ?_
    exact Kept.ite (State.toBay_kept h4) h4
  · refine KeptNext.next ?_
    exact h

theorem actPowerGoodWithdraw_kept {a0} (h : Kept r s) : KeptNext r (actPowerGoodWithdraw a0 s) := by
  unfold actPowerGoodWithdraw
  refine KeptNext.ite ?_ ?_
  · extract_lets x3 x4
    have h5 : Kept r x3 := State.withdraw_kept h
    clear_value x3
    have h6 : Kept r x4 := Kept.ite (State.toBay_kept h5) h5
    clear_value x4
    refine KeptNext.next ?_
    exact State.reactTo_kept h6
  · refine KeptNext.next ?_
    exact h

theorem actPerstRelease_kept {a0} (h : Kept r s) : KeptNext r (actPerstRelease a0 s) := by
  unfold actPerstRelease
  refine KeptNext.next ?_
  exact Kept.ite (State.modBay_kept (State.setPerst_kept h)) h

theorem actFaultTimerStart_kept {a0} (h : Kept r s) : KeptNext r (actFaultTimerStart a0 s) := by
  unfold actFaultTimerStart
  refine KeptNext.next ?_
  exact Kept.ite (State.modBay_kept (State.wr_kept h)) h

theorem actFaultTimerClear_kept {a0} (h : Kept r s) : KeptNext r (actFaultTimerClear a0 s) := by
  unfold actFaultTimerClear
  refine KeptNext.next ?_
  exact Kept.ite (State.stopTimer_kept h) h

theorem actFaultTimerExpiry_kept {a0} (h : Kept r s) : KeptNext r (actFaultTimerExpiry a0 s) := by
  unfold actFaultTimerExpiry
  refine KeptNext.next ?_
  exact Kept.ite (State.reactTo_kept (State.trip_kept h)) h

theorem actOvercurrentTrip_kept {a0} (h : Kept r s) : KeptNext r (actOvercurrentTrip a0 s) := by
  unfold actOvercurrentTrip
  refine KeptNext.next ?_
  exact Kept.ite (State.reactTo_kept (State.trip_kept h)) h

theorem actRetryPeriodEnd_kept {a0} (h : Kept r s) : KeptNext r (actRetryPeriodEnd a0 s) := by
  unfold actRetryPeriodEnd
  refine KeptNext.next ?_
  exact Kept.ite (State.toBay_kept (State.passTo_kept h)) h

theorem execRetryCountClear_kept {a0} (h : Kept r s) : KeptNext r (execRetryCountClear a0 s) := by
  unfold execRetryCountClear
  refine KeptNext.next ?_
  exact Kept.ite (State.wr_kept h) h

theorem actFetModelUpdate_kept (h : Kept r s) : KeptNext r (actFetModelUpdate s) := by
  unfold actFetModelUpdate
  refine KeptNext.next ?_
  refine Kept.foldl h fun t3 a4 h5 => ?_
  extract_lets x7
  have h8 : Kept r x7 := State.fetModel_kept h5
  clear_value x7
  exact Kept.ite (State.reactTo_kept (State.trip_kept h8)) h8

theorem actDiodeRead_kept {a0} {a1} (h : Kept r s) : KeptNext r (actDiodeRead a0 a1 s) := by
  unfold actDiodeRead
  refine KeptNext.ite ?_ ?_
  · refine KeptNext.next ?_
    exact h
  · refine KeptNext.ite ?_ ?_
    · refine KeptNext.next ?_
      exact State.bayEvent_kept (State.showTherm_kept (State.wr_kept h))
    · extract_lets x8
      have h9 : Kept r x8 := State.showTherm_kept (State.modBay_kept h)
      clear_value x8
      refine KeptNext.next ?_
      exact Kept.ite (State.reactTo_kept (State.trip_kept h9)) h9

theorem actChangeover_kept {a0} {a1} {a2} (h : Kept r s) : KeptNext r (actChangeover a0 a1 a2 s) := by
  unfold actChangeover
  extract_lets x2 x3
  have h4 : Kept r x2 := State.measureFeeds_kept h
  clear_value x2
  clear_value x3
  refine KeptNext.next ?_
  exact Kept.ite (State.enterChangeover_kept h4) h4

theorem actChangeoverBreakEnd_kept {a0} (h : Kept r s) : KeptNext r (actChangeoverBreakEnd a0 s) := by
  unfold actChangeoverBreakEnd
  refine KeptNext.ite ?_ ?_
  · extract_lets x3 x4
    have h5 : Kept r x3 := State.modBay_kept (State.wr_kept h)
    clear_value x3
    have h6 : Kept r x4 := State.toBay_kept h5
    clear_value x4
    refine KeptNext.next ?_
    exact Kept.ite (State.stopBay_kept h6) h6
  · refine KeptNext.next ?_
    exact h

theorem actFeedReturn_kept {a0} (h : Kept r s) : KeptNext r (actFeedReturn a0 s) := by
  unfold actFeedReturn
  refine KeptNext.next ?_
  exact Kept.ite (State.enterChangeover_kept h) h

theorem actLinkTrainingTimeout_kept {a0} (h : Kept r s) : KeptNext r (actLinkTrainingTimeout a0 s) := by
  unfold actLinkTrainingTimeout
  refine KeptNext.ite ?_ ?_
  · refine KeptNext.next ?_
    exact h
  · refine KeptNext.ite ?_ ?_
    · refine KeptNext.next ?_
      exact State.modBay_kept h
    · refine KeptNext.next ?_
      exact State.bayEventIf_kept (State.wr_kept (State.modBay_kept (State.setPerst_kept h)))

theorem actBayLinkUp_kept {a0} {a1} {a2} (h : Kept r s) : KeptNext r (actBayLinkUp a0 a1 a2 s) := by
  unfold actBayLinkUp
  refine KeptNext.ite ?_ ?_
  · extract_lets x3 x4 x5
    have h6 : Kept r x3 := State.wr_kept (State.wr_kept (State.wr_kept (State.wr_kept h)))
    clear_value x3
    have h7 : Kept r x4 := State.emit_kept (State.wr_kept h6)
    clear_value x4
    have h8 : Kept r x5 := State.bayEventIf_kept h7
    clear_value x5
    refine KeptNext.next ?_
    exact Kept.ite (State.bayEventIf_kept h8) h8
  · refine KeptNext.next ?_
    exact h

theorem actBayLinkDown_kept {a0} (h : Kept r s) : KeptNext r (actBayLinkDown a0 s) := by
  unfold actBayLinkDown
  refine KeptNext.next ?_
  exact Kept.ite (State.dropDrive_kept (State.dropLink_kept h)) h

theorem actSlotPowerOff_kept {a0} (h : Kept r s) : KeptNext r (actSlotPowerOff a0 s) := by
  unfold actSlotPowerOff
  refine KeptNext.next ?_
  exact Kept.ite (State.stopBay_kept (State.wr_kept h)) h

theorem actSlotPowerOn_kept {a0} (h : Kept r s) : KeptNext r (actSlotPowerOn a0 s) := by
  unfold actSlotPowerOn
  refine KeptNext.next ?_
  exact Kept.ite (State.powerOn_kept h) h

theorem actShutdownComplete_kept {a0} (h : Kept r s) : KeptNext r (actShutdownComplete a0 s) := by
  unfold actShutdownComplete
  refine KeptNext.next ?_
  exact Kept.ite (State.reactTo_kept (State.bayOff_kept (State.holdReset_kept h))) h

theorem actAttentionButtonPress_kept {a0} (h : Kept r s) : KeptNext r (actAttentionButtonPress a0 s) := by
  unfold actAttentionButtonPress
  refine KeptNext.ite ?_ ?_
  · refine KeptNext.next ?_
    exact h
  · extract_lets x5
    have h6 : Kept r x5 := State.bayEventIf_kept (State.wr_kept h)
    clear_value x5
    refine KeptNext.ite ?_ ?_
    · refine KeptNext.next ?_
      exact h6
    · refine KeptNext.ite ?_ ?_
      · refine KeptNext.next ?_
        exact State.modBay_kept h6
      · refine KeptNext.next ?_
        exact Kept.ite (State.powerOn_kept h6) h6

theorem actButtonStop_kept {a0} (h : Kept r s) : KeptNext r (actButtonStop a0 s) := by
  unfold actButtonStop
  refine KeptNext.next ?_
  exact Kept.ite (State.requestStop_kept (State.modBay_kept h)) h

theorem actAttentionBlinkEnd_kept {a0} (h : Kept r s) : KeptNext r (actAttentionBlinkEnd a0 s) := by
  unfold actAttentionBlinkEnd
  refine KeptNext.next ?_
  exact Kept.ite (State.modBay_kept h) h

theorem actPowerCycleEnd_kept {a0} (h : Kept r s) : KeptNext r (actPowerCycleEnd a0 s) := by
  unfold actPowerCycleEnd
  refine KeptNext.next ?_
  exact Kept.ite (State.toBay_kept h) h

theorem actGivebackGateRelease_kept (h : Kept r s) : KeptNext r (actGivebackGateRelease s) := by
  unfold actGivebackGateRelease
  refine KeptNext.next ?_
  exact Kept.ite (State.loseOwner_kept h) h

end Sys2Proof.Machine
end

