-- ==== Sys2Proof/Laws/KeptCox.lean ====
section
/-!
SUPPORT. For each operation of Cox, Spares, Update, CoxReset, Schedule, Heat, TwinCmds: what `Kept` says of the state it
gives, so that no later proof unfolds it.
-/

set_option linter.unusedVariables false

namespace Sys2Proof.Machine

variable {r s : State}

theorem State.spend_kept {a1} (h : Kept r s) : Kept r (State.spend s a1) := by
  unfold State.spend
  exact Kept.upd h rfl

theorem State.signed_kept {a1} {a2 : State → State} (h : Kept r s) (g2 : ∀ b0, Kept r b0 → Kept r (a2 b0)) : Kept r (State.signed s a1 a2) := by
  unfold State.signed
  extract_lets x2
  have h3 : Kept r x2 := State.spend_kept h
  clear_value x2
  exact Kept.ite (g2 _ h3) (State.raise_kept (State.vendor_kept h3))

theorem State.storeTemps_kept {a1} (h : Kept r s) : Kept r (State.storeTemps s a1) := by
  unfold State.storeTemps
  refine Kept.foldl h fun t2 a3 h4 => ?_
  exact State.wr_kept h4

theorem State.spdmAnswer_kept {a1} {a2} {a3} (h : Kept r s) : Kept r (State.spdmAnswer s a1 a2 a3) := by
  unfold State.spdmAnswer
  exact State.emit_kept (Kept.upd h rfl)

theorem State.byCox_kept {a1 : Host.Outcome State Fault Refusal} (h : Kept r s) (g1 : KeptNext r a1) : KeptNext r (State.byCox s a1) := by
  unfold State.byCox
  refine KeptNext.ite ?_ ?_
  · exact g1
  · refine KeptNext.next ?_
    exact h

theorem State.asked_kept {a1 : State → State} {a2 : Host.Outcome State Fault Refusal} (h : Kept r s) (g1 : ∀ b0, Kept r b0 → Kept r (a1 b0)) (g2 : KeptNext r a2) : KeptNext r (State.asked s a1 a2) := by
  unfold State.asked
  refine KeptNext.ite ?_ ?_
  · refine KeptNext.next ?_
    exact h
  · refine KeptNext.ite ?_ ?_
    · exact g2
    · refine KeptNext.next ?_
      exact g1 _ (State.exhausted_kept h)

theorem State.askVendor_kept {a1 : Host.Outcome State Fault Refusal} (h : Kept r s) (g1 : KeptNext r a1) : KeptNext r (State.askVendor s a1) := by
  unfold State.askVendor
  refine State.asked_kept h (fun t2 h3 => ?_) ?_
  · exact State.vendor_kept h3
  · exact g1

theorem State.askControl_kept {a1 : Host.Outcome State Fault Refusal} (h : Kept r s) (g1 : KeptNext r a1) : KeptNext r (State.askControl s a1) := by
  unfold State.askControl
  refine State.asked_kept h (fun t2 h3 => ?_) ?_
  · exact State.emit_kept h3
  · exact g1

theorem State.askPldm_kept {a1 : Host.Outcome State Fault Refusal} (h : Kept r s) (g1 : KeptNext r a1) : KeptNext r (State.askPldm s a1) := by
  unfold State.askPldm
  refine State.asked_kept h (fun t2 h3 => ?_) ?_
  · exact State.emit_kept h3
  · exact g1

theorem State.askMi_kept {a1 : Host.Outcome State Fault Refusal} (h : Kept r s) (g1 : KeptNext r a1) : KeptNext r (State.askMi s a1) := by
  unfold State.askMi
  refine State.asked_kept h (fun t2 h3 => ?_) ?_
  · exact State.emit_kept h3
  · exact g1

theorem State.askSpdm_kept {a1} {a2 : Host.Outcome State Fault Refusal} (h : Kept r s) (g2 : KeptNext r a2) : KeptNext r (State.askSpdm s a1 a2) := by
  unfold State.askSpdm
  refine State.asked_kept h (fun t2 h3 => ?_) ?_
  · exact State.emit_kept h3
  · exact g2

theorem actGetChallenge_kept {a0} (h : Kept r s) : KeptNext r (actGetChallenge a0 s) := by
  unfold actGetChallenge
  refine State.askVendor_kept h ?_
  extract_lets x4 x5 x6 x7 x8
  have h9 : Kept r x7 := State.tick_kept h
  refine KeptNext.next ?_
  exact State.vendor_kept (Kept.upd h9 rfl)

theorem actLogRead_kept {a0} {a1} (h : Kept r s) : KeptNext r (actLogRead a0 a1 s) := by
  unfold actLogRead
  refine State.askVendor_kept h ?_
  refine KeptNext.ite ?_ ?_
  · refine KeptNext.next ?_
    exact State.vendor_kept h
  · extract_lets x7
    clear_value x7
    refine KeptNext.next ?_
    exact State.vendor_kept h

theorem State.askVendor_kept0 {o : Host.Outcome State Fault Refusal} (h : Kept r s) (g : KeptNext0 r o) :
    KeptNext0 r (State.askVendor s o) := by
  unfold State.askVendor State.asked
  exact KeptNext0.ite (.next h.weak) (KeptNext0.ite g (.next (State.vendor_kept (State.exhausted_kept h)).weak))

theorem State.signed_kept0 {g : SigBlock} {act : State → State} (h : Kept r s) (a : ∀ t, Kept r t → Kept0 r (act t)) :
    Kept0 r (State.signed s g act) := by
  unfold State.signed
  have h1 : Kept r (s.spend g) := State.spend_kept h
  exact Kept0.ite (a _ h1) (State.raise_kept (State.vendor_kept h1)).weak

theorem actSlotFill_kept {a0} {a1} {a2} (h : Kept r s) : KeptNext0 r (actSlotFill a0 a1 a2 s) := by
  unfold actSlotFill
  refine State.askVendor_kept0 h (.next (State.signed_kept0 h fun t ht => ?_))
  refine Kept0.ite (State.vendor_kept ht).weak ?_
  split
  · exact (State.vendor_kept ht).weak
  · next he =>
    refine Kept0.trans (ht.weak.fuse (u := { t with fuses := { t.fuses with slots := t.fuses.slots.set a1 a2 } }) rfl
      ⟨fun k hk => ?_, fun _ h => h, fun _ h => h, Nat.le_refl _, List.prefix_refl _, List.prefix_refl _⟩)
      (State.raise_kept (State.vendor_kept (State.logFuse_kept (.refl _)))).weak
    have hne : a1 ≠ k := by rintro rfl; exact he hk
    simp [List.getD_eq_getElem?_getD, hne]

theorem actSlotRevoke_kept {a0} {a1} (h : Kept r s) : KeptNext0 r (actSlotRevoke a0 a1 s) := by
  unfold actSlotRevoke
  refine State.askVendor_kept0 h (.next (State.signed_kept0 h fun t ht => ?_))
  extract_lets slot
  clear_value slot
  refine Kept0.ite (State.vendor_kept ht).weak (Kept0.ite (State.vendor_kept ht).weak ?_)
  refine Kept0.trans (ht.weak.fuse (u := { t with fuses := { t.fuses with revoked := t.fuses.revoked.set a1 true } }) rfl
    ⟨fun _ _ => rfl, fun k hk => ?_, fun _ h => h, Nat.le_refl _, List.prefix_refl _, List.prefix_refl _⟩)
    (State.raise_kept (State.vendor_kept (State.logFuse_kept (.refl _)))).weak
  simp only [List.getD_eq_getElem?_getD, List.getElem?_set] at hk ⊢
  split
  · split
    · rfl
    · next hl =>
      rw [List.getElem?_eq_none (by omega)] at hk
      simp at hk
  · exact hk

theorem actKekLoad_kept {a0} {a1} {a2} {a3} {a4} {a5} (h : Kept r s) : KeptNext r (actKekLoad a0 a1 a2 a3 a4 a5 s) := by
  unfold actKekLoad
  refine State.askVendor_kept h ?_
  refine KeptNext.next ?_
  refine State.signed_kept h (fun t5 h6 => ?_)
  refine Kept.ite ?_ ?_
  · exact State.vendor_kept h6
  · refine Kept.ite ?_ ?_
    · exact State.vendor_kept h6
    · refine Kept.ite ?_ ?_
      · exact State.vendor_kept h6
      · extract_lets x14 x15
        have h16 : Kept r x14 := Kept.ite (State.kekCleared_kept h6) h6
        exact State.raise_kept (State.vendor_kept (State.syncKek_kept (Kept.upd h16 rfl)))

theorem actKekClear_kept {a0} {a1} (h : Kept r s) : KeptNext r (actKekClear a0 a1 s) := by
  unfold actKekClear
  refine State.askVendor_kept h ?_
  refine KeptNext.next ?_
  refine State.signed_kept h (fun t5 h6 => ?_)
  exact Kept.ite (State.vendor_kept h6) (Kept.ite (Kept.upd h6 rfl) (State.kekCleared_kept h6))

theorem actKtkProvision_kept {a0} {a1} {a2} (h : Kept r s) : KeptNext0 r (actKtkProvision a0 a1 a2 s) := by
  unfold actKtkProvision
  refine State.askVendor_kept0 h (KeptNext0.ite (.next (State.vendor_kept h).weak) (.next (State.signed_kept0 h fun t ht => ?_)))
  split
  · exact (State.vendor_kept ht).weak
  · next he =>
    refine Kept0.trans (ht.weak.fuse (u := { t with fuses := { t.fuses with ktk := some a2 } }) rfl
      ⟨fun _ _ => rfl, fun _ h => h, fun v hv => ?_, Nat.le_refl _, List.prefix_refl _, List.prefix_refl _⟩)
      (State.raise_kept (State.vendor_kept (State.logFuse_kept (.refl _)))).weak
    rw [hv] at he
    exact absurd rfl he

theorem actSanitizeStatus_kept (h : Kept r s) : KeptNext r (actSanitizeStatus s) := by
  unfold actSanitizeStatus
  refine State.askVendor_kept h ?_
  refine KeptNext.next ?_
  exact State.vendor_kept h

theorem actSetEndpointId_kept {a0} (h : Kept r s) : KeptNext r (actSetEndpointId a0 s) := by
  unfold actSetEndpointId
  refine State.askControl_kept h ?_
  refine KeptNext.next ?_
  exact State.emit_kept (Kept.upd h rfl)

theorem actConfigurationGet_kept {a0} (h : Kept r s) : KeptNext r (actConfigurationGet a0 s) := by
  unfold actConfigurationGet
  refine State.askMi_kept h ?_
  refine KeptNext.next ?_
  exact Kept.ite (State.emit_kept h) (Kept.ite (State.emit_kept h) (State.emit_kept h))

theorem actConfigurationSet_kept {a0} {a1} (h : Kept r s) : KeptNext r (actConfigurationSet a0 a1 s) := by
  unfold actConfigurationSet
  refine State.askMi_kept h ?_
  refine KeptNext.next ?_
  exact Kept.ite (State.emit_kept (Kept.upd h rfl)) (Kept.ite (State.emit_kept (Kept.upd h rfl)) (State.emit_kept h))

theorem actSetEventReceiver_kept {a0} (h : Kept r s) : KeptNext r (actSetEventReceiver a0 s) := by
  unfold actSetEventReceiver
  refine State.askPldm_kept h ?_
  refine KeptNext.next ?_
  exact State.emit_kept (Kept.upd h rfl)

theorem actSetNumericEffecterValue_kept {a0} {a1} (h : Kept r s) : KeptNext r (actSetNumericEffecterValue a0 a1 s) := by
  unfold actSetNumericEffecterValue
  refine State.askPldm_kept h ?_
  split
  · refine KeptNext.next ?_
    exact State.emit_kept h
  · extract_lets x12
    clear_value x12
    refine KeptNext.ite ?_ ?_
    · refine KeptNext.next ?_
      exact State.emit_kept (State.refuseB_kept h)
    · refine KeptNext.next ?_
      exact State.emit_kept (State.storeWord_kept h)

theorem actSensorRead_kept {a0} {a1} {a2} (h : Kept r s) : KeptNext r (actSensorRead a0 a1 a2 s) := by
  unfold actSensorRead
  refine State.byCox_kept h ?_
  extract_lets s1 due
  have h1 : Kept r s1 := State.wr_kept (State.wr_kept (State.storeTemps_kept h))
  clear_value s1 due
  exact KeptNext.ite (.next (State.raise_kept (Kept.upd h1 rfl))) (.next h1)

theorem execEchoRequest_kept {a0} (h : Kept r s) : KeptNext r (execEchoRequest a0 s) := by
  unfold execEchoRequest
  refine State.byCox_kept h ?_
  refine KeptNext.next ?_
  exact Kept.ite (State.emit_kept h) h

theorem actGetVersion_kept {a0} (h : Kept r s) : KeptNext r (actGetVersion a0 s) := by
  unfold actGetVersion
  refine State.askSpdm_kept h ?_
  refine KeptNext.next ?_
  exact State.spdmAnswer_kept h

theorem actGetCapabilities_kept {a0} (h : Kept r s) : KeptNext r (actGetCapabilities a0 s) := by
  unfold actGetCapabilities
  refine State.askSpdm_kept h ?_
  refine KeptNext.next ?_
  exact State.spdmAnswer_kept h

theorem actNegotiateAlgorithms_kept {a0} (h : Kept r s) : KeptNext r (actNegotiateAlgorithms a0 s) := by
  unfold actNegotiateAlgorithms
  refine State.askSpdm_kept h ?_
  refine KeptNext.next ?_
  exact State.spdmAnswer_kept h

theorem actGetDigests_kept {a0} (h : Kept r s) : KeptNext r (actGetDigests a0 s) := by
  unfold actGetDigests
  refine State.askSpdm_kept h ?_
  refine KeptNext.next ?_
  exact State.spdmAnswer_kept h

theorem actGetCertificate_kept {a0} {a1} (h : Kept r s) : KeptNext r (actGetCertificate a0 a1 s) := by
  unfold actGetCertificate
  refine State.askSpdm_kept h ?_
  refine KeptNext.next ?_
  exact Kept.ite (State.spdmAnswer_kept h) (State.spdmAnswer_kept h)

theorem actChallenge_kept {a0} {a1} {a2} (h : Kept r s) : KeptNext r (actChallenge a0 a1 a2 s) := by
  unfold actChallenge
  refine State.askSpdm_kept h ?_
  refine KeptNext.next ?_
  exact Kept.ite (State.tick_kept (State.spdmAnswer_kept h)) (State.spdmAnswer_kept h)

theorem actGetMeasurements_kept {a0} {a1} {a2} {a3} (h : Kept r s) : KeptNext r (actGetMeasurements a0 a1 a2 a3 s) := by
  unfold actGetMeasurements
  refine State.askSpdm_kept h ?_
  extract_lets x4
  clear_value x4
  refine KeptNext.ite ?_ ?_
  · refine KeptNext.next ?_
    exact State.spdmAnswer_kept h
  · refine KeptNext.ite ?_ ?_
    · refine KeptNext.next ?_
      exact State.tick_kept (State.spdmAnswer_kept h)
    · refine KeptNext.next ?_
      exact State.spdmAnswer_kept h

theorem State.syncEngines_kept (h : Kept r s) : Kept r (State.syncEngines s) := by
  unfold State.syncEngines
  exact State.wr_kept h

theorem State.setEngine_kept {a1} {a2} {a3} (h : Kept r s) : Kept r (State.setEngine s a1 a2 a3) := by
  unfold State.setEngine
  exact State.syncEngines_kept (State.wrBit_kept (State.wrBit_kept h))

theorem State.warnSpares_kept {a0} (h : Kept r s) : Kept r (State.warnSpares a0 s) := by
  unfold State.warnSpares
  extract_lets x2
  clear_value x2
  exact Kept.ite (State.raise_kept h) h

theorem State.swapWorn_kept (h : Kept r s) : Kept r (State.swapWorn s) := by
  unfold State.swapWorn
  split
  · exact h
  · split
    · exact h
    · extract_lets x16 x17 x18
      have h19 : Kept r x17 := State.raise_kept (State.setEngine_kept (State.setEngine_kept h))
      clear_value x17
      clear_value x16 x18
      exact State.warnSpares_kept (Kept.upd h19 rfl)

theorem State.engineFails_kept {a1} (h : Kept r s) : Kept r (State.engineFails s a1) := by
  unfold State.engineFails
  extract_lets n sp s1 x s2 s3
  have h1 : Kept r s1 := State.setEngine_kept h
  clear_value s1
  have h2 : Kept r s2 := Kept.upd h1 rfl
  clear_value s2
  have h3 : Kept r s3 := by
    unfold s3
    generalize sp = q
    split
    · exact State.warnSpares_kept (State.raise_kept (State.setEngine_kept h2))
    · exact State.raise_kept h2
  clear_value s3
  exact Kept.ite (State.raise_kept h3) h3

theorem State.phaseFails_kept {a1} {a2} (h : Kept r s) : Kept r (State.phaseFails s a1 a2) := by
  unfold State.phaseFails
  extract_lets x2 x3 x4 x5 x6 x7 x8 x9 x10
  have h11 : Kept r x4 := Kept.ite (State.wrBit_kept h) (State.wrBit_kept h)
  clear_value x4
  have h12 : Kept r x6 := Kept.upd h11 rfl
  clear_value x6
  have h13 : Kept r x8 := State.wr_kept h12
  clear_value x8
  clear_value x2 x3 x5 x7 x9 x10
  refine Kept.ite ?_ ?_
  · exact State.wr_kept h12
  · split
    · extract_lets x22
      have h23 : Kept r x22 := Kept.upd h12 rfl
      clear_value x22
      exact State.raise_kept (State.wr_kept h23)
    · exact Kept.ite (Kept.ite (Kept.upd h13 rfl) (State.raise_kept h13)) (State.raise_kept (Kept.upd h13 rfl))

theorem execEngineWearCheck_kept {a0} (h : Kept r s) : KeptNext r (execEngineWearCheck a0 s) := by
  unfold execEngineWearCheck
  extract_lets x2 x3 x4
  clear_value x2 x3 x4
  refine KeptNext.next ?_
  exact Kept.upd h rfl

theorem actSpareSelfCheck_kept {a0} {a1} (h : Kept r s) : KeptNext r (actSpareSelfCheck a0 a1 s) := by
  unfold actSpareSelfCheck
  refine KeptNext.ite ?_ ?_
  · refine KeptNext.next ?_
    exact State.warnSpares_kept (State.raise_kept (State.setEngine_kept h))
  · refine KeptNext.next ?_
    exact h

theorem actHbmRowRepair_kept {a0} {a1} {a2} {a3} {a4} (h : Kept r s) : KeptNext r (actHbmRowRepair a0 a1 a2 a3 a4 s) := by
  unfold actHbmRowRepair
  refine KeptNext.ite (.next (State.raise_kept (State.wr_kept ?_))) (.next (State.raise_kept ?_))
  · exact h.updAll rfl (List.prefix_refl _) (Nat.le_refl _) ⟨rfl, rfl, rfl, Nat.le_refl _,
      List.prefix_refl _, List.prefix_append _ _⟩ id (fun h _ => h) rfl
  · split
    · exact State.showUse_kept (Kept.upd h rfl)
    · exact h

theorem actLifeUpdate_kept {a0} {a1} (h : Kept r s) : KeptNext r (actLifeUpdate a0 a1 s) := by
  unfold actLifeUpdate
  extract_lets x2 x3 x4 x5 x6
  have h7 : Kept r x6 := State.wr_kept (Kept.upd h rfl)
  clear_value x6
  clear_value x2 x3 x4 x5
  refine KeptNext.next ?_
  exact Kept.ite (State.raise_kept h7) h7

theorem State.pldm_kept {a1} {a2} (h : Kept r s) : Kept r (State.pldm s a1 a2) := by
  unfold State.pldm
  exact State.emit_kept h

theorem State.setUpd_kept {a1} (h : Kept r s) : Kept r (State.setUpd s a1) := by
  unfold State.setUpd
  exact State.wr_kept h

theorem State.logUpdate_kept {a1} {a2} (h : Kept r s) : Kept r (State.logUpdate s a1 a2) := by
  unfold State.logUpdate
  exact State.logOpen_kept h

theorem State.logActivate_kept {a1} {a2} {a3} (h : Kept r s) : Kept r (State.logActivate s a1 a2 a3) := by
  unfold State.logActivate
  exact State.logOpen_kept h

theorem State.dropStage_kept (h : Kept r s) : Kept r (State.dropStage s) := by
  unfold State.dropStage
  extract_lets x2 x3
  have h4 : Kept r x3 := Kept.upd h rfl
  exact Kept.ite h4 (State.freeBuffers_kept h4)

theorem State.updateFails_kept {a1} (h : Kept r s) : Kept r (State.updateFails s a1) := by
  unfold State.updateFails
  exact State.raise_kept (State.dropStage_kept (State.logUpdate_kept (State.setUpd_kept (Kept.upd h rfl))))

theorem State.programStaged_kept {a1} (h : Kept r s) : Kept r (State.programStaged s a1) := by
  unfold State.programStaged
  extract_lets x2 x3 x4
  have h5 : Kept r x4 := State.norErase_kept h
  clear_value x4
  clear_value x2 x3
  refine Kept.foldl h5 fun t7 a8 h9 => ?_
  exact Kept.upd h9 rfl

theorem State.eraseHeader_kept {a1} (h : Kept r s) : Kept r (State.eraseHeader s a1) := by
  unfold State.eraseHeader
  exact State.norErase_kept h

theorem State.rollSwap_kept (h : Kept r s) : Kept1 r (State.rollSwap s) := by
  unfold State.rollSwap
  split
  · exact Kept1.mk h
  · refine Kept1.ite ?_ ?_
    · exact Kept1.mk h
    · split
      · extract_lets x18 x19 x20
        have h21 : Kept r x18 := State.setEngine_kept (State.setEngine_kept h)
        clear_value x18
        have h22 : Kept r x20 := Kept.upd h21 rfl
        clear_value x20
        clear_value x19
        exact Kept1.mk (Kept.ite h22 (State.logActivate_kept h22))
      · exact Kept1.mk h

theorem actRequestUpdate_kept {a0} (h : Kept r s) : KeptNext r (actRequestUpdate a0 s) := by
  unfold actRequestUpdate
  refine State.askPldm_kept h ?_
  split
  · refine KeptNext.ite ?_ ?_
    · refine KeptNext.next ?_
      exact State.pldm_kept h
    · refine KeptNext.next ?_
      exact State.pldm_kept h
  · refine KeptNext.next ?_
    refine State.pldm_kept ?_
    refine State.setUpd_kept ?_
    extract_lets x18 x19
    have h20 : Kept r x18 := State.dropStage_kept h
    exact Kept.upd h20 rfl

theorem actUpdateComponent_kept {a0} {a1} {a2} (h : Kept r s) : KeptNext r (actUpdateComponent a0 a1 a2 s) := by
  unfold actUpdateComponent
  refine State.askPldm_kept h ?_
  refine KeptNext.ite ?_ ?_
  · refine KeptNext.next ?_
    exact State.pldm_kept h
  · refine KeptNext.ite ?_ ?_
    · refine KeptNext.next ?_
      exact State.pldm_kept (State.logUpdate_kept h)
    · refine KeptNext.next ?_
      exact State.pldm_kept h

theorem actTransferComplete_kept {a0} (h : Kept r s) : KeptNext r (actTransferComplete a0 s) := by
  unfold actTransferComplete
  refine State.askPldm_kept h ?_
  refine KeptNext.ite ?_ ?_
  · refine KeptNext.next ?_
    exact h
  · extract_lets x7
    clear_value x7
    split
    · rename_i y9 y10 y11 y12
      have h13 : Kept r y10 := .of1 y12 (State.takeBuffers_kept (State.dropStage_kept h))
      refine KeptNext.ite ?_ ?_
      · refine KeptNext.next ?_
        exact State.pldm_kept (State.setUpd_kept (Kept.upd h13 rfl))
      · refine KeptNext.next ?_
        exact State.pldm_kept h13

theorem actVerifyComplete_kept {a0} (h : Kept r s) : KeptNext r (actVerifyComplete a0 s) := by
  unfold actVerifyComplete
  refine State.askPldm_kept h ?_
  refine KeptNext.ite ?_ ?_
  · refine KeptNext.next ?_
    exact h
  · refine KeptNext.ite ?_ ?_
    · refine KeptNext.next ?_
      exact State.raise_kept (State.pldm_kept (State.logUpdate_kept (State.setUpd_kept (Kept.upd h rfl))))
    · refine KeptNext.next ?_
      exact State.pldm_kept (State.updateFails_kept h)

theorem actApplyComplete_kept {a0} (h : Kept r s) : KeptNext r (actApplyComplete a0 s) := by
  unfold actApplyComplete
  refine State.askPldm_kept h ?_
  refine KeptNext.ite ?_ ?_
  · refine KeptNext.next ?_
    exact h
  · extract_lets x7 x8
    have h9 : Kept r x8 := State.programStaged_kept h
    clear_value x8
    clear_value x7
    refine KeptNext.ite ?_ ?_
    · refine KeptNext.next ?_
      exact State.pldm_kept (State.logUpdate_kept (State.setUpd_kept h9))
    · refine KeptNext.next ?_
      exact State.pldm_kept (State.updateFails_kept (State.eraseHeader_kept h9))

theorem actActivateFirmware_kept {a0} {a1} {a2} (h : Kept r s) : KeptNext r (actActivateFirmware a0 a1 a2 s) := by
  unfold actActivateFirmware
  refine State.askPldm_kept h ?_
  refine KeptNext.ite ?_ ?_
  · refine KeptNext.next ?_
    exact State.pldm_kept h
  · refine KeptNext.ite ?_ ?_
    · refine KeptNext.next ?_
      exact State.pldm_kept (State.dropStage_kept (State.setUpd_kept (Kept.upd h rfl)))
    · extract_lets x10 x11 x12 x13
      have h14 : Kept r x13 := Kept.upd h rfl
      clear_value x13
      clear_value x10 x11 x12
      refine KeptNext.ite ?_ ?_
      · refine KeptNext.next ?_
        exact State.raise_kept (State.pldm_kept (State.logActivate_kept (State.wr_kept (State.setUpd_kept h14))))
      · refine KeptNext.next ?_
        exact State.pldm_kept h

theorem actEngineSwapComplete_kept {a0} (h : Kept r s) : KeptNext r (actEngineSwapComplete a0 s) := by
  unfold actEngineSwapComplete
  split
  · refine KeptNext.next ?_
    exact h
  · split
    · refine KeptNext.next ?_
      exact h
    · extract_lets x18 x19 x20 x21 x22
      have h23 : Kept r x20 := Kept.upd h rfl
      clear_value x20
      have h24 : Kept r x21 := State.bump_kept h23
      clear_value x21
      have h25 : Kept r x22 := Kept.ite h24 (State.logActivate_kept (State.logActivate_kept h24))
      clear_value x22
      clear_value x18 x19
      refine KeptNext.ite ?_ ?_
      · refine KeptNext.next ?_
        exact State.setEngine_kept h25
      · refine KeptNext.next ?_
        exact State.warnSpares_kept (State.raise_kept h25)

theorem actProbationEnd_kept (h : Kept r s) : KeptNext r (actProbationEnd s) := by
  unfold actProbationEnd
  split
  · refine KeptNext.ite ?_ ?_
    · extract_lets x7 x8
      have h9 : Kept r x8 := State.dropStage_kept (Kept.upd h rfl)
      clear_value x8
      clear_value x7
      refine KeptNext.next ?_
      exact State.raise_kept (State.logActivate_kept (State.setUpd_kept (State.wr_kept (State.wr_kept (State.wr_kept h9)))))
    · refine KeptNext.next ?_
      exact h
  · refine KeptNext.next ?_
    exact h

theorem State.dropItems_kept {a1} (h : Kept r s) : Kept r (State.dropItems s a1) := by
  unfold State.dropItems
  exact State.fallAll_kept (State.unroute_kept h)

theorem State.loseRings_kept {a1} (h : Kept r s) : Kept r (State.loseRings s a1) := by
  unfold State.loseRings
  extract_lets x2 x3
  have h4 : Kept r x3 := State.dropTaken_kept h
  clear_value x3
  clear_value x2
  refine State.dropItems_kept ?_
  refine Kept.foldl h4 fun t7 a8 h9 => ?_
  exact State.wr_kept (State.wr_kept h9)

theorem State.startCoxRings_kept (h : Kept r s) : Kept r (State.startCoxRings s) := by
  unfold State.startCoxRings
  refine Kept.foldl h fun t2 a3 h4 => ?_
  extract_lets x6
  have h7 : Kept r x6 := State.wr_kept (State.wr_kept (State.wr_kept h4))
  clear_value x6
  exact State.wr_kept (State.wr_kept (State.wr_kept (State.wr_kept h7)))

theorem State.showFw_kept {a1} (h : Kept r s) : Kept r (State.showFw s a1) := by
  unfold State.showFw
  exact State.wr_kept (Kept.upd h rfl)

theorem State.coxReset_kept {a1} (h : Kept r s) : Kept r (State.coxReset s a1) := by
  unfold State.coxReset
  refine Kept.ite ?_ ?_
  · exact h
  · extract_lets x4 x5 x6 x7 x8 x9 x10
    have h11 : Kept r x4 := State.loseRings_kept h
    clear_value x4
    have h12 : Kept r x6 := Kept.ite (State.eraseHeader_kept h11) h11
    clear_value x6
    have h13 : Kept r x7 := Kept.ite (State.dropStage_kept (State.setUpd_kept h12)) h12
    clear_value x7
    have h14 : Kept r x10 := Kept.upd h13 rfl
    clear_value x10
    clear_value x5 x8 x9
    exact Kept.ite (State.beginQueued_kept (State.startCoxRings_kept h14)) (State.raise_kept h14)

theorem State.coreFails_kept {a1} (h : Kept r s) : Kept r (State.coreFails s a1) := by
  unfold State.coreFails
  extract_lets x2
  clear_value x2
  exact Kept.ite (State.raise_kept (State.wr_kept (State.wrBit_kept h))) (State.raise_kept h)

theorem State.rollBack_kept {a1} (h : Kept r s) : Kept r (State.rollBack s a1) := by
  unfold State.rollBack
  split
  · exact h
  · refine Kept.ite ?_ ?_
    · exact h
    · extract_lets x11 x12 x13
      have h14 : Kept r x13 := State.setUpd_kept (Kept.upd h rfl)
      clear_value x13
      clear_value x11 x12
      exact State.raise_kept (State.showFw_kept (State.dropStage_kept (State.coxReset_kept (State.eraseHeader_kept h14))))

theorem execSysResetCox_kept {a0} {a1} (h : Kept r s) : KeptNext r (execSysResetCox a0 a1 s) := by
  unfold execSysResetCox
  refine KeptNext.next ?_
  exact Kept.ite (State.carryOn_kept (State.coxReset_kept h)) h

theorem execCoxWatchdogExpiry_kept {a0} {a1} (h : Kept r s) : KeptNext r (execCoxWatchdogExpiry a0 a1 s) := by
  unfold execCoxWatchdogExpiry
  refine KeptNext.next ?_
  refine Kept.ite ?_ ?_
  · exact h
  · extract_lets x5 x6 x7 x8 x9 x10
    have h11 : Kept r x7 := Kept.upd h rfl
    clear_value x7
    have h12 : Kept r x8 := Kept.ite (State.coreFails_kept h11) h11
    clear_value x8
    have h13 : Kept r x10 := Kept.ite (State.rollBack_kept h12) (State.coxReset_kept h12)
    clear_value x10
    clear_value x5 x6 x9
    exact State.carryOn_kept (State.raise_kept h13)

theorem execRollCancel_kept {a0} {a1} (h : Kept r s) : KeptNext r (execRollCancel a0 a1 s) := by
  unfold execRollCancel
  refine State.askVendor_kept h ?_
  refine KeptNext.next ?_
  refine State.signed_kept h (fun t5 h6 => ?_)
  split
  · exact Kept.ite (State.vendor_kept h6) (State.carryOn_kept (State.rollBack_kept (State.vendor_kept h6)))
  · exact State.vendor_kept h6

theorem execEngineFault_kept {a0} {a1} (h : Kept r s) : KeptNext r (execEngineFault a0 a1 s) := by
  unfold execEngineFault
  refine KeptNext.next ?_
  refine Kept.ite ?_ ?_
  · exact h
  · extract_lets x5 x6 x7 x8
    have h9 : Kept r x5 := State.engineFails_kept h
    clear_value x5
    have h10 : Kept r x8 := by
      unfold x8
      split
      · exact Kept.ite (Kept.upd h9 rfl) h9
      · exact h9
    clear_value x8
    clear_value x6 x7
    exact State.carryOn_kept (Kept.ite (State.rollBack_kept h10) h10)

theorem State.blowSoft_kept (h : Kept r s) : Kept r (State.blowSoft s) := by
  unfold State.blowSoft
  refine Kept.foldl ?_ fun t e ht => State.logFuseAlone_kept ht
  exact h.updAll rfl (List.prefix_refl _) (Nat.le_refl _) ⟨rfl, rfl, rfl, Nat.le_refl _,
    List.prefix_append _ _, List.prefix_refl _⟩ id (fun h _ => h) rfl

theorem State.repairArray_kept {a1} {a2} {a3} {a4} {a5} (h : Kept r s) : Kept r (State.repairArray s a1 a2 a3 a4 a5) := by
  unfold State.repairArray
  extract_lets x2 x3 x4 x5 x6
  have h7 : Kept r x4 := Kept.upd h rfl
  clear_value x4
  have h8 : Kept r x5 := State.raise_kept (State.bump_kept h7)
  clear_value x5
  have h9 : Kept r x6 := Kept.upd h rfl
  clear_value x6
  clear_value x2 x3
  exact Kept.ite (Kept.ite (State.blowSoft_kept h8) h8) (State.raise_kept h9)

theorem execSramSoftRepair_kept {a0} {a1} {a2} {a3} {a4} {a5} {a6} {a7} {a8} (h : Kept r s) : KeptNext r (execSramSoftRepair a0 a1 a2 a3 a4 a5 a6 a7 a8 s) := by
  unfold execSramSoftRepair
  refine KeptNext.next ?_
  refine Kept.ite ?_ ?_
  · exact h
  · extract_lets x5 x6
    have h7 : Kept r x5 := State.repairArray_kept h
    clear_value x5
    clear_value x6
    split
    · exact State.carryOn_kept h7
    · refine Kept.ite ?_ ?_
      · exact State.carryOn_kept h7
      · extract_lets x16 x17
        have h18 : Kept r x16 := Kept.ite (State.raise_kept h7) h7
        clear_value x16
        have h19 : Kept r x17 := Kept.ite (State.coreFails_kept h18) h18
        clear_value x17
        exact State.carryOn_kept (Kept.ite (State.coxReset_kept h19) h19)

theorem State.chargeSub_kept {a1} {a2} (h : Kept r s) : Kept r (State.chargeSub s a1 a2) := by
  unfold State.chargeSub
  exact Kept.ite h (Kept.upd h rfl)

theorem State.chargePort_kept {a1} {a2} (h : Kept r s) : Kept r (State.chargePort s a1 a2) := by
  unfold State.chargePort
  exact Kept.ite h (Kept.upd h rfl)

theorem State.drrClass_kept {p sub ready n last} (h : Kept r s) : Kept1 r (State.drrClass s p sub ready n last) := by
  induction n generalizing s last with
  | zero => exact h
  | succ n ih =>
    unfold State.drrClass
    split
    · exact h
    · extract_lets d x s1
      have h1 : Kept r s1 := Kept.upd h rfl
      clear_value s1
      split
      · exact h1
      · exact Kept1.ite h1 (ih h1)

theorem State.classPick_kept {a1} {a2} (h : Kept r s) : Kept1 r (State.classPick s a1 a2) := by
  unfold State.classPick
  extract_lets x2 x3
  clear_value x2 x3
  split
  · exact Kept1.mk h
  · split
    · exact Kept1.ite (Kept1.mk h) (State.drrClass_kept h)
    · exact State.drrClass_kept h

theorem State.drrSub_kept {p ready n last} (h : Kept r s) : Kept1 r (State.drrSub s p ready n last) := by
  induction n generalizing s last with
  | zero => exact h
  | succ n ih =>
    unfold State.drrSub
    split
    · exact h
    · extract_lets d x s1
      have h1 : Kept r s1 := Kept.upd h rfl
      clear_value s1
      split
      · next h2 => exact Kept1.ite (Kept1.mk (.of1 h2 (State.classPick_kept h1))) (ih h1)
      · exact h1

theorem State.subPick_kept {a1} (h : Kept r s) : Kept1 r (State.subPick s a1) := by
  unfold State.subPick
  extract_lets x2 x3
  clear_value x2 x3
  refine Kept1.ite ?_ ?_
  · split
    · rename_i y6 y7 y8 y9
      have h10 : Kept r y7 := .of1 y9 (State.classPick_kept h)
      exact Kept1.ite (Kept1.mk h10) (State.drrSub_kept h)
    · rename_i y12 y13 y14
      have h15 : Kept r y13 := .of1 y14 (State.classPick_kept h)
      exact State.drrSub_kept h
  · exact State.drrSub_kept h

theorem State.portPick_kept {a1} (h : Kept r s) : Kept1 r (State.portPick s a1) := by
  unfold State.portPick
  split
  · exact Kept1.ite (Kept1.mk h) (State.subPick_kept h)
  · exact State.subPick_kept h

theorem State.sendHeld_kept {a1} {a2} (h : Kept r s) : Kept r (State.sendHeld s a1 a2) := by
  unfold State.sendHeld
  extract_lets x2 x3 x4 x5 x6 x7 x8 x9 x10
  have h11 : Kept r x3 := State.chargePort_kept h
  have h12 : Kept r x4 := State.chargeSub_kept h11
  have h13 : Kept r x7 := Kept.upd h12 rfl
  have h14 : Kept r x10 := Kept.ite (Kept.ite h13 (Kept.upd h13 rfl)) h11
  clear_value x10
  clear_value x2 x3 x4 x5 x6 x7 x8 x9
  exact State.emit_kept (State.offerResidue_kept (State.unhold_kept h14))

theorem State.closeHeat_kept (h : Kept r s) : Kept r (State.closeHeat s) := by
  unfold State.closeHeat
  extract_lets x2 x3
  have h4 : Kept r x2 := by
    unfold x2
    refine Kept.foldl h fun t6 a7 h8 => ?_
    exact State.closeStripe_kept (State.closeStripe_kept h8)
  clear_value x2
  have h10 : Kept r x3 := by
    unfold x3
    refine Kept.foldl h4 fun t12 a13 h14 => ?_
    exact State.drainEmpty_kept h14
  clear_value x3
  refine Kept.foldl h10 fun t17 a18 h19 => ?_
  exact State.checkpoint_kept h19

theorem State.engineSlots_kept {a1} (h : Kept r s) : Kept r (State.engineSlots s a1) := by
  unfold State.engineSlots
  extract_lets x2 x3 x4
  clear_value x3 x4
  refine Kept.foldl ?_ fun t6 a7 h8 => ?_
  · exact State.free_kept h
  · exact State.countN_kept h8

theorem State.countSlots_kept (h : Kept r s) : Kept r (State.countSlots s) := by
  unfold State.countSlots
  refine Kept.ite ?_ ?_
  · refine Kept.foldl h fun t3 a4 h5 => ?_
    exact State.engineSlots_kept h5
  · exact h

theorem State.snapshot_kept (h : Kept r s) : Kept r (State.snapshot s) := by
  unfold State.snapshot
  exact State.wr_kept (State.wr_kept (Kept.foldl (State.dropRegs_kept h) fun t kv ht => State.writeRegs_kept ht))

theorem State.settleShapers_kept (h : Kept r s) : Kept r (State.settleShapers s) := by
  unfold State.settleShapers
  extract_lets x2 x3 x4
  clear_value x2 x3 x4
  exact Kept.upd h rfl

theorem State.takeRate_kept {a1} (h : Kept r s) : Kept r (State.takeRate s a1) := by
  unfold State.takeRate
  extract_lets x2
  clear_value x2
  refine Kept.ite ?_ ?_
  · exact h
  · refine Kept.foldl h fun t6 a7 h8 => ?_
    exact State.modCrew_kept h8

theorem State.takeEnables_kept {a1} (h : Kept r s) : Kept r (State.takeEnables s a1) := by
  unfold State.takeEnables
  refine Kept.foldl h fun t2 a3 h4 => ?_
  extract_lets x6 x7
  clear_value x6 x7
  exact Kept.ite (State.stopBay_kept h4) (Kept.ite (State.toBay_kept h4) h4)

theorem State.turnEngines_kept {a1} (h : Kept r s) : Kept r (State.turnEngines s a1) := by
  unfold State.turnEngines
  split
  · exact State.swapWorn_kept h
  · refine Kept.ite ?_ ?_
    · refine Kept.ite ?_ ?_
      · exact State.setUpd_kept (Kept.upd h rfl)
      · extract_lets x12
        have h13 : Kept r x12 := State.setUpd_kept (State.coxReset_kept h)
        clear_value x12
        exact State.logActivate_kept (State.showFw_kept h13)
    · refine Kept.ite ?_ ?_
      · exact h
      · split
        · rename_i y18 y19 y20 y21
          have h22 : Kept r y19 := .of1 y21 (State.rollSwap_kept h)
          exact Kept.ite h22 (State.swapWorn_kept h22)

theorem State.countTurn_kept {a1} (h : Kept r s) : Kept r (State.countTurn s a1) := by
  unfold State.countTurn
  extract_lets x2
  clear_value x2
  exact State.countOpen_kept (State.wr_kept (State.wr_kept h))

theorem State.takeEffect_kept {a1} (h : Kept r s) : Kept r (State.takeEffect s a1) := by
  unfold State.takeEffect
  extract_lets rate enables changed saw x s1 s2 s3
  have h1 : Kept r s1 := by
    refine (State.settleShapers_kept h).updAll rfl (List.prefix_refl _) (Nat.le_refl _) (Fuses.Grow.refl _) id
      (fun _ hr => ?_) rfl
    exact Cells.filter_wf _ hr
  clear_value s1
  exact State.settleAddrs_kept (State.takeEnables_kept (State.turnNamespaces_kept (State.turnVolumes_kept
    (State.takeRate_kept (State.turnEngines_kept (State.routeFunctions_kept h1))))))

theorem State.turn_kept {a1} {a2} (h : Kept r s) : Kept r (State.turn s a1 a2) := by
  unfold State.turn
  split
  · extract_lets x8 x9 x10 x11 x12 x13 x14 x15 x16
    have h17 : Kept r x9 := State.snapshot_kept (State.countSlots_kept (State.closeHeat_kept (Kept.upd h rfl)))
    clear_value x9
    have h18 : Kept r x10 := Kept.upd h17 rfl
    clear_value x10
    have h19 : Kept r x11 := Kept.ite (State.sendTwin_kept h18) h18
    clear_value x11
    have h20 : Kept r x12 := by
      unfold x12
      refine Kept.foldl h19 fun t22 a23 h24 => ?_
      exact State.openSegment_kept h24
    clear_value x12
    have h26 : Kept r x13 := State.takeEffect_kept h20
    clear_value x13
    have h27 : Kept r x14 := by
      unfold x14
      split
      · rename_i y29 y30 y31
        extract_lets x33
        clear_value x33
        exact State.setAligned_kept (State.wr_kept h26)
      · rename_i y35 y36
        exact h26
    clear_value x14
    have h38 : Kept r x15 := Kept.ite (State.raise_kept h27) h27
    clear_value x15
    have h39 : Kept r x16 := Kept.ite (State.raiseOnce_kept h38) h38
    clear_value x16
    clear_value x8
    exact State.countTurn_kept h39

theorem State.takeMark_kept {a1} {a2} {a3} {a4} {a5} {a6} (h : Kept r s) : Kept r (State.takeMark s a1 a2 a3 a4 a5 a6) := by
  unfold State.takeMark
  extract_lets x2
  have h3 : Kept r x2 := Kept.ite h (State.raise_kept (Kept.ite (State.wrBoth_kept h) h))
  clear_value x2
  exact Kept.ite (State.turn_kept h3) h3

theorem State.cancelUncommitted_kept (h : Kept r s) : Kept r (State.cancelUncommitted s) := by
  unfold State.cancelUncommitted
  refine Kept.foldl h fun t2 a3 h4 => ?_
  exact State.failCmd_kept h4

theorem State.stopOwn_kept (h : Kept r s) : Kept r (State.stopOwn s) := by
  unfold State.stopOwn
  extract_lets x2 x3
  have h4 : Kept r x2 := by
    unfold x2
    refine Kept.foldl h fun t6 a7 h8 => ?_
    exact State.retire_kept h8
  clear_value x2
  have h10 : Kept r x3 := by
    unfold x3
    refine Kept.foldl h4 fun t12 a13 h14 => ?_
    refine Kept.foldl h14 fun t16 a17 h18 => ?_
    refine Kept.foldl h18 fun t20 a21 h22 => ?_
    exact State.cancelGroup_kept h22
  clear_value x3
  refine Kept.foldl h10 fun t25 a26 h27 => ?_
  extract_lets x29
  have h30 : Kept r x29 := State.modVol_kept h27
  clear_value x29
  exact State.markRecorded_kept h30

theorem State.startDrain_kept {a1} {a2} (h : Kept r s) : Kept r (State.startDrain s a1 a2) := by
  unfold State.startDrain
  extract_lets x2 x3 x4 x5 x6 x7
  have h8 : Kept r x3 := State.raise_kept (State.wr_kept (Kept.upd h rfl))
  clear_value x3
  have h9 : Kept r x5 := State.turn_kept (Kept.ite h8 (State.cancelUncommitted_kept h8))
  clear_value x5
  have h10 : Kept r x6 := State.stopOwn_kept (Kept.ite (State.handOverCrews_kept h9) h9)
  clear_value x6
  clear_value x2 x4 x7
  exact Kept.upd h10 rfl

theorem State.heldDrain_kept {a1} (h : Kept r s) : Kept r (State.heldDrain s a1) := by
  unfold State.heldDrain
  exact Kept.ite (State.startDrain_kept h) h

theorem execTurn_kept {a0} (h : Kept r s) : KeptNext r (execTurn a0 s) := by
  unfold execTurn
  refine KeptNext.next ?_
  exact Kept.ite (State.carryOn_kept (State.turn_kept h)) h

theorem execTurnMark_kept {a0} {a1} {a2} {a3} {a4} {a5} {a6} (h : Kept r s) : KeptNext r (execTurnMark a0 a1 a2 a3 a4 a5 a6 s) := by
  unfold execTurnMark
  refine KeptNext.next ?_
  refine State.carryOn_kept ?_
  refine State.rxFrame_kept h (fun t4 h5 => ?_)
  exact Kept1.mk (State.takeMark_kept h5)

theorem execPowerFailDrain_kept {a0} {a1} (h : Kept r s) : KeptNext r (execPowerFailDrain a0 a1 s) := by
  unfold execPowerFailDrain
  refine KeptNext.next ?_
  refine Kept.ite ?_ ?_
  · exact h
  · extract_lets x5 x6 x7
    have h8 : Kept r x6 := Kept.upd h rfl
    exact Kept.ite (State.wr_kept h8) (Kept.ite h8 (State.carryOn_kept (State.startDrain_kept h8)))

theorem actDrainMediaWritesEnd_kept (h : Kept r s) : KeptNext r (actDrainMediaWritesEnd s) := by
  unfold actDrainMediaWritesEnd
  refine KeptNext.next ?_
  refine Kept.ite ?_ ?_
  · exact h
  · extract_lets x5 x6
    have h7 : Kept r x5 := by
      unfold x5
      refine Kept.foldl h fun t9 a10 h11 => ?_
      exact State.issueBay_kept h11
    clear_value x5
    clear_value x6
    exact Kept.upd h7 rfl

theorem execDrainFlushComplete_kept (h : Kept r s) : KeptNext r (execDrainFlushComplete s) := by
  unfold execDrainFlushComplete
  refine KeptNext.next ?_
  refine Kept.ite ?_ ?_
  · exact h
  · extract_lets x5 x6
    have h7 : Kept r x5 := by
      unfold x5
      refine Kept.foldl h fun t9 a10 h11 => ?_
      exact State.checkpoint_kept h11
    clear_value x5
    clear_value x6
    exact State.carryOn_kept (Kept.upd h7 rfl)

theorem actDrainCleanMarkComplete_kept (h : Kept r s) : KeptNext r (actDrainCleanMarkComplete s) := by
  unfold actDrainCleanMarkComplete
  refine KeptNext.next ?_
  refine Kept.ite ?_ ?_
  · exact h
  · extract_lets x5 x6 x7
    have h8 : Kept r x6 := State.logOpen_kept (State.wr_kept h)
    clear_value x6
    clear_value x5 x7
    exact State.wr_kept (Kept.upd h8 rfl)

theorem execPwrFailNRise_kept (h : Kept r s) : KeptNext r (execPwrFailNRise s) := by
  unfold execPwrFailNRise
  extract_lets x2 x3
  have h4 : Kept r x3 := Kept.upd h rfl
  refine KeptNext.next ?_
  exact Kept.ite (State.wr_kept h4) h4

theorem execAdmissionResume_kept {a0} (h : Kept r s) : KeptNext r (execAdmissionResume a0 s) := by
  unfold execAdmissionResume
  refine KeptNext.next ?_
  refine Kept.ite ?_ ?_
  · exact h
  · extract_lets x5 x6
    have h7 : Kept r x6 := State.wr_kept (Kept.upd h rfl)
    clear_value x6
    clear_value x5
    exact State.carryOn_kept (State.blowSoft_kept (State.turn_kept h7))

theorem execPlannedHandover_kept (h : Kept r s) : KeptNext r (execPlannedHandover s) := by
  unfold execPlannedHandover
  refine KeptNext.next ?_
  split
  · exact Kept.ite (State.carryOn_kept (State.handOverCrews_kept h)) h
  · exact h

theorem execAcquireComplete_kept {a0} {a1} {a2} {a3} {a4} (h : Kept r s) : KeptNext r (execAcquireComplete a0 a1 a2 a3 a4 s) := by
  unfold execAcquireComplete
  refine KeptNext.next ?_
  exact Kept.ite h (Kept.ite (State.fence_kept h) (State.carryOn_kept (State.heldDrain_kept (State.adoptAll_kept h))))

theorem actAnswerDecline_kept {a0} {a1} (h : Kept r s) : KeptNext r (actAnswerDecline a0 a1 s) := by
  unfold actAnswerDecline
  refine KeptNext.next ?_
  refine State.answerPlain_kept h (fun t3 t4 h5 => ?_)
  exact Kept.ite (State.heldDrain_kept (State.declineTakeover_kept h5)) h5

theorem State.takeHeartbeat_kept {a1} (h : Kept r s) : Kept r (State.takeHeartbeat s a1) := by
  unfold State.takeHeartbeat
  split
  · exact Kept.ite (State.resendTwin_kept h) h
  · exact h

theorem State.takeNews_kept {a1} (h : Kept r s) : Kept r (State.takeNews s a1) := by
  unfold State.takeNews
  split
  · exact State.holdCrew_kept h
  · exact Kept.upd h rfl

theorem State.askHandover_kept (h : Kept r s) : Kept r (State.askHandover s) := by
  unfold State.askHandover
  exact Kept.ite h (Kept.upd h rfl)

theorem State.askGiveback_kept (h : Kept r s) : Kept r (State.askGiveback s) := by
  unfold State.askGiveback
  extract_lets x2 x3
  clear_value x2 x3
  exact Kept.ite h (Kept.upd h rfl)

theorem State.askTakeover_kept (h : Kept r s) : Kept r (State.askTakeover s) := by
  unfold State.askTakeover
  refine Kept.ite ?_ ?_
  · exact State.startTakeover_kept (State.wr_kept h)
  · refine Kept.ite ?_ ?_
    · split
      · exact State.goTakeover_kept (State.endItem_kept h)
      · exact h
    · exact h

theorem execHeartbeatSend_kept (h : Kept r s) : KeptNext r (execHeartbeatSend s) := by
  unfold execHeartbeatSend
  refine KeptNext.next ?_
  exact Kept.ite (State.sendTwin_kept h) h

theorem execHeartbeat_kept {a0} (h : Kept r s) : KeptNext r (execHeartbeat a0 s) := by
  unfold execHeartbeat
  refine KeptNext.next ?_
  refine State.carryOn_kept ?_
  refine State.rxFrame_kept h (fun t4 h5 => ?_)
  exact Kept1.mk (State.takeHeartbeat_kept h5)

theorem execBlock_kept {a0} {a1} (h : Kept r s) : KeptNext r (execBlock a0 a1 s) := by
  unfold execBlock
  refine KeptNext.next ?_
  refine State.carryOn_kept ?_
  refine State.rxFrame_kept h (fun t4 h5 => ?_)
  exact State.holdBlock_kept h5

theorem execCmd_kept {a0} {a1} (h : Kept r s) : KeptNext r (execCmd a0 a1 s) := by
  unfold execCmd
  refine KeptNext.next ?_
  refine State.carryOn_kept ?_
  refine State.rxFrame_kept h (fun t4 h5 => ?_)
  exact State.holdCmdRec_kept h5

theorem execCmdstate_kept {a0} {a1} (h : Kept r s) : KeptNext r (execCmdstate a0 a1 s) := by
  unfold execCmdstate
  refine KeptNext.next ?_
  refine State.carryOn_kept ?_
  refine State.rxFrame_kept h (fun t4 h5 => ?_)
  exact Kept1.mk (State.holdState_kept h5)

theorem execAssoc_kept {a0} {a1} (h : Kept r s) : KeptNext r (execAssoc a0 a1 s) := by
  unfold execAssoc
  refine KeptNext.next ?_
  refine State.carryOn_kept ?_
  refine State.rxFrame_kept h (fun t4 h5 => ?_)
  exact Kept1.mk (State.holdAssoc_kept h5)

theorem execCrew_kept {a0} {a1} (h : Kept r s) : KeptNext r (execCrew a0 a1 s) := by
  unfold execCrew
  refine KeptNext.next ?_
  refine State.carryOn_kept ?_
  refine State.rxFrame_kept h (fun t4 h5 => ?_)
  exact Kept1.mk (State.takeNews_kept h5)

theorem execRelease_kept {a0} {a1} {a2} (h : Kept r s) : KeptNext r (execRelease a0 a1 a2 s) := by
  unfold execRelease
  refine KeptNext.next ?_
  refine State.carryOn_kept ?_
  refine State.rxFrame_kept h (fun t4 h5 => ?_)
  exact Kept1.mk (State.releaseHeld_kept h5)

theorem execHandover_kept {a0} {a1} {a2} (h : Kept r s) : KeptNext r (execHandover a0 a1 a2 s) := by
  unfold execHandover
  refine KeptNext.next ?_
  refine State.carryOn_kept ?_
  refine State.rxFrame_kept h (fun t4 h5 => ?_)
  exact Kept1.mk (Kept.ite (State.takeHandover_kept h5) h5)

theorem execFatal_kept {a0} (h : Kept r s) : KeptNext r (execFatal a0 s) := by
  unfold execFatal
  refine KeptNext.next ?_
  refine State.carryOn_kept ?_
  refine State.rxFrame_kept h (fun t4 h5 => ?_)
  exact Kept1.mk (State.partnerLost_kept h5)

theorem execSync_kept {a0} {a1} (h : Kept r s) : KeptNext r (execSync a0 a1 s) := by
  unfold execSync
  refine KeptNext.next ?_
  refine State.carryOn_kept ?_
  refine State.rxFrame_kept h (fun t4 h5 => ?_)
  exact State.takeSync_kept h5

theorem execTwinLinkTrained_kept {a0} {a1} {a2} {a3} {a4} (h : Kept r s) : KeptNext r (execTwinLinkTrained a0 a1 a2 a3 a4 s) := by
  unfold execTwinLinkTrained
  refine KeptNext.next ?_
  exact State.carryOn_kept (State.linkTrained_kept h)

theorem execTwinLinkLockLoss_kept (h : Kept r s) : KeptNext r (execTwinLinkLockLoss s) := by
  unfold execTwinLinkLockLoss
  refine KeptNext.next ?_
  exact Kept.ite (State.carryOn_kept (State.partnerLost_kept (State.wr_kept (State.wr_kept h)))) h

theorem execTwinDeadTimeout_kept (h : Kept r s) : KeptNext r (execTwinDeadTimeout s) := by
  unfold execTwinDeadTimeout
  refine KeptNext.next ?_
  exact Kept.ite (State.carryOn_kept (State.partnerLost_kept h)) h

theorem execTakeoverDeferExpiry_kept (h : Kept r s) : KeptNext r (execTakeoverDeferExpiry s) := by
  unfold execTakeoverDeferExpiry
  refine KeptNext.next ?_
  exact State.carryOn_kept (State.deferEnds_kept h)

theorem execTwnCmdHandover_kept {a0} (h : Kept r s) : KeptNext r (execTwnCmdHandover a0 s) := by
  unfold execTwnCmdHandover
  refine KeptNext.next ?_
  exact Kept.ite (State.askHandover_kept h) h

theorem execTwnCmdTakeover_kept {a0} (h : Kept r s) : KeptNext r (execTwnCmdTakeover a0 s) := by
  unfold execTwnCmdTakeover
  refine KeptNext.next ?_
  exact Kept.ite (State.carryOn_kept (State.askTakeover_kept h)) h

theorem execTwnCmdGiveback_kept {a0} (h : Kept r s) : KeptNext r (execTwnCmdGiveback a0 s) := by
  unfold execTwnCmdGiveback
  refine KeptNext.next ?_
  exact Kept.ite (State.askGiveback_kept h) h

theorem actAnnounceRepeat_kept {a0} (h : Kept r s) : KeptNext r (actAnnounceRepeat a0 s) := by
  unfold actAnnounceRepeat
  extract_lets x2
  clear_value x2
  refine KeptNext.next ?_
  exact Kept.ite (State.announceEntry_kept h) h

end Sys2Proof.Machine
end

