-- ==== Sys2Proof/Laws/KeptManage.lean ====
section
/-!
SUPPORT. For each operation of Manage, Endpoint, EventCmds, Irq, SwitchCmds, Registers, Ready: what `Kept` says of the
state it gives, so that no later proof unfolds it.
-/

set_option linter.unusedVariables false

namespace Sys2Proof.Machine

variable {r s : State}

theorem State.sanitizeBay_kept {a1} {a2} {a3} {a4} {a5} (h : Kept r s) : Kept r (State.sanitizeBay s a1 a2 a3 a4 a5) := by
  unfold State.sanitizeBay
  extract_lets x2 x3 x4
  have h5 : Kept r x2 := State.issueBay_kept h
  clear_value x2
  have h6 : Kept r x4 := Kept.upd h5 rfl
  clear_value x4
  clear_value x3
  exact State.raise_kept (Kept.ite (State.sendTwin_kept h6) h6)

theorem State.unassemble_kept {a1} {a2} (h : Kept r s) : Kept r (State.unassemble s a1 a2) := by
  unfold State.unassemble
  extract_lets x2 x3 x4 x5
  have h6 : Kept r x2 := by
    unfold x2
    refine Kept.foldl h fun t8 a9 h10 => ?_
    exact State.freeBuffers_kept h10
  clear_value x2
  have h12 : Kept r x3 := by
    unfold x3
    refine Kept.foldl h6 fun t14 a15 h16 => ?_
    refine Kept.foldl h16 fun t18 a19 h20 => ?_
    exact State.freeBuffers_kept h20
  clear_value x3
  have h22 : Kept r x4 := by
    unfold x4
    refine Kept.foldl h12 fun t24 a25 h26 => ?_
    exact Kept1.fst (State.mirror_kept h26)
  clear_value x4
  clear_value x5
  exact State.wr_kept (State.wr_kept (State.dropCrew_kept h22))

theorem State.startSanitize_kept {a1} {a2} {a3} {a4} {a5} {a6} {a7} {a8} (h : Kept r s) : Kept r (State.startSanitize s a1 a2 a3 a4 a5 a6 a7 a8) := by
  unfold State.startSanitize
  refine Kept.ite ?_ ?_
  · exact State.vendor_kept h
  · split
    · exact State.vendor_kept h
    · refine Kept.ite ?_ ?_
      · exact State.vendor_kept h
      · refine Kept.ite ?_ ?_
        · exact State.vendor_kept h
        · extract_lets x16
          have h17 : Kept r x16 := by
            unfold x16
            split
            · rename_i y19 y20 y21 y22 y23
              exact State.unassemble_kept h
            · rename_i y25 y26 y27 y28 y29
              exact h
          clear_value x16
          refine Kept.foldl (State.vendor_kept h17) fun t32 a33 h34 => ?_
          exact State.sanitizeBay_kept h34

theorem State.sanitizeEnds_kept {a1} {a2} (h : Kept r s) : Kept r (State.sanitizeEnds s a1 a2) := by
  unfold State.sanitizeEnds
  extract_lets x2 x3 x4 x5 x6 x7 x8 x9
  have h10 : Kept r x4 := Kept.upd h rfl
  clear_value x4
  have h11 : Kept r x5 := State.logOpen_kept h10
  clear_value x5
  have h12 : Kept r x8 := Kept.upd h11 rfl
  clear_value x8
  have h13 : Kept r x9 := Kept.ite (State.sendTwin_kept h12) h12
  clear_value x9
  clear_value x2 x3 x6 x7
  exact Kept.ite (State.raise_kept h11) (State.driveArrives_kept (State.raise_kept h13))

theorem State.nvmeMi_kept {a1} {a2} (h : Kept r s) : Kept r (State.nvmeMi s a1 a2) := by
  unfold State.nvmeMi
  exact State.emit_kept h

theorem execSanitize_kept {a0} {a1} {a2} {a3} {a4} {a5} {a6} {a7} {a8} (h : Kept r s) : KeptNext r (execSanitize a0 a1 a2 a3 a4 a5 a6 a7 a8 s) := by
  unfold execSanitize
  refine State.askVendor_kept h ?_
  refine KeptNext.next ?_
  refine State.signed_kept h (fun t5 h6 => ?_)
  exact State.carryOn_kept (State.startSanitize_kept h6)

theorem execSanitizePoll_kept {a0} {a1} {a2} (h : Kept r s) : KeptNext r (execSanitizePoll a0 a1 a2 s) := by
  unfold execSanitizePoll
  refine State.byCox_kept h ?_
  refine KeptNext.next ?_
  refine Kept.ite ?_ ?_
  · exact Kept.ite (Kept.upd h rfl) h
  · split
    · exact State.carryOn_kept (State.sanitizeEnds_kept h)
    · exact Kept.upd h rfl

theorem actReadNvmeMiDataStructure_kept {a0} (h : Kept r s) : KeptNext r (actReadNvmeMiDataStructure a0 s) := by
  unfold actReadNvmeMiDataStructure
  refine State.askMi_kept h ?_
  refine KeptNext.next ?_
  split
  · exact State.nvmeMi_kept h
  · exact State.nvmeMi_kept h
  · exact State.nvmeMi_kept h
  · exact State.nvmeMi_kept h
  · exact State.nvmeMi_kept h
  · exact State.nvmeMi_kept h

theorem actNvmSubsystemHealthStatusPoll_kept (h : Kept r s) : KeptNext r (actNvmSubsystemHealthStatusPoll s) := by
  unfold actNvmSubsystemHealthStatusPoll
  refine State.askMi_kept h ?_
  refine KeptNext.next ?_
  exact State.nvmeMi_kept h

theorem actControllerHealthStatusPoll_kept {a0} (h : Kept r s) : KeptNext r (actControllerHealthStatusPoll a0 s) := by
  unfold actControllerHealthStatusPoll
  refine State.askMi_kept h ?_
  refine KeptNext.next ?_
  split
  · exact State.nvmeMi_kept h
  · exact State.nvmeMi_kept h

theorem actMiTunneledAdminCommand_kept {a0} {a1} (h : Kept r s) : KeptNext r (actMiTunneledAdminCommand a0 a1 s) := by
  unfold actMiTunneledAdminCommand
  refine State.askMi_kept h ?_
  refine KeptNext.next ?_
  split
  · exact State.nvmeMi_kept h
  · exact State.nvmeMi_kept h
  · exact State.nvmeMi_kept h
  · refine Kept.ite ?_ ?_
    · refine Kept.ite ?_ ?_
      · exact State.nvmeMi_kept h
      · extract_lets x20
        clear_value x20
        exact State.nvmeMi_kept h
    · exact State.nvmeMi_kept h
  · exact State.nvmeMi_kept h

theorem State.settleEndpoint_kept (h : Kept r s) : Kept r (State.settleEndpoint s) := by
  unfold State.settleEndpoint
  extract_lets x2
  clear_value x2
  exact Kept.ite h (Kept.ite (State.raise_kept (State.loseRings_kept (State.wr_kept h))) (State.drainSamples_kept (State.drainHost_kept (State.raise_kept (State.wr_kept h)))))

theorem State.endpointDown_kept (h : Kept r s) : Kept r (State.endpointDown s) := by
  unfold State.endpointDown
  exact State.settleEndpoint_kept (Kept.upd h rfl)

theorem State.endpointReset_kept {a1} (h : Kept r s) : Kept r (State.endpointReset s a1) := by
  unfold State.endpointReset
  extract_lets s1
  have h1 : Kept r s1 := State.loseRings_kept (State.endpointDown_kept h)
  clear_value s1
  exact h1.updAll rfl (List.prefix_refl _) (Nat.le_refl _) (Fuses.Grow.refl _) (Cells.filter_wf _) (fun he _ => Cells.filter_wf _ he) rfl

theorem State.msixWrite_kept {a1} {a2} (h : Kept r s) : Kept r (State.msixWrite s a1 a2) := by
  unfold State.msixWrite
  extract_lets x2 x3 x4
  clear_value x2 x3 x4
  exact Kept.ite h (Kept.ite (Kept.upd h rfl) (Kept.ite (Kept.upd h rfl) (State.sendPba_kept (Kept.upd h rfl))))

theorem State.configure_kept {a1} (h : Kept r s) : Kept r (State.configure s a1) := by
  unfold State.configure
  split
  · exact State.emit_kept (Kept.ite (State.tick_kept h) h)
  · exact State.settleEndpoint_kept (Kept.upd h rfl)
  · exact Kept.upd h rfl
  · exact Kept.ite (Kept.upd h rfl) h
  · exact State.settleEndpoint_kept (State.sendPba_kept (State.sendInta_kept (Kept.upd h rfl)))
  · exact Kept.upd h rfl
  · exact Kept.ite h (Kept.upd h rfl)
  · exact h
  · exact State.msixWrite_kept h
  · exact State.emit_kept h
  · exact Kept.ite h (Kept.upd h rfl)

theorem State.unitLinkDown_kept {a1} (h : Kept r s) : Kept r (State.unitLinkDown s a1) := by
  unfold State.unitLinkDown
  refine Kept.ite ?_ ?_
  · refine Kept.foldl h fun t3 a4 h5 => ?_
    exact State.lportDown_kept h5
  · exact Kept.ite (Kept.ite (State.partnerLost_kept (State.wr_kept (State.wr_kept h))) h) (Kept.ite (State.endpointReset_kept h) (Kept.ite (State.driveGone_kept (State.dropLink_kept h)) h))

theorem State.closeForced_kept {a1} (h : Kept r s) : Kept r (State.closeForced s a1) := by
  unfold State.closeForced
  exact State.unitLinkDown_kept (State.setClosed_kept h)

theorem State.answerGated_kept {a1} (h : Kept r s) : Kept r (State.answerGated s a1) := by
  unfold State.answerGated
  split
  · exact Kept.ite h (State.emit_kept h)
  · split
    · exact State.finish_kept h
    · exact h
  · exact State.emit_kept h

theorem State.forceGates_kept {a1} {a2} {a3} (h : Kept r s) : Kept r (State.forceGates s a1 a2 a3) := by
  unfold State.forceGates
  extract_lets x2 x3 x4 x5 x6 x7 x8 x9 x10 x11 x12
  have h13 : Kept r x2 := Kept.ite (State.wr_kept h) (State.wr_kept (State.wr_kept (State.wr_kept (State.wr_kept h))))
  clear_value x2
  have h14 : Kept r x10 := by
    unfold x10
    refine Kept.foldl h13 fun t16 a17 h18 => ?_
    exact Kept.ite h18 (State.modBay_kept h18)
  clear_value x10
  have h20 : Kept r x12 := Kept.upd h14 rfl
  clear_value x12
  clear_value x3 x4 x5 x7 x8 x9 x11
  refine Kept.foldl h20 fun t22 a23 h24 => ?_
  exact State.closeForced_kept h24

theorem State.allLinksDown_kept (h : Kept r s) : Kept r (State.allLinksDown s) := by
  unfold State.allLinksDown
  refine Kept.foldl h fun t2 a3 h4 => ?_
  exact State.unitLinkDown_kept h4

theorem execEndpointReset_kept {a0} (h : Kept r s) : KeptNext r (execEndpointReset a0 s) := by
  unfold execEndpointReset
  refine KeptNext.next ?_
  exact State.carryOn_kept (State.endpointReset_kept h)

theorem execPerstNRelease_kept (h : Kept r s) : KeptNext r (execPerstNRelease s) := by
  unfold execPerstNRelease
  refine KeptNext.next ?_
  exact Kept.upd h rfl

theorem actEndpointLinkUp_kept {a0} {a1} {a2} (h : Kept r s) : KeptNext r (actEndpointLinkUp a0 a1 a2 s) := by
  unfold actEndpointLinkUp
  refine KeptNext.next ?_
  refine Kept.ite ?_ ?_
  · exact h
  · extract_lets x5 x6
    have h7 : Kept r x6 := Kept.upd h rfl
    clear_value x6
    clear_value x5
    exact State.settleEndpoint_kept (State.settleCclk_kept (State.wr_kept (State.wr_kept h7)))

theorem execEndpointLinkDown_kept (h : Kept r s) : KeptNext r (execEndpointLinkDown s) := by
  unfold execEndpointLinkDown
  refine KeptNext.next ?_
  exact Kept.ite (State.carryOn_kept (State.endpointReset_kept h)) h

theorem execConfigurationRequest_kept {a0} (h : Kept r s) : KeptNext r (execConfigurationRequest a0 s) := by
  unfold execConfigurationRequest
  refine KeptNext.next ?_
  exact Kept.ite (State.carryOn_kept (State.configure_kept h)) (State.emit_kept h)

theorem execD3hotEntry_kept (h : Kept r s) : KeptNext r (execD3hotEntry s) := by
  unfold execD3hotEntry
  refine KeptNext.next ?_
  exact Kept.ite (State.carryOn_kept (State.settleEndpoint_kept (Kept.upd h rfl))) h

theorem execClkGateForce_kept {a0} {a1} {a2} (h : Kept r s) : KeptNext r (execClkGateForce a0 a1 a2 s) := by
  unfold execClkGateForce
  refine KeptNext.next ?_
  exact State.carryOn_kept (State.forceGates_kept h)

theorem execGateIdleClose_kept {a0} (h : Kept r s) : KeptNext r (execGateIdleClose a0 s) := by
  unfold execGateIdleClose
  refine KeptNext.next ?_
  exact Kept.ite h (Kept.ite (State.carryOn_kept (State.closeForced_kept (Kept.upd h rfl))) (Kept.ite h (State.setClosed_kept h)))

theorem execForcedGateTimeout_kept {a0} (h : Kept r s) : KeptNext r (execForcedGateTimeout a0 s) := by
  unfold execForcedGateTimeout
  refine KeptNext.next ?_
  split
  · exact h
  · extract_lets x10 x11 x12 x13
    have h14 : Kept r x12 := by
      unfold x12
      refine Kept.foldl (Kept.upd h rfl) fun t16 a17 h18 => ?_
      exact State.answerGated_kept h18
    clear_value x12
    have h20 : Kept r x13 := Kept.ite h14 (State.raise_kept h14)
    clear_value x13
    clear_value x10 x11
    exact State.carryOn_kept (State.closeForced_kept h20)

theorem execHoldoverExpiry_kept (h : Kept r s) : KeptNext r (execHoldoverExpiry s) := by
  unfold execHoldoverExpiry
  refine KeptNext.next ?_
  refine Kept.ite ?_ ?_
  · extract_lets x4 x5 x6 x7
    have h8 : Kept r x5 := State.wr_kept (Kept.upd h rfl)
    clear_value x5
    have h9 : Kept r x6 := by
      unfold x6
      refine Kept.foldl h8 fun t11 a12 h13 => ?_
      exact State.setDom_kept h13
    clear_value x6
    have h15 : Kept r x7 := by
      unfold x7
      refine Kept.foldl h9 fun t17 a18 h19 => ?_
      exact State.setDom_kept h19
    clear_value x7
    clear_value x4
    exact State.carryOn_kept (State.raise_kept (State.allLinksDown_kept h15))
  · exact h

theorem execEvtFqDone_kept {a0} (h : Kept r s) : KeptNext r (execEvtFqDone a0 s) := by
  unfold execEvtFqDone
  refine KeptNext.next ?_
  exact State.endHandling_kept h

theorem execPmuFreeze_kept {a0} (h : Kept r s) : KeptNext r (execPmuFreeze a0 s) := by
  unfold execPmuFreeze
  refine KeptNext.next ?_
  exact State.wr_kept h

theorem State.clearCounters_kept (h : Kept r s) : Kept r (State.clearCounters s) := by
  unfold State.clearCounters
  exact State.dropRegs_kept h

theorem execPmuClear_kept (h : Kept r s) : KeptNext r (execPmuClear s) := by
  unfold execPmuClear
  refine KeptNext.next ?_
  exact State.clearCounters_kept h

theorem State.loadJtag_kept {a1} {a2} (h : Kept r s) : Kept r (State.loadJtag s a1 a2) := by
  unfold State.loadJtag
  exact State.emit_kept (Kept.upd h rfl)

theorem execIdcode_kept (h : Kept r s) : KeptNext r (execIdcode s) := by
  unfold execIdcode
  refine KeptNext.next ?_
  exact State.loadJtag_kept h

theorem execBypass_kept (h : Kept r s) : KeptNext r (execBypass s) := by
  unfold execBypass
  refine KeptNext.next ?_
  exact State.loadJtag_kept h

theorem actSamplePreload_kept (h : Kept r s) : KeptNext r (actSamplePreload s) := by
  unfold actSamplePreload
  refine KeptNext.next ?_
  exact Kept.ite (State.tick_kept (State.loadJtag_kept h)) (State.loadJtag_kept h)

theorem actExtest_kept (h : Kept r s) : KeptNext r (actExtest s) := by
  unfold actExtest
  refine KeptNext.next ?_
  exact Kept.ite (State.tick_kept (State.loadJtag_kept h)) (State.loadJtag_kept h)

theorem execClamp_kept (h : Kept r s) : KeptNext r (execClamp s) := by
  unfold execClamp
  refine KeptNext.next ?_
  exact State.loadJtag_kept h

theorem execEptIrqPendClear_kept {a0} {a1} (h : Kept r s) : KeptNext r (execEptIrqPendClear a0 a1 s) := by
  unfold execEptIrqPendClear
  extract_lets x2
  clear_value x2
  refine KeptNext.next ?_
  exact State.settleLine_kept (State.wr_kept h)

theorem actMsixEnableChange_kept {a0} (h : Kept r s) : KeptNext r (actMsixEnableChange a0 s) := by
  unfold actMsixEnableChange
  refine KeptNext.ite ?_ ?_
  · refine KeptNext.next ?_
    exact h
  · refine KeptNext.ite ?_ ?_
    · extract_lets x6 x7 x8
      have h9 : Kept r x7 := State.settleLine_kept (State.wr_kept h)
      clear_value x7
      have h10 : Kept r x8 := by
        unfold x8
        refine Kept.foldl h9 fun t12 a13 h14 => ?_
        exact State.requestVector_kept (State.setPend_kept h14)
      clear_value x8
      clear_value x6
      refine KeptNext.next ?_
      exact State.raise_kept h10
    · extract_lets x19 x20 x21 x22 x23
      have h24 : Kept r x20 := State.wr_kept h
      clear_value x20
      have h25 : Kept r x22 := Kept.upd h24 rfl
      clear_value x22
      have h26 : Kept r x23 := by
        unfold x23
        refine Kept.foldl h25 fun t28 a29 h30 => ?_
        exact Kept.ite h30 (State.setPend_kept h30)
      clear_value x23
      clear_value x19 x21
      refine KeptNext.next ?_
      exact State.raise_kept (State.settleLine_kept h26)

theorem execMsixMaskClear_kept {a0} (h : Kept r s) : KeptNext r (execMsixMaskClear a0 s) := by
  unfold execMsixMaskClear
  split
  · refine KeptNext.next ?_
    exact State.sendPba_kept (Kept.upd h rfl)
  · refine KeptNext.next ?_
    exact State.sendPba_kept (Kept.upd h rfl)

theorem execInterruptDisableChange_kept {a0} (h : Kept r s) : KeptNext r (execInterruptDisableChange a0 s) := by
  unfold execInterruptDisableChange
  refine KeptNext.next ?_
  exact State.settleLine_kept (Kept.upd h rfl)

theorem State.setGates_kept {a1} {a2} (h : Kept r s) : Kept r (State.setGates s a1 a2) := by
  unfold State.setGates
  exact Kept.upd h rfl

theorem State.setLocked_kept {a1} (h : Kept r s) : Kept r (State.setLocked s a1) := by
  unfold State.setLocked
  exact Kept.ite h (State.raise_kept (State.wr_kept h))

theorem State.stepTod_kept {a1} (h : Kept r s) : Kept r (State.stepTod s a1) := by
  unfold State.stepTod
  exact Kept.upd h rfl

theorem State.servo_kept {a1} (h : Kept r s) : Kept r (State.servo s a1) := by
  unfold State.servo
  extract_lets x2 x3 x4 x5
  have h6 : Kept r x3 := State.wr_kept h
  clear_value x3
  have h7 : Kept r x5 := Kept.upd h6 rfl
  clear_value x5
  clear_value x2 x4
  exact Kept.ite (Kept.ite (State.setLocked_kept (State.stepTod_kept h7)) (Kept.ite (State.setLocked_kept h7) h7)) (Kept.ite (State.setLocked_kept h7) (Kept.ite (State.stepTod_kept h7) h7))

theorem State.synced_kept {a1} {a2} {a3} (h : Kept r s) : Kept r (State.synced s a1 a2 a3) := by
  unfold State.synced
  extract_lets x2 x3 x4
  have h5 : Kept r x3 := Kept.upd h rfl
  clear_value x3
  have h6 : Kept r x4 := State.servo_kept h5
  clear_value x4
  clear_value x2
  exact State.sendControl_kept (State.emit_kept (State.shiftOffset_kept h6))

theorem actFrameReceive_kept {a0} {a1} {a2} {a3} {a4} {a5} (h : Kept r s) : KeptNext r (actFrameReceive a0 a1 a2 a3 a4 a5 s) := by
  unfold actFrameReceive
  refine KeptNext.ite ?_ ?_
  · refine KeptNext.next ?_
    exact h
  · refine KeptNext.ite ?_ ?_
    · refine KeptNext.next ?_
      exact State.dropOne_kept h
    · refine KeptNext.ite ?_ ?_
      · refine KeptNext.next ?_
        exact h
      · split
        · refine KeptNext.next ?_
          exact Kept1.fst (State.admitFrame_kept h)
        · refine KeptNext.next ?_
          exact Kept.ite h (State.dropOne_kept h)
        · refine KeptNext.next ?_
          exact Kept.ite h (State.dropOne_kept h)
        · refine KeptNext.next ?_
          exact Kept.ite h (State.dropOne_kept h)
        · refine KeptNext.next ?_
          exact h
        · refine KeptNext.next ?_
          exact State.dropOne_kept h

theorem actArpRequest_kept {a0} {a1} {a2} (h : Kept r s) : KeptNext r (actArpRequest a0 a1 a2 s) := by
  unfold actArpRequest
  refine KeptNext.next ?_
  split
  · exact State.sendControl_kept (State.emit_kept h)
  · exact h

theorem actNeighbourSolicitation_kept {a0} {a1} {a2} (h : Kept r s) : KeptNext r (actNeighbourSolicitation a0 a1 a2 s) := by
  unfold actNeighbourSolicitation
  refine KeptNext.next ?_
  split
  · exact State.sendControl_kept (State.emit_kept h)
  · exact h

theorem actLinkStateChange_kept {a0} {a1} (h : Kept r s) : KeptNext r (actLinkStateChange a0 a1 s) := by
  unfold actLinkStateChange
  refine KeptNext.ite ?_ ?_
  · refine KeptNext.ite ?_ ?_
    · refine KeptNext.next ?_
      exact State.raise_kept (State.settleAddrs_kept (State.wrBit_kept h))
    · refine KeptNext.next ?_
      exact h
  · refine KeptNext.next ?_
    exact State.lportDown_kept h

theorem actPortTransmit_kept {a0} {a1} (h : Kept r s) : KeptNext r (actPortTransmit a0 a1 s) := by
  unfold actPortTransmit
  extract_lets x2
  have h3 : Kept r x2 := State.pass_kept h
  clear_value x2
  refine KeptNext.ite ?_ ?_
  · refine KeptNext.next ?_
    exact h3
  · split
    · rename_i y8 y9 y10 y11
      have h12 : Kept r y9 := .of1 y11 (State.portPick_kept h3)
      refine KeptNext.next ?_
      exact State.sendHeld_kept h12
    · rename_i y15 y16 y17
      have h18 : Kept r y16 := .of1 y17 (State.portPick_kept h3)
      refine KeptNext.next ?_
      exact h3

theorem actResidueTimeout_kept {a0} (h : Kept r s) : KeptNext r (actResidueTimeout a0 s) := by
  unfold actResidueTimeout
  split
  · refine KeptNext.next ?_
    exact h
  · extract_lets x11 x12
    have h13 : Kept r x12 := Kept.upd h rfl
    clear_value x12
    clear_value x11
    refine KeptNext.next ?_
    exact State.raiseOnce_kept (State.showBuffer_kept (State.endCopy_kept (State.dropOne_kept h13)))

theorem actBankReplace_kept {a0} (h : Kept r s) : KeptNext r (actBankReplace a0 s) := by
  unfold actBankReplace
  refine KeptNext.ite ?_ ?_
  · refine KeptNext.next ?_
    exact h
  · extract_lets x5 x6 x7
    have h8 : Kept r x6 := Kept.upd h rfl
    refine KeptNext.next ?_
    exact Kept.ite (State.raise_kept (State.wr_kept h8)) (State.raise_kept (State.showBuffer_kept (State.wr_kept h8)))

theorem actGateIntervalEnd_kept {a0} {a1} (h : Kept r s) : KeptNext r (actGateIntervalEnd a0 a1 s) := by
  unfold actGateIntervalEnd
  extract_lets x2 x3 x4 x5 x6 x7 x8
  have h9 : Kept r x2 := State.pass_kept h
  clear_value x2
  have h10 : Kept r x6 := by
    unfold x6
    refine Kept.foldl h9 fun t12 a13 h14 => ?_
    exact State.raiseOnce_kept (State.dropOne_kept (State.unhold_kept h14))
  clear_value x6
  have h16 : Kept r x7 := Kept.ite h10 (State.offerResidue_kept h10)
  clear_value x7
  clear_value x3 x5 x8
  refine KeptNext.ite ?_ ?_
  · refine KeptNext.next ?_
    exact h9
  · refine KeptNext.next ?_
    exact Kept.upd h16 rfl

theorem State.changeGates_kept {a1} (h : Kept r s) : Kept r (State.changeGates s a1) := by
  unfold State.changeGates
  extract_lets x2 x3 x4
  clear_value x2 x3 x4
  exact Kept.ite (State.raise_kept h) (State.wr_kept (State.setGates_kept h))

theorem actGateListChange_kept {a0} (h : Kept r s) : KeptNext r (actGateListChange a0 s) := by
  unfold actGateListChange
  refine KeptNext.next ?_
  exact Kept.ite h (State.changeGates_kept h)

theorem actGateListTakeover_kept {a0} {a1} (h : Kept r s) : KeptNext r (actGateListTakeover a0 a1 s) := by
  unfold actGateListTakeover
  extract_lets x2
  have h3 : Kept r x2 := State.pass_kept h
  clear_value x2
  split
  · refine KeptNext.ite ?_ ?_
    · refine KeptNext.next ?_
      exact h3
    · refine KeptNext.next ?_
      exact State.raise_kept (State.wr_kept (State.wr_kept (State.setGates_kept h3)))
  · refine KeptNext.next ?_
    exact h3

theorem State.chooseMaster_kept (h : Kept r s) : Kept r (State.chooseMaster s) := by
  unfold State.chooseMaster
  split
  · exact h
  · extract_lets x9 x10 x11 x12
    have h13 : Kept r x12 := State.wr_kept (Kept.upd h rfl)
    clear_value x12
    clear_value x9 x10 x11
    exact Kept.ite (Kept.upd h rfl) (Kept.ite (State.raise_kept h13) h13)

theorem actAnnounce_kept {a0} {a1} {a2} {a3} (h : Kept r s) : KeptNext r (actAnnounce a0 a1 a2 a3 s) := by
  unfold actAnnounce
  refine KeptNext.ite ?_ ?_
  · refine KeptNext.next ?_
    exact h
  · extract_lets x5 x6
    clear_value x5 x6
    refine KeptNext.next ?_
    exact State.chooseMaster_kept (Kept.upd h rfl)

theorem actPtpSync_kept {a0} {a1} {a2} {a3} {a4} {a5} (h : Kept r s) : KeptNext r (actPtpSync a0 a1 a2 a3 a4 a5 s) := by
  unfold actPtpSync
  extract_lets x2 x3
  have h4 : Kept r x2 := State.pass_kept h
  clear_value x2
  clear_value x3
  refine KeptNext.ite ?_ ?_
  · refine KeptNext.next ?_
    exact h4
  · refine KeptNext.ite ?_ ?_
    · refine KeptNext.next ?_
      exact Kept.upd h4 rfl
    · refine KeptNext.next ?_
      exact State.synced_kept h4

theorem actFollowUp_kept {a0} {a1} {a2} {a3} (h : Kept r s) : KeptNext r (actFollowUp a0 a1 a2 a3 s) := by
  unfold actFollowUp
  split
  · refine KeptNext.next ?_
    exact Kept.ite (State.synced_kept h) h
  · refine KeptNext.next ?_
    exact h

theorem execDelayResp_kept {a0} {a1} {a2} {a3} {a4} (h : Kept r s) : KeptNext r (execDelayResp a0 a1 a2 a3 a4 s) := by
  unfold execDelayResp
  split
  · refine KeptNext.next ?_
    exact Kept.ite (Kept.upd h rfl) h
  · refine KeptNext.next ?_
    exact h

theorem actPtpSyncTimeout_kept (h : Kept r s) : KeptNext r (actPtpSyncTimeout s) := by
  unfold actPtpSyncTimeout
  extract_lets x2 x3
  clear_value x2 x3
  refine KeptNext.next ?_
  exact State.chooseMaster_kept (State.setLocked_kept (Kept.upd h rfl))

theorem State.abortRest_kept {a1} {n} (h : Kept r s) : Kept r (State.abortRest s a1 n) := by
  induction n generalizing s with
  | zero => exact h
  | succ n ih =>
    unfold State.abortRest
    exact Kept.ite h (ih (State.wr_kept (State.complete_kept (Kept.upd h rfl))))

theorem State.shutdownRing_kept {a1} (h : Kept r s) : Kept r (State.shutdownRing s a1) := by
  unfold State.shutdownRing
  extract_lets x2 x3 x4 x5 x6
  have h7 : Kept r x4 := by
    unfold x4
    refine Kept.foldl h fun t9 a10 h11 => ?_
    exact State.complete_kept h11
  clear_value x4
  have h13 : Kept r x5 := State.wr_kept (State.abortRest_kept h7)
  clear_value x5
  have h14 : Kept r x6 := State.unroute_kept h
  clear_value x6
  clear_value x3
  refine Kept.ite ?_ ?_
  · refine Kept.ite ?_ ?_
    · refine State.raise_kept ?_
      unfold x2
      exact State.wr_kept (State.wr_kept (State.dropTaken_kept h))
    · refine State.raise_kept ?_
      unfold x2
      exact State.wr_kept (State.wr_kept h13)
  · refine Kept.ite ?_ ?_
    · unfold x2
      exact State.wr_kept (State.wr_kept (State.fallAll_kept h14))
    · unfold x2
      exact State.wr_kept (State.wr_kept h)

theorem State.writeRing_kept {a1} {a2} {a3} (h : Kept r s) : Kept r (State.writeRing s a1 a2 a3) := by
  unfold State.writeRing
  extract_lets x2 x3 x4 x5 x6
  have h7 : Kept r x6 := State.storeWord_kept h
  clear_value x6
  clear_value x2 x3 x4 x5
  exact Kept.ite (State.enableRing_kept h) (Kept.ite (State.shutdownRing_kept h7) h7)

theorem State.writeHostRing_kept {a1} {a2} {a3} {a4} {a5} {a6} (h : Kept r s) : Kept r (State.writeHostRing s a1 a2 a3 a4 a5 a6) := by
  unfold State.writeHostRing
  extract_lets x2
  have h3 : Kept r x2 := State.storeWord_kept h
  clear_value x2
  exact Kept.ite h3 (Kept.ite (State.drainHost_kept (State.wr_kept (State.wr_kept (State.wr_kept h3)))) (State.wr_kept h3))

theorem State.writeSlot_kept {a1} {a2} {a3} {a4} (h : Kept r s) : Kept r (State.writeSlot s a1 a2 a3 a4) := by
  unfold State.writeSlot
  extract_lets x2 x3
  have h4 : Kept r x3 := State.storeWord_kept h
  clear_value x3
  clear_value x2
  exact Kept.ite h4 (Kept.ite (State.stopBay_kept (State.wr_kept h4)) (State.powerOn_kept h4))

theorem State.writeReg_kept {a1} {a2} {a3} (h : Kept r s) : Kept r (State.writeReg s a1 a2 a3) := by
  unfold State.writeReg
  extract_lets x2 x3 x4 x5 x6 x7 x8
  have h9 : Kept r x3 := State.storeWord_kept h
  clear_value x3
  have h10 : Kept r x6 := Kept.ite (State.askHandover_kept h) h
  clear_value x6
  have h11 : Kept r x7 := Kept.ite (State.askTakeover_kept h10) h10
  clear_value x7
  clear_value x2 x8
  refine Kept.ite ?_ ?_
  · exact Kept.ite h (Kept.ite (State.systemReset_kept h) (Kept.ite (State.coxReset_kept (State.tick_kept h)) h))
  · refine Kept.ite ?_ ?_
    · exact Kept.ite (State.commandSwitch_kept h) h
    · refine Kept.ite ?_ ?_
      · exact State.forceGates_kept h
      · refine Kept.ite ?_ ?_
        · exact State.forceGates_kept h
        · refine Kept.ite ?_ ?_
          · exact Kept.ite h (Kept.ite (State.askGiveback_kept h11) h11)
          · refine Kept.ite ?_ ?_
            · exact State.kloadCmd_kept h
            · refine Kept.ite ?_ ?_
              · exact State.endHandling_kept h
              · refine Kept.ite ?_ ?_
                · exact Kept.ite (State.clearCounters_kept h9) h9
                · refine Kept.ite ?_ ?_
                  · exact State.writeHostRing_kept h
                  · refine Kept.ite ?_ ?_
                    · exact State.writeHostRing_kept h
                    · refine Kept.ite ?_ ?_
                      · exact Kept.ite (State.drainHost_kept h9) (State.raise_kept h)
                      · refine Kept.ite ?_ ?_
                        · exact Kept.ite h9 (State.raise_kept h)
                        · refine Kept.ite ?_ ?_
                          · exact State.settleLine_kept h9
                          · split
                            · exact State.writeRing_kept h
                            · exact State.writePi_kept h
                            · exact State.writeCi_kept h
                            · exact State.writeSlot_kept h
                            · split
                              · exact State.wr_kept h
                              · exact Kept.ite (State.changeGates_kept h9) h9
                              · exact Kept.ite (Kept.upd h9 rfl) h9
                              · exact Kept.upd h9 rfl
                              · exact h9

theorem State.accessWrite_kept {a1} {a2} {a3} {a4} (h : Kept r s) : Kept1 r (State.accessWrite s a1 a2 a3 a4) := by
  unfold State.accessWrite
  refine Kept1.ite ?_ ?_
  · refine Kept1.mk ?_
    split
    · exact State.emit_kept h
    · exact State.emit_kept h
    · exact h
    · exact h
  · exact Kept1.ite (Kept1.mk (State.raise_kept h)) (Kept1.ite (Kept1.mk (State.refuseB_kept h)) (Kept1.mk (State.writeReg_kept (State.wakeFor_kept h))))

theorem State.refuseAccess_kept {a1} {a2} {a3} (h : Kept r s) : Kept r (State.refuseAccess s a1 a2 a3) := by
  unfold State.refuseAccess
  split
  · extract_lets x4
    have h5 : Kept r x4 := State.raiseOnce_kept (State.bump_kept h)
    clear_value x4
    exact Kept.ite (State.emit_kept h5) h5
  · exact State.emit_kept h

theorem State.pathWrite_kept {a1} {a2} {a3} {a4} (h : Kept r s) : Kept r (State.pathWrite s a1 a2 a3 a4) := by
  unfold State.pathWrite
  refine Kept.ite ?_ ?_
  · exact State.refuseAccess_kept h
  · refine Kept.ite ?_ ?_
    · exact h
    · extract_lets x6
      have h7 : Kept r x6 := Kept1.fst (State.accessWrite_kept h)
      clear_value x6
      exact State.carryOn_kept (Kept.ite (Kept1.fst (State.accessWrite_kept h7)) h7)

theorem State.accessRead_kept {a1} {a2} (h : Kept r s) : Kept1 r (State.accessRead s a1 a2) := by
  unfold State.accessRead
  refine Kept1.ite ?_ ?_
  · split
    · exact Kept1.mk h
    · exact Kept1.mk h
    · exact Kept1.mk (State.emit_kept h)
  · split
    · rename_i y12 y13 y14 y15
      have h16 : Kept r y13 := .of1 y15 (State.readReg_kept (State.wakeFor_kept h))
      exact Kept1.mk h16

theorem State.barAccess_kept {a1} {a2} {a3} (h : Kept r s) : Kept r (State.barAccess s a1 a2 a3) := by
  unfold State.barAccess
  refine Kept.ite ?_ ?_
  · exact h
  · extract_lets x4 x5
    clear_value x4 x5
    split
    · exact State.emit_kept h
    · extract_lets x12
      clear_value x12
      exact Kept.upd h rfl

theorem State.windowAccess_kept {a1} {a2} {a3} (h : Kept r s) : Kept r (State.windowAccess s a1 a2 a3) := by
  unfold State.windowAccess
  refine Kept.ite ?_ ?_
  · split
    · exact h
    · extract_lets x8
      clear_value x8
      exact State.emit_kept h
  · refine Kept.ite ?_ ?_
    · split
      · exact h
      · exact State.emit_kept h
    · extract_lets x18
      clear_value x18
      split
      · exact State.pathWrite_kept h
      · refine Kept.ite ?_ ?_
        · exact State.refuseAccess_kept h
        · split
          · rename_i y27 y28 y29 y30
            have h31 : Kept r y28 := .of1 y30 (State.accessRead_kept h)
            split
            · rename_i y33 y34 y35 y36
              have h37 : Kept r y34 := .of1 y36 (Kept1.ite (State.accessRead_kept h31) (Kept1.mk h31))
              exact State.emit_kept h37

theorem actRegisterWrite_kept {a0} {a1} {a2} {a3} (h : Kept r s) : KeptNext r (actRegisterWrite a0 a1 a2 a3 s) := by
  unfold actRegisterWrite
  refine KeptNext.next ?_
  exact State.pathWrite_kept h

theorem actRcRead_kept {a0} {a1} (h : Kept r s) : KeptNext r (actRcRead a0 a1 s) := by
  unfold actRcRead
  refine KeptNext.next ?_
  refine Kept.ite ?_ ?_
  · exact State.refuseAccess_kept h
  · refine Kept.ite ?_ ?_
    · exact State.emit_kept h
    · split
      · rename_i y7 y8 y9 y10
        have h11 : Kept r y8 := .of1 y10 (State.accessRead_kept h)
        exact State.emit_kept h11
      · rename_i y13 y14 y15
        have h16 : Kept r y14 := .of1 y15 (State.accessRead_kept h)
        exact h16

theorem actWindowAccess_kept {a0} {a1} {a2} (h : Kept r s) : KeptNext r (actWindowAccess a0 a1 a2 s) := by
  unfold actWindowAccess
  refine KeptNext.next ?_
  exact Kept.ite (State.barAccess_kept h) (Kept.ite (State.windowAccess_kept h) h)

theorem actRegRead_kept {a0} (h : Kept r s) : KeptNext r (actRegRead a0 s) := by
  unfold actRegRead
  refine KeptNext.next ?_
  split
  · exact h
  · extract_lets x10 x11
    clear_value x10 x11
    refine Kept.ite ?_ ?_
    · exact State.finish_kept h
    · refine Kept.ite ?_ ?_
      · exact State.finish_kept h
      · split
        · rename_i y17 y18 y19 y20
          have h21 : Kept r y18 := .of1 y20 (State.readReg_kept (State.wakeFor_kept h))
          split
          · rename_i y23 y24 y25 y26
            have h27 : Kept r y24 := .of1 y26 (Kept1.ite (State.readReg_kept (State.wakeFor_kept h21)) (Kept1.mk h21))
            exact State.finish_kept h27

theorem execRegWrite_kept {a0} (h : Kept r s) : KeptNext r (execRegWrite a0 s) := by
  unfold execRegWrite
  refine KeptNext.next ?_
  split
  · exact h
  · extract_lets x10 x11 x12
    have h13 : Kept r x12 := State.dropTaken_kept h
    clear_value x12
    clear_value x10 x11
    refine Kept.ite ?_ ?_
    · exact State.finish_kept h
    · split
      · rename_i y17 y18 y19 y20
        have h21 : Kept r y18 := .of1 y20 (State.accessWrite_kept h13)
        refine Kept.ite ?_ ?_
        · exact h21
        · extract_lets x25 x26
          have h27 : Kept r x25 := State.finish_kept h21
          clear_value x25
          have h28 : Kept r x26 := Kept.ite h27 (State.wr_kept h27)
          clear_value x26
          exact State.carryOn_kept h28

theorem execRingShutdown_kept {a0} {a1} (h : Kept r s) : KeptNext r (execRingShutdown a0 a1 s) := by
  unfold execRingShutdown
  refine KeptNext.next ?_
  exact Kept.ite (State.carryOn_kept (State.writeRing_kept h)) h

theorem State.imageKeyOp_kept {a1} (h : Kept r s) : Kept r (State.imageKeyOp s a1) := by
  unfold State.imageKeyOp
  extract_lets x2 x3 x4 x5 x6
  have h7 : Kept r x2 := State.kloadCmd_kept h
  clear_value x2
  have h8 : Kept r x3 := by
    unfold x3
    split
    · exact State.endUnwrap_kept h7
    · exact h7
  clear_value x3
  clear_value x4 x5 x6
  exact Kept.ite (Kept.upd h8 rfl) h8

theorem State.applyEntry_kept {a1} (h : Kept r s) : Kept r (State.applyEntry s a1) := by
  unfold State.applyEntry
  extract_lets x2 x3
  clear_value x3
  exact Kept.ite (State.imageKeyOp_kept h) (Kept.ite h (Kept.ite (State.writeReg_kept h) (State.applyWord_kept h)))

theorem State.logBlockFails_kept {a1} (h : Kept r s) : Kept1 r (State.logBlockFails s a1) := by
  unfold State.logBlockFails
  extract_lets x2
  clear_value x2
  exact Kept1.ite (Kept1.mk (State.raise_kept h)) (Kept1.mk (State.raise_kept (State.logOpen_kept (State.tick_kept (State.wr_kept h)))))

theorem State.logFailures_kept {l} (h : Kept r s) : Kept1 r (State.logFailures s l) := by
  induction l generalizing s with
  | nil => exact h
  | cons b l ih =>
    unfold State.logFailures
    split
    · next e => exact ih (Kept.of1 e (State.logBlockFails_kept h))
    · next e => exact Kept.of1 e (State.logBlockFails_kept h)

theorem State.issueStart_kept {a1} (h : Kept r s) : Kept r (State.issueStart s a1) := by
  have tail : ∀ (t : State) (m : Option Nat) (b : Bool), Kept r t →
      Kept r (let s2 := if b then t.tick.logFuseAlone t.fresh else t
        match s2.logFailures a1 with
        | (u, false) => { u with boot := { u.boot with startNumber := s.boot.startNumber } }
        | (s2, true) =>
          let s3 := s2.logOpen State.kStart [s2.readWord (F.SYS_STATUS_STAGE.addr 0 0), s2.readWord (F.BOOT_STATUS_ACTIVE.addr 0 0), s2.activeSequence]
          let s4 := (s3.wr F.CIP_NONCE_START (m.getD 0)).wr F.CIP_NONCE_VALID 1
          if b then s4.raise 914 0x0000 else s4) := by
    intro t m b ht
    have h2 : Kept r (if b then t.tick.logFuseAlone t.fresh else t) := Kept.ite (State.logFuseAlone_kept (State.tick_kept ht)) ht
    dsimp only
    generalize (if b then t.tick.logFuseAlone t.fresh else t) = s2 at h2
    have h3 := State.logFailures_kept (l := a1) h2
    split
    · next e => exact Kept.upd (Kept.of1 e h3) rfl
    · next s5 e =>
      have h4 := State.wr_kept (f := F.CIP_NONCE_VALID) (v := 1) (i := 0) (j := 0) (State.wr_kept (f := F.CIP_NONCE_START) (v := m.getD 0) (i := 0) (j := 0)
        (State.logOpen_kept (a1 := State.kStart) (a2 := [s5.readWord (F.SYS_STATUS_STAGE.addr 0 0),
          s5.readWord (F.BOOT_STATUS_ACTIVE.addr 0 0), s5.activeSequence]) (Kept.of1 e h3)))
      exact Kept.ite (State.raise_kept h4) h4
  unfold State.issueStart
  extract_lets newest next
  generalize next = q
  split
  next s1 num blown he =>
    have h1 : Kept r s1 := by
      split at he
      · cases he; exact h
      · split at he
        · cases he
          exact h.updAll rfl (List.prefix_refl _) (Nat.le_refl _) ⟨rfl, rfl, rfl, Nat.le_succ _,
            List.prefix_refl _, List.prefix_refl _⟩ id (fun h _ => h) rfl
        · cases he; exact h
    split
    · exact h1
    · next n => exact tail { s1 with boot := { s1.boot with startNumber := some n } } (some n) blown (Kept.upd h1 rfl)

theorem State.startFirmware_kept (h : Kept r s) : Kept r (State.startFirmware s) := by
  unfold State.startFirmware
  extract_lets x2 x3 x4
  have h5 : Kept r x4 := Kept.upd h rfl
  clear_value x4
  clear_value x2 x3
  exact State.beginQueued_kept (State.startCoxRings_kept (State.showFw_kept h5))

theorem State.startGates_kept (h : Kept r s) : Kept r (State.startGates s) := by
  unfold State.startGates
  refine Kept.foldl h fun t2 a3 h4 => ?_
  exact State.setGates_kept h4

theorem State.beginAssembly_kept (h : Kept r s) : Kept r (State.beginAssembly s) := by
  unfold State.beginAssembly
  refine Kept.foldl h fun t2 a3 h4 => ?_
  exact Kept.ite (State.wr_kept h4) h4

theorem State.applyImage_kept {a1} (h : Kept r s) : Kept r (State.applyImage s a1) := by
  unfold State.applyImage
  extract_lets x2 x3 x4
  have h5 : Kept r x3 := State.startFirmware_kept (State.wr_kept h)
  clear_value x3
  have h6 : Kept r x4 := by
    unfold x4
    refine State.issueStart_kept ?_
    refine Kept.foldl h5 fun t9 a10 h11 => ?_
    exact State.applyEntry_kept h11
  clear_value x4
  clear_value x2
  split
  · exact State.haltStart_kept h6
  · exact State.setStage_kept (State.settleAddrs_kept (State.beginAssembly_kept (State.startBays_kept (State.showBuffer_kept (State.startGates_kept h6)))))

theorem State.haltMismatch_kept (h : Kept r s) : Kept r (State.haltMismatch s) := by
  unfold State.haltMismatch
  extract_lets x2
  have h3 : Kept r x2 := by
    unfold x2
    refine Kept.ite ?_ ?_
    · refine Kept.foldl h fun t6 a7 h8 => ?_
      exact Kept.ite (State.bayOff_kept h8) h8
    · exact h
  clear_value x2
  exact State.haltStart_kept (State.raise_kept h3)

theorem State.readyEvents_kept (h : Kept r s) : Kept r (State.readyEvents s) := by
  unfold State.readyEvents
  extract_lets x2 x3 x4 x5 x6 x7 x8 x9 x10 x11 x12
  have h13 : Kept r x2 := Kept.ite (State.raise_kept h) h
  clear_value x2
  have h14 : Kept r x3 := Kept.ite (State.raise_kept h13) h13
  clear_value x3
  have h15 : Kept r x4 := Kept.ite (State.raise_kept h14) h14
  clear_value x4
  have h16 : Kept r x5 := Kept.ite (State.raise_kept h15) h15
  clear_value x5
  have h17 : Kept r x6 := by
    unfold x6
    refine Kept.foldl h16 fun t19 a20 h21 => ?_
    exact State.raise_kept h21
  clear_value x6
  have h23 : Kept r x7 := Kept.ite h17 (State.raise_kept h17)
  clear_value x7
  have h24 : Kept r x9 := Kept.ite (State.raise_kept (Kept.upd h23 rfl)) h23
  clear_value x9
  have h25 : Kept r x10 := Kept.ite (State.raise_kept h24) h24
  clear_value x10
  have h26 : Kept r x11 := by
    unfold x11
    refine Kept.ite ?_ ?_
    · refine Kept.foldl h25 fun t29 a30 h31 => ?_
      exact State.bayEvent_kept h31
    · exact h25
  clear_value x11
  clear_value x8 x12
  exact Kept.upd h26 rfl

theorem State.setGeneration_kept (h : Kept r s) : Kept r (State.setGeneration s) := by
  unfold State.setGeneration
  extract_lets x2
  clear_value x2
  exact Kept.ite (State.wr_kept h) (State.wr_kept (State.tick_kept h))

theorem State.refuseVolumes_kept (h : Kept r s) : Kept r (State.refuseVolumes s) := by
  unfold State.refuseVolumes
  refine Kept.foldl h fun t2 a3 h4 => ?_
  exact State.configureVolume_kept h4

theorem State.becomeReady_kept (h : Kept r s) : Kept r (State.becomeReady s) := by
  unfold State.becomeReady
  extract_lets x2 x3
  have h4 : Kept r x2 := State.setStage_kept h
  clear_value x2
  have h5 : Kept r x3 := State.refuseVolumes_kept (State.readyEvents_kept (State.routeFunctions_kept (State.setGeneration_kept (Kept.upd h4 rfl))))
  clear_value x3
  exact Kept.ite (State.partnerLost_kept h5) h5

theorem actImageApply_kept {a0} {a1} (h : Kept r s) : KeptNext r (actImageApply a0 a1 s) := by
  unfold actImageApply
  refine KeptNext.next ?_
  refine Kept.ite ?_ ?_
  · refine State.step1_kept h (fun t4 h5 => ?_)
    split
    · exact State.haltStart_kept h5
    · exact State.applyImage_kept h5
  · exact h

theorem execLinkTrainingEnd_kept {a0} (h : Kept r s) : KeptNext r (execLinkTrainingEnd a0 s) := by
  unfold execLinkTrainingEnd
  refine KeptNext.next ?_
  refine Kept.ite ?_ ?_
  · split
    · exact State.haltStart_kept h
    · exact Kept.ite (State.haltMismatch_kept h) (Kept.ite (Kept.upd h rfl) (State.carryOn_kept (State.becomeReady_kept h)))
  · exact h

theorem execStartResume_kept (h : Kept r s) : KeptNext r (execStartResume s) := by
  unfold execStartResume
  extract_lets x2 x3
  have h4 : Kept r x3 := Kept.upd h rfl
  clear_value x3
  clear_value x2
  refine KeptNext.next ?_
  exact Kept.ite (State.carryOn_kept (State.becomeReady_kept h4)) h4

end Sys2Proof.Machine
end

