-- ==== Sys2Proof/Laws/KeptRaising.lean ====
section
/-!
SUPPORT. For each operation of Raising, CrossShelf, Fatals: what `Kept` says of the state it gives, so that no later
proof unfolds it.
-/

set_option linter.unusedVariables false

namespace Sys2Proof.Machine

variable {r s : State}

theorem execRegisterWrite_kept {a0} {a1} {a2} {a3} (h : Kept r s) : KeptNext r (execRegisterWrite a0 a1 a2 a3 s) := by
  unfold execRegisterWrite
  refine KeptNext.settled ?_
  refine actRegisterWrite_kept h

theorem execRcRead_kept {a0} {a1} (h : Kept r s) : KeptNext r (execRcRead a0 a1 s) := by
  unfold execRcRead
  refine KeptNext.settled ?_
  refine actRcRead_kept h

theorem execImageApply_kept {a0} {a1} (h : Kept r s) : KeptNext r (execImageApply a0 a1 s) := by
  unfold execImageApply
  refine KeptNext.settled ?_
  refine actImageApply_kept h

theorem execEndpointLinkUp_kept {a0} {a1} {a2} (h : Kept r s) : KeptNext r (execEndpointLinkUp a0 a1 a2 s) := by
  unfold execEndpointLinkUp
  refine KeptNext.settled ?_
  refine actEndpointLinkUp_kept h

theorem execPaceControlTick_kept {a0} (h : Kept r s) : KeptNext r (execPaceControlTick a0 s) := by
  unfold execPaceControlTick
  refine KeptNext.settled ?_
  refine actPaceControlTick_kept h

theorem execPaceThermalStep_kept {a0} (h : Kept r s) : KeptNext r (execPaceThermalStep a0 s) := by
  unfold execPaceThermalStep
  refine KeptNext.settled ?_
  refine actPaceThermalStep_kept h

theorem execReferenceStopped_kept {a0} (h : Kept r s) : KeptNext r (execReferenceStopped a0 s) := by
  unfold execReferenceStopped
  refine KeptNext.settled ?_
  refine actReferenceStopped_kept h

theorem execGrossWindow_kept {a0} {a1} (h : Kept r s) : KeptNext r (execGrossWindow a0 a1 s) := by
  unfold execGrossWindow
  refine KeptNext.settled ?_
  refine actGrossWindow_kept h

theorem execPpmWindow_kept {a0} {a1} {a2} (h : Kept r s) : KeptNext r (execPpmWindow a0 a1 a2 s) := by
  unfold execPpmWindow
  refine KeptNext.settled ?_
  refine actPpmWindow_kept h

theorem execReferenceReturnGood_kept {a0} (h : Kept r s) : KeptNext r (execReferenceReturnGood a0 s) := by
  unfold execReferenceReturnGood
  refine KeptNext.settled ?_
  refine actReferenceReturnGood_kept h

theorem execClkMuxGlitchFreeSwitch_kept {a0} (h : Kept r s) : KeptNext r (execClkMuxGlitchFreeSwitch a0 s) := by
  unfold execClkMuxGlitchFreeSwitch
  refine KeptNext.settled ?_
  refine actClkMuxGlitchFreeSwitch_kept h

theorem execClkMuxHardCut_kept {a0} (h : Kept r s) : KeptNext r (execClkMuxHardCut a0 s) := by
  unfold execClkMuxHardCut
  refine KeptNext.settled ?_
  refine actClkMuxHardCut_kept h

theorem execMuxSwitchComplete_kept {a0} (h : Kept r s) : KeptNext r (execMuxSwitchComplete a0 s) := by
  unfold execMuxSwitchComplete
  refine KeptNext.settled ?_
  refine actMuxSwitchComplete_kept h

theorem execMuxHangBreak_kept {a0} (h : Kept r s) : KeptNext r (execMuxHangBreak a0 s) := by
  unfold execMuxHangBreak
  refine KeptNext.settled ?_
  refine actMuxHangBreak_kept h

theorem execFrameReceive_kept {a0} {a1} {a2} {a3} {a4} {a5} (h : Kept r s) : KeptNext r (execFrameReceive a0 a1 a2 a3 a4 a5 s) := by
  unfold execFrameReceive
  refine KeptNext.settled ?_
  refine actFrameReceive_kept h

theorem execAckReceive_kept {a0} (h : Kept r s) : KeptNext r (execAckReceive a0 s) := by
  unfold execAckReceive
  refine KeptNext.settled ?_
  refine actAckReceive_kept h

theorem execNakSeq_kept {a0} {a1} (h : Kept r s) : KeptNext r (execNakSeq a0 a1 s) := by
  unfold execNakSeq
  refine KeptNext.settled ?_
  refine actNakSeq_kept h

theorem execNakGen_kept {a0} {a1} (h : Kept r s) : KeptNext r (execNakGen a0 a1 s) := by
  unfold execNakGen
  refine KeptNext.settled ?_
  refine actNakGen_kept h

theorem execNakPending_kept {a0} {a1} (h : Kept r s) : KeptNext r (execNakPending a0 a1 s) := by
  unfold execNakPending
  refine KeptNext.settled ?_
  refine actNakPending_kept h

theorem execNakRefused_kept {a0} {a1} (h : Kept r s) : KeptNext r (execNakRefused a0 a1 s) := by
  unfold execNakRefused
  refine KeptNext.settled ?_
  refine actNakRefused_kept h

theorem execNakShelf_kept {a0} {a1} (h : Kept r s) : KeptNext r (execNakShelf a0 a1 s) := by
  unfold execNakShelf
  refine KeptNext.settled ?_
  refine actNakShelf_kept h

theorem execNakKeyfull_kept {a0} {a1} (h : Kept r s) : KeptNext r (execNakKeyfull a0 a1 s) := by
  unfold execNakKeyfull
  refine KeptNext.settled ?_
  refine actNakKeyfull_kept h

theorem execNakChainfull_kept {a0} {a1} (h : Kept r s) : KeptNext r (execNakChainfull a0 a1 s) := by
  unfold execNakChainfull
  refine KeptNext.settled ?_
  refine actNakChainfull_kept h

theorem execKeyreg_kept {a0} {a1} {a2} (h : Kept r s) : KeptNext r (execKeyreg a0 a1 a2 s) := by
  unfold execKeyreg
  refine KeptNext.settled ?_
  refine actKeyreg_kept h

theorem execChainpost_kept {a0} {a1} {a2} {a3} {a4} {a5} {a6} (h : Kept r s) : KeptNext r (execChainpost a0 a1 a2 a3 a4 a5 a6 s) := by
  unfold execChainpost
  refine KeptNext.settled ?_
  refine actChainpost_kept h

theorem execAckDelayExpiry_kept {a0} (h : Kept r s) : KeptNext r (execAckDelayExpiry a0 s) := by
  unfold execAckDelayExpiry
  refine KeptNext.settled ?_
  refine actAckDelayExpiry_kept h

theorem execRetransmissionTimeout_kept {a0} (h : Kept r s) : KeptNext r (execRetransmissionTimeout a0 s) := by
  unfold execRetransmissionTimeout
  refine KeptNext.settled ?_
  refine actRetransmissionTimeout_kept h

theorem execDrainMediaWritesEnd_kept (h : Kept r s) : KeptNext r (execDrainMediaWritesEnd s) := by
  unfold execDrainMediaWritesEnd
  refine KeptNext.settled ?_
  refine actDrainMediaWritesEnd_kept h

theorem execDrainCleanMarkComplete_kept (h : Kept r s) : KeptNext r (execDrainCleanMarkComplete s) := by
  unfold execDrainCleanMarkComplete
  refine KeptNext.settled ?_
  refine actDrainCleanMarkComplete_kept h

theorem execCatchUpWrite_kept {a0} {a1} (h : Kept r s) : KeptNext r (execCatchUpWrite a0 a1 s) := by
  unfold execCatchUpWrite
  refine KeptNext.settled ?_
  refine actCatchUpWrite_kept h

theorem execAnnounceRepeat_kept {a0} (h : Kept r s) : KeptNext r (execAnnounceRepeat a0 s) := by
  unfold execAnnounceRepeat
  refine KeptNext.settled ?_
  refine actAnnounceRepeat_kept h

theorem execLoad_kept {a0} (h : Kept r s) : KeptNext r (execLoad a0 s) := by
  unfold execLoad
  refine KeptNext.settled ?_
  refine actLoad_kept h

theorem execClear_kept {a0} (h : Kept r s) : KeptNext r (execClear a0 s) := by
  unfold execClear
  refine KeptNext.settled ?_
  refine actClear_kept h

theorem execPrepare_kept {a0} (h : Kept r s) : KeptNext r (execPrepare a0 s) := by
  unfold execPrepare
  refine KeptNext.settled ?_
  refine actPrepare_kept h

theorem execUnwrap_kept {a0} {a1} {a2} (h : Kept r s) : KeptNext r (execUnwrap a0 a1 a2 s) := by
  unfold execUnwrap
  refine KeptNext.settled ?_
  refine actUnwrap_kept h

theorem execLinkStateChange_kept {a0} {a1} (h : Kept r s) : KeptNext r (execLinkStateChange a0 a1 s) := by
  unfold execLinkStateChange
  refine KeptNext.settled ?_
  refine actLinkStateChange_kept h

theorem execPortTransmit_kept {a0} {a1} (h : Kept r s) : KeptNext r (execPortTransmit a0 a1 s) := by
  unfold execPortTransmit
  refine KeptNext.settled ?_
  refine actPortTransmit_kept h

theorem execResidueTimeout_kept {a0} (h : Kept r s) : KeptNext r (execResidueTimeout a0 s) := by
  unfold execResidueTimeout
  refine KeptNext.settled ?_
  refine actResidueTimeout_kept h

theorem execBankReplace_kept {a0} (h : Kept r s) : KeptNext r (execBankReplace a0 s) := by
  unfold execBankReplace
  refine KeptNext.settled ?_
  refine actBankReplace_kept h

theorem execArpRequest_kept {a0} {a1} {a2} (h : Kept r s) : KeptNext r (execArpRequest a0 a1 a2 s) := by
  unfold execArpRequest
  refine KeptNext.settled ?_
  refine actArpRequest_kept h

theorem execNeighbourSolicitation_kept {a0} {a1} {a2} (h : Kept r s) : KeptNext r (execNeighbourSolicitation a0 a1 a2 s) := by
  unfold execNeighbourSolicitation
  refine KeptNext.settled ?_
  refine actNeighbourSolicitation_kept h

theorem execGateIntervalEnd_kept {a0} {a1} (h : Kept r s) : KeptNext r (execGateIntervalEnd a0 a1 s) := by
  unfold execGateIntervalEnd
  refine KeptNext.settled ?_
  refine actGateIntervalEnd_kept h

theorem execGateListChange_kept {a0} (h : Kept r s) : KeptNext r (execGateListChange a0 s) := by
  unfold execGateListChange
  refine KeptNext.settled ?_
  refine actGateListChange_kept h

theorem execGateListTakeover_kept {a0} {a1} (h : Kept r s) : KeptNext r (execGateListTakeover a0 a1 s) := by
  unfold execGateListTakeover
  refine KeptNext.settled ?_
  refine actGateListTakeover_kept h

theorem execAnnounce_kept {a0} {a1} {a2} {a3} (h : Kept r s) : KeptNext r (execAnnounce a0 a1 a2 a3 s) := by
  unfold execAnnounce
  refine KeptNext.settled ?_
  refine actAnnounce_kept h

theorem execPtpSync_kept {a0} {a1} {a2} {a3} {a4} {a5} (h : Kept r s) : KeptNext r (execPtpSync a0 a1 a2 a3 a4 a5 s) := by
  unfold execPtpSync
  refine KeptNext.settled ?_
  refine actPtpSync_kept h

theorem execFollowUp_kept {a0} {a1} {a2} {a3} (h : Kept r s) : KeptNext r (execFollowUp a0 a1 a2 a3 s) := by
  unfold execFollowUp
  refine KeptNext.settled ?_
  refine actFollowUp_kept h

theorem execPtpSyncTimeout_kept (h : Kept r s) : KeptNext r (execPtpSyncTimeout s) := by
  unfold execPtpSyncTimeout
  refine KeptNext.settled ?_
  refine actPtpSyncTimeout_kept h

theorem execPresenceSample_kept {a0} {a1} {a2} {a3} {a4} (h : Kept r s) : KeptNext r (execPresenceSample a0 a1 a2 a3 a4 s) := by
  unfold execPresenceSample
  refine KeptNext.settled ?_
  refine actPresenceSample_kept h

theorem execDriveSeated_kept {a0} (h : Kept r s) : KeptNext r (execDriveSeated a0 s) := by
  unfold execDriveSeated
  refine KeptNext.settled ?_
  refine actDriveSeated_kept h

theorem execDriveLost_kept {a0} (h : Kept r s) : KeptNext r (execDriveLost a0 s) := by
  unfold execDriveLost
  refine KeptNext.settled ?_
  refine actDriveLost_kept h

theorem execBayRampStart_kept {a0} {a1} {a2} {a3} (h : Kept r s) : KeptNext r (execBayRampStart a0 a1 a2 a3 s) := by
  unfold execBayRampStart
  refine KeptNext.settled ?_
  refine actBayRampStart_kept h

theorem execRampEnd_kept {a0} (h : Kept r s) : KeptNext r (execRampEnd a0 s) := by
  unfold execRampEnd
  refine KeptNext.settled ?_
  refine actRampEnd_kept h

theorem execRampTimeout_kept {a0} (h : Kept r s) : KeptNext r (execRampTimeout a0 s) := by
  unfold execRampTimeout
  refine KeptNext.settled ?_
  refine actRampTimeout_kept h

theorem execPowerGoodAssert_kept {a0} (h : Kept r s) : KeptNext r (execPowerGoodAssert a0 s) := by
  unfold execPowerGoodAssert
  refine KeptNext.settled ?_
  refine actPowerGoodAssert_kept h

theorem execPowerGoodWithdraw_kept {a0} (h : Kept r s) : KeptNext r (execPowerGoodWithdraw a0 s) := by
  unfold execPowerGoodWithdraw
  refine KeptNext.settled ?_
  refine actPowerGoodWithdraw_kept h

theorem execPerstRelease_kept {a0} (h : Kept r s) : KeptNext r (execPerstRelease a0 s) := by
  unfold execPerstRelease
  refine KeptNext.settled ?_
  refine actPerstRelease_kept h

theorem execFaultTimerExpiry_kept {a0} (h : Kept r s) : KeptNext r (execFaultTimerExpiry a0 s) := by
  unfold execFaultTimerExpiry
  refine KeptNext.settled ?_
  refine actFaultTimerExpiry_kept h

theorem execOvercurrentTrip_kept {a0} (h : Kept r s) : KeptNext r (execOvercurrentTrip a0 s) := by
  unfold execOvercurrentTrip
  refine KeptNext.settled ?_
  refine actOvercurrentTrip_kept h

theorem execRetryPeriodEnd_kept {a0} (h : Kept r s) : KeptNext r (execRetryPeriodEnd a0 s) := by
  unfold execRetryPeriodEnd
  refine KeptNext.settled ?_
  refine actRetryPeriodEnd_kept h

theorem execFetModelUpdate_kept (h : Kept r s) : KeptNext r (execFetModelUpdate s) := by
  unfold execFetModelUpdate
  refine KeptNext.settled ?_
  refine actFetModelUpdate_kept h

theorem execDiodeRead_kept {a0} {a1} (h : Kept r s) : KeptNext r (execDiodeRead a0 a1 s) := by
  unfold execDiodeRead
  refine KeptNext.settled ?_
  refine actDiodeRead_kept h

theorem execChangeover_kept {a0} {a1} {a2} (h : Kept r s) : KeptNext r (execChangeover a0 a1 a2 s) := by
  unfold execChangeover
  refine KeptNext.settled ?_
  refine actChangeover_kept h

theorem execChangeoverBreakEnd_kept {a0} (h : Kept r s) : KeptNext r (execChangeoverBreakEnd a0 s) := by
  unfold execChangeoverBreakEnd
  refine KeptNext.settled ?_
  refine actChangeoverBreakEnd_kept h

theorem execFeedReturn_kept {a0} (h : Kept r s) : KeptNext r (execFeedReturn a0 s) := by
  unfold execFeedReturn
  refine KeptNext.settled ?_
  refine actFeedReturn_kept h

theorem execLinkTrainingTimeout_kept {a0} (h : Kept r s) : KeptNext r (execLinkTrainingTimeout a0 s) := by
  unfold execLinkTrainingTimeout
  refine KeptNext.settled ?_
  refine actLinkTrainingTimeout_kept h

theorem execBayLinkDown_kept {a0} (h : Kept r s) : KeptNext r (execBayLinkDown a0 s) := by
  unfold execBayLinkDown
  refine KeptNext.settled ?_
  refine actBayLinkDown_kept h

theorem execSlotPowerOff_kept {a0} (h : Kept r s) : KeptNext r (execSlotPowerOff a0 s) := by
  unfold execSlotPowerOff
  refine KeptNext.settled ?_
  refine actSlotPowerOff_kept h

theorem execSlotPowerOn_kept {a0} (h : Kept r s) : KeptNext r (execSlotPowerOn a0 s) := by
  unfold execSlotPowerOn
  refine KeptNext.settled ?_
  refine actSlotPowerOn_kept h

theorem execShutdownComplete_kept {a0} (h : Kept r s) : KeptNext r (execShutdownComplete a0 s) := by
  unfold execShutdownComplete
  refine KeptNext.settled ?_
  refine actShutdownComplete_kept h

theorem execAttentionButtonPress_kept {a0} (h : Kept r s) : KeptNext r (execAttentionButtonPress a0 s) := by
  unfold execAttentionButtonPress
  refine KeptNext.settled ?_
  refine actAttentionButtonPress_kept h

theorem execButtonStop_kept {a0} (h : Kept r s) : KeptNext r (execButtonStop a0 s) := by
  unfold execButtonStop
  refine KeptNext.settled ?_
  refine actButtonStop_kept h

theorem execPowerCycleEnd_kept {a0} (h : Kept r s) : KeptNext r (execPowerCycleEnd a0 s) := by
  unfold execPowerCycleEnd
  refine KeptNext.settled ?_
  refine actPowerCycleEnd_kept h

theorem execGivebackGateRelease_kept (h : Kept r s) : KeptNext r (execGivebackGateRelease s) := by
  unfold execGivebackGateRelease
  refine KeptNext.settled ?_
  refine actGivebackGateRelease_kept h

theorem execDoorbell_kept {a0} {a1} {a2} (h : Kept r s) : KeptNext r (execDoorbell a0 a1 a2 s) := by
  unfold execDoorbell
  refine KeptNext.settled ?_
  refine actDoorbell_kept h

theorem execCiWrite_kept {a0} {a1} {a2} (h : Kept r s) : KeptNext r (execCiWrite a0 a1 a2 s) := by
  unfold execCiWrite
  refine KeptNext.settled ?_
  refine actCiWrite_kept h

theorem execEntryFetch_kept {a0} {a1} {a2} (h : Kept r s) : KeptNext r (execEntryFetch a0 a1 a2 s) := by
  unfold execEntryFetch
  refine KeptNext.settled ?_
  refine actEntryFetch_kept h

theorem execNop_kept {a0} (h : Kept r s) : KeptNext r (execNop a0 s) := by
  unfold execNop
  refine KeptNext.settled ?_
  refine actNop_kept h

theorem execRegRead_kept {a0} (h : Kept r s) : KeptNext r (execRegRead a0 s) := by
  unfold execRegRead
  refine KeptNext.settled ?_
  refine actRegRead_kept h

theorem execAnswerAdmit_kept {a0} (h : Kept r s) : KeptNext r (execAnswerAdmit a0 s) := by
  unfold execAnswerAdmit
  refine KeptNext.settled ?_
  refine actAnswerAdmit_kept h

theorem execAnswerRefuse_kept {a0} (h : Kept r s) : KeptNext r (execAnswerRefuse a0 s) := by
  unfold execAnswerRefuse
  refine KeptNext.settled ?_
  refine actAnswerRefuse_kept h

theorem execAnswerMatch_kept {a0} (h : Kept r s) : KeptNext r (execAnswerMatch a0 s) := by
  unfold execAnswerMatch
  refine KeptNext.settled ?_
  refine actAnswerMatch_kept h

theorem execAnswerMismatch_kept {a0} (h : Kept r s) : KeptNext r (execAnswerMismatch a0 s) := by
  unfold execAnswerMismatch
  refine KeptNext.settled ?_
  refine actAnswerMismatch_kept h

theorem execAnswerMapEntry_kept {a0} (h : Kept r s) : KeptNext r (execAnswerMapEntry a0 s) := by
  unfold execAnswerMapEntry
  refine KeptNext.settled ?_
  refine actAnswerMapEntry_kept h

theorem execAnswerVictims_kept {a0} {a1} (h : Kept r s) : KeptNext r (execAnswerVictims a0 a1 s) := by
  unfold execAnswerVictims
  refine KeptNext.settled ?_
  refine actAnswerVictims_kept h

theorem execAnswerRebuildPlan_kept {a0} {a1} (h : Kept r s) : KeptNext r (execAnswerRebuildPlan a0 a1 s) := by
  unfold execAnswerRebuildPlan
  refine KeptNext.settled ?_
  refine actAnswerRebuildPlan_kept h

theorem execAnswerPatrolWindows_kept {a0} {a1} (h : Kept r s) : KeptNext r (execAnswerPatrolWindows a0 a1 s) := by
  unfold execAnswerPatrolWindows
  refine KeptNext.settled ?_
  refine actAnswerPatrolWindows_kept h

theorem execAnswerEasy_kept {a0} (h : Kept r s) : KeptNext r (execAnswerEasy a0 s) := by
  unfold execAnswerEasy
  refine KeptNext.settled ?_
  refine actAnswerEasy_kept h

theorem execAnswerKeep_kept {a0} (h : Kept r s) : KeptNext r (execAnswerKeep a0 s) := by
  unfold execAnswerKeep
  refine KeptNext.settled ?_
  refine actAnswerKeep_kept h

theorem execAnswerFail_kept {a0} (h : Kept r s) : KeptNext r (execAnswerFail a0 s) := by
  unfold execAnswerFail
  refine KeptNext.settled ?_
  refine actAnswerFail_kept h

theorem execAnswerKeyMaterial_kept {a0} {a1} (h : Kept r s) : KeptNext r (execAnswerKeyMaterial a0 a1 s) := by
  unfold execAnswerKeyMaterial
  refine KeptNext.settled ?_
  refine actAnswerKeyMaterial_kept h

theorem execAnswerUnwrapRefuse_kept {a0} (h : Kept r s) : KeptNext r (execAnswerUnwrapRefuse a0 s) := by
  unfold execAnswerUnwrapRefuse
  refine KeptNext.settled ?_
  refine actAnswerUnwrapRefuse_kept h

theorem execAnswerStatic_kept {a0} (h : Kept r s) : KeptNext r (execAnswerStatic a0 s) := by
  unfold execAnswerStatic
  refine KeptNext.settled ?_
  refine actAnswerStatic_kept h

theorem execAnswerDynamicByRule_kept {a0} (h : Kept r s) : KeptNext r (execAnswerDynamicByRule a0 s) := by
  unfold execAnswerDynamicByRule
  refine KeptNext.settled ?_
  refine actAnswerDynamicByRule_kept h

theorem execAnswerDynamicAlways_kept {a0} (h : Kept r s) : KeptNext r (execAnswerDynamicAlways a0 s) := by
  unfold execAnswerDynamicAlways
  refine KeptNext.settled ?_
  refine actAnswerDynamicAlways_kept h

theorem execAnswerHostTables_kept {a0} {a1} (h : Kept r s) : KeptNext r (execAnswerHostTables a0 a1 s) := by
  unfold execAnswerHostTables
  refine KeptNext.settled ?_
  refine actAnswerHostTables_kept h

theorem execAnswerTakeStep_kept {a0} (h : Kept r s) : KeptNext r (execAnswerTakeStep a0 s) := by
  unfold execAnswerTakeStep
  refine KeptNext.settled ?_
  refine actAnswerTakeStep_kept h

theorem execAnswerResume_kept {a0} (h : Kept r s) : KeptNext r (execAnswerResume a0 s) := by
  unfold execAnswerResume
  refine KeptNext.settled ?_
  refine actAnswerResume_kept h

theorem execAnswerClockKeep_kept {a0} (h : Kept r s) : KeptNext r (execAnswerClockKeep a0 s) := by
  unfold execAnswerClockKeep
  refine KeptNext.settled ?_
  refine actAnswerClockKeep_kept h

theorem execAnswerClockSwitch_kept {a0} (h : Kept r s) : KeptNext r (execAnswerClockSwitch a0 s) := by
  unfold execAnswerClockSwitch
  refine KeptNext.settled ?_
  refine actAnswerClockSwitch_kept h

theorem execAnswerTakeOver_kept {a0} (h : Kept r s) : KeptNext r (execAnswerTakeOver a0 s) := by
  unfold execAnswerTakeOver
  refine KeptNext.settled ?_
  refine actAnswerTakeOver_kept h

theorem execAnswerDecline_kept {a0} {a1} (h : Kept r s) : KeptNext r (execAnswerDecline a0 a1 s) := by
  unfold execAnswerDecline
  refine KeptNext.settled ?_
  refine actAnswerDecline_kept h

theorem execRingEnable_kept {a0} {a1} (h : Kept r s) : KeptNext r (execRingEnable a0 a1 s) := by
  unfold execRingEnable
  refine KeptNext.settled ?_
  refine actRingEnable_kept h

theorem execCoalesceExpiry_kept {a0} (h : Kept r s) : KeptNext r (execCoalesceExpiry a0 s) := by
  unfold execCoalesceExpiry
  refine KeptNext.settled ?_
  refine actCoalesceExpiry_kept h

theorem execWindowAccess_kept {a0} {a1} {a2} (h : Kept r s) : KeptNext r (execWindowAccess a0 a1 a2 s) := by
  unfold execWindowAccess
  refine KeptNext.settled ?_
  refine actWindowAccess_kept h

theorem execMsixEnableChange_kept {a0} (h : Kept r s) : KeptNext r (execMsixEnableChange a0 s) := by
  unfold execMsixEnableChange
  refine KeptNext.settled ?_
  refine actMsixEnableChange_kept h

theorem execGetChallenge_kept {a0} (h : Kept r s) : KeptNext r (execGetChallenge a0 s) := by
  unfold execGetChallenge
  refine KeptNext.settled ?_
  refine actGetChallenge_kept h

theorem execLogRead_kept {a0} {a1} (h : Kept r s) : KeptNext r (execLogRead a0 a1 s) := by
  unfold execLogRead
  refine KeptNext.settled ?_
  refine actLogRead_kept h

theorem execSlotFill_kept {a0} {a1} {a2} (h : Kept r s) : KeptNext0 r (execSlotFill a0 a1 a2 s) :=
  KeptNext0.settled (actSlotFill_kept h)

theorem execSlotRevoke_kept {a0} {a1} (h : Kept r s) : KeptNext0 r (execSlotRevoke a0 a1 s) :=
  KeptNext0.settled (actSlotRevoke_kept h)

theorem execKekLoad_kept {a0} {a1} {a2} {a3} {a4} {a5} (h : Kept r s) : KeptNext r (execKekLoad a0 a1 a2 a3 a4 a5 s) := by
  unfold execKekLoad
  refine KeptNext.settled ?_
  refine actKekLoad_kept h

theorem execKekClear_kept {a0} {a1} (h : Kept r s) : KeptNext r (execKekClear a0 a1 s) := by
  unfold execKekClear
  refine KeptNext.settled ?_
  refine actKekClear_kept h

theorem execSanitizeStatus_kept (h : Kept r s) : KeptNext r (execSanitizeStatus s) := by
  unfold execSanitizeStatus
  refine KeptNext.settled ?_
  refine actSanitizeStatus_kept h

theorem execKtkProvision_kept {a0} {a1} {a2} (h : Kept r s) : KeptNext0 r (execKtkProvision a0 a1 a2 s) :=
  KeptNext0.settled (actKtkProvision_kept h)

theorem execSetEndpointId_kept {a0} (h : Kept r s) : KeptNext r (execSetEndpointId a0 s) := by
  unfold execSetEndpointId
  refine KeptNext.settled ?_
  refine actSetEndpointId_kept h

theorem execReadNvmeMiDataStructure_kept {a0} (h : Kept r s) : KeptNext r (execReadNvmeMiDataStructure a0 s) := by
  unfold execReadNvmeMiDataStructure
  refine KeptNext.settled ?_
  refine actReadNvmeMiDataStructure_kept h

theorem execNvmSubsystemHealthStatusPoll_kept (h : Kept r s) : KeptNext r (execNvmSubsystemHealthStatusPoll s) := by
  unfold execNvmSubsystemHealthStatusPoll
  refine KeptNext.settled ?_
  refine actNvmSubsystemHealthStatusPoll_kept h

theorem execControllerHealthStatusPoll_kept {a0} (h : Kept r s) : KeptNext r (execControllerHealthStatusPoll a0 s) := by
  unfold execControllerHealthStatusPoll
  refine KeptNext.settled ?_
  refine actControllerHealthStatusPoll_kept h

theorem execConfigurationGet_kept {a0} (h : Kept r s) : KeptNext r (execConfigurationGet a0 s) := by
  unfold execConfigurationGet
  refine KeptNext.settled ?_
  refine actConfigurationGet_kept h

theorem execConfigurationSet_kept {a0} {a1} (h : Kept r s) : KeptNext r (execConfigurationSet a0 a1 s) := by
  unfold execConfigurationSet
  refine KeptNext.settled ?_
  refine actConfigurationSet_kept h

theorem execMiTunneledAdminCommand_kept {a0} {a1} (h : Kept r s) : KeptNext r (execMiTunneledAdminCommand a0 a1 s) := by
  unfold execMiTunneledAdminCommand
  refine KeptNext.settled ?_
  refine actMiTunneledAdminCommand_kept h

theorem execSetNumericEffecterValue_kept {a0} {a1} (h : Kept r s) : KeptNext r (execSetNumericEffecterValue a0 a1 s) := by
  unfold execSetNumericEffecterValue
  refine KeptNext.settled ?_
  refine actSetNumericEffecterValue_kept h

theorem execSetEventReceiver_kept {a0} (h : Kept r s) : KeptNext r (execSetEventReceiver a0 s) := by
  unfold execSetEventReceiver
  refine KeptNext.settled ?_
  refine actSetEventReceiver_kept h

theorem execRequestUpdate_kept {a0} (h : Kept r s) : KeptNext r (execRequestUpdate a0 s) := by
  unfold execRequestUpdate
  refine KeptNext.settled ?_
  refine actRequestUpdate_kept h

theorem execUpdateComponent_kept {a0} {a1} {a2} (h : Kept r s) : KeptNext r (execUpdateComponent a0 a1 a2 s) := by
  unfold execUpdateComponent
  refine KeptNext.settled ?_
  refine actUpdateComponent_kept h

theorem execTransferComplete_kept {a0} (h : Kept r s) : KeptNext r (execTransferComplete a0 s) := by
  unfold execTransferComplete
  refine KeptNext.settled ?_
  refine actTransferComplete_kept h

theorem execVerifyComplete_kept {a0} (h : Kept r s) : KeptNext r (execVerifyComplete a0 s) := by
  unfold execVerifyComplete
  refine KeptNext.settled ?_
  refine actVerifyComplete_kept h

theorem execApplyComplete_kept {a0} (h : Kept r s) : KeptNext r (execApplyComplete a0 s) := by
  unfold execApplyComplete
  refine KeptNext.settled ?_
  refine actApplyComplete_kept h

theorem execActivateFirmware_kept {a0} {a1} {a2} (h : Kept r s) : KeptNext r (execActivateFirmware a0 a1 a2 s) := by
  unfold execActivateFirmware
  refine KeptNext.settled ?_
  refine actActivateFirmware_kept h

theorem execEngineSwapComplete_kept {a0} (h : Kept r s) : KeptNext r (execEngineSwapComplete a0 s) := by
  unfold execEngineSwapComplete
  refine KeptNext.settled ?_
  refine actEngineSwapComplete_kept h

theorem execProbationEnd_kept (h : Kept r s) : KeptNext r (execProbationEnd s) := by
  unfold execProbationEnd
  refine KeptNext.settled ?_
  refine actProbationEnd_kept h

theorem execGetVersion_kept {a0} (h : Kept r s) : KeptNext r (execGetVersion a0 s) := by
  unfold execGetVersion
  refine KeptNext.settled ?_
  refine actGetVersion_kept h

theorem execGetCapabilities_kept {a0} (h : Kept r s) : KeptNext r (execGetCapabilities a0 s) := by
  unfold execGetCapabilities
  refine KeptNext.settled ?_
  refine actGetCapabilities_kept h

theorem execNegotiateAlgorithms_kept {a0} (h : Kept r s) : KeptNext r (execNegotiateAlgorithms a0 s) := by
  unfold execNegotiateAlgorithms
  refine KeptNext.settled ?_
  refine actNegotiateAlgorithms_kept h

theorem execGetDigests_kept {a0} (h : Kept r s) : KeptNext r (execGetDigests a0 s) := by
  unfold execGetDigests
  refine KeptNext.settled ?_
  refine actGetDigests_kept h

theorem execGetCertificate_kept {a0} {a1} (h : Kept r s) : KeptNext r (execGetCertificate a0 a1 s) := by
  unfold execGetCertificate
  refine KeptNext.settled ?_
  refine actGetCertificate_kept h

theorem execChallenge_kept {a0} {a1} {a2} (h : Kept r s) : KeptNext r (execChallenge a0 a1 a2 s) := by
  unfold execChallenge
  refine KeptNext.settled ?_
  refine actChallenge_kept h

theorem execGetMeasurements_kept {a0} {a1} {a2} {a3} (h : Kept r s) : KeptNext r (execGetMeasurements a0 a1 a2 a3 s) := by
  unfold execGetMeasurements
  refine KeptNext.settled ?_
  refine actGetMeasurements_kept h

theorem execSensorRead_kept {a0} {a1} {a2} (h : Kept r s) : KeptNext r (execSensorRead a0 a1 a2 s) := by
  unfold execSensorRead
  refine KeptNext.settled ?_
  refine actSensorRead_kept h

theorem execSpareSelfCheck_kept {a0} {a1} (h : Kept r s) : KeptNext r (execSpareSelfCheck a0 a1 s) := by
  unfold execSpareSelfCheck
  refine KeptNext.settled ?_
  refine actSpareSelfCheck_kept h

theorem execHbmRowRepair_kept {a0} {a1} {a2} {a3} {a4} (h : Kept r s) : KeptNext r (execHbmRowRepair a0 a1 a2 a3 a4 s) := by
  unfold execHbmRowRepair
  refine KeptNext.settled ?_
  refine actHbmRowRepair_kept h

theorem execLifeUpdate_kept {a0} {a1} (h : Kept r s) : KeptNext r (execLifeUpdate a0 a1 s) := by
  unfold execLifeUpdate
  refine KeptNext.settled ?_
  refine actLifeUpdate_kept h

theorem execVin12Excursion_kept {a0} (h : Kept r s) : KeptNext r (execVin12Excursion a0 s) := by
  unfold execVin12Excursion
  refine KeptNext.settled ?_
  refine actVin12Excursion_kept h

theorem execSamplePreload_kept (h : Kept r s) : KeptNext r (execSamplePreload s) := by
  unfold execSamplePreload
  refine KeptNext.settled ?_
  refine actSamplePreload_kept h

theorem execExtest_kept (h : Kept r s) : KeptNext r (execExtest s) := by
  unfold execExtest
  refine KeptNext.settled ?_
  refine actExtest_kept h

theorem execBayLinkUp_kept {a0} {a1} {a2} (h : Kept r s) : KeptNext r (execBayLinkUp a0 a1 a2 s) := by
  unfold execBayLinkUp
  refine KeptNext.settled ?_
  refine actBayLinkUp_kept h

theorem execFaultTimerStart_kept {a0} (h : Kept r s) : KeptNext r (execFaultTimerStart a0 s) := by
  unfold execFaultTimerStart
  refine KeptNext.settled ?_
  refine actFaultTimerStart_kept h

theorem execFaultTimerClear_kept {a0} (h : Kept r s) : KeptNext r (execFaultTimerClear a0 s) := by
  unfold execFaultTimerClear
  refine KeptNext.settled ?_
  refine actFaultTimerClear_kept h

theorem execAttentionBlinkEnd_kept {a0} (h : Kept r s) : KeptNext r (execAttentionBlinkEnd a0 s) := by
  unfold execAttentionBlinkEnd
  refine KeptNext.settled ?_
  refine actAttentionBlinkEnd_kept h

theorem State.copyWrite_kept {a1} {a2} {a3} {a4} {a5} {a6} {a7} {a8} {a9} (h : Kept r s) : Kept r (State.copyWrite s a1 a2 a3 a4 a5 a6 a7 a8 a9) := by
  unfold State.copyWrite
  refine Kept.ite ?_ ?_
  · exact h
  · extract_lets x4 x5 x6
    have h7 : Kept r x4 := Kept1.fst (State.takeControl_kept h)
    clear_value x4
    clear_value x5 x6
    split
    · exact h7
    · refine Kept.ite ?_ ?_
      · exact h7
      · extract_lets x18 x19 x20
        clear_value x18 x19 x20
        exact State.showTarget_kept (Kept.upd h7 rfl)

theorem State.resyncSend_kept {a1} {a2} {a3} {a4} (h : Kept r s) : Kept r (State.resyncSend s a1 a2 a3 a4) := by
  unfold State.resyncSend
  extract_lets x2 x3
  clear_value x2
  split
  · exact h
  · refine Kept.ite ?_ ?_
    · exact h
    · split
      · rename_i y14 y15 y16
        have h17 : Kept r y15 := .of1 y16 (State.fedFlow_kept h)
        exact h17
      · rename_i y19 y20 y21 y22
        have h23 : Kept r y20 := .of1 y22 (State.fedFlow_kept h)
        extract_lets x25 x26 x27 x28
        have h29 : Kept r x28 := Kept.upd h23 rfl
        clear_value x28
        clear_value x25 x26 x27
        exact State.sendFed_kept h29

theorem State.xmAcked_kept {a1} {a2} {a3} {a4} (h : Kept r s) : Kept r (State.xmAcked s a1 a2 a3 a4) := by
  unfold State.xmAcked
  extract_lets x2 x3
  have h4 : Kept r x2 := Kept1.fst (State.takeControl_kept h)
  clear_value x2
  clear_value x3
  split
  · exact h4
  · extract_lets x13 x14
    have h15 : Kept r x13 := Kept.upd h4 rfl
    clear_value x13
    clear_value x14
    split
    · exact h15
    · extract_lets x24
      have h25 : Kept r x24 := Kept.upd h15 rfl
      clear_value x24
      exact Kept.ite h25 (State.raise_kept (State.wr_kept h25))

theorem State.splitMirror_kept {a1} (h : Kept r s) : Kept r (State.splitMirror s a1) := by
  unfold State.splitMirror
  extract_lets x2 x3 x4 x5 x6
  have h7 : Kept r x4 := State.setDirty_kept h
  clear_value x4
  have h8 : Kept r x6 := Kept.upd h7 rfl
  clear_value x6
  clear_value x2 x3 x5
  exact State.raise_kept (State.wr_kept h8)

theorem execMirroredWrite_kept {a0} {a1} {a2} {a3} {a4} {a5} {a6} {a7} {a8} {a9} (h : Kept r s) : KeptNext r (execMirroredWrite a0 a1 a2 a3 a4 a5 a6 a7 a8 a9 s) := by
  unfold execMirroredWrite
  refine KeptNext.next ?_
  exact State.carryOn_kept (State.copyWrite_kept h)

theorem execMirrorAck_kept {a0} {a1} {a2} (h : Kept r s) : KeptNext r (execMirrorAck a0 a1 a2 s) := by
  unfold execMirrorAck
  refine KeptNext.next ?_
  exact State.carryOn_kept (State.xmAcked_kept h)

theorem execResync_kept {a0} (h : Kept r s) : KeptNext r (execResync a0 s) := by
  unfold execResync
  split
  · refine KeptNext.next ?_
    exact State.carryOn_kept (State.resyncSend_kept h)
  · refine KeptNext.next ?_
    exact State.carryOn_kept (State.copyWrite_kept h)
  · refine KeptNext.next ?_
    exact State.carryOn_kept (State.xmAcked_kept h)

theorem execMirrorSplit_kept {a0} (h : Kept r s) : KeptNext r (execMirrorSplit a0 s) := by
  unfold execMirrorSplit
  refine KeptNext.next ?_
  exact Kept.ite (State.carryOn_kept (State.splitMirror_kept h)) h

theorem execDieTemperatureTrip_kept {a0} {a1} (h : Kept r s) : KeptNext r (execDieTemperatureTrip a0 a1 s) := by
  unfold execDieTemperatureTrip
  refine KeptNext.next ?_
  exact Kept.ite (State.carryOn_kept (State.raise_kept h)) h

theorem execPhaseFault_kept {a0} {a1} (h : Kept r s) : KeptNext r (execPhaseFault a0 a1 s) := by
  unfold execPhaseFault
  refine KeptNext.next ?_
  exact Kept.ite (State.carryOn_kept (State.phaseFails_kept h)) h

theorem execHandlingTimeout_kept (h : Kept r s) : KeptNext r (execHandlingTimeout s) := by
  unfold execHandlingTimeout
  split
  · refine KeptNext.next ?_
    exact h
  · refine KeptNext.next ?_
    exact State.carryOn_kept (State.raise_kept (State.endHandling_kept h))

end Sys2Proof.Machine
end

