-- ==== Sys2Proof/Laws/Raise.lean ====
section
/-!
SUPPORT. What raising an event can change, said once: registers, the event state, what is sent, free values, the logbook, the PLDM
messages of the last second, pending MSI-X vectors, the INTx message last sent, and whether a fatal fault has acted; and that a record in cox's event buffer stays there.
-/

namespace Sys2Proof.Machine

/-- `s` with what event business can change taken from `t`. -/
def State.withEvents (s t : State) : State :=
  { s with
    regs := t.regs
    out := t.out
    free := t.free
    ev := t.ev
    ept := { s.ept with pba := t.ept.pba, intaSent := t.ept.intaSent }
    cox := { s.cox with log := t.cox.log, pldmSent := t.cox.pldmSent, pldmMissed := t.cox.pldmMissed }
    fatal := t.fatal }

/-- `t` comes from `s` by event business alone, with at most `n` records put into cox's event buffer. -/
structure Calm (n : Nat) (s t : State) : Prop where
  same : t = s.withEvents t
  buf : ∀ (r : EvRec) (i : Nat), s.ev.buf[i]? = some r → i + n < 524288 → ∃ j, j ≤ i + n ∧ t.ev.buf[j]? = some r

variable {s t u : State} {n m : Nat}

theorem Calm.of (same : t = s.withEvents t) (buf : t.ev.buf = s.ev.buf) : Calm 0 s t :=
  ⟨same, fun r i h _ => ⟨i, Nat.le_refl _, by rw [buf]; exact h⟩⟩

theorem Calm.refl (s : State) : Calm 0 s s := .of rfl rfl

theorem State.withEvents_again (s t u : State) : (s.withEvents t).withEvents u = s.withEvents u := rfl

theorem Calm.add (h : Calm n s t) (g : Calm m t u) : Calm (n + m) s u where
  same := by
    have e := g.same
    rw [h.same, State.withEvents_again] at e
    exact e
  buf r i hr hi := by
    obtain ⟨j, hj, e⟩ := h.buf r i hr (by omega)
    obtain ⟨k, hk, e2⟩ := g.buf r j e (by omega)
    exact ⟨k, by omega, e2⟩

theorem Calm.trans (h : Calm 0 s t) (g : Calm 0 t u) : Calm 0 s u := h.add g

theorem Calm.after (g : Calm 0 t u) (h : Calm 0 s t) : Calm 0 s u := h.trans g

theorem Calm.mono (h : Calm n s t) (g : n ≤ m) : Calm m s t where
  same := h.same
  buf r i hr hi :=
    let ⟨j, hj, e⟩ := h.buf r i hr (by omega)
    ⟨j, by omega, e⟩

theorem Calm.ite {c : Prop} [Decidable c] (h : Calm n s t) (g : Calm n s u) : Calm n s (if c then t else u) := by
  split <;> assumption

theorem Calm.foldl {α : Type} {f : State → α → State} (l : List α) (g : ∀ t a, Calm 0 t (f t a)) : Calm 0 s (l.foldl f s) := by
  induction l generalizing s with
  | nil => exact .refl s
  | cons a l ih => exact (g s a).trans ih

namespace State

theorem wr_calm {f v i j} : Calm 0 s (s.wr f v i j) := .of rfl rfl
theorem bump_calm {f n i j} : Calm 0 s (s.bump f n i j) := .of rfl rfl
theorem emit_calm {o} : Calm 0 s (s.emit o) := .of rfl rfl
theorem tick_calm : Calm 0 s s.tick := .of rfl rfl
theorem log_calm {k v p} : Calm 0 s (s.log k v p) := .of rfl rfl

theorem wake_calm {u} : Calm 0 s (s.wake u) := by
  unfold wake setClosed wrBit
  exact .ite (.ite (.ite (.refl s) wr_calm) (.ite (.refl s) wr_calm)) (.refl s)

theorem sendInta_calm : Calm 0 s s.sendInta := by
  unfold sendInta
  exact .ite (.refl s) (.of rfl rfl)

theorem settleLine_calm : Calm 0 s s.settleLine := by
  unfold settleLine
  exact .ite (.refl s) (wr_calm.trans sendInta_calm)

theorem requestVector_calm {v} : Calm 0 s (s.requestVector v) := by
  unfold requestVector
  refine wake_calm.trans (.ite (.ite (.of rfl rfl) emit_calm) ?_)
  exact (Calm.ite (.refl _) (wr_calm.trans wr_calm)).trans settleLine_calm

theorem countIn_calm {u n c} : Calm 0 s (s.countIn u n c) := by
  unfold countIn
  exact .ite (.ite (wr_calm.trans wr_calm) ((wr_calm.trans wr_calm).trans wr_calm)) (.refl s)

theorem countAll_calm {sel u n} : Calm 0 s (s.countAll sel u n) := by
  unfold countAll
  exact .ite (.refl s) (.foldl _ fun _ _ => countIn_calm)

theorem putSample_calm {q} : Calm 0 s (s.putSample q) := by
  unfold putSample
  extract_lets pi size
  refine .ite ?_ (bump_calm.after (.of rfl rfl))
  exact ((emit_calm.trans wr_calm).trans requestVector_calm).trans countAll_calm

theorem writeSample_calm {k sel u c} : Calm 0 s (s.writeSample k sel u c) := by
  unfold writeSample
  extract_lets r s1
  have h1 : Calm 0 s s1 := tick_calm
  clear_value s1 r
  exact h1.trans (.ite (.of rfl rfl) (.ite putSample_calm (.of rfl rfl)))

theorem sampleAt_calm {sel u c k} : Calm 0 s (s.sampleAt sel u c k) := by
  unfold sampleAt
  exact .ite (.ite (writeSample_calm.after (.of rfl rfl)) (.of rfl rfl)) (.refl s)

theorem occurN_calm {sel u n c} : Calm 0 s (s.occurN sel u n c) := by
  unfold occurN
  exact countAll_calm.trans (.foldl _ fun _ _ => sampleAt_calm)

theorem interrupt_calm {v} : Calm 0 s (s.interrupt v) := by
  unfold interrupt
  extract_lets t
  have h : Calm 0 s t := requestVector_calm
  clear_value t
  exact .ite (h.trans occurN_calm) h

theorem sendPldm_calm {what} : Calm 0 s (s.sendPldm what) := by
  unfold sendPldm
  split
  · exact .refl s
  · extract_lets sent
    exact .ite (.refl s) (.ite (emit_calm.after (.of rfl rfl)) (.of rfl rfl))

theorem writeHost_calm {r} : Calm 0 s (s.writeHost r) := by
  unfold writeHost
  exact (emit_calm.trans wr_calm).trans interrupt_calm

theorem deliverHost_calm {r} : Calm 0 s (s.deliverHost r).1 := by
  unfold deliverHost
  split
  · exact .refl s
  · split
    · exact .of rfl rfl
    · split
      · exact writeHost_calm
      · split
        · exact .of rfl rfl
        · split
          · split
            · exact bump_calm.after (.of rfl rfl)
            · exact .of rfl rfl
          · split
            · exact .of rfl rfl
            · exact bump_calm

theorem preempt_calm {e} : Calm 0 s (s.preempt e).1 := by
  unfold preempt
  split
  · exact .of rfl rfl
  · exact .refl s

theorem mergeFault_calm {sev u p} (h : s.mergeFault sev u = some p) : Calm 0 s p.1 := by
  unfold mergeFault at h
  split at h
  · cases h
  · split at h
    · cases h; exact .of rfl rfl
    · split at h
      · dsimp only at h
        split at h <;> (cases h; exact .of rfl rfl)
      · split at h
        · dsimp only at h
          split at h
          · cases h; exact preempt_calm.after (.of rfl rfl)
          · cases h; exact .of rfl rfl
        · cases h

theorem enqueueFault_calm {e} : Calm 0 s (s.enqueueFault e).1 := by
  unfold enqueueFault
  split
  · exact .of rfl rfl
  · split
    · split
      · exact .refl s
      · exact bump_calm.after (.of rfl rfl)
    · split <;> exact .refl s

theorem placeFault_calm {ev sev u} : Calm 0 s (s.placeFault ev sev u).1 := by
  unfold placeFault
  extract_lets own src s1 e
  split
  · exact .refl s
  · have h1 : Calm 0 s s1 := .of rfl rfl
    split
    · next p hp => exact h1.trans (mergeFault_calm hp)
    · split
      · split
        · exact h1.trans (.of rfl rfl)
        · exact h1.trans enqueueFault_calm
      · split
        · exact h1.trans preempt_calm
        · exact h1.trans enqueueFault_calm

/-- One raise: its record stands first in cox's buffer. -/
theorem raiseOne_calm {ev u d f} : Calm 1 s (s.raiseOne ev u d f).1 ∧
    ∃ r, (s.raiseOne ev u d f).1.ev.buf[0]? = some r ∧ r.ev = ev ∧ r.unit = u ∧ r.sev = severity ev := by
  unfold raiseOne
  extract_lets sev nm r s1 src s2 s3 s4 s5
  have h1 : Calm 0 s s1 := occurN_calm
  clear_value s1
  have h2 : Calm 1 s1 s2 := by
    refine ⟨rfl, fun q i hq hi => ⟨i + 1, Nat.le_refl _, ?_⟩⟩
    show ((r :: s1.ev.buf).take 524288)[i + 1]? = some q
    rw [List.getElem?_take_of_lt (by omega)]
    exact hq
  have e2 : s2.ev.buf[0]? = some r := rfl
  have h3 : Calm 0 s2 s3 := .ite ((bump_calm.trans wr_calm).trans wr_calm) (.refl s2)
  have h4 : Calm 0 s3 s4 := .ite (.refl s3) sendPldm_calm
  have h5 : Calm 0 s4 s5 := .ite log_calm (.refl s4)
  have h25 : Calm 0 s2 s5 := (h3.trans h4).trans h5
  clear_value s5
  clear_value s2
  have hr : r.ev = ev ∧ r.unit = u ∧ r.sev = severity ev := ⟨rfl, rfl, rfl⟩
  clear_value r
  suffices h : ∀ t, Calm 0 s2 t → Calm 1 s t ∧ ∃ r, t.ev.buf[0]? = some r ∧ r.ev = ev ∧ r.unit = u ∧ r.sev = severity ev by
    apply h
    have g1 : Calm 0 s2 (s5.deliverHost r).1 := h25.trans deliverHost_calm
    generalize s5.deliverHost r = p at *
    obtain ⟨t1, lost⟩ := p
    dsimp only at g1 ⊢
    have g2 : Calm 0 t1 (if (t1.is F.PMU_CTRL_FREEZE_EN && t1.rd F.PMU_CTRL_FREEZE_EV == ev && !t1.is F.PMU_CTRL_FREEZE) = true then
        (t1.wr F.PMU_CTRL_FREEZE 1, (if lost = true then [(59, 61440, 0, 0)] else []) ++ [(61, 61440, 0, 0)])
      else (t1, if lost = true then [(59, 61440, 0, 0)] else [])).1 := by
      split
      · exact wr_calm
      · exact .refl t1
    generalize (if (t1.is F.PMU_CTRL_FREEZE_EN && t1.rd F.PMU_CTRL_FREEZE_EV == ev && !t1.is F.PMU_CTRL_FREEZE) = true then
        (t1.wr F.PMU_CTRL_FREEZE 1, (if lost = true then [(59, 61440, 0, 0)] else []) ++ [(61, 61440, 0, 0)])
      else (t1, if lost = true then [(59, 61440, 0, 0)] else [])) = q at *
    obtain ⟨t2, follow⟩ := q
    dsimp only at g2 ⊢
    have g3 := g1.trans g2
    split
    · exact g3.trans (.of rfl rfl)
    · have g4 : Calm 0 s2 (t2.placeFault ev sev u).1 := g3.trans placeFault_calm
      generalize t2.placeFault ev sev u = w at *
      obtain ⟨t3, f⟩ := w
      cases f <;> exact g4
  intro t h
  refine ⟨(h1.add h2).add h |>.mono (by omega), ?_⟩
  obtain ⟨j, hj, e⟩ := h.buf r 0 e2 (by omega)
  obtain rfl : j = 0 := by omega
  exact ⟨r, e, hr⟩

theorem raiseOne_follow {ev u d f} : (s.raiseOne ev u d f).2.length ≤ 3 := by
  unfold raiseOne
  extract_lets sev nm r s1 src s2 s3 s4 s5
  generalize s5.deliverHost r = p
  obtain ⟨t1, lost⟩ := p
  dsimp only
  have hq : (if (t1.is F.PMU_CTRL_FREEZE_EN && t1.rd F.PMU_CTRL_FREEZE_EV == ev && !t1.is F.PMU_CTRL_FREEZE) = true then
      (t1.wr F.PMU_CTRL_FREEZE 1, (if lost = true then [(59, 61440, 0, 0)] else []) ++ [(61, 61440, 0, 0)])
    else (t1, if lost = true then [(59, 61440, 0, 0)] else [])).2.length ≤ 2 := by
    cases lost <;> split <;> simp
  generalize (if (t1.is F.PMU_CTRL_FREEZE_EN && t1.rd F.PMU_CTRL_FREEZE_EV == ev && !t1.is F.PMU_CTRL_FREEZE) = true then
      (t1.wr F.PMU_CTRL_FREEZE 1, (if lost = true then [(59, 61440, 0, 0)] else []) ++ [(61, 61440, 0, 0)])
    else (t1, if lost = true then [(59, 61440, 0, 0)] else [])) = q at *
  obtain ⟨t2, follow⟩ := q
  dsimp only at hq ⊢
  split
  · exact Nat.le_succ_of_le hq
  · generalize t2.placeFault ev sev u = w
    obtain ⟨t3, g⟩ := w
    cases g <;> simp only [List.length_append, List.length_cons, List.length_nil] <;> omega

/-- Records that raising one event to a depth may add. -/
def raiseBound : Nat → Nat
  | 0 => 0
  | n + 1 => 1 + 3 * raiseBound n

theorem raiseAll_calm {evs : List (Nat × Nat × Nat × Nat)} {n : Nat} :
    Calm (evs.length * raiseBound n) s (s.raiseAll evs n) := by
  induction n generalizing s evs with
  | zero => exact (Calm.refl s).mono (Nat.zero_le _)
  | succ n ih =>
    unfold raiseAll
    induction evs generalizing s with
    | nil => exact (Calm.refl s).mono (Nat.zero_le _)
    | cons e rest ihl =>
      rw [List.foldl_cons]
      have h1 : Calm 1 s _ := (raiseOne_calm (s := s) (ev := e.1) (u := e.2.1) (d := e.2.2.1) (f := e.2.2.2)).1
      have h2 := raiseOne_follow (s := s) (ev := e.1) (u := e.2.1) (d := e.2.2.1) (f := e.2.2.2)
      have h3 := h1.add (ih (evs := (s.raiseOne e.1 e.2.1 e.2.2.1 e.2.2.2).2))
      have hb : (s.raiseOne e.1 e.2.1 e.2.2.1 e.2.2.2).2.length * raiseBound n ≤ 3 * raiseBound n := Nat.mul_le_mul_right _ h2
      refine (h3.add ihl).mono ?_
      simp only [List.length_cons, raiseBound, Nat.succ_mul] at *
      omega

/-- Raising one event: its own raise, then what follows from it. -/
theorem raiseAll_one {e : Nat × Nat × Nat × Nat} {n : Nat} : s.raiseAll [e] (n + 1) =
    (s.raiseOne e.1 e.2.1 e.2.2.1 e.2.2.2).1.raiseAll (s.raiseOne e.1 e.2.1 e.2.2.1 e.2.2.2).2 n := by
  simp only [raiseAll, List.foldl_cons, List.foldl_nil]

theorem raiseAll_one_calm {e : Nat × Nat × Nat × Nat} : Calm 121 s (s.raiseAll [e] 5) :=
  raiseAll_calm.mono (by simp [raiseBound])

theorem once_calm {k : Nat × Nat} : Calm 0 s { s with ev := { s.ev with once := s.ev.once ++ [k] } } := .of rfl rfl

theorem settleSample_calm : Calm 121 s s.settleSample := by
  unfold settleSample
  split
  · extract_lets src s1 src1
    have h1 : Calm 0 s s1 := .of rfl rfl
    clear_value s1
    split
    · exact h1.mono (Nat.zero_le _)
    · exact ((h1.trans once_calm).add raiseAll_one_calm).mono (by omega)
  · exact (Calm.refl s).mono (Nat.zero_le _)

theorem raise_calm {ev u d} : Calm 242 s (s.raise ev u d) := raiseAll_one_calm.add settleSample_calm

theorem countN_calm {sel u n c} : Calm 121 s (s.countN sel u n c) :=
  (occurN_calm.add settleSample_calm).mono (by omega)

theorem raiseOnce_calm {ev k u d} : Calm 242 s (s.raiseOnce ev k u d) := by
  unfold raiseOnce
  split
  · exact countN_calm.mono (by omega)
  · exact (once_calm.add raise_calm).mono (by omega)

end State

/-! What event business leaves: one lemma per field. -/

theorem Calm.pending (h : Calm n s t) : t.pending = s.pending := by rw [h.same]; rfl
theorem Calm.eff (h : Calm n s t) : t.eff = s.eff := by rw [h.same]; rfl
theorem Calm.latch (h : Calm n s t) : t.latch = s.latch := by rw [h.same]; rfl
theorem Calm.heat (h : Calm n s t) : t.heat = s.heat := by rw [h.same]; rfl
theorem Calm.tod (h : Calm n s t) : t.tod = s.tod := by rw [h.same]; rfl
theorem Calm.now (h : Calm n s t) : t.now = s.now := by rw [h.same]; rfl
theorem Calm.boot (h : Calm n s t) : t.boot = s.boot := by rw [h.same]; rfl
theorem Calm.fuses (h : Calm n s t) : t.fuses = s.fuses := by rw [h.same]; rfl
theorem Calm.clk (h : Calm n s t) : t.clk = s.clk := by rw [h.same]; rfl
theorem Calm.wrg (h : Calm n s t) : t.wrg = s.wrg := by rw [h.same]; rfl
theorem Calm.spr (h : Calm n s t) : t.spr = s.spr := by rw [h.same]; rfl
theorem Calm.bay (h : Calm n s t) : t.bay = s.bay := by rw [h.same]; rfl
theorem Calm.sw (h : Calm n s t) : t.sw = s.sw := by rw [h.same]; rfl
theorem Calm.ptp (h : Calm n s t) : t.ptp = s.ptp := by rw [h.same]; rfl
theorem Calm.skf (h : Calm n s t) : t.skf = s.skf := by rw [h.same]; rfl
theorem Calm.nvt (h : Calm n s t) : t.nvt = s.nvt := by rw [h.same]; rfl
theorem Calm.hmp (h : Calm n s t) : t.hmp = s.hmp := by rw [h.same]; rfl
theorem Calm.jtag (h : Calm n s t) : t.jtag = s.jtag := by rw [h.same]; rfl
theorem Calm.cip (h : Calm n s t) : t.cip = s.cip := by rw [h.same]; rfl
theorem Calm.chk (h : Calm n s t) : t.chk = s.chk := by rw [h.same]; rfl
theorem Calm.cmp (h : Calm n s t) : t.cmp = s.cmp := by rw [h.same]; rfl
theorem Calm.crw (h : Calm n s t) : t.crw = s.crw := by rw [h.same]; rfl
theorem Calm.twn (h : Calm n s t) : t.twn = s.twn := by rw [h.same]; rfl

end Sys2Proof.Machine
end

