-- ==== Sys2Proof/WellFormed.lean ====
section
/-!
DEFINITION. Well-formed commands: every operand fits what carries it (the width of its field, or the number of copies of the unit
that it names). A malformed packet or a value that a rule refuses is well-formed: the rule says what it does.
-/

namespace Sys2Proof

/-- An operand that may be absent lies below a bound. -/
def optBelow (o : Option Nat) (bound : Nat) : Bool := o.all fun n => decide (n < bound)

/-- Payload bytes that may be unreadable. -/
def bytesOk (o : Option (List Nat)) : Bool := o.all fun l => l.all fun b => decide (b < 256)

def Straps.ok (p : Straps) : Bool := decide (p.settle < 8)
def CopyFacts.ok (f : CopyFacts) : Bool := decide (f.pubkeyDigest < 2 ^ 512)
def SigBlock.ok (b : SigBlock) : Bool :=
  decide (b.challenge < 2 ^ 256) && decide (b.endpoint < 256) && decide (b.keyslot < 256) && decide (b.pubkeyDigest < 2 ^ 512)
def FlowRef.ok (f : FlowRef) : Bool := decide (f.ip < 2 ^ 128) && decide (f.port < 2 ^ 16) && decide (f.ptag < 2 ^ 16)
def Capsule.ok (c : Capsule) : Bool :=
  c.flow.ok && decide (c.cntlid < 2 ^ 16) && decide (c.qid < 2 ^ 16) && decide (c.cid < 2 ^ 16) && decide (c.msgid < 2 ^ 32) &&
    decide (c.keyhi < 2 ^ 32) && optBelow c.enc 8192
def SkHdr.ok (h : SkHdr) : Bool :=
  decide (h.dport < 2 ^ 16) && decide (h.ip < 2 ^ 128) && decide (h.port < 2 ^ 16) && decide (h.ptag < 2 ^ 16) && decide (h.lport < 32) &&
    decide (h.mac < 2 ^ 48) && optBelow h.vlan 4096 && decide (h.dscp < 64) && decide (h.version < 16) && decide (h.opcode < 256) &&
    decide (h.payLen < 2 ^ 16) && decide (h.udpLen < 2 ^ 16) && decide (h.gen < 2 ^ 32) && decide (h.seq < 2 ^ 32) &&
    decide (h.ackseq < 2 ^ 32) && decide (h.dstShelf < 2 ^ 16) && decide (h.srcShelf < 2 ^ 16) && decide (h.tsval < 2 ^ 32) &&
    decide (h.tsecr < 2 ^ 32)
def MsgPart.ok (p : MsgPart) : Bool :=
  decide (p.msgid < 2 ^ 32) && decide (p.offset < 2 ^ 32) && decide (p.mtype < 256) && decide (p.msglen < 2 ^ 32) && decide (p.trig < 2 ^ 16)
def Sgl.ok : Sgl → Bool
  | .keyed bs => bs.all fun b => decide (b.1 < 2 ^ 64) && decide (b.2.1 < 2 ^ 24) && decide (b.2.2 < 2 ^ 32)
  | .inCapsule len data => decide (data < 2 ^ (8 * len))
  | .unsupported => true
def IoReq.ok (r : IoReq) : Bool :=
  decide (r.nsid < 2 ^ 32) && decide (r.slba < 2 ^ 64) && decide (r.nlb < 2 ^ 16) && decide (r.prchk < 8) && decide (r.lbat < 2 ^ 16) &&
    decide (r.lbatm < 2 ^ 16) && decide (r.reftag < 2 ^ 48) && r.sgl.ok
def TwHdr.ok (h : TwHdr) : Bool := decide (h.seq < 2 ^ 32) && decide (h.ackseq < 2 ^ 32)
def BlockRec.ok (r : BlockRec) : Bool := decide (r.crew < 8) && decide (r.kind < 3)
def CmdRec.ok (r : CmdRec) : Bool := decide (r.cntlid < 2 ^ 16) && decide (r.qid < 2 ^ 16) && decide (r.cid < 2 ^ 16) && r.flow.ok
def StateRec.ok (r : StateRec) : Bool := decide (r.state < 4)
def AssocRec.ok (r : AssocRec) : Bool := decide (r.cntlid < 2 ^ 16) && r.flow.ok && decide (r.lport < 32)
def CrewNews.ok : CrewNews → Bool
  | .seats r => decide (r.crew < 8)
  | .sanitize bay _ => decide (bay < 32)
def DriveEnd.fits : DriveEnd → Bool
  | .ok value => decide (value < 2 ^ (8 * 4160))
  | .media status | .other status => decide (status < 2 ^ 16)
  | .path => true

/-- A configuration request (R422 to R426). -/
def CfgReq.ok : CfgReq → Bool
  | .read offset | .msixRead offset => decide (offset < 2 ^ 16)
  | .enables _ _ | .powerD0 | .ido _ _ => true
  | .bar0 value => decide (value < 2 ^ 64)
  | .romBar value _ => decide (value < 2 ^ 32)
  | .msixMask vector => optBelow vector 64
  | .msixWrite offset value | .other offset value => decide (offset < 2 ^ 16) && decide (value < 2 ^ 32)

/-- A command is well-formed. -/
def wellFormed : Instr → Bool
  | .registerWrite _ addr width value => decide (addr < 2 ^ 24) && decide (width < 9) && decide (value < 2 ^ 64)
  | .rcRead _ addr => decide (addr < 2 ^ 24)
  | .coldStart straps _ _ fault => straps.ok && optBelow fault (2 ^ 16)
  | .settleDelayEnd fault => optBelow fault (2 ^ 16)
  | .referenceCheck aState bState fault => decide (aState < 4) && decide (bState < 4) && optBelow fault (2 ^ 16)
  | .referenceCheckRetry aState bState fault => decide (aState < 4) && decide (bState < 4) && optBelow fault (2 ^ 16)
  | .copyCheckComplete facts fault => facts.ok && optBelow fault (2 ^ 16)
  | .imageApply fault logFails => optBelow fault (2 ^ 16) && logFails.all (decide <| · < 128)
  | .linkTrainingEnd fault => optBelow fault (2 ^ 16)
  | .pwrFailBeforeReady => true
  | .startResume => true
  | .recoveryStatus _ => true
  | .recoveryErase offset => optBelow offset (2 ^ 32)
  | .recoveryWrite data => data.all fun d => decide (d.1 < 2 ^ 32) && d.2.all fun x => decide (x < 256)
  | .recoveryCheck copy facts => optBelow copy 2 && facts.ok
  | .recoveryRestart _ straps => straps.ok
  | .sysRstN => true
  | .sysResetSystem _ straps => straps.ok
  | .sysResetCox _ _ => true
  | .coxWatchdogExpiry core _ => decide (core < 4)
  | .endpointReset _ => true
  | .fallbackPoint tag => decide (tag < 2 ^ 32)
  | .endpointLinkDown => true
  | .endpointLinkUp speed width hostRef => decide (speed < 8) && decide (width < 33) && optBelow hostRef 2
  | .paceControlTick _ => true
  | .paceThermalStep _ => true
  | .referenceStopped ref => decide (ref < 2)
  | .grossWindow ref _ => decide (ref < 2)
  | .ppmWindow _ _ _ => true
  | .referenceReturnGood ref => decide (ref < 2)
  | .holdoverExpiry => true
  | .watchModeRestart straps => straps.ok
  | .clkMuxGlitchFreeSwitch _ => true
  | .clkMuxHardCut _ => true
  | .muxSwitchComplete dom => decide (dom < 7)
  | .muxHangBreak dom => decide (dom < 7)
  | .pllRelock dom => decide (dom < 7)
  | .gateIdleClose unit => decide (unit < 64)
  | .gateReopen unit => decide (unit < 64)
  | .clkGateForce _ _ accessPending => accessPending.all fun x => decide (x.1 < 64) && decide (x.2.2.1 < 2 ^ 24) && decide (x.2.2.2.2 < 1024)
  | .forcedGateTimeout unit => decide (unit < 64)
  | .frameReceive lport _ _ mac vlan _ => decide (lport < 32) && decide (mac < 2 ^ 48) && optBelow vlan (4096)
  | .msgReceive h part => h.ok && part.ok
  | .fdataReceive h ftag _ _ => h.ok && decide (ftag < 2 ^ 32)
  | .ackReceive h => h.ok
  | .nakSeq h nseq => h.ok && decide (nseq < 2 ^ 32)
  | .nakGen h nseq => h.ok && decide (nseq < 2 ^ 32)
  | .nakPending h nseq => h.ok && decide (nseq < 2 ^ 32)
  | .nakRefused h nseq => h.ok && decide (nseq < 2 ^ 32)
  | .nakShelf h nseq => h.ok && decide (nseq < 2 ^ 32)
  | .nakKeyfull h nseq => h.ok && decide (nseq < 2 ^ 32)
  | .nakChainfull h nseq => h.ok && decide (nseq < 2 ^ 32)
  | .keyreg flow msgid key => flow.ok && decide (msgid < 2 ^ 32) && decide (key < 2 ^ 64)
  | .keyrevoke flow msgid => flow.ok && decide (msgid < 2 ^ 32)
  | .chainpost flow msgid kind chainId _ _ enc => flow.ok && decide (msgid < 2 ^ 32) && decide (kind < 2 ^ 8) && decide (chainId < 2 ^ 16) && optBelow enc (8192)
  | .chaincancel flow msgid chainId => flow.ok && decide (msgid < 2 ^ 32) && decide (chainId < 2 ^ 16)
  | .ackDelayExpiry flow => flow.ok
  | .retransmissionTimeout flow => flow.ok
  | .flowIdleDrop flow => flow.ok
  | .recordRestore flow => flow.ok
  | .reachKeyRelease ip ptag => decide (ip < 2 ^ 128) && decide (ptag < 2 ^ 16)
  | .connect c qid sqsize kato hostid dataCntlid _ => c.ok && decide (qid < 2 ^ 16) && decide (sqsize < 2 ^ 16) && decide (kato < 2 ^ 32) && decide (hostid < 2 ^ 128) && decide (dataCntlid < 2 ^ 16)
  | .propertySet c offset value => c.ok && decide (offset < 2 ^ 32) && decide (value < 2 ^ 64)
  | .propertyGet c offset => c.ok && decide (offset < 2 ^ 32)
  | .disconnect c => c.ok
  | .flush c nsid => c.ok && decide (nsid < 2 ^ 32)
  | .write c io => c.ok && io.ok
  | .read c io => c.ok && io.ok
  | .compare c io => c.ok && io.ok
  | .writeZeroes c io => c.ok && io.ok
  | .datasetManagement c nsid nr _ sgl => c.ok && decide (nsid < 2 ^ 32) && decide (nr < 256) && sgl.ok
  | .reservationRegister c nsid action _ cptpl sgl => c.ok && decide (nsid < 2 ^ 32) && decide (action < 8) && decide (cptpl < 4) && sgl.ok
  | .reservationReport c nsid numd _ sgl => c.ok && decide (nsid < 2 ^ 32) && decide (numd < 2 ^ 32) && sgl.ok
  | .reservationAcquire c nsid action rtype _ sgl => c.ok && decide (nsid < 2 ^ 32) && decide (action < 8) && decide (rtype < 256) && sgl.ok
  | .reservationRelease c nsid action rtype _ sgl => c.ok && decide (nsid < 2 ^ 32) && decide (action < 8) && decide (rtype < 256) && sgl.ok
  | .getLogPage c lid nsid offset numd sgl => c.ok && decide (lid < 256) && decide (nsid < 2 ^ 32) && decide (offset < 2 ^ 64) && decide (numd < 2 ^ 32) && sgl.ok
  | .identify c cns nsid cntid csi sgl => c.ok && decide (cns < 256) && decide (nsid < 2 ^ 32) && decide (cntid < 2 ^ 16) && decide (csi < 256) && sgl.ok
  | .abort c sqid cid => c.ok && decide (sqid < 2 ^ 16) && decide (cid < 2 ^ 16)
  | .setFeatures c fid nsid value => c.ok && decide (fid < 256) && decide (nsid < 2 ^ 32) && decide (value < 2 ^ 32)
  | .getFeatures c fid nsid sgl => c.ok && decide (fid < 256) && decide (nsid < 2 ^ 32) && sgl.ok
  | .asynchronousEventRequest c => c.ok
  | .keepAlive c => c.ok
  | .contextAssign => true
  | .keepAliveExpiry cntlid => decide (cntlid < 2 ^ 16)
  | .cutPoint cntlid qid cid msgid => decide (cntlid < 2 ^ 16) && decide (qid < 2 ^ 16) && decide (cid < 2 ^ 16) && decide (msgid < 2 ^ 32)
  | .commitPoint cntlid qid cid msgid => decide (cntlid < 2 ^ 16) && decide (qid < 2 ^ 16) && decide (cid < 2 ^ 16) && decide (msgid < 2 ^ 32)
  | .turn _ => true
  | .turnMark h heat lenCode _ pref _ _ => h.ok && decide (heat < 2 ^ 64) && decide (lenCode < 8) && decide (pref < 256)
  | .powerFailDrain _ _ => true
  | .drainMediaWritesEnd => true
  | .drainFlushComplete => true
  | .drainCleanMarkComplete => true
  | .pwrFailNRise => true
  | .admissionResume _ => true
  | .plannedHandover => true
  | .hamperBufferGrant hamper => decide (hamper < 16)
  | .crewAssembly crew _ => decide (crew < 8)
  | .assemblyWaitExpiry crew _ => decide (crew < 8)
  | .replayCleanMark crew => decide (crew < 8)
  | .rowLockGrant crew _ => decide (crew < 8)
  | .driveCommandCompletion _ result _ => result.fits
  | .holdExpiry vol _ => decide (vol < 4096)
  | .journalBlockFlush crew => decide (crew < 8)
  | .journalBlockWritten _ status => decide (status < 2 ^ 16)
  | .segmentFree crew heat => decide (crew < 8) && decide (heat < 2 ^ 64)
  | .mapPass vol => decide (vol < 4096)
  | .mapPassComplete vol => decide (vol < 4096)
  | .gcRound vol => decide (vol < 4096)
  | .patrolRow crew => decide (crew < 8)
  | .driveCommandTimeout _ => true
  | .drivePathErrorWaitEnd _ => true
  | .readHedge _ => true
  | .recoveryLadderStep crew seat _ => decide (crew < 8) && decide (seat < 32)
  | .laggardCheck crew => decide (crew < 8)
  | .catchUpWrite crew seat => decide (crew < 8) && decide (seat < 32)
  | .easyClear crew seat => decide (crew < 8) && decide (seat < 32)
  | .easyLimitExpiry crew seat => decide (crew < 8) && decide (seat < 32)
  | .catchUpFullExpiry crew seat => decide (crew < 8) && decide (seat < 32)
  | .rebuildRow crew => decide (crew < 8)
  | .twinLinkLockLoss => true
  | .twinDeadTimeout => true
  | .takeoverDeferExpiry => true
  | .acquireComplete _ late _ straps _ => (late.all fun x => decide (x < 32)) && straps.ok
  | .heartbeatSend => true
  | .heartbeat h => h.ok
  | .block h r => h.ok && r.ok
  | .cmd h r => h.ok && r.ok
  | .cmdstate h r => h.ok && r.ok
  | .assoc h r => h.ok && r.ok
  | .crew h r => h.ok && r.ok
  | .release h crew heat => h.ok && decide (crew < 8) && decide (heat < 2 ^ 64)
  | .handover h crews _ => h.ok && (crews.all fun x => decide (x < 8))
  | .fatal h => h.ok
  | .sync h _ => h.ok
  | .twnCmdHandover _ => true
  | .twnCmdTakeover _ => true
  | .twnCmdGiveback _ => true
  | .announceRepeat entry => decide (entry < 64)
  | .mirroredWrite flow msgid vol token heat slba nlb _ _ _ => flow.ok && decide (msgid < 2 ^ 32) && decide (vol < 2 ^ 16) && decide (token < 2 ^ 32) && decide (heat < 2 ^ 64) && decide (slba < 2 ^ 64) && decide (nlb < 2 ^ 16)
  | .mirrorAck flow msgid token => flow.ok && decide (msgid < 2 ^ 32) && decide (token < 2 ^ 32)
  | .resync _ => true
  | .mirrorSplit pairing => decide (pairing < 64)
  | .streamIdleEnd vol cntlid => decide (vol < 4096) && decide (cntlid < 2 ^ 16)
  | .load _ => true
  | .clear _ => true
  | .prepare _ => true
  | .unwrap slot _ material => decide (slot < 8192) && decide (material < 2 ^ 512)
  | .linkStateChange lport _ => decide (lport < 32)
  | .portTransmit lport _ => decide (lport < 32)
  | .residueTimeout lport => decide (lport < 32)
  | .bankReplace bank => decide (bank < 36)
  | .arpRequest lport vlan target => decide (lport < 32) && optBelow vlan (4096) && decide (target < 2 ^ 32)
  | .neighbourSolicitation lport vlan target => decide (lport < 32) && optBelow vlan (4096) && decide (target < 2 ^ 128)
  | .gateIntervalEnd lport _ => decide (lport < 32)
  | .gateListChange lport => decide (lport < 32)
  | .gateListTakeover lport _ => decide (lport < 32)
  | .announce lport ident _ domain => decide (lport < 32) && decide (ident < 2 ^ 80) && decide (domain < 256)
  | .ptpSync lport ident domain _ _ _ => decide (lport < 32) && decide (ident < 2 ^ 80) && decide (domain < 256)
  | .followUp lport ident domain _ => decide (lport < 32) && decide (ident < 2 ^ 80) && decide (domain < 256)
  | .delayResp lport ident domain _ _ => decide (lport < 32) && decide (ident < 2 ^ 80) && decide (domain < 256)
  | .ptpSyncTimeout => true
  | .presenceSample _ _ _ _ _ => true
  | .driveSeated bay => decide (bay < 32)
  | .driveLost bay => decide (bay < 32)
  | .bayRampStart bay _ _ _ => decide (bay < 32)
  | .rampEnd bay => decide (bay < 32)
  | .rampTimeout bay => decide (bay < 32)
  | .powerGoodAssert bay => decide (bay < 32)
  | .powerGoodWithdraw bay => decide (bay < 32)
  | .perstRelease bay => decide (bay < 32)
  | .faultTimerExpiry bay => decide (bay < 32)
  | .overcurrentTrip bay => decide (bay < 32)
  | .retryPeriodEnd bay => decide (bay < 32)
  | .retryCountClear bay => decide (bay < 32)
  | .fetModelUpdate => true
  | .diodeRead bay _ => decide (bay < 32)
  | .changeover bay _ _ => decide (bay < 32)
  | .changeoverBreakEnd bay => decide (bay < 32)
  | .feedReturn bay => decide (bay < 32)
  | .linkTrainingTimeout bay => decide (bay < 32)
  | .driveReady bay lbas _ _ labelA labelB => decide (bay < 32) && decide (lbas < 2 ^ 64) && decide (labelA < 2 ^ (8 * 4096)) && decide (labelB < 2 ^ (8 * 4096))
  | .bayLinkDown bay => decide (bay < 32)
  | .slotPowerOff bay => decide (bay < 32)
  | .slotPowerOn bay => decide (bay < 32)
  | .shutdownComplete bay => decide (bay < 32)
  | .attentionButtonPress bay => decide (bay < 32)
  | .buttonStop bay => decide (bay < 32)
  | .powerCycleEnd bay => decide (bay < 32)
  | .givebackGateRelease => true
  | .doorbell _ ring pi => decide (ring < 1024) && decide (pi < 2 ^ 32)
  | .ciWrite _ ring ci => decide (ring < 1024) && decide (ci < 2 ^ 32)
  | .entryFetch ring piRead _ => decide (ring < 1024) && decide (piRead < 2 ^ 32)
  | .nop ring => decide (ring < 1024)
  | .regRead ring => decide (ring < 1024)
  | .regWrite ring => decide (ring < 1024)
  | .answerAdmit ring => decide (ring < 1024)
  | .answerRefuse ring => decide (ring < 1024)
  | .answerMatch ring => decide (ring < 1024)
  | .answerMismatch ring => decide (ring < 1024)
  | .answerMapEntry ring => decide (ring < 1024)
  | .answerVictims ring data => decide (ring < 1024) && bytesOk data
  | .answerRebuildPlan ring data => decide (ring < 1024) && bytesOk data
  | .answerPatrolWindows ring data => decide (ring < 1024) && bytesOk data
  | .answerEasy ring => decide (ring < 1024)
  | .answerKeep ring => decide (ring < 1024)
  | .answerFail ring => decide (ring < 1024)
  | .answerKeyMaterial ring data => decide (ring < 1024) && bytesOk data
  | .answerUnwrapRefuse ring => decide (ring < 1024)
  | .answerStatic ring => decide (ring < 1024)
  | .answerDynamicByRule ring => decide (ring < 1024)
  | .answerDynamicAlways ring => decide (ring < 1024)
  | .answerHostTables ring data => decide (ring < 1024) && bytesOk data
  | .answerTakeStep ring => decide (ring < 1024)
  | .answerResume ring => decide (ring < 1024)
  | .answerClockKeep ring => decide (ring < 1024)
  | .answerClockSwitch ring => decide (ring < 1024)
  | .answerTakeOver ring => decide (ring < 1024)
  | .answerDecline ring _ => decide (ring < 1024)
  | .ringEnable ring _ => decide (ring < 1024)
  | .ringShutdown ring _ => decide (ring < 1024)
  | .coalesceExpiry ring => decide (ring < 1024)
  | .configurationRequest r => r.ok
  | .windowAccess offset width write => decide (offset < 2 ^ 24) && decide (width < 9) && optBelow write (2 ^ 64)
  | .eptIrqPendClear _ _ => true
  | .msixEnableChange _ => true
  | .msixMaskClear vector => optBelow vector (64)
  | .interruptDisableChange _ => true
  | .d3hotEntry => true
  | .getChallenge _ => true
  | .logRead _ count => decide (count < 2 ^ 32)
  | .slotFill sig slot digest => sig.ok && decide (slot < 256) && decide (digest < 2 ^ 512)
  | .slotRevoke sig slot => sig.ok && decide (slot < 256)
  | .kekLoad sig kekid nonce _ _ kek => sig.ok && decide (kekid < 256) && decide (nonce < 2 ^ 96) && decide (kek < 2 ^ 256)
  | .kekClear sig kekid => sig.ok && decide (kekid < 256)
  | .sanitize sig _ crew bays action owpass oipbp pattern lacks => sig.ok && decide (crew < 256) && (bays.all fun x => decide (x < 32)) && decide (action < 8) && decide (owpass < 16) && decide (oipbp < 2) && decide (pattern < 2 ^ 32) && (lacks.all fun x => decide (x < 32))
  | .sanitizeStatus => true
  | .ktkProvision sig _ ktk => sig.ok && decide (ktk < 2 ^ 256)
  | .rollCancel sig _ => sig.ok
  | .sanitizePoll bay progress _ => decide (bay < 32) && decide (progress < 2 ^ 16)
  | .setEndpointId eid => decide (eid < 256)
  | .readNvmeMiDataStructure dtyp => decide (dtyp < 256)
  | .nvmSubsystemHealthStatusPoll => true
  | .controllerHealthStatusPoll _ => true
  | .configurationGet _ => true
  | .configurationSet _ value => decide (value < 2 ^ 32)
  | .miTunneledAdminCommand opcode _ => decide (opcode < 256)
  | .setNumericEffecterValue _ value => decide (value < 2 ^ 64)
  | .setEventReceiver _ => true
  | .requestUpdate _ => true
  | .updateComponent _ _ _ => true
  | .transferComplete _ => true
  | .verifyComplete facts => facts.ok
  | .applyComplete readBack => readBack.ok
  | .activateFirmware _ twinA twinB => decide (twinA < 2 ^ 16) && decide (twinB < 2 ^ 16)
  | .engineSwapComplete _ => true
  | .probationEnd => true
  | .getVersion _ => true
  | .getCapabilities _ => true
  | .negotiateAlgorithms _ => true
  | .getDigests _ => true
  | .getCertificate _ slot => decide (slot < 256)
  | .challenge _ slot nonce => decide (slot < 256) && decide (nonce < 2 ^ 256)
  | .getMeasurements _ index _ nonce => decide (index < 256) && decide (nonce < 2 ^ 256)
  | .dieTemperatureTrip sensor _ => decide (sensor < 64)
  | .sensorRead _ _ _ => true
  | .evtFqDone tag => decide (tag < 2 ^ 16)
  | .handlingTimeout => true
  | .pmuFreeze _ => true
  | .pmuClear => true
  | .engineWearCheck _ => true
  | .spareSelfCheck engine _ => decide (engine < 96)
  | .engineFault engine _ => decide (engine < 96)
  | .phaseFault phase domain => decide (phase < 128) && decide (domain < 16)
  | .sramSoftRepair array _ _ _ _ coxCore _ _ _ => decide (array < 256) && optBelow coxCore (4)
  | .hbmRowRepair stack _ _ mib _ => decide (stack < 2) && decide (mib < 65536)
  | .lifeUpdate _ _ => true
  | .vin12Undervoltage => true
  | .vin12Overvoltage => true
  | .vin12Excursion domain => optBelow domain (14)
  | .idcode => true
  | .bypass => true
  | .samplePreload => true
  | .extest => true
  | .clamp => true
  | .twinLinkTrained heat lenCode _ pref _ => decide (heat < 2 ^ 64) && decide (lenCode < 8) && decide (pref < 256)
  | .bayLinkUp bay speed width => decide (bay < 32) && decide (speed < 8) && decide (width < 17)
  | .sysRstNRelease straps => straps.ok
  | .perstNRelease => true
  | .faultTimerStart bay => decide (bay < 32)
  | .faultTimerClear bay => decide (bay < 32)
  | .attentionBlinkEnd bay => decide (bay < 32)
  | .echoRequest seq => decide (seq < 2 ^ 16)

end Sys2Proof
end

