-- ==== Sys2Proof/Tests/Slice0.lean ====
section
/-!
SUPPORT. Small tests: an ill-formed command for each check of WellFormed; witnesses that the hypotheses of the statements can be met;
and single steps whose results were taken from the spec's tables by hand.
-/

namespace Sys2Proof.Tests

open Sys2Proof.Machine Sys2Proof.Machine.State

set_option maxRecDepth 4000
set_option Elab.async false

/-! Operands used below: good ones, and ones out of range. -/

def straps : Straps := ⟨7, true, false⟩
def badStraps : Straps := ⟨8, true, false⟩
def facts : CopyFacts := ⟨2 ^ 512 - 1, true, true⟩
def badFacts : CopyFacts := ⟨2 ^ 512, true, true⟩
def sig : SigBlock := ⟨5, 9, 0, 7, true⟩
def badSig : SigBlock := ⟨2 ^ 256, 9, 0, 7, true⟩
def flow : FlowRef := ⟨1, 2, 3⟩
def badFlow : FlowRef := ⟨1, 65536, 3⟩
def cap : Capsule := ⟨flow, 1, 0, 4, 5, 6, none, false, false⟩
def badCap : Capsule := ⟨badFlow, 1, 0, 4, 5, 6, none, false, false⟩
def io : IoReq := ⟨1, 0, 0, false, 0, 0, 0, 0, false, .keyed [(0, 4096, 7)]⟩
def badIo : IoReq := ⟨1, 0, 65536, false, 0, 0, 0, 0, false, .unsupported⟩
def badSgl : Sgl := .keyed [(0, 2 ^ 24, 7)]
def hdr : SkHdr :=
  { dport := 47820, ipPlain := true, fragment := false, csumZero := false, csumOk := true, ip := 1, port := 2, ptag := 3, lport := 0, mac := 9, vlan := none, dscp := 0
    ce := false, version := 1, opcode := 1, payLen := 0, udpLen := 0, gen := 1, seq := 1, flagAck := false, ackseq := 0
    flagEce := false, flagAr := false, flagShv := false, dstShelf := 0, srcShelf := 0, tsval := 0, tsecr := 0, v6 := false, enc := none }
def badHdr : SkHdr := { hdr with lport := 32 }
def part : MsgPart := ⟨1, 0, 1, 64, 0, 64, none⟩
def badPart : MsgPart := ⟨1, 0, 1, 64, 65536, 64, none⟩
def tw : TwHdr := ⟨0, 0, true⟩
def badTw : TwHdr := ⟨0, 2 ^ 32, true⟩
def blk : BlockRec := ⟨0, 1, 0, 1, 0, 0, [], []⟩
def badBlk : BlockRec := ⟨8, 1, 0, 1, 0, 0, [], []⟩
def cmdr : CmdRec := ⟨1, 0, 4, 5, flow, 6, none, .flush 1, 0, 0⟩
def badCmdr : CmdRec := ⟨65536, 0, 4, 5, flow, 6, none, .flush 1, 0, 0⟩
def str : StateRec := ⟨1, 0, 4, 5, 1, none, none⟩
def badStr : StateRec := ⟨1, 0, 4, 5, 4, none, none⟩
def asr : AssocRec := ⟨1, 2, 0, flow, 9, none, 0, 0, 0, 0, [(0, 31)], [], 0, false, false⟩
def badAsr : AssocRec := { asr with lport := 32 }
def turnFacts : TurnFacts := ⟨1000, true, true⟩
def media : CrewMedia := ⟨[], [], []⟩
def entry : Entry := ⟨0, 0, 0, 0, 0, 0, []⟩

/-! Well-formedness: for each check of WellFormed, a term that only this check refuses. -/

theorem test_structures_wellformed : straps.ok && facts.ok && sig.ok && flow.ok && cap.ok && io.ok && hdr.ok && part.ok && tw.ok && blk.ok &&
    cmdr.ok && str.ok && asr.ok && (Sgl.inCapsule 2 65535).ok && (CrewNews.sanitize 31 true).ok && (DriveEnd.ok 5).fits = true := by
  decide +kernel

theorem test_illformed_straps_facts_and_signatures : ([badStraps.ok, badFacts.ok, badSig.ok, { sig with endpoint := 256 }.ok,
    { sig with keyslot := 256 }.ok, { sig with pubkeyDigest := 2 ^ 512 }.ok]).any id = false := by decide +kernel

theorem test_illformed_flows_and_capsules : ([badFlow.ok, { flow with ip := 2 ^ 128 }.ok, { flow with ptag := 65536 }.ok, badCap.ok,
    { cap with cntlid := 65536 }.ok, { cap with qid := 65536 }.ok, { cap with cid := 65536 }.ok, { cap with msgid := 2 ^ 32 }.ok,
    { cap with keyhi := 2 ^ 32 }.ok, { cap with enc := some 8192 }.ok]).any id = false := by decide +kernel

theorem test_illformed_packet_headers : ([badHdr.ok, { hdr with dport := 65536 }.ok, { hdr with ip := 2 ^ 128 }.ok, { hdr with port := 65536 }.ok, { hdr with ptag := 65536 }.ok,
    { hdr with mac := 2 ^ 48 }.ok, { hdr with vlan := some 4096 }.ok, { hdr with dscp := 64 }.ok, { hdr with version := 16 }.ok,
    { hdr with opcode := 256 }.ok, { hdr with payLen := 65536 }.ok, { hdr with udpLen := 65536 }.ok, { hdr with gen := 2 ^ 32 }.ok,
    { hdr with seq := 2 ^ 32 }.ok, { hdr with ackseq := 2 ^ 32 }.ok, { hdr with dstShelf := 65536 }.ok, { hdr with srcShelf := 65536 }.ok,
    { hdr with tsval := 2 ^ 32 }.ok, { hdr with tsecr := 2 ^ 32 }.ok, badPart.ok, { part with msgid := 2 ^ 32 }.ok,
    { part with offset := 2 ^ 32 }.ok, { part with mtype := 256 }.ok, { part with msglen := 2 ^ 32 }.ok]).any id = false := by decide +kernel

theorem test_illformed_io_and_descriptors : ([badIo.ok, { io with nsid := 2 ^ 32 }.ok, { io with slba := 2 ^ 64 }.ok, { io with prchk := 8 }.ok,
    { io with lbat := 65536 }.ok, { io with lbatm := 65536 }.ok, { io with reftag := 2 ^ 48 }.ok, { io with sgl := badSgl }.ok, badSgl.ok,
    (Sgl.keyed [(2 ^ 64, 1, 1)]).ok, (Sgl.keyed [(1, 1, 2 ^ 32)]).ok, (Sgl.inCapsule 2 65536).ok]).any id = false := by decide +kernel

theorem test_illformed_twin_records : ([badTw.ok, { tw with seq := 2 ^ 32 }.ok, badBlk.ok, { blk with kind := 3 }.ok, badCmdr.ok,
    { cmdr with qid := 65536 }.ok, { cmdr with cid := 65536 }.ok, { cmdr with flow := badFlow }.ok, badStr.ok, badAsr.ok,
    { asr with cntlid := 65536 }.ok, { asr with flow := badFlow }.ok, (CrewNews.sanitize 32 true).ok,
    (CrewNews.seats ⟨8, [], [], 0, 0, 0, 0⟩).ok, (DriveEnd.ok (2 ^ 33280)).fits]).any id = false := by decide +kernel

theorem test_wellformed_registers_start_and_resets : ([
    .registerWrite .cox 1 4 1, .rcRead .cox 1, .coldStart straps true 1 none, .settleDelayEnd none, .referenceCheck 1 1 none,
    .referenceCheckRetry 1 1 none, .copyCheckComplete facts none, .imageApply none [], .linkTrainingEnd none,
    .pwrFailBeforeReady, .startResume, .recoveryStatus true, .recoveryErase none, .recoveryWrite none, .recoveryCheck none facts,
    .recoveryRestart true straps, .sysRstN, .sysResetSystem 0 straps, .sysResetCox 0 true, .coxWatchdogExpiry 1 true,
    .endpointReset true] : List Instr).all wellFormed = true := by decide +kernel

theorem test_illformed_registers_start_and_resets : ([
    .registerWrite .cox (2 ^ 24) 4 1, .registerWrite .cox 1 9 1, .registerWrite .cox 1 4 (2 ^ 64), .rcRead .cox (2 ^ 24),
    .coldStart badStraps true 1 none, .coldStart straps true 1 (some (2 ^ 16)), .settleDelayEnd (some (2 ^ 16)),
    .referenceCheck 4 1 none, .referenceCheck 1 4 none, .referenceCheck 1 1 (some (2 ^ 16)), .referenceCheckRetry 4 1 none,
    .referenceCheckRetry 1 4 none, .referenceCheckRetry 1 1 (some (2 ^ 16)), .copyCheckComplete badFacts none,
    .copyCheckComplete facts (some (2 ^ 16)), .imageApply (some (2 ^ 16)) [], .imageApply none [128],
    .linkTrainingEnd (some (2 ^ 16)), .recoveryErase (some (2 ^ 32)), .recoveryWrite (some (2 ^ 32, [])),
    .recoveryWrite (some (0, [256])), .recoveryWrite (some (2 ^ 32, [])), .recoveryWrite (some (0, [256])),
    .recoveryCheck (some 2) facts, .recoveryCheck none badFacts, .recoveryRestart true badStraps, .sysResetSystem 0 badStraps,
    .coxWatchdogExpiry 4 true] : List Instr).any wellFormed = false := by decide +kernel

theorem test_wellformed_pace_and_clocks : ([
    .fallbackPoint 1, .endpointLinkDown, .endpointLinkUp 1 1 none, .paceControlTick [], .paceThermalStep 0, .referenceStopped 1,
    .grossWindow 1 1, .ppmWindow 0 1 1, .referenceReturnGood 1, .holdoverExpiry, .watchModeRestart straps,
    .clkMuxGlitchFreeSwitch 0, .clkMuxHardCut 0, .muxSwitchComplete 1, .muxHangBreak 1, .pllRelock 1, .gateIdleClose 1,
    .gateReopen 1, .clkGateForce true 0 [], .forcedGateTimeout 1] : List Instr).all wellFormed = true := by decide +kernel

theorem test_illformed_pace_and_clocks : ([
    .fallbackPoint (2 ^ 32), .endpointLinkUp 8 1 none, .endpointLinkUp 1 33 none, .endpointLinkUp 1 1 (some 2),
    .referenceStopped 2, .grossWindow 2 1, .referenceReturnGood 2, .watchModeRestart badStraps, .muxSwitchComplete 7,
    .muxHangBreak 7, .pllRelock 7, .gateIdleClose 64, .gateReopen 64, .clkGateForce true 0 [(64, .cox, 0, true, 0)],
    .clkGateForce true 0 [(0, .cox, 2 ^ 24, true, 0)], .clkGateForce true 0 [(0, .cox, 0, true, 1024)],
    .clkGateForce true 0 [(64, .cox, 0, true, 0)], .clkGateForce true 0 [(0, .cox, 2 ^ 24, true, 0)],
    .clkGateForce true 0 [(0, .cox, 0, true, 1024)], .clkGateForce true 0 [(64, .cox, 0, true, 0)],
    .clkGateForce true 0 [(0, .cox, 2 ^ 24, true, 0)], .clkGateForce true 0 [(0, .cox, 0, true, 1024)], .forcedGateTimeout 64] : List Instr).any wellFormed = false := by decide +kernel

theorem test_wellformed_skiff : ([
    .frameReceive 1 1 true 1 none .ptp, .msgReceive hdr part, .fdataReceive hdr 1 1 1, .ackReceive hdr, .nakSeq hdr 1,
    .nakGen hdr 1, .nakPending hdr 1, .nakRefused hdr 1, .nakShelf hdr 1, .nakKeyfull hdr 1, .nakChainfull hdr 1,
    .keyreg flow 1 1, .keyrevoke flow 1, .chainpost flow 1 1 1 (1, 1, 1) [] none, .chaincancel flow 1 1, .ackDelayExpiry flow,
    .retransmissionTimeout flow, .flowIdleDrop flow, .recordRestore flow, .reachKeyRelease 1 1] : List Instr).all wellFormed = true := by decide +kernel

theorem test_illformed_skiff : ([
    .frameReceive 32 1 true 1 none .ptp, .frameReceive 1 1 true (2 ^ 48) none .ptp, .frameReceive 1 1 true 1 (some (4096)) .ptp,
    .msgReceive badHdr part, .msgReceive hdr badPart, .fdataReceive badHdr 1 1 1, .fdataReceive hdr (2 ^ 32) 1 1,
    .ackReceive badHdr, .nakSeq badHdr 1, .nakSeq hdr (2 ^ 32), .nakGen badHdr 1, .nakGen hdr (2 ^ 32), .nakPending badHdr 1,
    .nakPending hdr (2 ^ 32), .nakRefused badHdr 1, .nakRefused hdr (2 ^ 32), .nakShelf badHdr 1, .nakShelf hdr (2 ^ 32),
    .nakKeyfull badHdr 1, .nakKeyfull hdr (2 ^ 32), .nakChainfull badHdr 1, .nakChainfull hdr (2 ^ 32), .keyreg badFlow 1 1,
    .keyreg flow (2 ^ 32) 1, .keyreg flow 1 (2 ^ 64), .keyrevoke badFlow 1, .keyrevoke flow (2 ^ 32),
    .chainpost badFlow 1 1 1 (1, 1, 1) [] none, .chainpost flow (2 ^ 32) 1 1 (1, 1, 1) [] none,
    .chainpost flow 1 (2 ^ 8) 1 (1, 1, 1) [] none, .chainpost flow 1 1 (2 ^ 16) (1, 1, 1) [] none,
    .chainpost flow 1 1 1 (1, 1, 1) [] (some (8192)), .chaincancel badFlow 1 1, .chaincancel flow (2 ^ 32) 1,
    .chaincancel flow 1 (2 ^ 16), .ackDelayExpiry badFlow, .retransmissionTimeout badFlow, .flowIdleDrop badFlow,
    .recordRestore badFlow, .reachKeyRelease (2 ^ 128) 1, .reachKeyRelease 1 (2 ^ 16)] : List Instr).any wellFormed = false := by decide +kernel

theorem test_wellformed_nvme : ([
    .connect cap 1 1 1 1 1 true, .propertySet cap 1 1, .propertyGet cap 1, .disconnect cap, .flush cap 1, .write cap io,
    .read cap io, .compare cap io, .writeZeroes cap io, .datasetManagement cap 1 1 true .unsupported,
    .reservationRegister cap 1 1 true 1 .unsupported, .reservationReport cap 1 1 true .unsupported,
    .reservationAcquire cap 1 1 1 true .unsupported, .reservationRelease cap 1 1 1 true .unsupported,
    .getLogPage cap 1 1 1 1 .unsupported, .identify cap 1 1 1 1 .unsupported, .abort cap 1 1, .setFeatures cap 1 1 1,
    .getFeatures cap 1 1 .unsupported, .asynchronousEventRequest cap, .keepAlive cap, .contextAssign, .keepAliveExpiry 1,
    .cutPoint 1 1 1 1, .commitPoint 1 1 1 1] : List Instr).all wellFormed = true := by decide +kernel

theorem test_illformed_nvme_1 : ([
    .connect badCap 1 1 1 1 1 true, .connect cap (2 ^ 16) 1 1 1 1 true, .connect cap 1 (2 ^ 16) 1 1 1 true,
    .connect cap 1 1 (2 ^ 32) 1 1 true, .connect cap 1 1 1 (2 ^ 128) 1 true, .connect cap 1 1 1 1 (2 ^ 16) true,
    .propertySet badCap 1 1, .propertySet cap (2 ^ 32) 1, .propertySet cap 1 (2 ^ 64), .propertyGet badCap 1,
    .propertyGet cap (2 ^ 32), .disconnect badCap, .flush badCap 1, .flush cap (2 ^ 32), .write badCap io, .write cap badIo,
    .read badCap io, .read cap badIo, .compare badCap io, .compare cap badIo, .writeZeroes badCap io, .writeZeroes cap badIo,
    .datasetManagement badCap 1 1 true .unsupported, .datasetManagement cap (2 ^ 32) 1 true .unsupported,
    .datasetManagement cap 1 256 true .unsupported, .datasetManagement cap 1 1 true badSgl,
    .reservationRegister badCap 1 1 true 1 .unsupported, .reservationRegister cap (2 ^ 32) 1 true 1 .unsupported,
    .reservationRegister cap 1 8 true 1 .unsupported, .reservationRegister cap 1 1 true 4 .unsupported,
    .reservationRegister cap 1 1 true 1 badSgl, .reservationReport badCap 1 1 true .unsupported,
    .reservationReport cap (2 ^ 32) 1 true .unsupported, .reservationReport cap 1 (2 ^ 32) true .unsupported,
    .reservationReport cap 1 1 true badSgl, .reservationAcquire badCap 1 1 1 true .unsupported,
    .reservationAcquire cap (2 ^ 32) 1 1 true .unsupported, .reservationAcquire cap 1 8 1 true .unsupported,
    .reservationAcquire cap 1 1 256 true .unsupported, .reservationAcquire cap 1 1 1 true badSgl,
    .reservationRelease badCap 1 1 1 true .unsupported, .reservationRelease cap (2 ^ 32) 1 1 true .unsupported,
    .reservationRelease cap 1 8 1 true .unsupported, .reservationRelease cap 1 1 256 true .unsupported,
    .reservationRelease cap 1 1 1 true badSgl, .getLogPage badCap 1 1 1 1 .unsupported, .getLogPage cap 256 1 1 1 .unsupported,
    .getLogPage cap 1 (2 ^ 32) 1 1 .unsupported, .getLogPage cap 1 1 (2 ^ 64) 1 .unsupported,
    .getLogPage cap 1 1 1 (2 ^ 32) .unsupported, .getLogPage cap 1 1 1 1 badSgl, .identify badCap 1 1 1 1 .unsupported,
    .identify cap 256 1 1 1 .unsupported, .identify cap 1 (2 ^ 32) 1 1 .unsupported, .identify cap 1 1 (2 ^ 16) 1 .unsupported,
    .identify cap 1 1 1 256 .unsupported, .identify cap 1 1 1 1 badSgl, .abort badCap 1 1, .abort cap (2 ^ 16) 1,
    .abort cap 1 (2 ^ 16)] : List Instr).any wellFormed = false := by decide +kernel

theorem test_illformed_nvme_2 : ([
    .setFeatures badCap 1 1 1, .setFeatures cap 256 1 1, .setFeatures cap 1 (2 ^ 32) 1, .setFeatures cap 1 1 (2 ^ 32),
    .getFeatures badCap 1 1 .unsupported, .getFeatures cap 256 1 .unsupported, .getFeatures cap 1 (2 ^ 32) .unsupported,
    .getFeatures cap 1 1 badSgl, .asynchronousEventRequest badCap, .keepAlive badCap, .keepAliveExpiry (2 ^ 16),
    .cutPoint (2 ^ 16) 1 1 1, .cutPoint 1 (2 ^ 16) 1 1, .cutPoint 1 1 (2 ^ 16) 1, .cutPoint 1 1 1 (2 ^ 32),
    .commitPoint (2 ^ 16) 1 1 1, .commitPoint 1 (2 ^ 16) 1 1, .commitPoint 1 1 (2 ^ 16) 1, .commitPoint 1 1 1 (2 ^ 32)] : List Instr).any wellFormed = false := by decide +kernel

theorem test_wellformed_heats_and_crews : ([
    .turn turnFacts, .turnMark tw 1 1 true 1 1 turnFacts, .powerFailDrain true turnFacts, .drainMediaWritesEnd,
    .drainFlushComplete, .drainCleanMarkComplete, .pwrFailNRise, .admissionResume turnFacts, .plannedHandover,
    .hamperBufferGrant 1, .crewAssembly 1 media, .assemblyWaitExpiry 1 media, .replayCleanMark 1, .rowLockGrant 1 1,
    .driveCommandCompletion 1 (.media 1) 1, .holdExpiry 1 1, .journalBlockFlush 1, .journalBlockWritten 1 1, .segmentFree 1 1,
    .mapPass 1, .mapPassComplete 1, .gcRound 1, .patrolRow 1, .driveCommandTimeout 1, .drivePathErrorWaitEnd 1, .readHedge 1,
    .recoveryLadderStep 1 1 true, .laggardCheck 1, .catchUpWrite 1 1, .easyClear 1 1, .easyLimitExpiry 1 1,
    .catchUpFullExpiry 1 1, .rebuildRow 1] : List Instr).all wellFormed = true := by decide +kernel

theorem test_illformed_heats_and_crews : ([
    .turnMark badTw 1 1 true 1 1 turnFacts, .turnMark tw (2 ^ 64) 1 true 1 1 turnFacts, .turnMark tw 1 8 true 1 1 turnFacts,
    .turnMark tw 1 1 true 256 1 turnFacts, .hamperBufferGrant 16, .crewAssembly 8 media, .assemblyWaitExpiry 8 media,
    .replayCleanMark 8, .rowLockGrant 8 1, .driveCommandCompletion 1 (.ok (2 ^ 33280)) 1, .holdExpiry 4096 1,
    .journalBlockFlush 8, .journalBlockWritten 1 (2 ^ 16), .segmentFree 8 1, .segmentFree 1 (2 ^ 64), .mapPass 4096,
    .mapPassComplete 4096, .gcRound 4096, .patrolRow 8, .recoveryLadderStep 8 1 true, .recoveryLadderStep 1 32 true,
    .laggardCheck 8, .catchUpWrite 8 1, .catchUpWrite 1 32, .easyClear 8 1, .easyClear 1 32, .easyLimitExpiry 8 1,
    .easyLimitExpiry 1 32, .catchUpFullExpiry 8 1, .catchUpFullExpiry 1 32, .rebuildRow 8] : List Instr).any wellFormed = false := by decide +kernel

theorem test_wellformed_twins_and_cipher : ([
    .twinLinkLockLoss, .twinDeadTimeout, .takeoverDeferExpiry, .acquireComplete true [] [] straps turnFacts, .heartbeatSend,
    .heartbeat tw, .block tw blk, .cmd tw cmdr, .cmdstate tw str, .assoc tw asr, .crew tw (.sanitize 1 true), .release tw 1 1,
    .handover tw [] true, .fatal tw, .sync tw .done, .twnCmdHandover 0, .twnCmdTakeover 0, .twnCmdGiveback 0, .announceRepeat 1,
    .mirroredWrite flow 1 1 1 1 1 1 true true 1, .mirrorAck flow 1 1, .resync (.send 1 1 true 1), .mirrorSplit 1,
    .streamIdleEnd 1 1, .load 0, .clear 0, .prepare 0, .unwrap 1 true 1] : List Instr).all wellFormed = true := by decide +kernel

theorem test_illformed_twins_and_cipher : ([
    .acquireComplete true [32] [] straps turnFacts, .acquireComplete true [] [] badStraps turnFacts, .heartbeat badTw,
    .block badTw blk, .block tw badBlk, .cmd badTw cmdr, .cmd tw badCmdr, .cmdstate badTw str, .cmdstate tw badStr,
    .assoc badTw asr, .assoc tw badAsr, .crew badTw (.sanitize 1 true), .crew tw (.sanitize 32 true), .release badTw 1 1,
    .release tw 8 1, .release tw 1 (2 ^ 64), .handover badTw [] true, .handover tw [8] true, .fatal badTw, .sync badTw .done,
    .announceRepeat 64, .mirroredWrite badFlow 1 1 1 1 1 1 true true 1, .mirroredWrite flow (2 ^ 32) 1 1 1 1 1 true true 1,
    .mirroredWrite flow 1 (2 ^ 16) 1 1 1 1 true true 1, .mirroredWrite flow 1 1 (2 ^ 32) 1 1 1 true true 1,
    .mirroredWrite flow 1 1 1 (2 ^ 64) 1 1 true true 1, .mirroredWrite flow 1 1 1 1 (2 ^ 64) 1 true true 1,
    .mirroredWrite flow 1 1 1 1 1 (2 ^ 16) true true 1, .mirrorAck badFlow 1 1, .mirrorAck flow (2 ^ 32) 1,
    .mirrorAck flow 1 (2 ^ 32), .mirrorSplit 64, .streamIdleEnd 4096 1, .streamIdleEnd 1 (2 ^ 16), .unwrap 8192 true 1,
    .unwrap 1 true (2 ^ 512)] : List Instr).any wellFormed = false := by decide +kernel

theorem test_wellformed_switch_and_ptp : ([
    .linkStateChange 1 true, .portTransmit 1 1, .residueTimeout 1, .bankReplace 1, .arpRequest 1 none 1,
    .neighbourSolicitation 1 none 1, .gateIntervalEnd 1 1, .gateListChange 1, .gateListTakeover 1 1, .announce 1 1 1 1,
    .ptpSync 1 1 1 1 true 1, .followUp 1 1 1 1, .delayResp 1 1 1 1 1, .ptpSyncTimeout] : List Instr).all wellFormed = true := by decide +kernel

theorem test_illformed_switch_and_ptp : ([
    .linkStateChange 32 true, .portTransmit 32 1, .residueTimeout 32, .bankReplace 36, .arpRequest 32 none 1,
    .arpRequest 1 (some (4096)) 1, .arpRequest 1 none (2 ^ 32), .neighbourSolicitation 32 none 1,
    .neighbourSolicitation 1 (some (4096)) 1, .neighbourSolicitation 1 none (2 ^ 128), .gateIntervalEnd 32 1, .gateListChange 32,
    .gateListTakeover 32 1, .announce 32 1 1 1, .announce 1 (2 ^ 80) 1 1, .announce 1 1 1 256, .ptpSync 32 1 1 1 true 1,
    .ptpSync 1 (2 ^ 80) 1 1 true 1, .ptpSync 1 1 256 1 true 1, .followUp 32 1 1 1, .followUp 1 (2 ^ 80) 1 1, .followUp 1 1 256 1,
    .delayResp 32 1 1 1 1, .delayResp 1 (2 ^ 80) 1 1 1, .delayResp 1 1 256 1 1] : List Instr).any wellFormed = false := by decide +kernel

theorem test_wellformed_bays : ([
    .presenceSample 0 0 1 1 [], .driveSeated 1, .driveLost 1, .bayRampStart 1 1 1 1, .rampEnd 1, .rampTimeout 1,
    .powerGoodAssert 1, .powerGoodWithdraw 1, .perstRelease 1, .faultTimerExpiry 1, .overcurrentTrip 1, .retryPeriodEnd 1,
    .retryCountClear 1, .fetModelUpdate, .diodeRead 1 0, .changeover 1 1 1, .changeoverBreakEnd 1, .feedReturn 1,
    .linkTrainingTimeout 1, .driveReady 1 1 true true 1 1, .bayLinkDown 1, .slotPowerOff 1, .slotPowerOn 1, .shutdownComplete 1,
    .attentionButtonPress 1, .buttonStop 1, .powerCycleEnd 1, .givebackGateRelease] : List Instr).all wellFormed = true := by decide +kernel

theorem test_illformed_bays : ([
    .driveSeated 32, .driveLost 32, .bayRampStart 32 1 1 1, .rampEnd 32, .rampTimeout 32, .powerGoodAssert 32,
    .powerGoodWithdraw 32, .perstRelease 32, .faultTimerExpiry 32, .overcurrentTrip 32, .retryPeriodEnd 32, .retryCountClear 32,
    .diodeRead 32 0, .changeover 32 1 1, .changeoverBreakEnd 32, .feedReturn 32, .linkTrainingTimeout 32,
    .driveReady 32 1 true true 1 1, .driveReady 1 (2 ^ 64) true true 1 1, .driveReady 1 1 true true (2 ^ (8 * 4096)) 1,
    .driveReady 1 1 true true 1 (2 ^ (8 * 4096)), .bayLinkDown 32, .slotPowerOff 32, .slotPowerOn 32, .shutdownComplete 32,
    .attentionButtonPress 32, .buttonStop 32, .powerCycleEnd 32] : List Instr).any wellFormed = false := by decide +kernel

theorem test_wellformed_rings : ([
    .doorbell true 1 1, .ciWrite true 1 1, .entryFetch 1 1 [], .nop 1, .regRead 1, .regWrite 1, .answerAdmit 1, .answerRefuse 1,
    .answerMatch 1, .answerMismatch 1, .answerMapEntry 1, .answerVictims 1 none, .answerRebuildPlan 1 none,
    .answerPatrolWindows 1 none, .answerEasy 1, .answerKeep 1, .answerFail 1, .answerKeyMaterial 1 none, .answerUnwrapRefuse 1,
    .answerStatic 1, .answerDynamicByRule 1, .answerDynamicAlways 1, .answerHostTables 1 none, .answerTakeStep 1,
    .answerResume 1, .answerClockKeep 1, .answerClockSwitch 1, .answerTakeOver 1, .answerDecline 1 turnFacts, .ringEnable 1 0,
    .ringShutdown 1 0, .coalesceExpiry 1] : List Instr).all wellFormed = true := by decide +kernel

theorem test_illformed_rings : ([
    .doorbell true 1024 1, .doorbell true 1 (2 ^ 32), .ciWrite true 1024 1, .ciWrite true 1 (2 ^ 32), .entryFetch 1024 1 [],
    .entryFetch 1 (2 ^ 32) [], .nop 1024, .regRead 1024, .regWrite 1024, .answerAdmit 1024, .answerRefuse 1024,
    .answerMatch 1024, .answerMismatch 1024, .answerMapEntry 1024, .answerVictims 1024 none, .answerVictims 1 (some [256]),
    .answerRebuildPlan 1024 none, .answerRebuildPlan 1 (some [256]), .answerPatrolWindows 1024 none,
    .answerPatrolWindows 1 (some [256]), .answerEasy 1024, .answerKeep 1024, .answerFail 1024, .answerKeyMaterial 1024 none,
    .answerKeyMaterial 1 (some [256]), .answerUnwrapRefuse 1024, .answerStatic 1024, .answerDynamicByRule 1024,
    .answerDynamicAlways 1024, .answerHostTables 1024 none, .answerHostTables 1 (some [256]), .answerTakeStep 1024,
    .answerResume 1024, .answerClockKeep 1024, .answerClockSwitch 1024, .answerTakeOver 1024, .answerDecline 1024 turnFacts,
    .ringEnable 1024 0, .ringShutdown 1024 0, .coalesceExpiry 1024] : List Instr).any wellFormed = false := by decide +kernel

theorem test_wellformed_endpoint_and_cox : ([
    .configurationRequest (.read 0), .windowAccess 1 1 none, .eptIrqPendClear true 0, .msixEnableChange true,
    .msixMaskClear none, .interruptDisableChange true, .d3hotEntry, .getChallenge 1, .logRead 1 1, .slotFill sig 1 1,
    .slotRevoke sig 1, .kekLoad sig 1 1 1 true 1, .kekClear sig 1, .sanitize sig true 1 [] 1 1 1 1 [], .sanitizeStatus,
    .ktkProvision sig true 1, .rollCancel sig true, .sanitizePoll 1 1 none, .setEndpointId 1, .readNvmeMiDataStructure 1,
    .nvmSubsystemHealthStatusPoll, .controllerHealthStatusPoll 1, .configurationGet 1, .configurationSet 1 1,
    .miTunneledAdminCommand 1 1, .setNumericEffecterValue 1 1, .setEventReceiver 1, .requestUpdate 1, .updateComponent 1 1 1,
    .transferComplete [], .verifyComplete facts, .applyComplete facts, .activateFirmware true 1 1, .engineSwapComplete true,
    .probationEnd] : List Instr).all wellFormed = true := by decide +kernel

theorem test_illformed_endpoint_and_cox : ([
    .configurationRequest (.read 65536), .configurationRequest (.msixRead 65536), .configurationRequest (.bar0 (2 ^ 64)),
    .configurationRequest (.romBar (2 ^ 32) true), .configurationRequest (.msixMask (some 64)),
    .configurationRequest (.msixWrite 65536 0), .configurationRequest (.msixWrite 0 (2 ^ 32)),
    .configurationRequest (.other 65536 0), .configurationRequest (.other 0 (2 ^ 32)), .windowAccess (2 ^ 24) 1 none,
    .windowAccess 1 9 none, .windowAccess 1 1 (some (2 ^ 64)), .msixMaskClear (some (64)), .logRead 1 (2 ^ 32),
    .slotFill badSig 1 1, .slotFill sig 256 1, .slotFill sig 1 (2 ^ 512), .slotRevoke badSig 1, .slotRevoke sig 256,
    .kekLoad badSig 1 1 1 true 1, .kekLoad sig 256 1 1 true 1, .kekLoad sig 1 (2 ^ 96) 1 true 1,
    .kekLoad sig 1 1 1 true (2 ^ 256), .kekClear badSig 1, .kekClear sig 256, .sanitize badSig true 1 [] 1 1 1 1 [],
    .sanitize sig true 256 [] 1 1 1 1 [], .sanitize sig true 1 [32] 1 1 1 1 [], .sanitize sig true 1 [] 8 1 1 1 [],
    .sanitize sig true 1 [] 1 16 1 1 [], .sanitize sig true 1 [] 1 1 2 1 [], .sanitize sig true 1 [] 1 1 1 (2 ^ 32) [],
    .sanitize sig true 1 [] 1 1 1 1 [32], .ktkProvision badSig true 1, .ktkProvision sig true (2 ^ 256), .rollCancel badSig true,
    .sanitizePoll 32 1 none, .sanitizePoll 1 (2 ^ 16) none, .setEndpointId 256, .readNvmeMiDataStructure 256,
    .configurationSet 1 (2 ^ 32), .miTunneledAdminCommand 256 1, .setNumericEffecterValue 1 (2 ^ 64), .verifyComplete badFacts,
    .applyComplete badFacts, .activateFirmware true (2 ^ 16) 1, .activateFirmware true 1 (2 ^ 16)] : List Instr).any wellFormed = false := by decide +kernel

theorem test_wellformed_attestation_events_and_life : ([
    .getVersion 1, .getCapabilities 1, .negotiateAlgorithms 1, .getDigests 1, .getCertificate 1 1, .challenge 1 1 1,
    .getMeasurements 1 1 true 1, .dieTemperatureTrip 1 0, .sensorRead [] 1 1, .evtFqDone 1, .handlingTimeout, .pmuFreeze true,
    .pmuClear, .engineWearCheck [], .spareSelfCheck 1 true, .engineFault 1 true, .phaseFault 1 1,
    .sramSoftRepair 1 1 true .other 1 none true true true, .hbmRowRepair 1 1 1 1 true, .lifeUpdate 1 1, .vin12Undervoltage,
    .vin12Overvoltage, .vin12Excursion none, .idcode, .bypass, .samplePreload, .extest, .clamp, .twinLinkTrained 1 1 true 1 true,
    .bayLinkUp 1 1 1, .sysRstNRelease straps, .perstNRelease, .faultTimerStart 1, .faultTimerClear 1, .attentionBlinkEnd 1,
    .echoRequest 1] : List Instr).all wellFormed = true := by decide +kernel

theorem test_illformed_attestation_events_and_life : ([
    .getCertificate 1 256, .challenge 1 256 1, .challenge 1 1 (2 ^ 256), .getMeasurements 1 256 true 1,
    .getMeasurements 1 1 true (2 ^ 256), .dieTemperatureTrip 64 0, .evtFqDone (2 ^ 16), .spareSelfCheck 96 true,
    .engineFault 96 true, .phaseFault 128 1, .phaseFault 1 16, .sramSoftRepair 256 1 true .other 1 none true true true,
    .sramSoftRepair 1 1 true .other 1 (some (4)) true true true, .hbmRowRepair 2 1 1 1 true, .hbmRowRepair 1 1 1 65536 true,
    .vin12Excursion (some (14)), .twinLinkTrained (2 ^ 64) 1 true 1 true, .twinLinkTrained 1 8 true 1 true,
    .twinLinkTrained 1 1 true 256 true, .bayLinkUp 32 1 1, .bayLinkUp 1 8 1, .bayLinkUp 1 1 17, .sysRstNRelease badStraps,
    .faultTimerStart 32, .faultTimerClear 32, .attentionBlinkEnd 32, .echoRequest (2 ^ 16)] : List Instr).any wellFormed = false := by decide +kernel

/-! States from which the witnesses start. -/

/-- An NP32 that is ready and whose cox firmware runs. -/
def up : State :=
  let s := State.reset.setStage 6
  { s with ev := { s.ev with coxRuns := true } }

/-- A state in a stage of the start sequence. -/
def inStage (n : Nat) : State := State.reset.setStage n

/-- Whether an outcome is a next state. -/
def answers : Host.Outcome State Fault Refusal → Bool
  | .next _ => true
  | _ => false

/-- The next state of an outcome, or the reset state. -/
def after : Host.Outcome State Fault Refusal → State
  | .next t => t
  | _ => State.reset

/-- Six seats in service in bays 0 to 5, and crew 0 with them. -/
def seats6 : List Seat := (List.range 6).map fun i => Seat.fresh (some i) 0
def crew0 : Crew := newCrew 9 1 10000 seats6 1 1

/-- A ready NP32 whose registers describe crew 0 (K = 4) and which serves `c` as that crew. -/
def crewed (c : Crew) : State :=
  let s := (up.wr F.CRW_CREW_VALID 1 0).wr F.CRW_CREW_K 4 0
  { s with crw := { s.crw with crews := [(0, c)] } }

/-- Crew 0 with one seat changed. -/
def withSeat (i : Nat) (f : Seat → Seat) : State :=
  crewed { crew0 with seats := seats6.mapIdx fun k x => if k = i then f x else x }

/-- Crew 0 is configured and not assembled; its drives are present, with the labels of the seats in a list. -/
def unassembled (labels : List Nat) : State :=
  let s := (((up.wr F.CRW_CREW_VALID 1 0).wr F.CRW_CREW_K 4 0).wr F.CRW_CREW_STATE 1 0).wr F.CRW_CREW_INIT 1 0
  let t := (s.wr F.CRW_CREW_SEAT 0x03020100 0 0).wr F.CRW_CREW_SEAT 0x3F3F0504 0 1
  { t with crw := { t.crw with drives := (List.range 6).map fun i =>
    ⟨i, 1000000, false, false, if labels.contains i then some ⟨0, i, 9, 1, 4, 0, 0, 0, [0, 0, 0, 0, 0, 0], 10000⟩ else none⟩ } }

def job (id kind row : Nat) (lock lockWait : Bool) : Job := ⟨id, kind, 0, row, 0, none, [], [], [], [], [], 0, lock, lockWait, 1, [], [], 0⟩
def driveIo (op : DriveOp) : Io := ⟨3, 0, 2, 2, op, 1, 7, 0, false, false, true⟩

/-! Witnesses: each hypothesis of each statement is met by a state and operands written out. -/

theorem witness_StepRunsFrontCommand : State.reset.pending = [] := by decide +kernel

/-- A state with a command in front and a logbook of two records. -/
def busy : State :=
  let s := (up.log 1 0 [1]).log 2 0 [2]
  { s with pending := [.registerWrite .cox 0x200000 4 7, .idcode] }

theorem witness_StepKeepsRegistersCanonical : busy.regs.wf && busy.eff.wf && answers (step busy) = true := by decide +kernel

theorem witness_StepKeepsLogbookInOrder : inOrder busy.cox.log && decide (busy.cox.log.length ≤ 130048) && answers (step busy) = true := by
  decide +kernel

theorem witness_StepNeverUnblowsAFuse : answers (step busy) = true := by decide +kernel

theorem witness_OnlyKeyCommandsChangeKeyFuses : (∀ g slot digest, Instr.kekClear sig 3 ≠ .slotFill g slot digest) ∧
    (∀ g slot, Instr.kekClear sig 3 ≠ .slotRevoke g slot) ∧ (∀ g console ktk, Instr.kekClear sig 3 ≠ .ktkProvision g console ktk) ∧
    answers (exec (.kekClear sig 3) up) = true := by
  refine ⟨?_, ?_, ?_, by decide +kernel⟩ <;> intros <;> simp

theorem witness_FieldWriteChangesOneField : up.regs.wf && up.eff.wf && (F.NVT_DEADLINE_US.key 0 0 != F.BOOT_REFUSE_COUNT.key 0 0) &&
    (F.NVT_DEADLINE_US.kind == .rwh) = true := by decide +kernel

theorem witness_DeadlineWriteReachesTheShadowOnly : up.regs.wf && up.eff.wf && up.ev.coxRuns &&
    (F.BOOT_REFUSE_COUNT.key 0 0 != F.NVT_DEADLINE_US.key 0 0) = true := by decide +kernel

theorem witness_RegisterAccessesFollowAlignment : ([Path.window, .ring, .cox, .pldm].all up.pathOpen) && (0x10004 % 4 == 0) &&
    (0x10008 % 8 == 0) && !(0x10002 % 4 == 0) && (up.accessRead .window 0x10004).2.isSome && !(0x10001 % 4 == 0) && !(inStage 5).ready &&
    !State.reset.ready && (0xFFFFFC % 4 == 0) = true := by decide +kernel

/-- SKF_CFG holds B-class fields whose reset value is 1. -/
theorem witness_BClassWriteIsRefusedWhole : ([Path.window, .ring, .cox, .pldm].all up.pathOpen) && (0x100000 % 4 == 0) &&
    !up.accessGated 0x100000 && !coxRingReg 0x100000 && up.changesB 0x100000 0xFFFFFFFF 0 && (up.rd F.BOOT_REFUSE_COUNT == 0) &&
    ((up.bump F.BOOT_REFUSE_COUNT).rd F.BOOT_REFUSE_COUNT == 1) &&
    (up.bump F.BOOT_REFUSE_COUNT).changesB 0x100000 0xFFFFFFFF 0 = true := by decide +kernel

theorem witness_LogWritesTheNextRecord : busy.regs.wf && busy.eff.wf && (F.NVT_DEADLINE_US.key 0 0 != F.COX_LOG_HEAD.key 0 0) = true := by
  decide +kernel

theorem witness_StrapSelectsSettleDelay : (0, 0) ∈ [(0, 0), (1, 1), (2, 2), (3, 5), (4, 10), (5, 20), (6, 50), (7, 100)] ∧
    (7, 100) ∈ [(0, 0), (1, 1), (2, 2), (3, 5), (4, 10), (5, 20), (6, 50), (7, 100)] := by decide +kernel

/-- Copy A is under its checks. -/
def checkingA : State := { inStage 3 with boot := { (inStage 3).boot with checking := some 0 } }

/-- A start that PWR_FAIL_N holds. -/
def holding (n h : Nat) : State := { inStage n with boot := { (inStage n).boot with hold := h } }

theorem witness_StartStepsComplete : 512 ∈ [64, 128, 256, 512] ∧ (inStage 1).stage = 1 ∧ (inStage 1).boot.hold = 0 ∧ (inStage 2).stage = 2 ∧
    (inStage 2).boot.hold = 0 ∧ (inStage 0xC).stage = 0xC ∧ (inStage 0xC).boot.hold = 0 ∧ (inStage 0xE).stage = 0xE ∧
    (inStage 0xE).boot.refPassed = false ∧ (inStage 0xE).boot.hold = 0 ∧ checkingA.stage = 3 ∧ checkingA.boot.hold = 0 ∧
    checkingA.boot.checking = some 0 ∧ (inStage 4).stage = 4 ∧ (inStage 5).stage = 5 ∧ (inStage 5).boot.hold = 0 ∧
    (inStage 5).masterMismatch = false ∧ (inStage 5).ready = false ∧ (holding 1 1).boot.hold = 1 ∧ (holding 1 2).boot.hold = 2 ∧
    (holding 5 3).boot.hold = 3 := by decide +kernel

theorem witness_HardwareFaultHaltsStart : ([1, 2, 0xC, 3, 4, 5].all fun n =>
      let s := if n = 3 then checkingA else inStage n
      s.regs.wf && s.eff.wf && decide (2 ≤ s.rd F.COX_LOG_BLOCKS) && s.stage == n && s.boot.hold == 0 && !s.fatal) = true ∧
    checkingA.boot.checking ≠ none := by decide +kernel

/-- Recovery mode with BAR0 open at the endpoint, which holds a command code and what belongs to it. -/
def barWith (code offset length : Nat) (buf : Cells) : State :=
  let s := inStage 0xE
  { s with
    ept := { s.ept with dlActive := true, memSpace := true }
    boot := { s.boot with bar := { s.boot.bar with cmd := code, offset := offset, length := length, buf := buf } } }

theorem witness_RecoveryCommandsComplete : ([1, 2, 3, 4, 5].all fun k => (inStage 0xE).takesRecovery false k &&
      (barWith k 1 1 [(0, 7)]).takesRecovery true k && !(barWith k 1 1 [(0, 7)]).takesRecovery true (k + 1)) = true ∧
    (inStage 0xE).boot.norOk = true ∧ 16 ≤ (inStage 0xE).boot.norCap ∧ (barWith 2 1 0 []).boot.bar.offset ≠ 0 ∧ 1 < (inStage 0xE).logBase ∧
    (inStage 0xE).logBase ≤ 0x3800000 ∧ (inStage 0xE).stage = 0xE ∧ up.stage ≠ 0xE := by decide +kernel

/-- The last byte of the first copy region, the whole top of the second, and ranges that cross each boundary by one byte. -/
theorem witness_RecoveryWriteProgramsItsBytesOnly :
    let s := inStage 0xE
    let b := barWith 3 0x1FFFFFF 1 [(0, 7)]
    s.takesRecovery false 3 = true ∧ [1] ≠ [] ∧ [1].length ≤ 65536 ∧ s.boot.nor.risingFrom 0 = true ∧ s.boot.norOk = true ∧
      0x1FFFFFF + [1].length ≤ s.copyBase 1 ∧ (s.copyBase 1 ≤ 0x2000000 ∧ 0x2000000 + [1].length ≤ s.logBase) ∧
      (s.copyBase 1 ≤ 0x37FFFFF ∧ 0x37FFFFF + [1].length ≤ s.logBase) ∧ s.logBase < 0x3800000 + [1].length ∧
      (0x1FFFFFF < s.copyBase 1 ∧ s.copyBase 1 < 0x1FFFFFF + [1, 2].length) ∧ s.copyBase 1 ≤ s.logBase ∧
      b.takesRecovery true 3 = true ∧ b.boot.nor.risingFrom 0 = true ∧
      (b.boot.bar.offset, (List.range (min b.boot.bar.length 65537)).map fun k => (b.boot.bar.buf.get k).getD 0) = (0x1FFFFFF, [7]) := by
  decide +kernel

/-- Core 3 has had one watchdog expiry, at 5 ns. -/
def expiredOnce (now : Nat) : State :=
  let s := up.wr F.COX_STATUS_CORES 15
  { s with now := now, cox := { s.cox with expired := [(3, 5)] } }

theorem witness_ResetsComplete : (0x5A3C0001 : Word).toNat / 65536 = 0x5A3C ∧ (0x5A3C0001 : Word).getLsbD 0 = true ∧
    (0x5A3C0002 : Word).toNat / 65536 = 0x5A3C ∧ (0x5A3C0002 : Word).getLsbD 1 = true ∧ (0x5A3C0002 : Word).getLsbD 0 = false ∧
    3 < 4 ∧ ((expiredOnce 5).rd F.COX_STATUS_CORES).testBit 3 = true ∧ ((expiredOnce 5).rd F.COX_STATUS_CORES).testBit 0 = true ∧
    (expiredOnce 5).coxStarted = true ∧ (expiredOnce 5).cox.roll = none ∧ (expiredOnce 5).cox.expired.lookup 0 = none ∧
    (expiredOnce 86400000000005).cox.expired.lookup 3 = some 5 ∧ 86400000000000 ≤ (expiredOnce 86400000000005).now - 5 ∧
    (expiredOnce 86400000000004).now - 5 < 86400000000000 ∧ ((expiredOnce 86400000000004).coreFails 3).cox.roll = none ∧
    (up.wr F.CLK_STATUS_WATCH 1).is F.CLK_STATUS_WATCH = true ∧ (up.wr F.CLK_STATUS_WATCH 1).is F.CLK_CTRL_AUTO_RESTART = true ∧
    13 < 14 ∧ ({ up with boot := { up.boot with rstLow := true } } : State).boot.rstLow = true := by decide +kernel

theorem witness_SystemResetClearsAndKeeps : 0 < 16 ∧ 15 < 16 := by decide

/-- Both references are good; the servo is locked or not. -/
def locked (b : Bool) : State := if b = true then up.wr F.SCH_PTP_STAT_LOCKED 1 else up

/-- Holdover with REFCLKA gross and REFCLKB in a state; domain 0 still names REFCLKB. -/
def heldOver (b : Nat) : State := ((((up.setRef 0 2).setRef 1 b).setDom 0 1 false true).wr F.CLK_STATUS_HOLD 1).wr F.CLK_STATUS_ACTIVE 2

theorem witness_ReferenceAndPaceEventsComplete : 1 < 2 ∧ (up.refState 0 = 0 ∧ up.refState 1 = 0 ∧
      up.clk.checks = (⟨false, false, false⟩, ⟨false, false, false⟩)) ∧ (0 : Int).natAbs ≤ up.ef F.CLK_MON_LIMIT_PPM * 1000 ∧
    (up.setRef 1 3).refState 1 ≠ 0 ∧ (up.setRef 1 3).activeSrc ≠ 2 ∧ up.regs.wf = true ∧ up.eff.wf = true ∧
    ([3, 2].all fun b =>
      let t := heldOver b
      let u := ((t.setChecks 0 ⟨false, false, false⟩).setRef 0 0).raise 15 0x0000
      t.refState 0 != 0 && t.activeSrc == 2 && !t.is F.CLK_STATUS_WATCH && t.is F.CLK_STATUS_HOLD && !t.clk.failover &&
        u.domSrc 0 == 1 && ((u.refState 1 == 3) == (b == 3))) = true ∧
    (up.ef F.PACE_LIMIT_TLIMIT : Int) < 300 ∧ up.is F.PACE_STATUS_TLIM = false ∧ (up.wr F.PACE_STATUS_TLIM 1).is F.PACE_STATUS_TLIM = true ∧
    (-300 : Int) < (up.ef F.PACE_LIMIT_TLIMIT : Int) - 3 ∧ (up.ef F.PACE_LIMIT_TLIMIT : Int) - 3 ≤ up.ef F.PACE_LIMIT_TLIMIT := by
  decide +kernel

theorem witness_FailedReferenceTakesItsState : up.regs.wf = true ∧ up.eff.wf = true ∧ 1 < 2 ∧ 3 ≤ up.stage ∧ up.wrg.items = [] ∧ up.activeSrc = 0 ∧ up.activeSrc < 2 ∧
    up.activeSrc ≠ 1 ∧ up.refState 1 = 0 ∧ up.refState up.activeSrc = 0 ∧ (∀ d, d < 7 → up.domBusy d = false) ∧ up.refState (1 - 0) = 0 := by
  decide +kernel

theorem witness_DisagreementJudgesOneReference :
    let n := up.ef F.CLK_MON_LIMIT_PPM * 1000
    (locked true).regs.wf = true ∧ (locked true).eff.wf = true ∧ (locked false).regs.wf = true ∧ (locked false).eff.wf = true ∧
      (locked true).refState 0 = 0 ∧ (locked true).refState 1 = 0 ∧ (locked true).clk.checks = (⟨false, false, false⟩, ⟨false, false, false⟩) ∧
      3 ≤ (locked true).stage ∧ n < ((n : Int) + 1).natAbs ∧ n < (-(n : Int) - 1).natAbs ∧
      (locked true).is F.SCH_PTP_STAT_LOCKED = true ∧ 0 < 1 ∧ (locked false).is F.SCH_PTP_STAT_LOCKED = false ∧
      (locked false).activeSrc = 0 ∧ (locked false).refState 0 = 0 ∧ (locked false).refState 1 = 0 ∧
      (locked false).clk.checks = (⟨false, false, false⟩, ⟨false, false, false⟩) := by decide +kernel

theorem witness_MuxAndGateCommandsComplete :
    let bz := up.setDom 2 0 true false
    let k : Word := 0x3C5A0001
    let h : Word := 0x3C5A0010
    let bh := { (bz.wr F.CLK_CTRL_HANG_BREAK 1) with clk := { bz.clk with gateWaiting := [⟨3, 1, []⟩] } }
    muxKeyed k = true ∧ k.getLsbD 4 = false ∧ muxKeyed h = true ∧ h.getLsbD 4 = true ∧ bz.domBusy 2 = true ∧
      ¬ (bz.domSrc 2 < 2 ∧ bz.refState (bz.domSrc 2) = 3) ∧ bh.domBusy 2 = true ∧ bh.is F.CLK_CTRL_HANG_BREAK = true ∧ 5 < 6 ∧
      (up.setDom 5 0 false true).domHold 5 = true ∧ (up.setDom 5 0 false true).domSrc 5 = 0 ∧ (up.setDom 5 0 false true).refState 0 = 0 ∧
      gatedUnit 3 = true ∧ up.unitBusy 3 = false ∧ (∀ e ∈ up.clk.gateWaiting, e.unit_ ≠ 3) ∧ (∃ e ∈ bh.clk.gateWaiting, e.unit_ = 3) ∧
      (up.setClosed 3 true).gateClosed 3 = true ∧ up.gateForced 3 = false ∧
      bh.clk.gateWaiting.find? (·.unit_ == 3) = some ⟨3, 1, []⟩ := by decide +kernel

/-- Logical port 0 is up; ports 0 and 4 carry PTP of domain 0, whose master has identity 7 on port 0. -/
def wired : State :=
  let s := (up.wr F.SWC_LINK_UP 0x11).wrBoth F.SCH_PTP_CFG_EN 1
  let t := ((s.wrBoth F.SCH_PTP_CFG_LPORT 0).wrBoth F.SCH_PTP_CFG_ALTPORT 4).wrBoth F.SCH_PTP_CFG_DOMAIN 0
  { t with ptp := { t.ptp with chosen := some ⟨1, 7, 0⟩, awaiting := some 9, sync := some (5, 9) } }

/-- Entry 0 of the address table is 10.0.0.1 on port 0, entry 1 the IPv6 address 1; both are active. Entry 0 has been announced once. -/
def addressed : State :=
  let s := ((wired.wr F.SWC_ADDR_ACTIVE 1 0).wrBoth F.SWC_ADDR_VALID 1 0).wrBoth F.SWC_ADDR_ADDR 0x0A000001 0 0
  let t := ((s.wr F.SWC_ADDR_ACTIVE 1 1).wrBoth F.SWC_ADDR_VALID 1 1).wrBoth F.SWC_ADDR_IPV6 1 1
  let u := t.wrBoth F.SWC_ADDR_ADDR 1 1 3
  { u with sw := { u.sw with announced := [0] } }

/-- A frame of the control queue of port 0 in the buffer, and a copy in the residue queue. -/
def frame0 : Held := ⟨1, 0, 4096, 7, 64, 1, (0, 0, 0), false, none, false⟩
def queued : State := { wired with sw := { wired.sw with held := [frame0], residue := [(frame0, 5)] } }

theorem witness_FramesAndLinksComplete :
    wired.lportExists 0 = true ∧ wired.lportUp 0 = true ∧ 64 ≤ 64 ∧ 9216 ≤ 9216 ∧ wired.lportExists 8 = true ∧ wired.lportUp 8 = false ∧
      wired.gateForced (8 / 4) = false ∧ (wired.pass 0).lportUp 8 = false ∧ (queued.pass 1).lportUp 0 = true ∧
      (queued.pass 1).portOpen 0 = true ∧ ((queued.pass 1).portPick 0).2 = some frame0 ∧
      queued.sw.residue.find? (·.1.dst == 0) = some (frame0, 5) ∧ 33 < 34 ∧ 33 ∉ up.sw.banksOut ∧ up.rd F.SWC_BUF_STAT_BANKS ≠ 0 ∧
      0 < up.rd F.SPR_STATUS_BANKS ∧ (up.wr F.SPR_STATUS_BANKS 0).rd F.SPR_STATUS_BANKS = 0 ∧
      addressed.entryFor 0 none false 0x0A000001 = some 0 ∧ addressed.entryFor 0 none true 1 = some 1 ∧ addressed.entryOn 0 = true ∧
      (addressed.sw.announced.filter (· == 0)).length ∈ [1, 2] := by decide +kernel

theorem witness_FramesAndLinksComplete_address (p : Nat) (body : FrameBody) : wired.acceptsMac p (wired.ownMac p) body = true := by
  simp only [acceptsMac, beq_self_eq_true, Bool.true_or]

theorem witness_BadFrameOnlyCountsAnError : wired.regs.wf = true ∧ wired.eff.wf = true ∧ 63 < 64 ∧ 9216 < 9217 ∧
    wired.lportExists 0 = true ∧ wired.lportUp 0 = true ∧ wired.lportExists 1 = false ∧ wired.lportUp 8 = false := by decide +kernel

theorem witness_GateListsAndPtpComplete :
    let g := (wired.wr F.SCH_GCL_EN 1 0)
    let n := { wired with sw := { wired.sw with gates := [⟨1000000, 0, some (2, 3, 4)⟩] } }
    (g.pass 0).is F.SCH_GCL_EN 0 = true ∧ ((g.pass 0).sw.gates.getD 0 ⟨1000000, 0, none⟩).base ≤ (g.pass 0).tod ∧
      ((g.pass 0).tod - 0) % 1000000 = 0 ∧ 31 < 32 ∧ (wired.pass 5).is F.SCH_GCL_EN 31 = false ∧
      ((n.pass 1).sw.gates.getD 0 ⟨1000000, 0, none⟩).next = some (2, 3, 4) ∧ wired.ptpPort 4 = true ∧
      0 = wired.ef F.SCH_PTP_CFG_DOMAIN ∧ wired.ptp.masters = [] ∧ ({ wired with ptp := up.ptp } : State).ptp.chosen = none ∧
      ({ wired with ptp := up.ptp } : State).ptpPort 4 = true ∧ (wired.pass 2).fromChosen 0 7 0 = true ∧ wired.ptp.awaiting = some 9 ∧
      wired.ptp.sync = some (5, 9) := by decide +kernel

/-- A flow that is on die or in HBM, with `n` timeouts and one packet in flight. -/
def flowRec (ptag n : Nat) (onDie : Bool) (sent : List (Nat × SentBody)) : Flow :=
  ⟨1, 2, ptag, false, 2, 1, 1, 0, 2, 1, 64, 0, 0, n, false, 0, onDie, sent, [], [], none, 1, 0, [], [], none, true, [(1, 0, 100, 200)]⟩
def flowState (f : Flow) : State := { up with skf := { up.skf with flows := [f] } }
def packet : Nat × SentBody := (1, .placeImm 0 0 0 none)

theorem witness_SkiffPacketsComplete : up.isSkiff hdr = true ∧ mtypeBad hdr 6 = true ∧ mtypeBad hdr 5 = false ∧ mtypeBad hdr 1 = true ∧
    headBad hdr false = false ∧ hdr.dport + 1 ≠ up.rd F.SKF_CFG_PORT ∧ up.fatal = false := by decide +kernel

theorem witness_AcknowledgementMovesTheWindow :
    let f := flowRec 3 0 true [packet]
    16 ≤ f.cwnd ∧ f.cwnd ≤ 64 ∧ f.srtt < 65536 ∧ before 0 f.sndUna = true ∧ before f.sndNxt 3 = true ∧ before 2 f.sndUna = false ∧
      before f.sndNxt 2 = false ∧ f.srtt ≤ 0 ∧ (2 + 65536 - f.cutSeq % 65536) % 65536 < 0x8000 := by decide +kernel

theorem witness_SkiffControlCompletes : (up.takeControl flow 2 1).1.skf.keys.length < 65536 ∧
    (({ up with skf := { up.skf with keys := [(1, 3, 9)] } } : State).takeControl flow 2 1).1.hasKey 1 3 = true ∧ 1 ≤ 3 ∧
    [ChainEntry.placeImm 0 1] ≠ [] ∧ (List.replicate 8 (ChainEntry.placeImm 0 1)).length ≤ 8 ∧
    (up.takeControl flow 4 1).1.chainFull 1 3 9 8 = false ∧
    (let s := { up with skf := { up.skf with chains := [⟨1, 2, 3, 1, 9, (1, 1, 1), [], none⟩] } }
     (s.takeControl flow 4 1).1.chainFull 1 3 9 1 = true) := by decide +kernel

/-- A table of reach keys that is full, without an entry of address 1. -/
def fullTable : State := { up with skf := { up.skf with keys := List.replicate 65536 (2, 2, 0) } }

theorem witness_SkiffControlCompletes_fullTable : (fullTable.takeControl flow 2 1).1.hasKey 1 3 = false ∧
    65536 ≤ (fullTable.takeControl flow 2 1).1.skf.keys.length := by
  have h : (fullTable.takeControl flow 2 1).1.skf.keys = List.replicate 65536 (2, 2, 0) := rfl
  simp only [hasKey, h, List.length_replicate, List.any_replicate, Nat.le_refl, and_true]
  decide

theorem witness_FlowTimersComplete :
    let a := flowState (flowRec 3 0 true [packet])
    let n := up.ef F.SKF_RTO_LIMIT - 1
    let b := flowState (flowRec 3 n true [packet])
    let p := flowState (flowRec 0xFFFF n true [packet])
    let i := flowState (flowRec 3 0 true [])
    let h := flowState (flowRec 3 0 false [])
    let at_ (k : Nat) : Nat := 1000 * min 200 (100 * 2 ^ k)
    a.flowAt flow = some (flowRec 3 0 true [packet]) ∧ 0 < (flowRec 3 0 true [packet]).ackDue ∧
      (flowRec 3 0 true [packet]).times.lookup packet.1 = some (0, 100, 200) ∧ 0 + 1 < (a.passTo (at_ 0 + 1)).ef F.SKF_RTO_LIMIT ∧
      b.flowAt flow = some (flowRec 3 n true [packet]) ∧ (b.passTo (at_ n + 1)).ef F.SKF_RTO_LIMIT ≤ n + 1 ∧ flow.ptag ≠ 0xFFFF ∧
      p.flowAt ⟨1, 2, 0xFFFF⟩ = some (flowRec 0xFFFF n true [packet]) ∧ (p.passTo (at_ n + 1)).ef F.SKF_RTO_LIMIT ≤ n + 1 ∧
      i.flowAt flow = some (flowRec 3 0 true []) ∧ idleFlow (flowRec 3 0 true []) = true ∧ h.flowAt flow = some (flowRec 3 0 false []) ∧
      (flowRec 3 0 false []).onDie = false ∧ ((h.restore (flowRec 3 0 false [])).flowAt flow).any (·.onDie) = true ∧
      (∀ f ∈ up.skf.flows, ¬ (f.ip = 1 ∧ f.ptag = 3)) := by decide +kernel
/-- A volume of crew 0 of 64 grains. -/
def vol0 : Vol := ⟨0, false, false, 0, 0, 0, 4, 64, [], none, none, [], [], [], [], 0, 0, 0, none, false, false, [], none⟩

/-- Association 1 of host 2, with an admin queue and I/O queue 1. -/
def assoc1 : Assoc := ⟨1, 2, 0, flow, 10000, 1, 0, [(0, 31), (1, 31)], [], [], 4, true, [], 0, [], [], [], 0, [], [], false⟩

/-- Host 2 is listed; namespace 1 exists and shows volume 0; the host's reach key is known; association 1 is served. -/
def served : State :=
  let s := (((up.wrBoth F.NVT_HOST_VALID 1 0).wrBoth F.NVT_HOST_HOSTID 2 0 0).wrBoth F.NVT_NS_VALID 1 0).wrBoth F.CRW_VOL_VALID 1 0
  { s with
    nvt := { s.nvt with assocs := [assoc1] }
    skf := { s.skf with keys := [(1, 3, 6 * 2 ^ 32 + 7)] }
    crw := { s.crw with vols := [vol0] } }

/-- A capsule of I/O queue 1 with CID 4. -/
def capIo : Capsule := { cap with qid := 1 }
def keyed (n : Nat) : Sgl := .keyed [(0, n, 7)]

theorem witness_ConnectsComplete :
    let none_ := { served with nvt := up.nvt }
    let fresh := { cap with cntlid := 0xFFFF }
    let cio := { capIo with qid := 2 }
    (match none_.connecting fresh (.connect 0 31 60000 2 0xFFFF true) with
      | some (_, t) => t.connectCheck (t.assocOf 0xFFFF) (capId fresh) 0 31 2 0xFFFF true == none && t.nextCntlid == some 1 && t.hostEntry 2 == some 0
      | none => false) = true ∧
    (match served.connecting cio (.connect 2 1023 0 2 1 true) with
      | some (_, t) => (t.assocOf 1).isSome && t.connectCheck (t.assocOf 1) (capId cio) 2 1023 2 1 true == none
      | none => false) = true ∧
    ([(32, true), (31, false)].all fun p => match none_.connecting fresh (.connect 0 p.1 60000 2 0xFFFF p.2) with
      | some (_, t) => t.connectCheck (t.assocOf 0xFFFF) (capId fresh) 0 p.1 2 0xFFFF p.2 == some (stConnectParams, none)
      | none => false) = true ∧ cap.bad = false ∧ cap.alien = false ∧ capIo.qid ≠ 0 := by decide +kernel

theorem witness_AdmittedCommandsAreAnswered_io :
    (served.admitted capIo (.flush 1)).isSome = true ∧ (served.admitted capIo (.dsm 1 0 false (keyed 16) [])).isSome = true ∧
    (served.admitted capIo (.rsvReport 1 1023 true (keyed 4096))).isSome = true ∧ (served.admitted capIo .disconnect).isSome = true ∧
    capIo.qid ≠ 0 := by decide +kernel

theorem witness_AdmittedCommandsAreAnswered_admin :
    (served.admitted cap .keepAlive).isSome = true ∧ (served.admitted cap (.getLog 0x02 0xFFFFFFFF 0 127 (keyed 512))).isSome = true ∧
    (served.admitted cap (.identify 0x01 0 0 0 (keyed 4096))).isSome = true ∧ (served.admitted cap (.abort 1 4)).isSome = true ∧
    (served.admitted cap (.setFeatures 0x0F 0 5000)).isSome = true ∧ (served.admitted cap (.getFeatures 0x81 0 (keyed 16))).isSome = true ∧
    (served.admitted cap (.getFeatures 0x0F 0 (keyed 16))).isSome = true ∧ (served.admitted cap .aer).isSome = true ∧
    (served.admitted cap (.propertySet 0x14 0x460001)).isSome = true ∧ (served.admitted cap (.propertySet 0x20 1)).isSome = true ∧
    (served.admitted cap (.propertyGet 0x08)).isSome = true ∧ (served.admitted cap .disconnect).isSome = true ∧ cap.qid = 0 := by
  decide +kernel

/-- The association that `admitted` finds, with one of its fields changed. -/
def servedBy (a : Assoc) : State := { served with nvt := { served.nvt with assocs := [a] } }

theorem witness_AdmittedCommandsAreAnswered_branches :
    (served.logPage assoc1 0x02 0xFFFFFFFF).isLeft = true ∧ (served.logPage assoc1 0x99 0).isRight = true ∧
    (served.identify assoc1 0x01 0 0).isLeft = true ∧ (served.identify assoc1 0x99 0 0).isRight = true ∧
    ((servedBy { assoc1 with notices := [5] }).admitted cap .aer).map (·.1.notices) = some [5] ∧
    ((servedBy { assoc1 with aers := List.replicate 7 (capId cap) }).admitted cap .aer).map (fun x => (x.1.notices, x.1.aers.length)) = some ([], 7) ∧
    ((servedBy { assoc1 with aers := List.replicate 8 (capId cap) }).admitted cap .aer).map (fun x => (x.1.notices, x.1.aers.length)) = some ([], 8) ∧
    (propertyValue assoc1 0x08).isSome = true ∧ propertyValue assoc1 0x20 = none := by decide +kernel

theorem witness_AdmittedMediaCommandsGoOn :
    (served.admitted capIo (.read io)).isSome = true ∧ (served.admitted capIo (.compare io)).isSome = true ∧
    (served.admitted capIo (.write io)).isSome = true ∧ (served.admitted capIo (.writeZeroes { io with slba := 4095 })).isSome = true ∧
    (served.admitted capIo (.dsm 1 0 true (keyed 16) [])).isSome = true := by decide +kernel

theorem witness_ReservationCommandsTakeEffectWithTheirKeys :
    (served.admitted capIo (.rsvRegister 1 0 false 0 (keyed 16) 0 0)).isSome = true ∧
    (served.admitted capIo (.rsvAcquire 1 0 1 false (keyed 16) 0 0)).isSome = true ∧
    (served.admitted capIo (.rsvRelease 1 0 1 false (keyed 8) 0)).isSome = true ∧
    Req.withData (.rsvRegister 1 0 false 0 (keyed 16) 0 0) (9 + 8 * 2 ^ 64) = .rsvRegister 1 0 false 0 (keyed 16) 9 8 ∧
    Req.withData (.rsvAcquire 1 0 1 false (keyed 16) 0 0) (9 + 8 * 2 ^ 64) = .rsvAcquire 1 0 1 false (keyed 16) 9 8 ∧
    Req.withData (.rsvRelease 1 0 1 false (keyed 8) 0) 9 = .rsvRelease 1 0 1 false (keyed 8) 9 := by decide +kernel

/-- Association 1 with one flush held, in a phase; in the second, its answer is due and waits. -/
def holdingCmd (phase : Nat) : State :=
  let s := served.holdCmd capIo (.flush 1) 1 0 1500000
  { s with nvt := { s.nvt with cmds := s.nvt.cmds.map fun k => { k with phase := phase } } }
def answerDue : State :=
  let s := holdingCmd 1
  { s with nvt := { s.nvt with cmds := s.nvt.cmds.map fun k => { k with due := some (stOk, 0, []) } } }

/-- A write whose journal group and its block are in place: it has reached its commit point. -/
def atCommit : State :=
  let blk : JBlock := ⟨0, 0, 64, [], [], true, [0, 1, 2], [], none, none⟩
  let grp : Group := ⟨4, none, 0, 0, [], false, false, []⟩
  let c := { crew0 with seg := ⟨1, 1, [0, 1, 2], [], [blk], [grp], 5, false, false, false⟩ }
  let s := { (served.holdCmd capIo (.write io) 1 0 1500000) with crw := { served.crw with crews := [(0, c)] } }
  { s with nvt := { s.nvt with cmds := s.nvt.cmds.map fun k => { k with phase := 1, ctx := true, step := 4, group := some (0, 1, 4) } } }

def held4 (s : State) : Option Cmd :=
  s.nvt.cmds.find? fun k => k.id.cntlid % 65536 == 1 && k.id.qid == 1 && k.id.cid == 4 && k.id.msgid == 5

theorem witness_ContextAndCutPointsComplete :
    up.admissionHalted = false ∧ up.twn.stopped = false ∧ (up.wr F.HMP_PFAIL_STATE 1).admissionHalted = true ∧
    ((holdingCmd 0).nextWaiting).isSome = true ∧ served.nextWaiting = none ∧ (served.assocOf 1).isSome = true ∧
    ([0, 1, 2, 3].all fun p => (held4 (holdingCmd p)).any fun k => k.due.isNone && k.req == .flush 1 && !k.req.silent && k.phase == p) = true ∧
    (held4 answerDue).any (fun k => k.due.isSome && !k.req.silent && decide (k.phase < 3)) = true ∧
    ((holdingCmd 1).cmdOf (capId capIo)).any (holdingCmd 1).commitReady = false ∧
    (atCommit.cmdOf (capId capIo)).any atCommit.commitReady = true ∧
    (({ up with wrg := { up.wrg with items := [⟨5, 0, false, 0, 0, 0, 250000⟩] } } : State).itemOf 5).isSome = true ∧
    Req.flush 1 ≠ .aer ∧ served.cmdOf (capId capIo) = none ∧ (holdingCmd 0).twinState ≠ 2 ∧
    (let t := served.wr F.TWN_STATUS_STATE 2
     t.cmdOf (capId capIo) = none ∧ (t.holdCmd capIo (.flush 1) 1 0 1500000).twinState = 2) := by decide +kernel

/-- A power-fail drain in a state of HMP_PFAIL. -/
def drain (n : Nat) : State := up.wr F.HMP_PFAIL_STATE n
def draining (k : Nat) (ios : List Io) : State :=
  { up with hmp := { up.hmp with drain := k }, crw := { up.crw with ios := ios } }

/-- A twin whose link is up, in a state of TWN_STATUS. -/
def twin (st : Nat) : State := (((up.wr F.SYS_STRAP_TWIN_PRSNT 1).wr F.TWN_STATUS_LINK 1).wr F.TWN_STATUS_STATE st)

theorem witness_HeatsAndDrainComplete :
    up.ready = true ∧ up.rd F.HMP_PFAIL_STATE = 0 ∧ up.follows = false ∧ ((twin 2).frameIn tw).isSome = true ∧ (inStage 5).ready = false ∧
    (drain 0).rd F.HMP_PFAIL_STATE = 0 ∧ (drain 0).twinState ≠ 3 ∧ (twin 3).ready = true ∧ (twin 3).rd F.HMP_PFAIL_STATE = 0 ∧
    (twin 3).twinState = 3 ∧ (drain 3).ready = true ∧ (drain 3).rd F.HMP_PFAIL_STATE = 3 ∧ (drain 1).rd F.HMP_PFAIL_STATE = 1 ∧
    (drain 2).rd F.HMP_PFAIL_STATE = 2 ∧ (draining 4 []).hmp.drain = 4 ∧ (draining 4 []).mediaBusy = false ∧
    (draining 4 [driveIo (.write 0 0 false)]).mediaBusy = true ∧ (draining 6 [driveIo (.write 0 0 false)]).hmp.drain = 6 ∧
    (∀ o ∈ (draining 6 [driveIo (.read 0)]).crw.ios, o.op ≠ .flush) ∧ (draining 7 []).hmp.drain = 7 ∧ (draining 7 []).mediaBusy = false ∧
    (let s := { twin 2 with twn := { up.twn with handing := some ([0], false, 0) }, heat := 1 }
     s.twn.handing = some ([0], false, 0) ∧ s.ready = true ∧ s.twinState = 2 ∧ s.is F.TWN_STATUS_LINK = true ∧ 0 < s.heat) ∧
    (let s := { up with hmp := { up.hmp with waits := [⟨0, (1, 2, 3), 4⟩] } }
     0 ≠ 8 ∧ 0 ≠ 9 ∧ 0 ≠ 14 ∧ (s.grantBuffers 0).2 = some (1, 2, 3) ∧ (s.grantBuffers 1).2 = none) := by decide +kernel

theorem witness_BuffersGoToTheOldestWait :
    let s : State := { up with hmp := { up.hmp with waits := [⟨0, (1, 2, 3), 4⟩] } }
    s.counting = false ∧ (s.grantBuffers 0).2 = some (1, 2, 3) := by decide +kernel

theorem witness_AssemblyAndRowsComplete_crews :
    (0 < 8 ∧ (unassembled []).mayAssemble 0 = true ∧ (unassembled []).labelsOf 0 = [] ∧ (unassembled []).is F.CRW_CREW_INIT 0 = true ∧
      (unassembled []).namedLabels 0 = [] ∧ ((unassembled []).namedDrives 0).isSome = true) ∧
    (let s := unassembled [0, 1, 2, 3, 4, 5]
     s.mayAssemble 0 = true ∧ (countedLabels (s.labelsOf 0)).length = 6 ∧ (s.labelsOf 0).isEmpty = false ∧
       ((List.range (s.nOf 0)).all fun i => (countedLabels (s.labelsOf 0)).any fun c => c.2.seat == i) = true) ∧
    (let s := unassembled [0, 1, 2, 3]
     s.mayAssemble 0 = true ∧ (countedLabels (s.labelsOf 0)).length = 4 ∧
       ((List.range (s.nOf 0)).all fun i => (countedLabels (s.labelsOf 0)).any fun c => c.2.seat == i) = false ∧
       badSeats ((List.range (s.nOf 0)).map (foundSeat (countedLabels (s.labelsOf 0)) [0, 0, 0, 0, 0, 0])) = 2) ∧
    (let s := unassembled [0, 1, 2]
     s.mayAssemble 0 = true ∧ (countedLabels (s.labelsOf 0)).length = 3 ∧
       2 < badSeats ((List.range (s.nOf 0)).map (foundSeat (countedLabels (s.labelsOf 0)) [0, 0, 0, 0, 0, 0]))) := by decide +kernel

theorem witness_AssemblyAndRowsComplete_rows :
    (let b : JBlock := ⟨1, 0, 4064, [], [1, 2, 3], true, [], [], none, none⟩
     let c := { crew0 with replayed := some b, replayFlushed := true }
     (crewed c).crewOf 0 = some c ∧ c.replayed = some b ∧ c.replayFlushed = true ∧
       ∀ o ∈ (crewed c).crw.ios, ¬ (o.crew = 0 ∧ o.heat = replayHeat ∧ o.op = .flush)) ∧
    (let s := { crewed crew0 with crw := { (crewed crew0).crw with jobs := [job 7 0 5 false true] } }
     s.rowLocked 0 5 = false ∧ s.crw.jobs.find? (fun j => j.crew == 0 && j.row == 5 && j.lockWait && !s.earlierUpdate j) = some (job 7 0 5 false true)) ∧
    (let o := driveIo (.read 4)
     let s := { crewed crew0 with crw := { (crewed crew0).crw with jobs := [job 7 0 5 true false], ios := [o] } }
     s.ioOf 3 = some o ∧ o.path = true ∧ s.ioOf 4 = none ∧ o.op = .read 4 ∧ s.jobOf 7 = some (job 7 0 5 true false) ∧ s.crewOf 0 = some crew0 ∧
       o.hedged = false ∧ (job 7 0 5 true false).phase = 0 ∧
       ((List.range 6).filter fun i => i == 2 || !(job 7 0 5 true false).avail crew0 i 4).length ≤ 2) := by decide +kernel

/-- Volume 0 as a privileged one. -/
def priv0 : Vol := { vol0 with priv := true }
def withVol (x : Vol) : State := { crewed crew0 with crw := { (crewed crew0).crw with vols := [x] } }

theorem witness_JournalAndMapsComplete :
    (crewed crew0).crewOf 0 = some crew0 ∧
    (let o := driveIo (.block 4 0 1 0 9)
     let s := { up with crw := { up.crw with ios := [o] } }
     s.ioOf 3 = some o ∧ o.op = .block 4 0 1 0 9) ∧
    (let g : Segment := ⟨1, 5, [0, 1, 2], [], [], [], 1, true, true, true⟩
     let c := { crew0 with old := [g] }
     (crewed c).crewOf 0 = some c ∧ c.old.find? (·.heat == 5) = some g ∧ (crewed c).onMedia 0 g = true ∧ (crewed c).passedSince 0 5 = true) ∧
    (withVol priv0).volOf 0 = some priv0 ∧ priv0.priv = true ∧ (withVol priv0).engineRests = false ∧ priv0.passRun = none ∧
    (let x := { priv0 with passRun := some (1, 2) }
     (withVol x).volOf 0 = some x ∧ x.passRun = some (1, 2) ∧ (∀ j ∈ (withVol x).crw.jobs, ¬ (j.kind = 5 ∧ j.vol = 0)) ∧ x.passDue = false) ∧
    (let x := { priv0 with passRun := some (1, 2), passDue := true }
     let y := { x with pass := 1, passHeat := 2, copy := 1 - x.copy, passRun := none }
     let t := (withVol x).issueIo 0 0 (.write 0 (mapHeader 1 2 x.cap) true) 0 0
     (withVol x).volOf 0 = some x ∧ x.passDue = true ∧ x.passRun.isSome = true ∧ ((t.setVol y).showPvol 0).engineRests = false) ∧
    (let x := { priv0 with gc := true }
     (withVol x).volOf 0 = some x ∧ x.gc = true ∧ x.gcItem = none ∧ (∀ j ∈ (withVol x).crw.jobs, ¬ ((j.kind = 6 ∨ j.kind = 11) ∧ j.vol = 0)) ∧
       (withVol x).engineRests = false ∧
       (withVol x).assisted 3 = false) := by decide +kernel

theorem witness_JournalAndMapsComplete_patrol :
    let c := { crew0 with days := 7, written := [0] }
    let p (n : Nat) (c : Crew) : State := ((crewed c).wr F.CRW_CREW_ROWS 2 0).wr F.CRW_CREW_PATROL_ROW n 0
    (p 0 c).crewOf 0 = some c ∧ (p 0 c).ef F.CRW_PATROL_EN ≠ 0 ∧ (p 0 c).engineRests = false ∧ c.patrolItem = none ∧ c.days ≠ 0 ∧
      (p 0 c).patrolOpen c = true ∧ (∀ j ∈ (p 0 c).crw.jobs, ¬ (j.crew = 0 ∧ j.kind = 3)) ∧ (p 0 c).rd F.CRW_CREW_PATROL_ROW 0 = 0 ∧
      0 < (p 0 c).rd F.CRW_CREW_ROWS 0 ∧ (p 0 c).patrolSkips 0 0 c = true ∧ (p 1 c).patrolSkips 0 1 c = false ∧
      ((p 1 c).patrolRow 0 1 c).2 = true ∧ (p 2 c).rd F.CRW_CREW_ROWS 0 ≤ (p 2 c).rd F.CRW_CREW_PATROL_ROW 0 ∧ c.skipped = [] := by
  decide +kernel

theorem witness_DegradedSeatsComplete :
    ((withSeat 2 fun x => { x with ladder := some 1 }).seatOf 0 2).any (fun x => x.ladder == some 1 && x.ladderItem == none) = true ∧
    (crewed crew0).crewOf 0 = some crew0 ∧
    ((withSeat 2 fun x => { x with st := 1, log := [⟨5, 6, 1, false⟩] }).seatOf 0 2).any (fun x => x.st == 1 && x.log == [⟨5, 6, 1, false⟩]) = true ∧
    (let s := { withSeat 2 (fun x => { x with st := 1, below := some 5 }) with now := 5 + 100000000 * up.ef F.CRW_EASY_CLEAR }
     (s.seatOf 0 2).any (fun x => x.below == some 5 && x.st == 1 && !x.byLadder && x.log == []) = true ∧
       5 + 100000000 * s.ef F.CRW_EASY_CLEAR ≤ s.now) ∧
    (let s := { up with hmp := { up.hmp with waits := [⟨8, (2 ^ 65, 2, 0), 4⟩] } }
     ∃ w ∈ s.hmp.waits, w.hamper = 8 ∧ w.owner.1 = 2 ^ 65 + 0 ∧ w.owner.2.1 = 2) ∧
    (let s := withSeat 2 fun x => { x with st := 5, running := true, plan := [(3, 9)] }
     (s.crewOf 0).any (fun c => nextRebuildRow c == some 3 && s.rebuildFirst 0 c && (s.ownBuffers 0 3 4 0 (c.seats.length * s.chunkOf 0)).2) = true ∧
       s.engineRests = false ∧ ∀ j ∈ s.crw.jobs, ¬ (j.crew = 0 ∧ j.kind = 4)) := by decide +kernel

/-- The buffers of H12 are all in use. -/
def full12 : State := { twin 2 with hmp := { up.hmp with holds := [⟨12, (9, 9, 9), 10000000⟩] } }

theorem witness_TwinFramesComplete :
    ((twin 2).frameIn tw).isSome = true ∧ ((twin 2).frameIn tw).any (fun u => (u.holdBlock blk).2 && (u.twinState == 2) && (u.takeSync .done).2) = true ∧
    (full12.frameIn tw).any (fun u => !(u.holdBlock blk).2 && !(u.takeSync (.block blk)).2) = true ∧
    ((twin 1).frameIn tw).any (fun u => (u.takeSync .done).2) = true := by decide +kernel

theorem witness_TwinEventsComplete :
    let d (st : Nat) (item : Option Nat) : State := { twin st with twn := { up.twn with deferring := true, item := item } }
    let a (st : Nat) : State := { twin st with twn := { up.twn with taking := true } }
    let owned (heat : Nat) : State := { (((twin 2).wr F.TWN_OWN_OWN 1).wr F.TWN_OWN_PREF 255) with heat := heat }
    (twin 2).is F.TWN_STATUS_LINK = true ∧ (twin 2).twinShelf = true ∧ (d 3 none).twn.deferring = true ∧
      ({ (d 3 none).becomeOwner with twn := { (d 3 none).becomeOwner.twn with deferring := false } } : State).twinState = 3 ∧
      (d 3 (some 5)).becomeOwner.twn.item.isSome = true ∧ (d 6 none).becomeOwner.twinState ≠ 3 ∧
      up.twn.taking = false ∧ (a 3).twn.taking = true ∧ (a 3).twinState = 3 ∧ (a 2).twinState ≠ 3 ∧
      twnKeyed 0x5AA50001 0 = true ∧ twnKeyed 0x5AA50002 1 = true ∧ twnKeyed 0x5AA50004 2 = true ∧ twnKeyed 0x5AA50001 1 = false ∧
      twnKeyed 0x5AA40001 0 = false ∧ twnKeyed 0x5AA50001 2 = false ∧ (owned 1).twinState = 2 ∧ (owned 1).twn.handing = none ∧
      (owned 1).ownedCrews = [0] ∧ (((owned 1).wr F.SYS_STRAP_BAY_MASTER 1).ownedCrews.filter fun n =>
        !((owned 1).wr F.SYS_STRAP_BAY_MASTER 1).prefers n) ≠ [] ∧ (twin 6).twinState = 6 ∧
      ({ twin 3 with twn := { up.twn with item := some 5 } } : State).twn.item = some 5 := by decide +kernel

theorem witness_TwinEventsComplete_trained :
    let t (n : Nat) : State := (inStage n).wr F.SYS_STRAP_TWIN_PRSNT 1
    (t 5).twinShelf = true ∧ (t 5).is F.TWN_STATUS_LINK = false ∧ (t 5).stage = 5 ∧ (t 5).gateForced 8 = false ∧
      (t 5).is F.CLK_STATUS_WATCH = false ∧
      min 6 7 = ((t 5).wrBoth F.HMP_HEAT_LEN 6).ef F.HMP_HEAT_LEN ∧ min 6 ((t 5).ef F.HMP_HEAT_LEN) = (t 5).ef F.HMP_HEAT_LEN ∧
      (t 5).rd F.TWN_OWN_PREF = (t 5).rd F.TWN_OWN_PREF ∧ (t 6).ready = true ∧ (t 5).ready = false := by decide +kernel

/-- Shelf 7 at address 1 is the peer of pairing 0, whose volume is 0; this NP32 is its primary (0) or secondary (1). -/
def paired (role : Nat) : State :=
  let s := ((((served.wrBoth F.SKF_SHELF_FED_EN 1).wrBoth F.SKF_FED_VALID 1 0).wrBoth F.SKF_FED_SHELF_ID 7 0).wrBoth F.SKF_FED_ADDR 1 0 0)
  let t := ((s.wrBoth F.TWN_XM_VALID 1 0).wrBoth F.TWN_XM_ROLE role 0).wrBoth F.TWN_XM_PEER_SHELF 7 0
  { t.wr F.HMP_ALIGN_PTP 1 with skf := { t.skf with flows := [flowRec 0xFFFF 0 true []] } }

theorem witness_MirrorsComplete_secondary :
    let u := ((paired 1).takeControl flow 6 5).1
    (paired 1).fedContext = true ∧ u.secondaryPairing 0 = some 0 ∧ u.fromPeer 0 flow = true ∧ (u.volOf 0).isSome = true ∧
      u.admissionHalted = false ∧ u.twn.stopped = false := by decide +kernel

/-- The primary with waits for an ACK and dirty units; the pairing is split or not. -/
def primary (split : Nat) (ws : List XmWait) (ds : List (Nat × Nat)) : State :=
  let s := (paired 0).wr F.TWN_XM_SPLIT split 0
  { s with twn := { s.twn with waits := ws, dirty := ds } }
def primaryTook (ws : List XmWait) (ds : List (Nat × Nat)) : State := ((primary 1 ws ds).takeControl flow 6 5).1
def waitW : XmWait := ⟨9, 0, none, none⟩
def waitX : XmWait := ⟨9, 0, none, some 3⟩

theorem witness_MirrorsComplete_acks :
    waitW.unit_ = none ∧ (primaryTook [waitW] []).twn.waits.find? (fun w => w.token == 9 && w.unit_.isSome == false &&
      (primaryTook [waitW] []).fromPeer w.pairing flow) = some waitW ∧ waitX.unit_ = some 3 ∧
    (primaryTook [waitX] []).twn.waits.find? (fun w => w.token == 9 && w.unit_.isSome == true &&
      (primaryTook [waitX] []).fromPeer w.pairing flow) = some waitX ∧
    (∃ d ∈ (primaryTook [waitX] [(0, 3), (0, 4)]).twn.dirty.filter (· != (0, 3)), d.1 = 0) ∧
    (∀ d ∈ (primaryTook [waitX] [(0, 3), (1, 4)]).twn.dirty.filter (· != (0, 3)), d.1 ≠ 0) := by decide +kernel

theorem witness_MirrorsComplete_sends :
    (paired 0).xmPeer 0 = some 0 ∧ (paired 0).ef F.TWN_XM_VALID 0 = 1 ∧ (paired 0).ef F.TWN_XM_ROLE 0 = 0 ∧
    (primary 1 [] [(0, 3)]).is F.TWN_XM_SPLIT 0 = true ∧ (primary 1 [] [(0, 3)]).resyncNext 0 3 = true ∧
    ((primary 1 [] [(0, 3)]).fedFlow 0).2.isSome = true ∧ (primary 0 [waitW] []).is F.TWN_XM_SPLIT 0 = false ∧
    (primary 0 [waitW] []).twn.waits.any (fun w => w.pairing == 0 && w.unit_ == none) = true := by decide +kernel

/-- The loading registers hold a wrapped key: FORMAT, TYPE and SLOT in their first word. -/
def loading (w : Nat) : State := (up.wrBoth F.CIP_KLOAD_DATA_DATA w 0)

theorem witness_KeyLoadsComplete :
    let b1 (n : Nat) := wrappedBytes (loading n).kloadData
    (0x6C394005 : Word).toNat / 65536 = 0x6C39 ∧ (0x6C394005 : Word).toNat % 8192 = 5 ∧ (0x6C394005 : Word).toNat / 16384 % 4 = 1 ∧
      (0x6C398005 : Word).toNat / 16384 % 4 = 2 ∧ (0x6C39C005 : Word).toNat / 16384 % 4 = 3 ∧ up.is F.CIP_KLOAD_STAT_BUSY = false ∧
      ({ up with crw := { up.crw with vols := [{ vol0 with slot := 5 }] } } : State).slotInUse 5 = true ∧ up.slotInUse 5 = false ∧
      b1 0x00050102 0 1 ≠ 1 ∧ b1 0x00050001 1 1 = 0 ∧ 2 < b1 0x00050301 1 1 ∧ b1 0x00060101 2 2 ≠ 5 ∧
      b1 0x00050101 0 1 = 1 ∧ b1 0x00050101 1 1 = 1 ∧ b1 0x00050201 1 1 = 2 ∧ b1 0x00050201 2 2 = 5 ∧
      (up.wr F.CIP_SLOT_STATE 2 5).slotState 5 = 2 ∧ (up.wr F.CIP_SLOT_STATE 3 5).slotState 5 = 3 ∧
      (up.wr F.CIP_SLOT_STATE 1 5).slotState 5 = 1 ∧
      ((up.wr F.CIP_SLOT_STATE 1 5).beginUnwrap 5).cip.unwraps.any (fun u => u.1 == 5 && u.2.isSome) = false ∧
      (5, none) ∈ ({ up with cip := { up.cip with unwraps := [(5, none)] } } : State).cip.unwraps := by decide +kernel

/-- Slot 5 unwraps under key encryption key 0, which the cox has been asked to clear or not; slot 6 unwraps under it too or does not. -/
def unwrapping (clears : List Nat) (two : Bool) : State :=
  { up with
    cip := { up.cip with unwraps := if two then [(5, none), (6, none)] else [(5, none)] }
    cox := { up.cox with keks := [(0, 77)], kekClears := clears } }
def unwrapped (clears : List Nat) (two : Bool) : State :=
  ((unwrapping clears two).endUnwrap 5 ((unwrapping clears two).cox.keks.any (·.1 == (unwrapping clears two).rd F.CIP_SLOT_KEKID 5)) true 9)
    |>.afterUnwrap 5

theorem witness_KeyLoadsComplete_unwrap :
    (unwrapping [0] true).rd F.CIP_SLOT_KEKID 5 = 0 ∧ 0 ∉ (unwrapped [] false).cox.kekClears ∧
      0 ∈ (unwrapped [0] true).cox.kekClears ∧ (unwrapped [0] true).kekRuns 0 = true ∧
      0 ∈ (unwrapped [0] false).cox.kekClears ∧ (unwrapped [0] false).kekRuns 0 = false := by decide +kernel

/-- Bay 31, and bay 0, in a state of R378 with power-good or without; a drive is seated where `seated` says so. -/
def bayIn (bay st pg : Nat) (seated : Bool) : State :=
  let s := ((up.wr F.BAY_PSTAT_STATE st bay).wr F.BAY_PSTAT_PG pg bay).wr F.BAY_PSTAT_OWNER 1 bay
  s.modBay bay fun b => { b with seated := seated }

theorem witness_BayPowerCommandsComplete_states :
    31 < 32 ∧ (bayIn 31 bRamp 0 true).bayState 31 = bRamp ∧ (bayIn 31 bQualify 0 true).timerRuns 31 = false ∧
    (bayIn 31 bQualify 0 true).is F.BAY_PSTAT_PG 31 = false ∧ (bayIn 31 bQualify 0 true).bayState 31 = bQualify ∧
    ((bayIn 31 bQualify 0 true).wr F.BAY_PSTAT_PG 1 31).bayState 31 = bQualify ∧
    ((bayIn 31 bOn 1 true).wr F.BAY_PSTAT_TIMER 1 31).timerRuns 31 = true ∧ (bayIn 31 bOn 1 true).is F.BAY_PSTAT_PG 31 = true ∧
    (bayIn 0 bStandby 0 true).bayState 0 ∈ [bQualify, bOn, bChangeover, bStopping, bStandby] ∧
    (bayIn 0 bRamp 0 true).bayState 0 ∈ [bRamp, bQualify, bOn, bChangeover, bStopping, bStandby] ∧
    (bayIn 0 bRetry 0 true).bayState 0 = bRetry ∧ (bayIn 0 bOn 1 true).bayState 0 = bOn ∧ (bayIn 0 bCycle 0 true).bayState 0 = bCycle ∧
    (bayIn 0 bChangeover 0 true).bayState 0 = bChangeover ∧
    ({ up with bay := { up.bay with releasing := true } } : State).bay.releasing = true := by decide +kernel

theorem witness_BayPowerCommandsComplete_feeds :
    let c := bayIn 31 bCooling 0 true
    let r := { c with bay := { c.bay with released := true } }
    let s := r.wrBoth F.BAY_PCFG_EN 1 31
    let u := s.measureFeeds 1200 1200
    let d := s.wrBoth F.BAY_PCFG_TSRC 1 31
    let o := bayIn 31 bOn 1 true
    u.feedFor 31 = some 0 ∧ u.bayState 31 = bCooling ∧ (u.bayAt 31).seated = true ∧ u.bay.released = true ∧ u.boot.hold = 0 ∧ u.stage ≠ 0xE ∧
      (u.bayAt 31).slot ≤ 0 ∧ u.ef F.BAY_PCFG_EN 31 = 1 ∧ (u.wr F.BAY_SLTCTL_PCC 0 31).rd F.BAY_SLTCTL_PCC 31 = 0 ∧
      u.fetAtLeast 31 0 (u.ef F.BAY_RETRY_RESTART_C) = false ∧ d.ef F.BAY_PCFG_TSRC 31 ≠ 0 ∧ d.is F.BAY_THERM_DIODE_BAD 31 = false ∧
      (-41 : Int) < -40 ∧ (200 : Int) < 201 ∧ (-40 : Int) ≤ -40 ∧ (200 : Int) ≤ 200 ∧ (o.measureFeeds 0 1200).bayState 31 = bOn ∧
      (o.measureFeeds 0 1200).goodNow ((o.measureFeeds 0 1200).rd F.BAY_PSTAT_FEED 31) = false ∧
      (o.measureFeeds 0 1200).goodNow (1 - (o.measureFeeds 0 1200).rd F.BAY_PSTAT_FEED 31) = true ∧
      (o.wr F.BAY_PSTAT_FEED 1 31).rd F.BAY_PSTAT_FEED 31 ≠ o.ef F.BAY_PCFG_PRIO 31 := by decide +kernel

theorem witness_BaySeatCommandsComplete :
    let o := bayIn 31 bOn 1 true
    let t (n : Nat) : State := o.modBay 31 fun b => { b with trains := n, perst := true }
    up.stage ≠ 0 ∧ ((bayIn 0 bEmpty 0 false).bayAt 0).seated = false ∧ (bayIn 0 bEmpty 0 false).bayState 0 = bEmpty ∧
      (bayIn 0 bSeating 0 false).bayState 0 = bSeating ∧ (o.bayAt 31).seated = true ∧ o.is F.BAY_PSTAT_PG 31 = true ∧
      ((t 0).bayAt 31).perst = true ∧ o.bay.defer = false ∧ o.bayUp 31 = false ∧ ((t 1).bayAt 31).trains = 1 ∧ ((t 2).bayAt 31).trains = 2 ∧
      ((t 0).bayAt 31).trains < 3 ∧ o.ready = true ∧ (inStage 5).stage = 5 ∧ o.is F.CLK_STATUS_WATCH = false ∧
      o.gateForced (32 + 31) = false ∧ 1 ≤ 6 ∧ (o.wr F.BAY_LINKST_DLLLA 1 31).bayUp 31 = true ∧
      ((o.wr F.BAY_LINKST_DLLLA 1 31).bayAt 31).ready = false ∧ (bayIn 31 bStopping 1 true).bayState 31 = bStopping ∧
      (let a (n st : Nat) : State := ((bayIn 31 st 1 true).wrBoth F.BAY_CFG_BTNACT n)
       let u (n st : Nat) : State := ((a n st).wr F.BAY_SLTCTL_ABP 1 31).bayEventIf 31 4 F.BAY_SLTCTL_ABPE
       (u 0 bOn).ef F.BAY_CFG_BTNACT ≠ 1 ∧ (u 1 bOn).ef F.BAY_CFG_BTNACT = 1 ∧ (u 1 bOn).bayState 31 = bOn ∧ (u 1 bOff).bayState 31 = bOff ∧
         (u 1 bLatched).bayState 31 = bLatched) ∧
      ((o.modBay 31 fun b => { b with buttonBlink := true }).bayAt 31).buttonBlink = true ∧ o.bayState 31 = bOn := by decide +kernel

/-- Ring `r` is enabled and runs, of a kind, with PI and CI. -/
def ringed (r kind pi ci lost : Nat) : State :=
  let s := ((up.wr F.WRG_RING_EN 1 r).wr F.WRG_IDX_STATE 1 r).wr F.WRG_RING_KIND kind r
  ((s.wr F.WRG_IDX_PI pi r).wr F.WRG_IDX_CI ci r).wr F.WRG_IDX_LOST lost r

theorem witness_RingIndexWritesComplete :
    let a := ringed 0 0 4 2 0
    let b := ringed 1023 2 4 2 0
    let l := ringed 0 2 4 2 5
    1008 ≤ 1008 ∧ 1023 < 1024 ∧ up.ready = true ∧ (inStage 5).ready = false ∧ a.regs.wf = true ∧ a.eff.wf = true ∧ a.ready = true ∧
      (coxRing 0 = true → false = true) ∧ (coxRing 1023 = true → true = true) ∧ 2 ^ 32 - 1 < 2 ^ 32 ∧ a.rd F.WRG_RING_KIND 0 = inbound ∧
      a.ringRuns 0 = true ∧ 2 ^ 31 ≤ State.serial (a.rd F.WRG_IDX_PI 0) 3 ∧
      a.ringSize 0 < State.serial (a.rd F.WRG_IDX_CI 0) (2 + a.ringSize 0 + 1) ∧
      State.serial (a.rd F.WRG_IDX_PI 0) (2 + a.ringSize 0) < 2 ^ 31 ∧ State.serial (a.rd F.WRG_IDX_CI 0) (2 + a.ringSize 0) ≤ a.ringSize 0 ∧
      b.rd F.WRG_RING_KIND 1023 ≠ inbound ∧ b.ringRuns 1023 = true ∧
      State.serial (b.rd F.WRG_IDX_CI 1023) (b.rd F.WRG_IDX_PI 1023) < State.serial (b.rd F.WRG_IDX_CI 1023) 5 ∧
      State.serial (b.rd F.WRG_IDX_CI 1023) 4 ≤ State.serial (b.rd F.WRG_IDX_CI 1023) (b.rd F.WRG_IDX_PI 1023) ∧
      b.rd F.WRG_IDX_LOST 1023 = 0 ∧ l.rd F.WRG_RING_KIND 0 = outbound ∧ l.rd F.WRG_IDX_LOST 0 ≠ 0 ∧
      0 < (l.wr F.WRG_IDX_CI 4 0).ringRoom 0 ∧ up.is F.WRG_RING_EN 5 = false ∧ (0x80000000 : Word).getLsbD 31 = true := by decide +kernel

/-- Ring 0 has taken in one entry. -/
def tookIn (e : Entry) : State :=
  let s := ringed 0 0 4 2 0
  { s with wrg := { s.wrg with taken := [⟨0, 3, e⟩] } }
def entryOf (op count code dlen item daddr : Nat) (inline : List Nat) : Entry := ⟨op, count, code, dlen, item, daddr, inline⟩

theorem witness_RingEntriesComplete :
    (let s := (((ringed 0 0 4 2 0).wr F.WRG_RING_CQ 1 0).wr F.WRG_RING_EN 1 1).wr F.WRG_IDX_STATE 1 1
     ((s.wr F.WRG_RING_KIND 1 1).newRound false).arbNext false = some 0) ∧
    (tookIn entry).front 0 0 = some ⟨0, 3, entry⟩ ∧ (∀ b ∈ [0, 0], b = 0) ∧ ¬ ((entryOf 0 1 0 0 0 0 []).count = 0) ∧
    (tookIn (entryOf 1 1 0 0 0x10000 0 [])).front 0 1 = some ⟨0, 3, entryOf 1 1 0 0 0x10000 0 []⟩ ∧
    (tookIn (entryOf 1 2 0 0 0xFFFFFC 0 [])).front 0 1 = some ⟨0, 3, entryOf 1 2 0 0 0xFFFFFC 0 []⟩ ∧ 0xFFFFFC < 2 ^ 24 ∧ 0xFFFFFC % 4 = 0 ∧
    up.accessGated 0xFFFFFC = false ∧ up.accessGated 0x1000000 = false ∧ up.accessGated 0x10000 = false ∧
    (let e := entryOf 2 0 0 0 0x200000 (0xFFFFFFFF00000005) []
     let s := tookIn e
     let u := { s with wrg := { s.wrg with taken := s.wrg.taken.filter fun (x : Taken) => !(x.ring == 0 && x.idx == 3) } }
     let w := u.accessWrite .ring e.item (e.daddr % 2 ^ 32) (e.daddr / 2 ^ 32 % 2 ^ 32)
     s.front 0 2 = some ⟨0, 3, e⟩ ∧ w.1.ready = true ∧ w.2 ≠ 2 ∧ w.1.is F.WRG_RING_EN 0 = true) ∧
    1023 < 1024 ∧ (ringed 0 0 4 2 0).is F.WRG_RING_EN 0 = true ∧ (0x7FFFFFFF : Word).getLsbD 31 = false ∧
    (let g (b : Bool) : State := { up with wrg := { up.wrg with gaps := [(0, b)] } }
     (g true).wrg.gaps.find? (·.1 == 0) = some (0, true) ∧ (g false).wrg.gaps.find? (·.1 == 0) = some (0, false)) := by decide +kernel

/-- An ANSWER with a code and a payload in ring 0, and its item of a function. -/
def answering (fn code dlen : Nat) (inline : List Nat) : State :=
  let s := tookIn (entryOf 3 0 code dlen 77 0 inline)
  { s with wrg := { s.wrg with items := [⟨77, fn, false, 4, 0, 0, 0⟩] } }
def answeredBy (fn code dlen : Nat) (inline : List Nat) (data : Option (List Nat)) : Bool :=
  (((answering fn code dlen inline).answered 0 fn code data).any fun e => noPayload e.1.entry == (dlen == 0 && inline.isEmpty))

theorem witness_AnswersComplete_plain :
    ([(0, 1), (0, 2), (1, 1), (1, 2), (6, 1), (6, 2), (6, 3), (7, 2), (8, 1), (8, 2), (8, 3), (9, 1), (9, 2), (9, 6), (10, 1), (10, 2), (11, 1),
      (11, 2)].all fun p => answeredBy p.1 p.2 0 [] none) = true ∧ noPayload (entryOf 3 0 1 0 77 0 []) = true ∧ 2 ≤ 2 ∧ 6 ≤ 6 := by
  decide +kernel

/-- A payload of 316 code lengths whose two codes are complete. -/
def tables : List Nat := List.replicate 226 8 ++ List.replicate 60 9 ++ List.replicate 2 4 ++ List.replicate 28 5

theorem witness_AnswersComplete_payloads :
    ((answering 2 1 0 [1, 0, 0, 0, 0, 0, 0, 0]).answered 0 2 1 none).any (fun e => e.1.entry.dlen == 0) = true ∧
    ((answering 3 1 0 [5, 0, 0, 0]).answered 0 3 1 none).any (fun e => answerPayload e.1.entry none == some [5, 0, 0, 0]) = true ∧
    [5, 0, 0, 0] ≠ [] ∧ (List.replicate 64 0).length ≤ 64 ∧ 64 % 4 = 0 ∧
    ((answering 4 1 4 []).answered 0 4 1 (some [9, 0, 0, 0])).any (fun e => answerPayload e.1.entry (some [9, 0, 0, 0]) == some [9, 0, 0, 0]) = true ∧
    4 ≤ 4 ∧ 132 ≤ 132 ∧ (4 - 4) % 8 = 0 ∧ (132 - 4) % 8 = 0 ∧ payloadLe [9, 0, 0, 0] 1 3 = 0 ∧
    (let bs := [7, 0, 0, 0, 0x9F, 5, 0, 0]
     ((answering 5 1 0 bs).answered 0 5 1 none).any (fun e => answerPayload e.1.entry none == some bs) = true ∧ 4 ≤ bs.length ∧
       bs.length ≤ 36 ∧ (bs.length - 4) % 4 = 0 ∧ payloadLe bs 1 3 = 0 ∧ payloadLe bs 0 1 ≠ 0 ∧ ∀ w ∈ paceWindows bs, w.1 < 1440 ∧ w.2 < 1440) ∧
    (let bs := List.replicate 64 3
     ((answering 7 1 64 []).answered 0 7 1 (some bs)).any (fun e => answerPayload e.1.entry (some bs) == some bs) = true ∧ bs.length = 64) ∧
    ((answering 8 4 316 []).answered 0 8 4 (some tables)).any (fun e => answerPayload e.1.entry (some tables) == some tables) = true ∧
    tables.length = 316 ∧ completeCode (tables.take 286) = true ∧ completeCode (tables.drop 286) = true := by decide +kernel

theorem witness_UnassignedVendorIsReplaced : up.ready = true ∧ (up.wr F.EPT_ID_VENDOR 0).rd F.EPT_ID_VENDOR = 0x0000 ∧
    (up.wr F.EPT_ID_VENDOR 0xFFFF).rd F.EPT_ID_VENDOR = 0xFFFF ∧ (up.wr F.EPT_ID_VENDOR 1).rd F.EPT_ID_VENDOR ≠ 0x0000 ∧
    (up.wr F.EPT_ID_VENDOR 1).rd F.EPT_ID_VENDOR ≠ 0xFFFF ∧ (up.wr F.EPT_ID_VENDOR 0xFFFE).rd F.EPT_ID_VENDOR ≠ 0xFFFF ∧
    (inStage 0xE).stage = 0xE := by decide +kernel

theorem witness_MsixEnableMovesPendingVectors :
    let a := up.wr F.EPT_STATUS_INTA 1
    let b := up.wr F.EPT_STATUS_MSIX 1
    a.regs.wf = true ∧ a.eff.wf = true ∧ a.msixOn = false ∧ a.ept.d3hot = false ∧ a.is F.EPT_STATUS_INTA = true ∧ b.regs.wf = true ∧
      b.eff.wf = true ∧ b.msixOn = true ∧ ({ a with ept := { a.ept with intaSent := true } } : State).ept.intaSent = true := by decide +kernel

theorem witness_EndpointCommandsComplete :
    let w := (up.wr F.EPT_ROM_WINDOW 1).wr F.EPT_ROM_OPTROM 0
    let o := (up.wr F.EPT_ROM_WINDOW 0).wr F.EPT_ROM_OPTROM 1
    let e (s : State) : State := { s with ept := { s.ept with dlActive := true, memSpace := true, romEnable := true } }
    (inStage 5).ready = false ∧ (inStage 5).stage ≠ 0xE ∧ up.ready = true ∧ 63 < 64 ∧ (e w).ready = true ∧ (e w).ept.dlActive = true ∧
      (e w).ept.d3hot = false ∧ (e w).ept.memSpace = true ∧ (e w).ept.romEnable = true ∧ (e w).romThere = true ∧ (e o).romThere = true ∧
      0xFFFFFF < 0x1000000 ∧ 0xFFFFF < 0x100000 ∧ (e w).is F.EPT_ROM_OPTROM = false ∧ 0x100000 ≤ 0x100000 ∧ (e o).is F.EPT_ROM_WINDOW = false ∧
      (e w).is F.EPT_ROM_WINDOW = true ∧ accessFits ((e w).rd F.EPT_WIN_PAGE_PAGE * 0x100000 + 0x100002 - 0x100000) 4 = false ∧
      accessFits ((e w).rd F.EPT_WIN_PAGE_PAGE * 0x100000 + 0x100004 - 0x100000) 4 = true ∧ 4 ≠ 8 ∧ (inStage 0xE).stage = 0xE ∧
      1020 = 16 * 63 + 12 ∧ 12 = 16 * 0 + 12 ∧ 3 % 2 = 1 ∧ 2 % 2 = 0 ∧
      (inStage 5).regs.wf = true ∧ (inStage 5).eff.wf = true ∧ (inStage 5).ept.dlActive = false ∧ (inStage 5).boot.perstLow = false ∧ (inStage 5).gateForced 9 = false ∧
      (inStage 5).is F.CLK_STATUS_WATCH = false ∧ (inStage 5).stage = 5 ∧
      ({ inStage 0xE with boot := { up.boot with refPassed := true } } : State).boot.refPassed = true := by decide +kernel

/-- The buffers of H15 are all in use. -/
def full15 : State := { up with hmp := { up.hmp with holds := [⟨15, (9, 9, 9), 10000000⟩] } }

theorem witness_cox_has_buffers : up.canHold 15 askOwner 1 = true ∧ full15.canHold 15 askOwner 1 = false ∧
    full15.ev.coxRuns = true := by decide +kernel

/-- A challenge of endpoint 9 is held, slot 0 holds the digest 7, and `sig` answers it. -/
def signing : State :=
  { up with
    cox := { up.cox with challenges := [(5, 9, 0)] }
    fuses := { up.fuses with slots := [7, 0, 8, 0] } }

theorem witness_KeySlotsFillAndRevoke :
    let one := { signing with fuses := { signing.fuses with revoked := [false, false, true, false] } }
    signing.ev.coxRuns = true ∧ signing.canHold 15 askOwner 1 = true ∧ signing.signedOk sig = true ∧ 3 ≤ 3 ∧ signing.fuses.slots.getD 3 0 = 0 ∧ signing.fuses.slots.getD 0 0 ≠ 0 ∧
      one.signedOk sig = true ∧ one.liveSlots = [0] ∧ signing.activeCopy.map (fun c => Image.keyslot signing.boot.nor (signing.copyBase c)) ≠ some 2 ∧
      signing.liveSlots ≠ [2] ∧
      ((signing.wr F.BOOT_STATUS_ACTIVE 1).activeCopy.map fun c => Image.keyslot signing.boot.nor (signing.copyBase c)).isSome = true := by
  decide +kernel

theorem witness_VendorCommandsComplete :
    up.ev.coxRuns = true ∧ 256 < 257 ∧ 1 ≤ 1 ∧ 256 ≤ 256 ∧ up.signedOk sig = false ∧ signing.signedOk sig = true ∧ 3 ≤ 3 ∧ 2 ^ 96 - 1 < 2 ^ 96 ∧
    2 ^ 256 - 1 < 2 ^ 256 ∧ ({ signing with fuses := { signing.fuses with ktk := some 1 } } : State).fuses.ktk.isSome = true ∧
    signing.fuses.ktk = none ∧ signing.cox.roll = none ∧
    ({ signing with cox := { signing.cox with roll := some ⟨1, [], none, false⟩ } } : State).signedOk sig = true ∧
    ({ up with cox := { up.cox with sanitizing := [(31, 5)] } } : State).cox.sanitizing.find? (·.1 == 31) = some (31, 5) ∧
    1 ∉ signing.cox.kekClears ∧ signing.kekRuns 1 = false ∧ (unwrapping [] false).kekRuns 0 = true ∧ signing.canHold 15 askOwner 1 = true := by decide +kernel

theorem witness_ManagementCommandsComplete :
    up.ev.coxRuns = true ∧ State.reset.ev.coxRuns = false ∧ 4 < 5 ∧ served.ev.coxRuns = true ∧ (served.assocOf 1).isSome = true ∧
    served.assocOf 2 = none ∧ 0 ≠ 1 ∧ 4 ≠ 3 ∧ 0x05 ≠ 0x06 ∧ 0x05 ≠ 0x02 ∧ 0x05 ≠ 0x0A ∧
    ((List.range 4096).any fun id => (effecter id).isSome) = true ∧ (up.wr F.COX_OOB_CFG_EN 1).is F.COX_OOB_CFG_EN = true := by decide +kernel

/-- An update agent holds the update in a state of COX_UPD. -/
def updating (n : Nat) : State :=
  let s := up.wr F.COX_UPD_STATE n
  { s with cox := { s.cox with agent := some 5, stagedOk := true } }
def rolling (back : Bool) (n : Nat) : State :=
  { updating n with cox := { (updating n).cox with roll := some ⟨1, [], some 4, back⟩ } }

/-- The inactive copy's header has no sections. -/
def headed (s : State) : State :=
  let b := s.copyBase s.inactiveCopy
  { s with boot := { s.boot with nor := [(b + 0x14, 0), (b + 0x15, 0)] } }

theorem witness_UpdateCommandsComplete :
    up.cox.agent = none ∧ (updating 1).ev.coxRuns = true ∧ (updating 1).canHold 15 askOwner 1 = true ∧ (updating 1).cox.agent = some 5 ∧ 6 ≠ 5 ∧
    (up.activeSequence + 1) % 2 ^ 32 < 2 ^ 32 ∧ 0 ≤ (updating 1).longestImage ∧ (updating 1).longestImage < (updating 1).longestImage + 1 ∧
    (updating 1).rd F.COX_UPD_STATE = 1 ∧ (updating 2).rd F.COX_UPD_STATE = 2 ∧
    Image.check (updating 2).cox.staged 0 (updating 2).longestImage (updating 2).fuses facts ≠ 0 ∧ (updating 3).rd F.COX_UPD_STATE = 3 ∧
    (updating 3).cox.stagedOk = true ∧ (updating 4).rd F.COX_UPD_STATE = 4 ∧ (updating 4).ready = true ∧
    (updating 4).rd F.HMP_PFAIL_STATE = 0 ∧ (updating 4).seriousFault = false ∧ (updating 4).spares ≠ [] ∧ (headed (updating 4)).ucField (headed (updating 4)).inactiveCopy 0 4 ≤ (headed (updating 4)).cox.ucVersion ∧
    (updating 4).rd F.TWN_STATUS_STATE ≠ 2 ∧ 3 ∈ [3, 4] ∧ (rolling false 5).cox.roll = some ⟨1, [], some 4, false⟩ ∧
    (rolling false 6).rd F.COX_UPD_STATE = 6 := by decide +kernel

/-- No buffer of H15 is free for the image. -/
def updatingFull : State := { updating 1 with hmp := { up.hmp with holds := [⟨15, (9, 9, 9), 10000000⟩] } }

theorem witness_UpdateCommandsComplete_stages :
    ((updating 1).dropStage.takeBuffers 15 stageOwner (buffersFor 40)).2 = true ∧
    (updatingFull.dropStage.takeBuffers 15 stageOwner (buffersFor 40)).2 = false := by decide +kernel

/-- A small image of length 16384 signed with the key of slot 0: its sequence is 1, and it has no configuration entry. -/
def small : Cells :=
  let head := [0x4E, 0x4C, 0x50, 0x4C, 2, 0, 0x42, 0, 1, 0, 0, 0, 0, 0, 0, 0, 0, 0x40, 0, 0, 3, 0, 0, 0]
  let secOf (k off : Nat) := [k, 0, 0, 0, 0, 0, 0, 0, 0, off, 0, 0, 16] ++ List.replicate 19 0
  let bytesAt (a : Nat) (bs : List Nat) : Cells := bs.mapIdx fun i b => (a + i, b)
  bytesAt 0 head ++ bytesAt 0x2000 (secOf 1 0x30 ++ secOf 2 0x31 ++ secOf 3 0x32) ++ bytesAt 0x3000 (List.replicate 16 0)

def staged (n : Nat) : State :=
  let s := updating n
  { s with
    cox := { s.cox with staged := small }
    fuses := { s.fuses with slots := [facts.pubkeyDigest, 0, 0, 0], revoked := [false, false, false, false] } }

theorem witness_UpdateCommandsComplete_verifies :
    (staged 2).rd F.COX_UPD_STATE = 2 ∧ Image.check (staged 2).cox.staged 0 (staged 2).longestImage (staged 2).fuses facts = 0 ∧
      Image.sequence (staged 2).cox.staged 0 = (staged 2).activeSequence + 1 := by decide +kernel

theorem witness_UpdateCommandsComplete_applies :
    let s := staged 3
    let u := s.programStaged s.inactiveCopy
    s.rd F.COX_UPD_STATE = 3 ∧ s.cox.stagedOk = true ∧ Image.check u.boot.nor (u.copyBase s.inactiveCopy) u.longestImage u.fuses facts = 0 := by
  decide +kernel

theorem witness_SpdmCommandsComplete : up.ev.coxRuns = true ∧ 1 ≠ 0 ∧ 1 ≤ 1 ∧ 7 ≤ 7 ∧ 7 < 8 ∧ 8 ≠ 0xFF ∧ 7 < 0xFE ∧ 0xFE ≠ 0xFF := by
  decide +kernel

theorem witness_EventAndTestPortCommandsComplete :
    let w := up.ef F.COX_THERM_WARN
    let m (at_ now : Nat) : State := { up with
      cox := { up.cox with warned := some at_ }
      now := now }
    49 < 50 ∧ (up.ef F.COX_THERM_TRIP : Int) ≤ up.ef F.COX_THERM_TRIP ∧ up.ev.coxRuns = true ∧
      (∀ t ∈ [(w : Int) - 1], t < (up.ef F.COX_THERM_WARN : Int)) ∧
      ((m 5 60000000004).cox.warned = some 5 ∧ (m 5 60000000004).now < 5 + 60000000000) ∧
      (∃ t ∈ [(w : Int)], (up.ef F.COX_THERM_WARN : Int) ≤ t) ∧ up.cox.warned = none ∧
      (m 5 60000000005).cox.warned = some 5 ∧ 5 + 60000000000 ≤ (m 5 60000000005).now ∧ up.ev.hand = [] ∧
      ({ up with boot := { up.boot with rstLow := true } } : State).boot.rstLow = true ∧ up.boot.rstLow = false := by decide +kernel

theorem witness_EventAndTestPortCommandsComplete_hand : ((up.raise 4 0x0000).raise 4 0x0000).ev.hand ≠ [] := by decide +kernel

/-- Engine 95 is a spare; engine 0 is in service. -/
theorem witness_SpareAndLifeCommandsComplete :
    let u (n : Nat) : State := up.wr F.SPR_LIFE_USED n
    (up.spares.any fun e => decide (e < 96) && up.isSpare e) = true ∧ ((List.range 96).any fun e => up.inService e &&
        (up.engineFails e).cox.roll.isNone) = true ∧ up.cox.roll = none ∧
      (51 < 52 ∧ 13 < 14 ∧ up.phaseFaulty 51 = false) ∧ 255 < 256 ∧ up.fuses.hbmRepairs.length < 64 ∧
      up.hamperAt 0 = none ∧ (up.hamperAt (up.hamperStart 0)).isSome = true ∧
      (let t := 50
       (u 9000).rd F.SPR_LIFE_USED ≤ 9000 ∧
         9000 < min 10000 ((u 9000).rd F.SPR_LIFE_USED + ((u 9000).spr.lifeRest + 60000000000000 * 10000 * 50 * 10 ^ 12 / (life50 t * yearMs)) / 10 ^ 12)) ∧
      9000 < (u 9001).rd F.SPR_LIFE_USED ∧
      min 10000 ((u 0).rd F.SPR_LIFE_USED + ((u 0).spr.lifeRest + 0 * 10000 * 50 * 10 ^ 12 / (life50 50 * yearMs)) / 10 ^ 12) ≤ 9000 := by
  decide +kernel

/-! Single steps; the expected results are taken from the rules and tables of the spec by hand. -/

/-- R44: strap 6 selects 50 ms. -/
theorem test_cold_start_settle_of_strap_six :
    (after (exec (.coldStart ⟨6, true, false⟩ true 64 none) State.reset)).rd F.BOOT_STATUS_SETTLE_MS = 50 := by decide +kernel

/-- R9: an access that is not naturally aligned gets an error response, and changes nothing else. -/
theorem test_misaligned_write_is_refused :
    (after (exec (.registerWrite .cox 0x200002 4 9) up)).out = [.accessRefused .cox 0x200002] := by decide +kernel

/-- R10: a write where there is no register is ignored. -/
theorem test_write_at_a_hole_is_ignored : (after (exec (.registerWrite .cox 0xFFFFFC 4 9) up)).regs = up.regs := by decide +kernel

/-- R60, R61: in recovery, STATUS gives the status 0x0; a write across the boundary of the copies is refused with 0x2. -/
theorem test_recovery_write_across_the_copies_is_refused :
    ((after (exec (.recoveryWrite (some (32 * 2 ^ 20 - 1, [1, 2]))) { inStage 0xE with boot := { (inStage 0xE).boot with norCap := 64 } })).out).contains
      (.recovery 0x2 []) = true := by decide +kernel

/-- R529: IDCODE reads 0x14E320F5. -/
theorem test_idcode : (after (exec .idcode up)).out = [.jtag 0x14E320F5] := by decide +kernel

/-- R456: the fifth challenge replaces the oldest of four. -/
theorem test_fifth_challenge_replaces_the_oldest :
    let four : State := { up with cox := { up.cox with challenges := [(1, 9, 0), (2, 9, 0), (3, 9, 0), (4, 9, 0)] } }
    let t := after (exec (.getChallenge 9) four)
    t.cox.challenges.length = 4 ∧ (t.cox.challenges.take 3) = [(2, 9, 0), (3, 9, 0), (4, 9, 0)] := by decide +kernel

/-- R458: a filled slot is not filled again. -/
theorem test_filled_slot_is_kept : (after (exec (.slotFill sig 0 99) signing)).fuses.slots = [7, 0, 8, 0] := by decide +kernel

/-- R458: an empty slot takes the digest. -/
theorem test_empty_slot_is_filled : (after (exec (.slotFill sig 1 99) signing)).fuses.slots = [7, 99, 8, 0] := by decide +kernel

/-- R344: a frame of 63 B, and one whose FCS is wrong, are counted as errors; the sum is 2. -/
theorem test_bad_frames_are_counted :
    let s := after (exec (.frameReceive 0 63 true 5 none .other) wired)
    (after (exec (.frameReceive 0 64 false 5 none .other) s)).rd F.SWC_DROP_ERR 0 = 2 := by decide +kernel

/-- R424: a Vendor ID of 0xFFFF reads as 0x1F7C and the Device ID as 0x0032. -/
theorem test_unassigned_vendor_reads_as_quarel :
    (after (exec (.configurationRequest (.read 0)) (up.wr F.EPT_ID_VENDOR 0xFFFF))).out = [.cfgData 0 0x00321F7C] := by decide +kernel

/-- R402, R400: a completion ring's CI may reach PI and not pass it. -/
theorem test_ci_stops_at_pi :
    let s := ringed 5 1 4 2 0
    (after (exec (.ciWrite false 5 4) s)).rd F.WRG_IDX_CI 5 = 4 ∧ (after (exec (.ciWrite false 5 5) s)).rd F.WRG_IDX_CI 5 = 2 := by decide +kernel

/-- R461: a second agent is turned away while one holds the update. -/
theorem test_second_update_agent_waits : (after (exec (.requestUpdate 6) (updating 1))).cox.agent = some 5 := by decide +kernel

/-- The table gives no row any bits: no word spells a command. -/
theorem test_no_word_spells_a_command (nbits w : Nat) : decodeTableWord nbits w = none ∧ State.withFetchWord up nbits w = up := ⟨rfl, rfl⟩

/-- A step takes the command in front and leaves the one behind it. -/
theorem test_step_takes_the_front : (after (step { up with pending := [.idcode, .bypass] })).pending = [.bypass] := by decide +kernel

/-- R292, RFC 1951: under the fixed codes literal 0 is 00110000 and literal 144 is 110010000; length 258 is symbol 285 and 257 is 284. -/
theorem test_fixed_codes :
    codeOf fixedLens 0 = [false, false, true, true, false, false, false, false] ∧
    codeOf fixedLens 144 = [true, true, false, false, true, false, false, false, false] ∧
    (Tok.copy 258 1).symbol = 285 ∧ (Tok.copy 257 1).symbol = 284 ∧ (Tok.copy 3 24577).distSymbol = some 29 := by decide +kernel

/-- R292, R307: what the encoder writes under the fixed codes the decoder reads: two literals and a match of 3 bytes at distance 2. -/
theorem test_fixed_block_reads_back :
    let bits := deflate none [.lit 7, .lit 9, .copy 3 2]
    inflate ((bits.length + 7) / 8) 5 5 (bitsValue bits) = some [7, 9, 7, 9, 7] := by decide +kernel

/-- R114: a TSECR just ahead of now makes the sample negative, and SRTT falls. -/
theorem test_eighth_is_signed : eighth (2 ^ 32 - 8) 0 = -1 ∧ eighth 8 0 = 1 := by decide +kernel

/-- R28: at an item's fallback point the elapsed time is that point, and the item is gone. -/
theorem test_fallback_point_passes_time :
    let s : State := { up with wrg := { up.wrg with items := [⟨77, 10, false, 4, 0, 0, 5000⟩] } }
    (after (exec (.fallbackPoint 77) s)).now = 5000 ∧ (after (exec (.fallbackPoint 77) s)).wrg.items = [] ∧
      (after (exec (.fallbackPoint 78) s)).wrg.items = s.wrg.items := by decide +kernel

end Sys2Proof.Tests
end

/-! ### What every command and every step keeps

Each command's own lemma of `Laws/Kept…` is cited here once, so that an invariant of the machine is read off `step_kept0`. -/

namespace Sys2Proof.Machine

/-- The commands that fill or revoke a key slot, or write the transport key (R458, R459). -/
def blowsKeyFuses : Instr → Bool
  | .slotFill .. | .slotRevoke .. | .ktkProvision .. => true
  | _ => false

variable {r s : State} {c : Instr}

/-- A command that blows no key fuse keeps the machine, the key fuses included: one case per command. -/
theorem exec_kept (hc : blowsKeyFuses c = false) (h : Kept r s) : KeptNext r (exec c s) := by
  cases c with
  | registerWrite => exact execRegisterWrite_kept h
  | rcRead => exact execRcRead_kept h
  | coldStart => exact execColdStart_kept h
  | settleDelayEnd => exact execSettleDelayEnd_kept h
  | referenceCheck => exact execReferenceCheck_kept h
  | referenceCheckRetry => exact execReferenceCheckRetry_kept h
  | copyCheckComplete => exact execCopyCheckComplete_kept h
  | imageApply => exact execImageApply_kept h
  | linkTrainingEnd => exact execLinkTrainingEnd_kept h
  | pwrFailBeforeReady => exact execPwrFailBeforeReady_kept h
  | startResume => exact execStartResume_kept h
  | recoveryStatus => exact execRecoveryStatus_kept h
  | recoveryErase => exact execRecoveryErase_kept h
  | recoveryWrite => exact execRecoveryWrite_kept h
  | recoveryCheck => exact execRecoveryCheck_kept h
  | recoveryRestart => exact execRecoveryRestart_kept h
  | sysRstN => exact execSysRstN_kept h
  | sysResetSystem => exact execSysResetSystem_kept h
  | sysResetCox => exact execSysResetCox_kept h
  | coxWatchdogExpiry => exact execCoxWatchdogExpiry_kept h
  | endpointReset => exact execEndpointReset_kept h
  | fallbackPoint => exact execFallbackPoint_kept h
  | endpointLinkDown => exact execEndpointLinkDown_kept h
  | endpointLinkUp => exact execEndpointLinkUp_kept h
  | paceControlTick => exact execPaceControlTick_kept h
  | paceThermalStep => exact execPaceThermalStep_kept h
  | referenceStopped => exact execReferenceStopped_kept h
  | grossWindow => exact execGrossWindow_kept h
  | ppmWindow => exact execPpmWindow_kept h
  | referenceReturnGood => exact execReferenceReturnGood_kept h
  | holdoverExpiry => exact execHoldoverExpiry_kept h
  | watchModeRestart => exact execWatchModeRestart_kept h
  | clkMuxGlitchFreeSwitch => exact execClkMuxGlitchFreeSwitch_kept h
  | clkMuxHardCut => exact execClkMuxHardCut_kept h
  | muxSwitchComplete => exact execMuxSwitchComplete_kept h
  | muxHangBreak => exact execMuxHangBreak_kept h
  | pllRelock => exact execPllRelock_kept h
  | gateIdleClose => exact execGateIdleClose_kept h
  | gateReopen => exact execGateReopen_kept h
  | clkGateForce => exact execClkGateForce_kept h
  | forcedGateTimeout => exact execForcedGateTimeout_kept h
  | frameReceive => exact execFrameReceive_kept h
  | msgReceive => exact execMsgReceive_kept h
  | fdataReceive => exact execFdataReceive_kept h
  | ackReceive => exact execAckReceive_kept h
  | nakSeq => exact execNakSeq_kept h
  | nakGen => exact execNakGen_kept h
  | nakPending => exact execNakPending_kept h
  | nakRefused => exact execNakRefused_kept h
  | nakShelf => exact execNakShelf_kept h
  | nakKeyfull => exact execNakKeyfull_kept h
  | nakChainfull => exact execNakChainfull_kept h
  | keyreg => exact execKeyreg_kept h
  | keyrevoke => exact execKeyrevoke_kept h
  | chainpost => exact execChainpost_kept h
  | chaincancel => exact execChaincancel_kept h
  | ackDelayExpiry => exact execAckDelayExpiry_kept h
  | retransmissionTimeout => exact execRetransmissionTimeout_kept h
  | flowIdleDrop => exact execFlowIdleDrop_kept h
  | recordRestore => exact execRecordRestore_kept h
  | reachKeyRelease => exact execReachKeyRelease_kept h
  | connect => exact execConnect_kept h
  | propertySet => exact execPropertySet_kept h
  | propertyGet => exact execPropertyGet_kept h
  | disconnect => exact execDisconnect_kept h
  | flush => exact execFlush_kept h
  | write => exact execWrite_kept h
  | read => exact execRead_kept h
  | compare => exact execCompare_kept h
  | writeZeroes => exact execWriteZeroes_kept h
  | datasetManagement => exact execDatasetManagement_kept h
  | reservationRegister => exact execReservationRegister_kept h
  | reservationReport => exact execReservationReport_kept h
  | reservationAcquire => exact execReservationAcquire_kept h
  | reservationRelease => exact execReservationRelease_kept h
  | getLogPage => exact execGetLogPage_kept h
  | identify => exact execIdentify_kept h
  | abort => exact execAbort_kept h
  | setFeatures => exact execSetFeatures_kept h
  | getFeatures => exact execGetFeatures_kept h
  | asynchronousEventRequest => exact execAsynchronousEventRequest_kept h
  | keepAlive => exact execKeepAlive_kept h
  | contextAssign => exact execContextAssign_kept h
  | keepAliveExpiry => exact execKeepAliveExpiry_kept h
  | cutPoint => exact execCutPoint_kept h
  | commitPoint => exact execCommitPoint_kept h
  | turn => exact execTurn_kept h
  | turnMark => exact execTurnMark_kept h
  | powerFailDrain => exact execPowerFailDrain_kept h
  | drainMediaWritesEnd => exact execDrainMediaWritesEnd_kept h
  | drainFlushComplete => exact execDrainFlushComplete_kept h
  | drainCleanMarkComplete => exact execDrainCleanMarkComplete_kept h
  | pwrFailNRise => exact execPwrFailNRise_kept h
  | admissionResume => exact execAdmissionResume_kept h
  | plannedHandover => exact execPlannedHandover_kept h
  | hamperBufferGrant => exact execHamperBufferGrant_kept h
  | crewAssembly => exact execCrewAssembly_kept h
  | assemblyWaitExpiry => exact execAssemblyWaitExpiry_kept h
  | replayCleanMark => exact execReplayCleanMark_kept h
  | rowLockGrant => exact execRowLockGrant_kept h
  | driveCommandCompletion => exact execDriveCommandCompletion_kept h
  | holdExpiry => exact execHoldExpiry_kept h
  | journalBlockFlush => exact execJournalBlockFlush_kept h
  | journalBlockWritten => exact execJournalBlockWritten_kept h
  | segmentFree => exact execSegmentFree_kept h
  | mapPass => exact execMapPass_kept h
  | mapPassComplete => exact execMapPassComplete_kept h
  | gcRound => exact execGcRound_kept h
  | patrolRow => exact execPatrolRow_kept h
  | driveCommandTimeout => exact execDriveCommandTimeout_kept h
  | drivePathErrorWaitEnd => exact execDrivePathErrorWaitEnd_kept h
  | readHedge => exact execReadHedge_kept h
  | recoveryLadderStep => exact execRecoveryLadderStep_kept h
  | laggardCheck => exact execLaggardCheck_kept h
  | catchUpWrite => exact execCatchUpWrite_kept h
  | easyClear => exact execEasyClear_kept h
  | easyLimitExpiry => exact execEasyLimitExpiry_kept h
  | catchUpFullExpiry => exact execCatchUpFullExpiry_kept h
  | rebuildRow => exact execRebuildRow_kept h
  | twinLinkLockLoss => exact execTwinLinkLockLoss_kept h
  | twinDeadTimeout => exact execTwinDeadTimeout_kept h
  | takeoverDeferExpiry => exact execTakeoverDeferExpiry_kept h
  | acquireComplete => exact execAcquireComplete_kept h
  | heartbeatSend => exact execHeartbeatSend_kept h
  | heartbeat => exact execHeartbeat_kept h
  | block => exact execBlock_kept h
  | cmd => exact execCmd_kept h
  | cmdstate => exact execCmdstate_kept h
  | assoc => exact execAssoc_kept h
  | crew => exact execCrew_kept h
  | release => exact execRelease_kept h
  | handover => exact execHandover_kept h
  | fatal => exact execFatal_kept h
  | sync => exact execSync_kept h
  | twnCmdHandover => exact execTwnCmdHandover_kept h
  | twnCmdTakeover => exact execTwnCmdTakeover_kept h
  | twnCmdGiveback => exact execTwnCmdGiveback_kept h
  | announceRepeat => exact execAnnounceRepeat_kept h
  | mirroredWrite _ _ _ _ heat => exact execMirroredWrite_kept (a4 := heat) h
  | mirrorAck => exact execMirrorAck_kept h
  | resync => exact execResync_kept h
  | mirrorSplit => exact execMirrorSplit_kept h
  | streamIdleEnd => exact execStreamIdleEnd_kept h
  | load => exact execLoad_kept h
  | clear => exact execClear_kept h
  | prepare => exact execPrepare_kept h
  | unwrap => exact execUnwrap_kept h
  | linkStateChange => exact execLinkStateChange_kept h
  | portTransmit => exact execPortTransmit_kept h
  | residueTimeout => exact execResidueTimeout_kept h
  | bankReplace => exact execBankReplace_kept h
  | arpRequest => exact execArpRequest_kept h
  | neighbourSolicitation => exact execNeighbourSolicitation_kept h
  | gateIntervalEnd => exact execGateIntervalEnd_kept h
  | gateListChange => exact execGateListChange_kept h
  | gateListTakeover => exact execGateListTakeover_kept h
  | announce => exact execAnnounce_kept h
  | ptpSync => exact execPtpSync_kept h
  | followUp => exact execFollowUp_kept h
  | delayResp => exact execDelayResp_kept h
  | ptpSyncTimeout => exact execPtpSyncTimeout_kept h
  | presenceSample => exact execPresenceSample_kept h
  | driveSeated => exact execDriveSeated_kept h
  | driveLost => exact execDriveLost_kept h
  | bayRampStart => exact execBayRampStart_kept h
  | rampEnd => exact execRampEnd_kept h
  | rampTimeout => exact execRampTimeout_kept h
  | powerGoodAssert => exact execPowerGoodAssert_kept h
  | powerGoodWithdraw => exact execPowerGoodWithdraw_kept h
  | perstRelease => exact execPerstRelease_kept h
  | faultTimerExpiry => exact execFaultTimerExpiry_kept h
  | overcurrentTrip => exact execOvercurrentTrip_kept h
  | retryPeriodEnd => exact execRetryPeriodEnd_kept h
  | retryCountClear => exact execRetryCountClear_kept h
  | fetModelUpdate => exact execFetModelUpdate_kept h
  | diodeRead => exact execDiodeRead_kept h
  | changeover => exact execChangeover_kept h
  | changeoverBreakEnd => exact execChangeoverBreakEnd_kept h
  | feedReturn => exact execFeedReturn_kept h
  | linkTrainingTimeout => exact execLinkTrainingTimeout_kept h
  | driveReady => exact execDriveReady_kept h
  | bayLinkDown => exact execBayLinkDown_kept h
  | slotPowerOff => exact execSlotPowerOff_kept h
  | slotPowerOn => exact execSlotPowerOn_kept h
  | shutdownComplete => exact execShutdownComplete_kept h
  | attentionButtonPress => exact execAttentionButtonPress_kept h
  | buttonStop => exact execButtonStop_kept h
  | powerCycleEnd => exact execPowerCycleEnd_kept h
  | givebackGateRelease => exact execGivebackGateRelease_kept h
  | doorbell => exact execDoorbell_kept h
  | ciWrite => exact execCiWrite_kept h
  | entryFetch => exact execEntryFetch_kept h
  | nop => exact execNop_kept h
  | regRead => exact execRegRead_kept h
  | regWrite => exact execRegWrite_kept h
  | answerAdmit => exact execAnswerAdmit_kept h
  | answerRefuse => exact execAnswerRefuse_kept h
  | answerMatch => exact execAnswerMatch_kept h
  | answerMismatch => exact execAnswerMismatch_kept h
  | answerMapEntry => exact execAnswerMapEntry_kept h
  | answerVictims => exact execAnswerVictims_kept h
  | answerRebuildPlan => exact execAnswerRebuildPlan_kept h
  | answerPatrolWindows => exact execAnswerPatrolWindows_kept h
  | answerEasy => exact execAnswerEasy_kept h
  | answerKeep => exact execAnswerKeep_kept h
  | answerFail => exact execAnswerFail_kept h
  | answerKeyMaterial => exact execAnswerKeyMaterial_kept h
  | answerUnwrapRefuse => exact execAnswerUnwrapRefuse_kept h
  | answerStatic => exact execAnswerStatic_kept h
  | answerDynamicByRule => exact execAnswerDynamicByRule_kept h
  | answerDynamicAlways => exact execAnswerDynamicAlways_kept h
  | answerHostTables => exact execAnswerHostTables_kept h
  | answerTakeStep => exact execAnswerTakeStep_kept h
  | answerResume => exact execAnswerResume_kept h
  | answerClockKeep => exact execAnswerClockKeep_kept h
  | answerClockSwitch => exact execAnswerClockSwitch_kept h
  | answerTakeOver => exact execAnswerTakeOver_kept h
  | answerDecline => exact execAnswerDecline_kept h
  | ringEnable => exact execRingEnable_kept h
  | ringShutdown => exact execRingShutdown_kept h
  | coalesceExpiry => exact execCoalesceExpiry_kept h
  | configurationRequest => exact execConfigurationRequest_kept h
  | windowAccess => exact execWindowAccess_kept h
  | eptIrqPendClear => exact execEptIrqPendClear_kept h
  | msixEnableChange => exact execMsixEnableChange_kept h
  | msixMaskClear => exact execMsixMaskClear_kept h
  | interruptDisableChange => exact execInterruptDisableChange_kept h
  | d3hotEntry => exact execD3hotEntry_kept h
  | getChallenge => exact execGetChallenge_kept h
  | logRead => exact execLogRead_kept h
  | slotFill => cases hc
  | slotRevoke => cases hc
  | kekLoad => exact execKekLoad_kept h
  | kekClear => exact execKekClear_kept h
  | sanitize => exact execSanitize_kept h
  | sanitizeStatus => exact execSanitizeStatus_kept h
  | ktkProvision => cases hc
  | rollCancel => exact execRollCancel_kept h
  | sanitizePoll => exact execSanitizePoll_kept h
  | setEndpointId => exact execSetEndpointId_kept h
  | readNvmeMiDataStructure => exact execReadNvmeMiDataStructure_kept h
  | nvmSubsystemHealthStatusPoll => exact execNvmSubsystemHealthStatusPoll_kept h
  | controllerHealthStatusPoll => exact execControllerHealthStatusPoll_kept h
  | configurationGet => exact execConfigurationGet_kept h
  | configurationSet => exact execConfigurationSet_kept h
  | miTunneledAdminCommand => exact execMiTunneledAdminCommand_kept h
  | setNumericEffecterValue => exact execSetNumericEffecterValue_kept h
  | setEventReceiver => exact execSetEventReceiver_kept h
  | requestUpdate => exact execRequestUpdate_kept h
  | updateComponent => exact execUpdateComponent_kept h
  | transferComplete => exact execTransferComplete_kept h
  | verifyComplete => exact execVerifyComplete_kept h
  | applyComplete => exact execApplyComplete_kept h
  | activateFirmware => exact execActivateFirmware_kept h
  | engineSwapComplete => exact execEngineSwapComplete_kept h
  | probationEnd => exact execProbationEnd_kept h
  | getVersion => exact execGetVersion_kept h
  | getCapabilities => exact execGetCapabilities_kept h
  | negotiateAlgorithms => exact execNegotiateAlgorithms_kept h
  | getDigests => exact execGetDigests_kept h
  | getCertificate => exact execGetCertificate_kept h
  | challenge => exact execChallenge_kept h
  | getMeasurements => exact execGetMeasurements_kept h
  | dieTemperatureTrip => exact execDieTemperatureTrip_kept h
  | sensorRead => exact execSensorRead_kept h
  | evtFqDone => exact execEvtFqDone_kept h
  | handlingTimeout => exact execHandlingTimeout_kept h
  | pmuFreeze => exact execPmuFreeze_kept h
  | pmuClear => exact execPmuClear_kept h
  | engineWearCheck => exact execEngineWearCheck_kept h
  | spareSelfCheck => exact execSpareSelfCheck_kept h
  | engineFault => exact execEngineFault_kept h
  | phaseFault => exact execPhaseFault_kept h
  | sramSoftRepair => exact execSramSoftRepair_kept h
  | hbmRowRepair => exact execHbmRowRepair_kept h
  | lifeUpdate => exact execLifeUpdate_kept h
  | vin12Undervoltage => exact execVin12Undervoltage_kept h
  | vin12Overvoltage => exact execVin12Overvoltage_kept h
  | vin12Excursion => exact execVin12Excursion_kept h
  | idcode => exact execIdcode_kept h
  | bypass => exact execBypass_kept h
  | samplePreload => exact execSamplePreload_kept h
  | extest => exact execExtest_kept h
  | clamp => exact execClamp_kept h
  | twinLinkTrained => exact execTwinLinkTrained_kept h
  | bayLinkUp => exact execBayLinkUp_kept h
  | sysRstNRelease => exact execSysRstNRelease_kept h
  | perstNRelease => exact execPerstNRelease_kept h
  | faultTimerStart => exact execFaultTimerStart_kept h
  | faultTimerClear => exact execFaultTimerClear_kept h
  | attentionBlinkEnd => exact execAttentionBlinkEnd_kept h
  | echoRequest => exact execEchoRequest_kept h

/-- Every command keeps the machine, the three that blow key fuses only in the weak sense: what is blown stays blown. -/
theorem exec_kept0 (h : Kept r s) : KeptNext0 r (exec c s) := by
  cases hc : blowsKeyFuses c with
  | false => exact (exec_kept hc h).weak
  | true =>
    unfold blowsKeyFuses at hc
    split at hc
    · exact execSlotFill_kept h
    · exact execSlotRevoke_kept h
    · exact execKtkProvision_kept h
    · cases hc

/-- A step keeps the state whose queue has lost its front command. -/
theorem step_kept0 : KeptNext0 { s with pending := s.pending.tail } (step s) := by
  unfold step
  cases hp : s.pending with
  | nil => exact .next (by rw [List.tail_nil, ← hp]; exact (Kept.refl s).weak)
  | cons c rest => exact exec_kept0 (.refl _)

end Sys2Proof.Machine

/-! ### Register accesses

What register accesses by a path come to: sizes, alignment, open and closed paths (R9, R40), the refusal of a B-class write
(R11, R66), and a whole-word write of one field (R12).
-/

namespace Sys2Proof.Machine

theorem accessFits_iff {addr w : Nat} : State.accessFits addr w = true ↔ (w = 4 ∧ addr % 4 = 0) ∨ (w = 8 ∧ addr % 8 = 0) := by
  simp [State.accessFits]

/-- A whole-word mask covers every bit of a field that lies within the word. -/
theorem Field.slice_wholeWord {f : Field} (h : f.lo + f.width ≤ 32) : f.slice 0xFFFFFFFF = 2 ^ f.width - 1 := by
  apply Nat.eq_of_testBit_eq
  intro i
  rw [Field.slice, Nat.testBit_mod_two_pow, Nat.testBit_div_two_pow, show (0xFFFFFFFF : Nat) = 2 ^ 32 - 1 from rfl,
    Nat.testBit_two_pow_sub_one, Nat.testBit_two_pow_sub_one]
  by_cases hi : i < f.width
  · simp [hi, show i + f.lo < 32 by omega]
  · simp [hi]

namespace State

variable {s : State} {p : Path} {addr v : Nat}

/-! ### The commands REGISTER_WRITE and RC_READ -/

theorem exec_registerWrite {w : Nat} : exec (.registerWrite p addr w v) s = .next (s.pathWrite p addr w v).atOnce := rfl

theorem pathWrite_unfit {w : Nat} (h : ¬ accessFits addr w = true) : s.pathWrite p addr w v = s.refuseAccess p addr false := by
  simp [pathWrite, h]

theorem pathWrite_closed {w : Nat} (hf : accessFits addr w = true) (h : s.pathOpen p = false) : s.pathWrite p addr w v = s := by
  simp [pathWrite, hf, h]

/-- An aligned 32-bit write on an open path is one access (R9). -/
theorem pathWrite_word (ha : addr % 4 = 0) (h : s.pathOpen p = true) :
    s.pathWrite p addr 4 v = (s.accessWrite p addr 0xFFFFFFFF (v % 2 ^ 32)).1.carryOn := by
  simp [pathWrite, accessFits_iff.mpr (.inl ⟨rfl, ha⟩), h]

/-- An aligned 64-bit write on an open path is two accesses, the lower address first (R9). -/
theorem pathWrite_pair (ha : addr % 8 = 0) (h : s.pathOpen p = true) :
    s.pathWrite p addr 8 v = (((s.accessWrite p addr 0xFFFFFFFF (v % 2 ^ 32)).1).accessWrite p (addr + 4) 0xFFFFFFFF
      (v / 2 ^ 32 % 2 ^ 32)).1.carryOn := by
  simp [pathWrite, accessFits_iff.mpr (.inr ⟨rfl, ha⟩), h]

/-- An aligned read on an open path answers with the register as `accessRead` gives it. -/
theorem exec_rcRead_open {x : Nat} (ha : addr % 4 = 0) (h : s.pathOpen p = true) (hx : (s.accessRead p addr).2 = some x) :
    exec (.rcRead p addr) s = .next ((s.accessRead p addr).1.emit (.readData p addr x)).atOnce := by
  show settled (actRcRead p addr s) = _
  have hr : s.accessRead p addr = ((s.accessRead p addr).1, some x) := Prod.ext rfl hx
  simp only [actRcRead, accessFits_iff.mpr (.inl ⟨rfl, ha⟩), h, Bool.not_true, Bool.false_eq_true, if_false]
  rw [hr]
  rfl

theorem exec_rcRead_unfit (ha : addr % 4 ≠ 0) : exec (.rcRead p addr) s = .next (s.refuseAccess p addr true).atOnce := by
  have hf : ¬ accessFits addr 4 = true := by simp [accessFits_iff, ha]
  show settled (actRcRead p addr s) = _
  simp [actRcRead, hf, settled]

/-- A path that is not open reads zero (R40). -/
theorem exec_rcRead_closed (ha : addr % 4 = 0) (h : s.pathOpen p = false) :
    exec (.rcRead p addr) s = .next (s.emit (.readData p addr 0)).atOnce := by
  show settled (actRcRead p addr s) = _
  simp [actRcRead, accessFits_iff.mpr (.inl ⟨rfl, ha⟩), h, settled]

/-! ### One access -/

/-- Only the window is kept from the registers of cox rings (R398). -/
theorem windowBarred_false (hr : p = .window → coxRingReg addr = false) : (p = .window && coxRingReg addr) = false := by
  by_cases hp : p = .window
  · simp [hr hp]
  · simp [hp]

/-- A write that would change a B-class field is refused (R66). -/
theorem accessWrite_changesB {mask : Nat} (hg : s.accessGated addr = false) (hr : p = .window → coxRingReg addr = false)
    (hb : s.changesB addr mask v = true) : s.accessWrite p addr mask v = (s.refuseB p addr, 1) := by
  simp [accessWrite, hg, windowBarred_false hr, hb]

/-- Any other write takes effect, and wakes the unit that it reaches. -/
theorem accessWrite_done {mask : Nat} (hg : s.accessGated addr = false) (hr : p = .window → coxRingReg addr = false)
    (hb : s.changesB addr mask v = false) : s.accessWrite p addr mask v = ((s.wakeFor addr).writeReg addr mask v, 0) := by
  simp [accessWrite, hg, windowBarred_false hr, hb]

/-- A whole-word write gives a field the word's bits of it; EVT_MASK_0 keeps its low bits 0 and is left out. -/
theorem newBits_wholeWord {f : Field} {i j : Nat} (hf : f.lo + f.width ≤ 32) (hm : f ≠ F.EVT_MASK_MASK) :
    s.newBits f i j 0xFFFFFFFF v = f.slice v := by
  have hlt : f.slice v < 2 ^ f.width := Nat.mod_lt _ (Nat.two_pow_pos _)
  simp [newBits, Field.slice_wholeWord hf, hm, Nat.and_two_pow_sub_one_eq_mod, Nat.mod_eq_of_lt hlt]

/-- A field is cut to its width when it is written. -/
theorem wr_mod {f : Field} {i j : Nat} : s.wr f (v % 2 ^ f.width) i j = s.wr f v i j := by
  simp only [wr, Nat.mod_mod]

/-- A field of class RW or H that is not locked takes its bits of the word; an H-class field's shadow does (R12). -/
theorem storeField_unlocked {f : Field} {i j mask : Nat} (hk : f.kind = .rw ∨ f.kind = .rwh) (hl : s.locked f i = false) :
    s.storeField mask v (f, i, j) = s.wr f (s.newBits f i j mask v) i j := by
  rcases hk with hk | hk <;> simp [storeField, hk, hl]

/-- A write that covers one field, not locked, stores that field. -/
theorem storeWord_single {f : Field} {i j mask : Nat} (hc : covered addr mask = [(f, i, j)]) (hl : s.locked f i = false) :
    s.storeWord addr mask v = s.storeField mask v (f, i, j) := by
  simp [storeWord, hc, hl]

/-! ### NVT_DEADLINE -/

theorem fieldsAt_nvtDeadline : fieldsAt 0x200000 = [(F.NVT_DEADLINE_US, 0, 0)] := by decide +kernel

theorem covered_nvtDeadline : covered 0x200000 0xFFFFFFFF = [(F.NVT_DEADLINE_US, 0, 0)] := by decide +kernel

/-- NVT_DEADLINE is a plain register: its write stores its field. -/
theorem writeReg_nvtDeadline {mask : Nat} : s.writeReg 0x200000 mask v = s.storeWord 0x200000 mask v := rfl

theorem slice_nvtDeadline : F.NVT_DEADLINE_US.slice v = v % 2 ^ F.NVT_DEADLINE_US.width := by
  simp [Field.slice, F.NVT_DEADLINE_US]

theorem storeWord_nvtDeadline : s.storeWord 0x200000 0xFFFFFFFF v = s.wr F.NVT_DEADLINE_US v := by
  have hl : s.locked F.NVT_DEADLINE_US 0 = false := rfl
  rw [storeWord_single covered_nvtDeadline hl, storeField_unlocked (.inr rfl) hl, newBits_wholeWord (by decide) (by decide),
    slice_nvtDeadline, wr_mod]

/-- Nothing bars cox from NVT_DEADLINE: no gate stands before it, and it holds no B-class field. -/
theorem accessWrite_nvtDeadline : (s.accessWrite .cox 0x200000 0xFFFFFFFF v).1 = s.wr F.NVT_DEADLINE_US v := by
  have hb : s.changesB 0x200000 0xFFFFFFFF v = false := by
    unfold changesB
    rw [covered_nvtDeadline]
    rfl
  rw [accessWrite_done (p := .cox) rfl (by decide) hb]
  exact writeReg_nvtDeadline.trans storeWord_nvtDeadline

theorem readWord_nvtDeadline : s.readWord 0x200000 = s.rd F.NVT_DEADLINE_US % 2 ^ 15 := by
  unfold readWord
  rw [fieldsAt_nvtDeadline]
  show 0 + s.readField F.NVT_DEADLINE_US 0 0 * 2 ^ 0 = _
  rw [Nat.zero_add, Nat.pow_zero, Nat.mul_one]
  rfl

/-- The answer deadline follows the value in effect, not the shadow (R12, R177). -/
theorem deadline_wr_nvtDeadline (h : s.regs.wf = true) : (s.wr F.NVT_DEADLINE_US v).deadline = s.deadline := by
  unfold deadline twinState
  rw [ef_wr_shadow rfl, rd_wr_ne h (by decide)]

end State

end Sys2Proof.Machine

section
open Sys2Proof.Machine Sys2Proof.Machine.State

/-! ### The statements of spec/00_scope.md -/

/-- Settles O3: canonical form is a part of what `step_kept0` says every step keeps, and it does not look at the queue. -/
theorem stepKeepsRegistersCanonical : Obligations.StepKeepsRegistersCanonical := by
  intro s t hs ht
  obtain ⟨u, hu, k⟩ := step_kept0 (s := s)
  cases hu.symm.trans ht
  exact k.canonical hs

/-- Settles O8, by the laws of the register store. -/
theorem fieldWriteChangesOneField : Obligations.FieldWriteChangesOneField := by
  intro s f v i j ⟨hregs, heff⟩
  exact ⟨rd_wr_self hregs, fun _ _ _ hk => rd_wr_ne hregs hk, fun _ _ _ hg => ef_wr_shadow hg, ⟨wr_wf hregs, heff⟩, rfl⟩

/-- Settles O9: the state after the access is `s` with the field NVT_DEADLINE.US written. -/
theorem deadlineWriteReachesTheShadowOnly : Obligations.DeadlineWriteReachesTheShadowOnly := by
  intro s v ⟨hregs, _⟩ hcox
  refine ⟨s.wr F.NVT_DEADLINE_US (v % 2 ^ 32), ?_, ?_, rfl, deadline_wr_nvtDeadline hregs, fun _ _ _ hk => rd_wr_ne hregs hk, rfl⟩
  · rw [exec_registerWrite, pathWrite_word (by decide) (show s.pathOpen .cox = true from hcox), accessWrite_nvtDeadline]
  · rw [readWord_nvtDeadline, rd_wr_self hregs]
    show v % 2 ^ 32 % 2 ^ 15 % 2 ^ 15 = v % 2 ^ 15
    omega

/-- Settles O10: `accessFits` is R9's rule of size and alignment, and a path that is not open is the window before ready (R40). -/
theorem registerAccessesFollowAlignment : Obligations.RegisterAccessesFollowAlignment := by
  refine ⟨fun s p addr v hopen => ⟨fun ha => ?_, fun ha => ?_, fun w h4 h8 => ?_, fun ha x hx => ?_, fun ha => ?_, ?_⟩,
    fun s hready => ⟨fun addr ha => ?_, fun addr v ha => ?_⟩⟩
  · rw [exec_registerWrite, pathWrite_word ha hopen]
  · rw [exec_registerWrite, pathWrite_pair ha hopen]
  · rw [exec_registerWrite, pathWrite_unfit (by rw [accessFits_iff]; exact not_or.mpr ⟨h4, h8⟩)]
  · exact exec_rcRead_open ha hopen hx
  · exact exec_rcRead_unfit ha
  · rintro q (rfl | rfl) b <;> rfl
  · exact exec_rcRead_closed ha hready
  · rw [exec_registerWrite, pathWrite_closed (accessFits_iff.mpr (.inl ⟨rfl, ha⟩)) (show s.pathOpen .window = false from hready)]

/-- Settles O11: the access comes to `refuseB` alone, whatever the path. -/
theorem bClassWriteIsRefusedWhole : Obligations.BClassWriteIsRefusedWhole := by
  intro s p addr v hopen ha hgate hring hb
  refine ⟨_, rfl, ?_⟩
  rw [exec_registerWrite, pathWrite_word ha hopen, accessWrite_changesB hgate hring hb]
  cases p <;> simp only [refuseB, beq_iff_eq]
end

/-! ### What happens to a command or association later

The outcome of CONTEXT_ASSIGN, KEEP_ALIVE_EXPIRY, CUT_POINT, COMMIT_POINT and FALLBACK_POINT where each acts and where it does not,
and the times of a command and of its items as distances from its answer point (R28, R176, R177).
-/

namespace Sys2Proof.Machine.State

variable {s : State} {k : Cmd} {cntlid qid cid msgid tag : Nat}

/-! ### CONTEXT_ASSIGN and KEEP_ALIVE_EXPIRY -/

/-- While admission has stopped no capsule is admitted (R178, R195, R283). -/
theorem exec_contextAssign_stopped (h : s.admissionHalted = true ∨ s.twn.stopped = true) : exec .contextAssign s = .next s := by
  show execContextAssign s = _
  rw [execContextAssign, if_pos (Bool.or_eq_true _ _ ▸ h)]

theorem exec_contextAssign_some (hh : s.admissionHalted = false) (hs : s.twn.stopped = false) (hk : s.nextWaiting = some k) :
    exec .contextAssign s = .next (s.giveContext k.id).carryOn := by
  show execContextAssign s = _
  simp only [execContextAssign, hh, hs, hk, Bool.or_self, Bool.false_eq_true, if_false]

theorem exec_contextAssign_none (hh : s.admissionHalted = false) (hs : s.twn.stopped = false) (hk : s.nextWaiting = none) :
    exec .contextAssign s = .next s := by
  show execContextAssign s = _
  simp only [execContextAssign, hh, hs, hk, Bool.or_self, Bool.false_eq_true, if_false]

theorem does_keepAliveExpiry :
    Does (.keepAliveExpiry cntlid) s ((s.assocOf cntlid).isSome = true) ((s.endAssoc cntlid).raise 193 0x8000).carryOn := by
  show (_ → execKeepAliveExpiry cntlid s = _) ∧ (_ → execKeepAliveExpiry cntlid s = _)
  unfold execKeepAliveExpiry
  cases s.assocOf cntlid with
  | none => exact ⟨nofun, fun _ => rfl⟩
  | some a => exact ⟨fun _ => rfl, fun h => absurd rfl h⟩

/-! ### CUT_POINT -/

/-- The command that the operands of CUT_POINT name; CNTLID is compared in 16 bits. -/
def cutCmd (s : State) (cntlid qid cid msgid : Nat) : Option Cmd :=
  s.nvt.cmds.find? fun k => k.id.cntlid % 65536 == cntlid && k.id.qid == qid && k.id.cid == cid && k.id.msgid == msgid

/-- How an unanswered command ends at its cut point (R175, R176): its due answer is replaced, a committed command is answered
and goes on to media, and any other is stopped and answered. -/
def cutShort (s : State) (k : Cmd) : State :=
  if k.due.isSome then s.takeBack k.id stInterrupted
  else if k.phase = 2 then s.answer k.id stInterrupted 0 [] else s.failCmd k.id stInterrupted

theorem cutShort_due (h : k.due ≠ none) : s.cutShort k = s.takeBack k.id stInterrupted :=
  if_pos (Option.isSome_iff_ne_none.mpr h)

theorem cutShort_committed (h : k.due = none) (hp : k.phase = 2) : s.cutShort k = s.answer k.id stInterrupted 0 [] := by
  simp only [cutShort, h, hp, Option.isSome_none, Bool.false_eq_true, if_false, if_true]

theorem cutShort_uncommitted (h : k.due = none) (hp : k.phase < 2) : s.cutShort k = s.failCmd k.id stInterrupted := by
  simp only [cutShort, h, Nat.ne_of_lt hp, Option.isSome_none, Bool.false_eq_true, if_false]

/-- A command that has been answered has no cut point any more. -/
theorem exec_cutPoint_answered (hk : s.cutCmd cntlid qid cid msgid = some k) (hp : k.phase = 3) :
    exec (.cutPoint cntlid qid cid msgid) s = .next s := by
  show execCutPoint cntlid qid cid msgid s = _
  unfold execCutPoint
  unfold cutCmd at hk
  simp only [hk, hp, decide_true, Bool.true_or, if_true]

theorem exec_cutPoint_unanswered (hk : s.cutCmd cntlid qid cid msgid = some k) (ha : k.req ≠ .aer) (hq : k.req.silent = false)
    (hp : k.phase ≠ 3) : exec (.cutPoint cntlid qid cid msgid) s =
      .next (((((s.passTo (s.cutPoint k)).cutShort k).countOpen 0x200 0x1001 0x8000).raiseOnce 197 0 0x8000).carryOn) := by
  show execCutPoint cntlid qid cid msgid s = _
  unfold execCutPoint
  unfold cutCmd at hk
  simp only [hk, ha, hq, hp, decide_false, Bool.or_false, Bool.false_eq_true, if_false, cutShort]

/-! ### COMMIT_POINT and FALLBACK_POINT -/

theorem does_commitPoint (hk : s.cmdOf ⟨cntlid, qid, cid, msgid⟩ = some k) :
    Does (.commitPoint cntlid qid cid msgid) s (s.commitReady k = true) (s.commit ⟨cntlid, qid, cid, msgid⟩).carryOn := by
  show (_ → execCommitPoint cntlid qid cid msgid s = _) ∧ (_ → execCommitPoint cntlid qid cid msgid s = _)
  unfold execCommitPoint
  simp only [hk]
  exact ⟨fun h => by rw [if_pos h], fun h => by rw [if_neg h]⟩

theorem exec_fallbackPoint_some {it : Item} (h : s.itemOf tag = some it) :
    exec (.fallbackPoint tag) s = .next ((s.passTo it.fallAt).fallBack tag).carryOn := by
  show execFallbackPoint tag s = _
  rw [execFallbackPoint, h]

theorem exec_fallbackPoint_none (h : s.itemOf tag = none) : exec (.fallbackPoint tag) s = .next s := by
  show execFallbackPoint tag s = _
  rw [execFallbackPoint, h]

/-! ### The times of a command (R28, R177) -/

theorem cutPoint_unpaired (h : s.twinState ≠ 2) : s.cutPoint k = k.answerAt - 30000 := by rw [cutPoint, if_neg h]

theorem cutPoint_paired (h : s.twinState = 2) : s.cutPoint k = k.answerAt - 1200000 := by rw [cutPoint, if_pos h]

theorem itemPoint_some : s.itemPoint (some k) = (if s.twinState = 2 then s.cutPoint k else k.answerAt) - 250000 := rfl

theorem itemPoint_unpaired (h : s.twinState ≠ 2) : s.itemPoint (some k) = k.answerAt - 250000 := by
  rw [itemPoint_some, if_neg h]

theorem itemPoint_paired (h : s.twinState = 2) : s.itemPoint (some k) = k.answerAt - 1200000 - 250000 := by
  rw [itemPoint_some, if_pos h, cutPoint_paired h]

end Sys2Proof.Machine.State

section
open Sys2Proof.Machine Sys2Proof.Machine.State

/-! ### The statements of spec/01_architecture.md -/

/-- Settles O36: one outcome lemma per command and case; the times are those of the command that `holdCmd` holds. -/
theorem contextAndCutPointsComplete : Obligations.ContextAndCutPointsComplete := by
  refine ⟨fun s hh hs => ⟨fun k hk => exec_contextAssign_some hh hs hk, fun hk => exec_contextAssign_none hh hs hk⟩,
    fun s h => exec_contextAssign_stopped h, fun cntlid s => does_keepAliveExpiry,
    fun cntlid qid cid msgid s k hk ha hq => ⟨fun hd hp => ?_, fun hd hp => ?_, fun hd hp => ?_, fun hp => ?_⟩,
    fun cntlid qid cid msgid s k hk => does_commitPoint hk,
    fun tag s => ⟨fun it h => exec_fallbackPoint_some h, fun h => exec_fallbackPoint_none h⟩,
    fun c req n at_ point s hreq hnew => ?_⟩
  · rw [exec_cutPoint_unanswered hk ha hq (by omega), cutShort_uncommitted hd hp]
  · rw [exec_cutPoint_unanswered hk ha hq (by omega), cutShort_committed hd hp]
  · rw [exec_cutPoint_unanswered hk ha hq (by omega), cutShort_due hd]
  · exact exec_cutPoint_answered hk hp
  · obtain ⟨k, hk, -, -, -, -, hat, hanswer⟩ := holdCmd_cmdOf (req := req) (n := n) (at_ := at_) (point := point) hnew
    rw [if_neg hreq] at hanswer
    subst hanswer
    exact ⟨k, hk, hat, rfl, fun h => ⟨cutPoint_unpaired h, itemPoint_unpaired h⟩,
      fun h => ⟨cutPoint_paired h, itemPoint_paired h⟩, rfl⟩
end

/-! ### Fuses stay blown

What `Kept` and `Kept0` say of the fuses, for the statements of spec/02_startup_and_boot_image.md.
-/

namespace Sys2Proof.Machine

/-- Three commands alone blow key fuses (R458, R459). -/
theorem blowsKeyFuses_false {c : Instr} (fill : ∀ sig slot digest, c ≠ .slotFill sig slot digest)
    (revoke : ∀ sig slot, c ≠ .slotRevoke sig slot) (ktk : ∀ sig console v, c ≠ .ktkProvision sig console v) :
    blowsKeyFuses c = false := by
  unfold blowsKeyFuses
  split
  · next => exact absurd rfl (fill _ _ _)
  · next => exact absurd rfl (revoke _ _)
  · next => exact absurd rfl (ktk _ _ _)
  · rfl

end Sys2Proof.Machine

section
open Sys2Proof.Machine Sys2Proof.Machine.State

/-- Settles O6: `step_kept0` says it of every step, and the fuses do not depend on the queue. -/
theorem stepNeverUnblowsAFuse : Obligations.StepNeverUnblowsAFuse := by
  intro s t ht
  obtain ⟨u, hu, k⟩ := step_kept0 (s := s)
  cases hu.symm.trans ht
  exact k.fuses

/-- Settles O7: every other command keeps the machine with its key fuses, by `exec_kept`. -/
theorem onlyKeyCommandsChangeKeyFuses : Obligations.OnlyKeyCommandsChangeKeyFuses := by
  intro c s t hfill hrevoke hktk ht
  obtain ⟨u, hu, k⟩ := exec_kept (blowsKeyFuses_false hfill hrevoke hktk) (Kept.refl s)
  cases hu.symm.trans ht
  exact ⟨k.fuses.slots, k.fuses.revoked, k.fuses.ktk⟩
end

/-! ### The start sequence

Which registers the preparation of a start leaves alone, how a start step ends under PWR_FAIL_N (R41) and under a hardware fault
(R42), and what each command of the sequence comes to in its stage.
-/

namespace Sys2Proof.Machine

/-- From `s` to `t` the register store stays canonical, and every bit address that `p` picks reads as before. -/
structure ReadsAs (p : Nat → Prop) (s t : State) : Prop where
  wf : s.regs.wf = true → t.regs.wf = true
  read : s.regs.wf = true → ∀ k, p k → t.regs.read k = s.regs.read k

section
variable {p q : Nat → Prop} {s t u : State}

theorem ReadsAs.of (h : t.regs = s.regs) : ReadsAs p s t := by
  constructor <;> rw [h]
  · exact id
  · exact fun _ _ _ => rfl

theorem ReadsAs.refl (s : State) : ReadsAs p s s := .of rfl

theorem ReadsAs.trans (h : ReadsAs p s t) (g : ReadsAs p t u) : ReadsAs p s u where
  wf := g.wf ∘ h.wf
  read hs k hk := (g.read (h.wf hs) k hk).trans (h.read hs k hk)

theorem ReadsAs.ite {c : Prop} [Decidable c] (h : ReadsAs p s t) (g : ReadsAs p s u) : ReadsAs p s (if c then t else u) := by
  split <;> assumption

theorem ReadsAs.foldl {α : Type} {f : State → α → State} {l : List α} (h : ∀ t, ∀ a ∈ l, ReadsAs p t (f t a)) :
    ReadsAs p s (l.foldl f s) := by
  induction l generalizing s with
  | nil => exact .refl s
  | cons a l ih =>
    exact (h s a (.head _)).trans (ih fun t b hb => h t b (.tail _ hb))

theorem ReadsAs.mono (h : ReadsAs p s t) (hq : ∀ k, q k → p k) : ReadsAs q s t :=
  ⟨h.wf, fun hs k hk => h.read hs k (hq k hk)⟩

/-- A write outside of what `p` picks. -/
theorem ReadsAs.wr {f : Field} {v i j : Nat} (h : ReadsAs p s t) (hp : ¬ p (f.key i j)) : ReadsAs p s (t.wr f v i j) :=
  h.trans ⟨fun ht => State.wr_wf ht, fun ht _ hk => Cells.read_write_ne ht _ fun e => hp (e ▸ hk)⟩

theorem ReadsAs.rd {f : Field} {i j : Nat} (h : ReadsAs p s t) (hs : s.regs.wf = true) (hp : p (f.key i j)) :
    t.rd f i j = s.rd f i j := h.read hs _ hp
end


/-- SYS_STATUS, SYS_STRAP and BOOT_STATUS lie below this bit address; all that a start writes besides lies above. -/
abbrev StartField (k : Nat) : Prop := k < F.BOOT_SEQ_A_LO_SEQ.key 0 0

/-- From `s` to `t` nothing but bays and registers changes, and of those none that a start shows. -/
structure BayWork (s t : State) : Prop where
  same : t = { s with regs := t.regs, bay := t.bay }
  reads : ReadsAs StartField s t

section
variable {s t u : State}

theorem BayWork.refl (s : State) : BayWork s s := ⟨rfl, .refl s⟩

theorem BayWork.trans (h : BayWork s t) (g : BayWork t u) : BayWork s u where
  same := by
    have e := g.same
    rw [h.same] at e
    exact e
  reads := h.reads.trans g.reads

theorem BayWork.ite {c : Prop} [Decidable c] (h : BayWork s t) (g : BayWork s u) : BayWork s (if c then t else u) := by
  split <;> assumption

theorem BayWork.foldl {α : Type} {f : State → α → State} {l : List α} (h : ∀ t a, BayWork t (f t a)) :
    BayWork s (l.foldl f s) := by
  induction l generalizing s with
  | nil => exact .refl s
  | cons a l ih => exact (h s a).trans ih

theorem BayWork.wr {f : Field} {v i j : Nat} (h : BayWork s t) (hf : ¬ StartField (f.key i j)) : BayWork s (t.wr f v i j) :=
  h.trans ⟨rfl, .wr (.refl t) hf⟩

namespace State

theorem modBay_bayWork {nn : Nat} {f : Bay → Bay} : BayWork s (s.modBay nn f) := ⟨rfl, .of rfl⟩

theorem not_startField_bayState {nn : Nat} : ¬ StartField (F.BAY_PSTAT_STATE.key nn 0) := by
  simp only [StartField, Field.key, Field.addr, F.BAY_PSTAT_STATE, F.BOOT_SEQ_A_LO_SEQ]
  omega

theorem not_startField_bayOwner {nn : Nat} : ¬ StartField (F.BAY_PSTAT_OWNER.key nn 0) := by
  simp only [StartField, Field.key, Field.addr, F.BAY_PSTAT_OWNER, F.BOOT_SEQ_A_LO_SEQ]
  omega

theorem toBay_bayWork {nn st : Nat} : BayWork s (s.toBay nn st) := by
  have h : BayWork s (s.wr F.BAY_PSTAT_STATE st nn) := .wr (.refl s) not_startField_bayState
  exact .ite h (h.trans modBay_bayWork)

theorem loseOwner_bayWork : BayWork s s.loseOwner := by
  unfold loseOwner
  extract_lets s1
  have h1 : BayWork s s1 := .foldl fun t nn =>
    ((BayWork.wr (.refl t) not_startField_bayOwner).trans modBay_bayWork).trans toBay_bayWork
  clear_value s1
  exact h1.trans ⟨rfl, .of rfl⟩

theorem settleOwner_bayWork : BayWork s s.settleOwner := by
  refine .ite (.foldl fun t nn => ?_) loseOwner_bayWork
  have h : BayWork t (t.wr F.BAY_PSTAT_OWNER 1 nn) := .wr (.refl t) not_startField_bayOwner
  exact .ite (h.trans toBay_bayWork) h

theorem setDom_readsAs {d src : Nat} {busy hold : Bool} : ReadsAs StartField s (s.setDom d src busy hold) :=
  .wr (.wr (.refl s) (by decide)) (by decide)

theorem watchDomains_readsAs : ReadsAs StartField s s.watchDomains := setDom_readsAs.trans setDom_readsAs

theorem readHeaders_readsAs : ReadsAs StartField s s.readHeaders :=
  .wr (.wr (.wr (.wr (.of rfl) (by decide)) (by decide)) (by decide)) (by decide)

theorem holdIfFailing_regs : s.holdIfFailing.regs = s.regs := by
  unfold holdIfFailing
  split <;> rfl

theorem rd_holdIfFailing {f : Field} {i j : Nat} : s.holdIfFailing.rd f i j = s.rd f i j := by
  simp only [rd, holdIfFailing_regs]

/-- SYS_STRAP takes the pins that are sampled (R43). -/
def strapped (s : State) (p : Straps) : State :=
  ((s.wr F.SYS_STRAP_SETTLE p.settle).wr F.SYS_STRAP_BAY_MASTER (if p.bayMaster then 1 else 0)).wr F.SYS_STRAP_TWIN_PRSNT
    (if p.twinPrsnt then 1 else 0)

/-- Sampling the straps is to show the pins, and to settle who drives the gates (R43, R372). -/
theorem sampleStraps_eq {p : Straps} :
    s.sampleStraps p = (State.strapped { s with boot := { s.boot with pins := p } } p).settleOwner := rfl

theorem strapped_wf {p : Straps} (hs : s.regs.wf = true) : (s.strapped p).regs.wf = true := wr_wf (wr_wf (wr_wf hs))

theorem rd_strapped_settle {p : Straps} (hs : s.regs.wf = true) : (s.strapped p).rd F.SYS_STRAP_SETTLE = p.settle % 2 ^ 3 := by
  unfold strapped
  rw [rd_wr_ne (wr_wf (wr_wf hs)) (by decide), rd_wr_ne (wr_wf hs) (by decide), rd_wr_self hs]
  rfl

theorem sampleStraps_wf {p : Straps} (hs : s.regs.wf = true) : (s.sampleStraps p).regs.wf = true := by
  rw [sampleStraps_eq]
  exact settleOwner_bayWork.reads.wf (strapped_wf hs)

/-- The strap of the settle delay reads as it was sampled, in three bits (R43). -/
theorem rd_sampleStraps_settle {p : Straps} (hs : s.regs.wf = true) : (s.sampleStraps p).rd F.SYS_STRAP_SETTLE = p.settle % 2 ^ 3 :=
  (settleOwner_bayWork.reads.rd (strapped_wf (s := { s with boot := { s.boot with pins := p } }) hs) (by decide)).trans
    (rd_strapped_settle hs)

/-- The cleared state of a cold start, its straps sampled (R43, R81). -/
def strapsTaken (s : State) (p : Straps) : State := (State.reset.keepAlways s).watchDomains.sampleStraps p

theorem keepAlways_wf : (State.reset.keepAlways s).regs.wf = true := wr_wf (wr_wf rfl)

theorem strapsTaken_wf {p : Straps} : (s.strapsTaken p).regs.wf = true :=
  sampleStraps_wf (watchDomains_readsAs.wf keepAlways_wf)

theorem rd_strapsTaken_settle {p : Straps} : (s.strapsTaken p).rd F.SYS_STRAP_SETTLE = p.settle % 2 ^ 3 :=
  rd_sampleStraps_settle (watchDomains_readsAs.wf keepAlways_wf)

/-- COLD_START in STAGE 1, with what the NOR has answered (R38, R43). -/
def coldSampled (s : State) (p : Straps) (ok : Bool) (cap : Nat) : State :=
  { (s.strapsTaken p).setStage 1 with
    now := 0
    boot := { (s.strapsTaken p).boot with norOk := ok && [64, 128, 256, 512].contains cap, norCap := cap } }

theorem coldSampled_regs {p : Straps} {ok : Bool} {cap : Nat} : (s.coldSampled p ok cap).regs = ((s.strapsTaken p).setStage 1).regs := rfl

theorem rd_coldSampled {p : Straps} {ok : Bool} {cap i j : Nat} {f : Field} :
    (s.coldSampled p ok cap).rd f i j = ((s.strapsTaken p).setStage 1).rd f i j := rfl

theorem coldSampled_wf {p : Straps} {ok : Bool} {cap : Nat} : (s.coldSampled p ok cap).regs.wf = true := by
  rw [coldSampled_regs, setStage]
  exact wr_wf strapsTaken_wf

theorem coldSampled_stage {p : Straps} {ok : Bool} {cap : Nat} : (s.coldSampled p ok cap).stage = 1 := by
  rw [stage, rd_coldSampled, setStage, rd_wr_self strapsTaken_wf]
  rfl

theorem rd_coldSampled_settle {p : Straps} {ok : Bool} {cap : Nat} :
    (s.coldSampled p ok cap).rd F.SYS_STRAP_SETTLE = p.settle % 2 ^ 3 := by
  rw [rd_coldSampled, setStage, rd_wr_ne strapsTaken_wf (by decide), rd_strapsTaken_settle]

/-- The settle delay and its source in BOOT_STATUS (R44, R45). -/
def settleShown (s : State) : State :=
  (s.wr F.BOOT_STATUS_SETTLE_MS s.chooseSettle.1).wr F.BOOT_STATUS_SETTLE_SRC s.chooseSettle.2

theorem exec_coldStart {p : Straps} {ok : Bool} {cap : Nat} :
    exec (.coldStart p ok cap none) s = .next (s.coldSampled p ok cap).readHeaders.settleShown.holdIfFailing := rfl

theorem exec_coldStart_fault {p : Straps} {ok : Bool} {cap u : Nat} :
    exec (.coldStart p ok cap (some u)) s = .next ((s.coldSampled p ok cap).haltStart 0 u) := rfl

/-- With a NOR that does not answer no copy is a candidate, and the strap decides (R44, R45). -/
theorem chooseSettle_noNor (h : s.boot.norOk = false) : s.chooseSettle = (strapSettle (s.rd F.SYS_STRAP_SETTLE), 0) := by
  simp [chooseSettle, candidate, h]

/-! The start sequence under a hardware fault and under PWR_FAIL_N. -/

/-- STAGE 0xD, and on top of the logbook the HALT record of unit `u` with no tag (R42, R453). -/
def HaltedBy (t : State) (u : Nat) : Prop :=
  t.stage = 0xD ∧ ∃ r rest, t.cox.log = r :: rest ∧ r.kind = 2 ∧ r.payload = [0xD, 0, u]

/-- A record stands on top of the logbook, whatever number of blocks is left (R452). -/
theorem log_top {kind sev : Nat} {payload : List Nat} :
    ∃ r rest, (s.log kind sev payload).cox.log = r :: rest ∧ r.kind = kind ∧ r.payload = payload := by
  obtain ⟨n, hn⟩ : ∃ n, 1024 * max 1 (min 127 (s.rd F.COX_LOG_BLOCKS - 1)) = n + 1 := ⟨_, (Nat.succ_pred (by omega)).symm⟩
  unfold log
  dsimp only [wr_cox]
  rw [hn]
  exact ⟨_, _, List.take_succ_cons, rfl, rfl⟩

theorem rd_log {kind sev i j : Nat} {payload : List Nat} {f : Field} (hs : s.regs.wf = true)
    (hf : f.key i j ≠ F.COX_LOG_HEAD.key 0 0) : (s.log kind sev payload).rd f i j = s.rd f i j := by
  unfold log
  dsimp only
  rw [rd_wr_ne (by exact hs) hf]
  rfl

theorem setStage_wf {n : Nat} (hs : s.regs.wf = true) : (s.setStage n).regs.wf = true := by
  rw [setStage]
  exact wr_wf hs

theorem haltStart_halted {u : Nat} (hs : s.regs.wf = true) : (s.haltStart 0 u).HaltedBy u := by
  refine ⟨?_, log_top⟩
  have h : (s.setStage 0xD).stage = 0xD := rd_wr_self hs
  have hwf : (s.setStage 0xD).tick.regs.wf = true := setStage_wf (n := 0xD) hs
  exact (rd_log hwf (by decide)).trans h

theorem haltStart_fatal {tag u : Nat} : (s.haltStart tag u).fatal = s.fatal := rfl

theorem holdIfFailing_running (h : s.boot.hold = 0) : s.holdIfFailing = s := by
  rw [holdIfFailing, if_neg (by omega)]

/-- A step of a sequence that nothing holds takes its effect, which does not hold the sequence either (R41). -/
theorem step1_running {act : State → State} (h : s.boot.hold = 0) (hact : (act s).boot.hold = s.boot.hold) : s.step1 act = act s := by
  rw [step1, if_neg (by omega), holdIfFailing_running (hact.trans h)]

/-- Under PWR_FAIL_N the sequence stops at the end of the step (R41). -/
theorem step1_failing {act : State → State} (h : s.boot.hold = 1) (hact : (act s).boot.hold = s.boot.hold) :
    s.step1 act = { act s with boot := { (act s).boot with hold := 2 } } := by
  rw [step1, if_neg (by omega), holdIfFailing, if_pos (hact.trans h)]

/-- A sequence that PWR_FAIL_N has stopped runs no step (R41). -/
theorem step1_stopped {act : State → State} (h : 2 ≤ s.boot.hold) : s.step1 act = s := if_pos h

theorem step1_orHalt {u : Nat} {act : State → State} (h : s.boot.hold = 0) :
    (s.step1 fun t => t.orHalt (some u) act) = s.haltStart 0 u := step1_running h rfl

theorem step1_orHalt_none {act : State → State} (h : s.boot.hold = 0) (hact : (act s).boot.hold = s.boot.hold) :
    (s.step1 fun t => t.orHalt none act) = act s := step1_running h hact

/-- Nothing fatal has happened: nothing acts at once (R178). -/
theorem atOnce_of_not_fatal (h : s.fatal = false) : s.atOnce = s := by simp [atOnce, fatalDue, h]

section
variable {fault : Option Nat} {a b : Nat} {facts : CopyFacts} {logFails : List Nat}

theorem exec_settleDelayEnd (h : s.stage = 1) :
    exec (.settleDelayEnd fault) s = .next (s.step1 fun t => t.orHalt fault fun u => u.setStage 2) := by
  show execSettleDelayEnd fault s = _
  rw [execSettleDelayEnd, if_pos h]

theorem exec_referenceCheck (h : s.stage = 2) :
    exec (.referenceCheck a b fault) s = .next (s.step1 fun t => t.orHalt fault fun u => u.referenceChecked a b) := by
  show execReferenceCheck a b fault s = _
  rw [execReferenceCheck, if_pos h]

theorem exec_referenceCheckRetry (h : s.stage = 0xC ∨ s.stage = 0xE ∧ s.boot.refPassed = false) :
    exec (.referenceCheckRetry a b fault) s = .next (s.step1 fun t => t.orHalt fault fun u => u.referenceChecked a b) := by
  show execReferenceCheckRetry a b fault s = _
  rw [execReferenceCheckRetry, if_pos (by simpa using h)]

theorem exec_copyCheckComplete {c : Nat} (h : s.stage = 3) (hc : s.boot.checking = some c) :
    exec (.copyCheckComplete facts fault) s = .next (s.step1 fun t => t.orHalt fault fun u => u.copyChecked c facts) := by
  show execCopyCheckComplete facts fault s = _
  unfold execCopyCheckComplete
  rw [hc]
  simp only [h, if_true]

theorem exec_imageApply (h : s.stage = 4) : exec (.imageApply fault logFails) s =
    .next (s.step1 fun t => t.orHalt fault fun u => u.applyImage logFails).atOnce := by
  show settled (actImageApply fault logFails s) = _
  rw [actImageApply, if_pos h]
  rfl

theorem exec_linkTrainingEnd_fault {u : Nat} (h : s.stage = 5) (hh : s.boot.hold < 2) :
    exec (.linkTrainingEnd (some u)) s = .next (s.haltStart 0 u) := by
  show execLinkTrainingEnd (some u) s = _
  simp only [execLinkTrainingEnd, h, hh, decide_true, Bool.and_self, if_true]

end

theorem exec_linkTrainingEnd_good (h : s.stage = 5) (hh : s.boot.hold = 0) (hm : s.masterMismatch = false) :
    exec (.linkTrainingEnd none) s = .next s.becomeReady.carryOn := by
  show execLinkTrainingEnd none s = _
  simp [execLinkTrainingEnd, h, hh, hm]

theorem exec_pwrFailBeforeReady (hr : s.ready = false) (hh : s.boot.hold = 0) :
    exec .pwrFailBeforeReady s = .next { s with boot := { s.boot with hold := 1 } } := by
  show execPwrFailBeforeReady s = _
  simp [execPwrFailBeforeReady, hr, hh]

theorem exec_startResume (h : s.boot.hold ≠ 3) : exec .startResume s = .next { s with boot := { s.boot with hold := 0 } } := by
  show execStartResume s = _
  simp only [execStartResume, if_neg h]

/-- A sequence that stopped before step 10 becomes ready (R41). -/
theorem exec_startResume_ready (h : s.boot.hold = 3) :
    exec .startResume s = .next { s with boot := { s.boot with hold := 0 } }.becomeReady.carryOn := by
  show execStartResume s = _
  simp only [execStartResume, if_pos h]

/-! Whatever its stage, a sequence that has been stopped runs no start step (R41). -/

section
variable {fault : Option Nat} {a b : Nat} {facts : CopyFacts} {logFails : List Nat}

theorem exec_settleDelayEnd_stopped (h : 2 ≤ s.boot.hold) : exec (.settleDelayEnd fault) s = .next s := by
  show execSettleDelayEnd fault s = _
  rw [execSettleDelayEnd, step1_stopped h, ite_self]

theorem exec_referenceCheck_stopped (h : 2 ≤ s.boot.hold) : exec (.referenceCheck a b fault) s = .next s := by
  show execReferenceCheck a b fault s = _
  rw [execReferenceCheck, step1_stopped h, ite_self]

theorem exec_referenceCheckRetry_stopped (h : 2 ≤ s.boot.hold) : exec (.referenceCheckRetry a b fault) s = .next s := by
  show execReferenceCheckRetry a b fault s = _
  rw [execReferenceCheckRetry, step1_stopped h, ite_self]

theorem exec_copyCheckComplete_stopped (h : 2 ≤ s.boot.hold) : exec (.copyCheckComplete facts fault) s = .next s := by
  show execCopyCheckComplete facts fault s = _
  unfold execCopyCheckComplete
  split
  · rw [step1_stopped h, ite_self]
  · rfl

theorem exec_imageApply_stopped (h : 2 ≤ s.boot.hold) : exec (.imageApply fault logFails) s = .next s.atOnce := by
  show settled (actImageApply fault logFails s) = _
  rw [actImageApply, step1_stopped h, ite_self]
  rfl

theorem exec_linkTrainingEnd_stopped (h : 2 ≤ s.boot.hold) : exec (.linkTrainingEnd fault) s = .next s := by
  show execLinkTrainingEnd fault s = _
  simp [execLinkTrainingEnd, Nat.not_lt.mpr h]

end

/-! What the operations of the start sequence leave of the sequencer: PWR_FAIL_N's hold stays (R41). -/

theorem foldl_boot {α : Type} {f : State → α → State} {l : List α} (h : ∀ t a, (f t a).boot = t.boot) :
    (l.foldl f s).boot = s.boot := by
  induction l generalizing s with
  | nil => rfl
  | cons a l ih => exact ih.trans (h s a)

theorem toBay_boot {nn st : Nat} : (s.toBay nn st).boot = s.boot := by
  unfold toBay
  dsimp only
  split <;> rfl

theorem stopTimer_boot {nn : Nat} : (s.stopTimer nn).boot = s.boot := by
  unfold stopTimer
  split <;> rfl

theorem bayEventIf_boot {nn k : Nat} {f : Field} : (s.bayEventIf nn k f).boot = s.boot := by
  unfold bayEventIf bayEvent
  split
  · exact raise_calm.boot
  · rfl

theorem dropLink_boot {nn : Nat} : (s.dropLink nn).boot = s.boot := by
  unfold dropLink
  split
  · exact bayEventIf_boot
  · rfl

theorem withdraw_boot {nn : Nat} : (s.withdraw nn).boot = s.boot := by
  unfold withdraw holdReset
  split
  · exact dropLink_boot
  · rfl

theorem bayOff_boot {nn : Nat} : (s.bayOff nn).boot = s.boot := by
  unfold bayOff cutPower
  rw [toBay_boot]
  exact withdraw_boot.trans stopTimer_boot

theorem enterRecovery_boot : s.enterRecovery.boot = s.boot := by
  unfold enterRecovery
  refine (foldl_boot fun t nn => ?_).trans rfl
  split
  · exact bayOff_boot
  · rfl

theorem setRef_boot {r v : Nat} : (s.setRef r v).boot = s.boot := by
  unfold setRef
  split <;> rfl

theorem setActive_boot {t : Nat} : (s.setActive t).boot = s.boot := by
  unfold setActive settleCclk
  split <;> rfl

theorem setFail_boot {copy code : Nat} : (s.setFail copy code).boot = s.boot := by
  unfold setFail
  split <;> rfl

/-- Every edge domain runs on reference `t` (R48). -/
theorem runOn_boot {t : Nat} : ((List.range 7).foldl (fun u d => u.setDom d t false false) (s.setActive t)).boot = s.boot := by
  have h (u : State) : ((List.range 7).foldl (fun u d => u.setDom d t false false) u).boot = u.boot := foldl_boot fun _ _ => rfl
  rw [h, setActive_boot]

theorem referenceChecked_hold {a b : Nat} : (s.referenceChecked a b).boot.hold = s.boot.hold := by
  unfold referenceChecked
  extract_lets c s1 t s2 b2 s3 u3 b3 b1 r2 r3
  have h1 : s1.boot.hold = s.boot.hold := congrArg BootState.hold (setRef_boot.trans setRef_boot)
  have h2 : s2.boot.hold = s1.boot.hold := congrArg BootState.hold runOn_boot
  clear_value s2
  have h3 : s3.boot.hold = s.boot.hold := h2.trans h1
  have hb3 : b3.hold = s3.boot.hold := rfl
  have hr : r2.boot.hold = s.boot.hold := h1
  have hr3 : r3.boot = r2.boot := rfl
  split
  · split
    · exact hb3.trans h3
    · rw [enterRecovery_boot, h3]
  · split
    · rw [enterRecovery_boot, hr]
    · split
      · exact hr
      · exact (congrArg BootState.hold hr3).trans hr

theorem copyChecked_hold {c : Nat} {facts : CopyFacts} : (s.copyChecked c facts).boot.hold = s.boot.hold := by
  unfold copyChecked
  extract_lets code s1 u b1 r
  have h1 : s1.boot.hold = s.boot.hold := congrArg BootState.hold setFail_boot
  have hb : b1.hold = s1.boot.hold := rfl
  clear_value code s1 u b1 r
  split
  · exact hb.trans h1
  · split <;> exact hb.trans h1

/-- The table of R44 fits in the fields that carry it. -/
theorem strapSettle_table {n ms : Nat} (h : (n, ms) ∈ [(0, 0), (1, 1), (2, 2), (3, 5), (4, 10), (5, 20), (6, 50), (7, 100)]) :
    n % 2 ^ 3 = n ∧ strapSettle n % 2 ^ 10 = ms :=
  (by decide : ∀ e ∈ [(0, 0), (1, 1), (2, 2), (3, 5), (4, 10), (5, 20), (6, 50), (7, 100)],
    e.1 % 2 ^ 3 = e.1 ∧ strapSettle e.1 % 2 ^ 10 = e.2) (n, ms) h

end State
end

end Sys2Proof.Machine

section
open Sys2Proof.Machine Sys2Proof.Machine.State

/-- Settles O14: no header is read, so that the strap's delay is shown, and nothing that follows writes a field of the statement. -/
theorem strapSelectsSettleDelay : Obligations.StrapSelectsSettleDelay := by
  intro n ms master twin cap s hn
  obtain ⟨hn3, hms⟩ := strapSettle_table hn
  have hwf := coldSampled_wf (s := s) (p := ⟨n, master, twin⟩) (ok := false) (cap := cap)
  have hsettle := (rd_coldSampled_settle (s := s) (p := ⟨n, master, twin⟩) (ok := false) (cap := cap)).trans hn3
  have hstage := coldSampled_stage (s := s) (p := ⟨n, master, twin⟩) (ok := false) (cap := cap)
  have hnor : (s.coldSampled ⟨n, master, twin⟩ false cap).readHeaders.boot.norOk = false := rfl
  refine ⟨_, exec_coldStart, ?_⟩
  generalize s.coldSampled ⟨n, master, twin⟩ false cap = u at *
  have hheaders : ReadsAs StartField u u.readHeaders := readHeaders_readsAs
  replace hsettle := (hheaders.rd hwf (by decide)).trans hsettle
  replace hstage : u.readHeaders.stage = 1 := (hheaders.rd hwf (by decide)).trans hstage
  replace hwf := hheaders.wf hwf
  generalize u.readHeaders = v at *
  simp only [stage, rd_holdIfFailing, settleShown, chooseSettle_noNor hnor, hsettle]
  refine ⟨?_, ?_, ?_, ?_⟩
  · rw [rd_wr_ne (wr_wf hwf) (by decide), rd_wr_self hwf]
    exact hms
  · rw [rd_wr_self (wr_wf hwf)]
    rfl
  · rw [rd_wr_ne (wr_wf hwf) (by decide), rd_wr_ne hwf (by decide), hsettle]
  · rw [rd_wr_ne (wr_wf hwf) (by decide), rd_wr_ne hwf (by decide)]
    exact hstage
end

section
open Sys2Proof.Machine Sys2Proof.Machine.State

/-- Settles O16: every step ends in `haltStart`, which `haltStart_halted` describes. -/
theorem hardwareFaultHaltsStart : Obligations.HardwareFaultHaltsStart := by
  intro u s hs _
  have hhalt : (s.haltStart 0 u).HaltedBy u := haltStart_halted hs.1
  refine ⟨fun straps ok cap => ?_, fun h hh => ?_, fun h hh a b => ?_, fun h hh a b => ?_, fun h hh hc facts => ?_,
    fun h hh hf logFails => ?_, fun h hh => ?_⟩
  · exact ⟨_, exec_coldStart_fault, haltStart_halted coldSampled_wf⟩
  · exact ⟨_, (exec_settleDelayEnd h).trans (by rw [step1_orHalt hh]), hhalt⟩
  · exact ⟨_, (exec_referenceCheck h).trans (by rw [step1_orHalt hh]), hhalt⟩
  · exact ⟨_, (exec_referenceCheckRetry (.inl h)).trans (by rw [step1_orHalt hh]), hhalt⟩
  · obtain ⟨c, hc⟩ := Option.ne_none_iff_exists'.mp hc
    exact ⟨_, (exec_copyCheckComplete h hc).trans (by rw [step1_orHalt hh]), hhalt⟩
  · exact ⟨_, (exec_imageApply h).trans (by rw [step1_orHalt hh, atOnce_of_not_fatal (haltStart_fatal.trans hf)]), hhalt⟩
  · exact ⟨_, exec_linkTrainingEnd_fault h (by omega), hhalt⟩
end


section
open Sys2Proof.Machine Sys2Proof.Machine.State

/-- Settles O15: one lemma per command; what a step does does not hold the sequence, and a held one stops at the end of the step. -/
theorem startStepsComplete : Obligations.StartStepsComplete := by
  refine ⟨fun straps cap s hcap => ?_, fun s h hh => ?_, fun a b s h hh => ?_, fun a b s h hh => ?_, fun a b s h hp hh => ?_,
    fun c facts s h hh hc => ?_, fun s h logFails => exec_imageApply h, fun s h hh hm => exec_linkTrainingEnd_good h hh hm,
    fun s hr hh => exec_pwrFailBeforeReady hr hh, fun s hh => exec_startResume (by omega), fun s hh => exec_startResume_ready hh,
    fun s h hh => ?_, fun fault s hh => ?_⟩
  · have hnor : [64, 128, 256, 512].contains cap = true := List.contains_iff_mem.mpr hcap
    rw [exec_coldStart, coldSampled, hnor]
    rfl
  · rw [exec_settleDelayEnd h, step1_orHalt_none (act := fun u => u.setStage 2) hh rfl]
  · rw [exec_referenceCheck h, step1_orHalt_none (act := fun u => u.referenceChecked a b) hh referenceChecked_hold]
  · rw [exec_referenceCheckRetry (.inl h), step1_orHalt_none (act := fun u => u.referenceChecked a b) hh referenceChecked_hold]
  · rw [exec_referenceCheckRetry (.inr ⟨h, hp⟩), step1_orHalt_none (act := fun u => u.referenceChecked a b) hh referenceChecked_hold]
  · rw [exec_copyCheckComplete h hc, step1_orHalt_none (act := fun u => u.copyChecked c facts) hh copyChecked_hold]
  · rw [exec_settleDelayEnd h, step1_failing (act := fun t => t.orHalt none fun u => u.setStage 2) hh rfl]
    rfl
  · exact ⟨exec_settleDelayEnd_stopped hh, fun a b => ⟨exec_referenceCheck_stopped hh, exec_referenceCheckRetry_stopped hh⟩,
      fun facts => exec_copyCheckComplete_stopped hh, fun logFails => exec_imageApply_stopped hh, exec_linkTrainingEnd_stopped hh⟩
end

/-! ### Recovery mode

What WRITE and ERASE do to the boot NOR byte by byte, and what each recovery command comes to where it is accepted (R60, R61).
-/

namespace Sys2Proof.Machine

namespace Cells

variable {c : Cells} {b d k k' v : Nat}

theorem put_rising (hc : c.risingFrom b = true) (hk : b ≤ k) : (c.put d k v).risingFrom b = true := by
  unfold put
  split
  · exact del_rising hc
  · exact ins_rising hc hk

theorem getD_put_self (hc : c.risingFrom b = true) : ((c.put d k v).get k).getD d = v := by
  unfold put
  split
  · next h => rw [get_del_self hc, h, Option.getD_none]
  · rw [get_ins_self, Option.getD_some]

theorem get_put_ne (hc : c.risingFrom b = true) (h : k' ≠ k) : (c.put d k v).get k' = c.get k' := by
  unfold put
  split
  · exact get_del_ne hc h
  · exact get_ins_ne h

end Cells

namespace State

variable {s : State} {a k : Nat} {bytes : List Nat}

/-- Programming changes the bytes of the NOR alone. -/
theorem norProgram_same : s.norProgram a bytes = { s with boot := { s.boot with nor := (s.norProgram a bytes).boot.nor } } := by
  induction bytes generalizing s a with
  | nil => rfl
  | cons b rest ih => exact ih

theorem norProgram_frame : { s.norProgram a bytes with boot := { (s.norProgram a bytes).boot with nor := s.boot.nor } } = s :=
  congrArg (fun t : State => { t with boot := { t.boot with nor := s.boot.nor } }) norProgram_same

/-- One byte programmed, in `norProgram`. -/
theorem norProgram_cons {b : Nat} : s.norProgram a (b :: bytes) =
    (State.norProgram { s with boot := { s.boot with nor := s.boot.nor.put 0xFF a (b % 256) } } (a + 1) bytes) := rfl

theorem norByte_norProgram_outside (hs : s.boot.nor.risingFrom 0 = true) (hk : k < a ∨ a + bytes.length ≤ k) :
    (s.norProgram a bytes).norByte k = s.norByte k := by
  induction bytes generalizing s a with
  | nil => rfl
  | cons b rest ih =>
    rw [List.length_cons] at hk
    rw [norProgram_cons, ih (Cells.put_rising hs (Nat.zero_le _)) (by omega)]
    exact congrArg (Option.getD · 0xFF) (Cells.get_put_ne hs (by omega))

theorem norByte_norProgram_inside (hs : s.boot.nor.risingFrom 0 = true) (hk : k < bytes.length) :
    (s.norProgram a bytes).norByte (a + k) = bytes[k] % 256 := by
  induction bytes generalizing s a k with
  | nil => cases hk
  | cons b rest ih =>
    have hput := Cells.put_rising (d := 0xFF) (k := a) (v := b % 256) hs (Nat.zero_le _)
    rw [norProgram_cons]
    cases k with
    | zero =>
      rw [norByte_norProgram_outside hput (by omega)]
      exact Cells.getD_put_self hs
    | succ k =>
      rw [show a + (k + 1) = a + 1 + k by omega, ih hput (Nat.lt_of_succ_lt_succ hk), List.getElem_cons_succ]

/-! Ranges of the NOR (R51, R61). -/

theorem inOneRegion_true {lo hi : Nat} (hn : s.boot.norOk = true) (hl : lo < hi)
    (h : hi ≤ s.copyBase 1 ∨ s.copyBase 1 ≤ lo ∧ hi ≤ s.logBase) : s.inOneRegion lo hi = true := by
  simpa [inOneRegion, hn, hl] using h

/-- A range that touches the logbook or crosses the boundary between the copies. -/
theorem inOneRegion_false {lo hi : Nat} (hb : s.copyBase 1 ≤ s.logBase)
    (h : s.logBase < hi ∨ lo < s.copyBase 1 ∧ s.copyBase 1 < hi) : s.inOneRegion lo hi = false := by
  simp only [inOneRegion, Bool.and_eq_false_iff, Bool.or_eq_false_iff, decide_eq_false_iff_not]
  omega

/-! The commands. -/

/-- A command whose arm is one choice does what that choice says. -/
theorem does_of_ite {c : Instr} {t : State} {p : Prop} [Decidable p] (h : exec c s = .next (if p then t else s)) : Does c s p t :=
  ⟨fun hp => by rw [h, if_pos hp], fun hp => by rw [h, if_neg hp]⟩

/-- The bytes that a WRITE programs and their offset: its operands on the console, what BAR0 holds by the endpoint (R60). -/
def writeOf (s : State) (data : Option (Nat × List Nat)) : Nat × List Nat :=
  data.getD (s.boot.bar.offset, (List.range (min s.boot.bar.length 65537)).map fun k => (s.boot.bar.buf.get k).getD 0)

theorem exec_recoveryWrite {data : Option (Nat × List Nat)} (ht : s.takesRecovery data.isNone 3 = true)
    (hd : s.writeOf data = (a, bytes)) (hl : bytes.length ≤ 65536) : exec (.recoveryWrite data) s = .next
      (if s.inOneRegion a (a + bytes.length) then (s.norProgram a bytes).answerRecovery data.isNone 0 []
        else s.answerRecovery data.isNone 2 []) := by
  show execRecoveryWrite data s = _
  have h1 : (data.map (·.1)).getD s.boot.bar.offset = a := by
    refine Eq.trans ?_ (congrArg Prod.fst hd)
    cases data <;> rfl
  have h2 : (data.map (·.2)).getD ((List.range (min s.boot.bar.length 65537)).map fun k => (s.boot.bar.buf.get k).getD 0) = bytes := by
    refine Eq.trans ?_ (congrArg Prod.snd hd)
    cases data <;> rfl
  simp only [execRecoveryWrite, h1, h2, ht, Nat.not_lt.mpr hl]
  cases s.inOneRegion a (a + bytes.length) <;> rfl

theorem exec_recoveryErase {off : Option Nat} (ht : s.takesRecovery off.isNone 2 = true) (hn : s.boot.norOk = true) :
    exec (.recoveryErase off) s = .next (
      let a := off.getD s.boot.bar.offset
      if s.logBase ≤ a then s.answerRecovery off.isNone 2 []
      else (s.norErase (if a = 0 then 0 else s.copyBase 1) (if a = 0 then s.copyBase 1 else s.logBase)).answerRecovery
        off.isNone 0 []) := by
  show execRecoveryErase off s = _
  simp [execRecoveryErase, ht, hn]

/-- The logbook begins above the start of the NOR. -/
theorem logBase_pos (h : 16 ≤ s.boot.norCap) : 0 < s.logBase := Nat.mul_pos (by omega) (by decide)

/-- Outside recovery mode no recovery command is accepted (R60). -/
theorem takesRecovery_false {ep : Bool} {code : Nat} (h : s.stage ≠ 0xE) : s.takesRecovery ep code = false := by
  simp [takesRecovery, h]

end State

end Sys2Proof.Machine

section
open Sys2Proof.Machine Sys2Proof.Machine.State

/-- Settles O18: a range within one region is programmed byte by byte, and any other is refused before a byte is. -/
theorem recoveryWriteProgramsItsBytesOnly : Obligations.RecoveryWriteProgramsItsBytesOnly := by
  intro data off bytes s ht hd hne hlen hrise hok
  have hpos : 0 < bytes.length := List.length_pos_iff.mpr hne
  have hexec := exec_recoveryWrite ht hd.symm hlen
  refine ⟨fun h => ⟨s.norProgram off bytes, ?_, fun k hk => norByte_norProgram_inside hrise hk,
    fun a ha => norByte_norProgram_outside hrise ha, norProgram_frame⟩, fun h hb => ?_⟩
  · rw [hexec, if_pos (inOneRegion_true hok (by omega) h)]
  · rw [hexec, inOneRegion_false hb h]
    rfl

/-- Settles O17: each command's arm of R60, with an offset 0 below the logbook. -/
theorem recoveryCommandsComplete : Obligations.RecoveryCommandsComplete := by
  refine ⟨fun ep s => does_of_ite rfl, fun off s ht hn hcap => ?_, fun copy facts s => does_of_ite rfl,
    fun ep straps s => does_of_ite rfl, fun s h => ⟨fun off => ?_, fun data => ?_⟩, fun s h code => ?_, fun status data s => rfl,
    fun status data s => ⟨rfl, rfl⟩⟩
  · intro a
    have hexec := exec_recoveryErase ht hn
    have hpos := logBase_pos hcap
    refine ⟨fun h0 => ?_, fun h0 hl => ?_, fun hl => ?_⟩
    · rw [hexec, if_neg (show ¬ s.logBase ≤ a by omega), if_pos h0, if_pos h0]
    · rw [hexec, if_neg (show ¬ s.logBase ≤ a by omega), if_neg h0, if_neg h0]
    · rw [hexec, if_pos hl]
  · show execRecoveryErase off s = _
    simp only [execRecoveryErase, takesRecovery_false h, Bool.not_false, if_true]
  · show execRecoveryWrite data s = _
    simp only [execRecoveryWrite, takesRecovery_false h, Bool.not_false, if_true]
  · simp [takesRecovery, h]
end

/-! ### Resets

What each reset row comes to (R67 to R69, R442, R513, R528), and what a system reset clears and keeps.
-/

namespace Sys2Proof.Machine

namespace State

variable {s : State} {core t : Nat} {ok : Bool}

/-- The expiry of a core's watchdog is remembered with its time (R504). -/
def noteExpiry (s : State) (core : Nat) : State :=
  { s with cox := { s.cox with expired := (s.cox.expired.filter fun (e : Nat × Nat) => e.1 != core) ++ [(core, s.now)] } }

/-- A watchdog of a core has expired within the last 24 h (R504). -/
def expiredBefore (s : State) (core : Nat) : Bool :=
  match s.cox.expired.lookup core with
  | some t => decide (s.now - t < 86400000000000)
  | none => false

theorem expiredBefore_none (h : s.cox.expired.lookup core = none) : s.expiredBefore core = false := by
  simp only [expiredBefore, h]

theorem expiredBefore_some (h : s.cox.expired.lookup core = some t) :
    s.expiredBefore core = decide (s.now - t < 86400000000000) := by
  simp only [expiredBefore, h]

/-- COX_WATCHDOG_EXPIRY of a core in service, with no activation to roll back: a cox reset and EV0896, and where the core has expired
before, its retirement first (R442, R504). -/
theorem exec_coxWatchdogExpiry {u : State} (hc : core < 4) (hb : (s.rd F.COX_STATUS_CORES).testBit core = true)
    (hs : s.coxStarted = true) (hu : u = if s.expiredBefore core then (s.noteExpiry core).coreFails core else s.noteExpiry core)
    (hr : u.cox.roll = none) :
    exec (.coxWatchdogExpiry core ok) s = .next ((u.coxReset ok).raise 896 (coreUnit core)).carryOn := by
  have hcond : ¬ (decide (4 ≤ core) || !(s.rd F.COX_STATUS_CORES).testBit core || !s.coxStarted) = true := by
    simp [hb, hs, hc]
  show execCoxWatchdogExpiry core ok s = _
  unfold execCoxWatchdogExpiry
  rw [if_neg hcond]
  refine congrArg Host.Outcome.next ?_
  extract_lets again cox s1 s2 rolls s3
  have h2 : s2 = u := hu.symm
  have h3 : s3 = u.coxReset ok := by simp only [s3, rolls, h2, hr, Bool.false_eq_true, if_false]
  rw [h3]

end State

/-! ### What a system reset keeps -/

/-- From `s` to `t` nothing changes but registers, bays, outputs and the sequencer, which keeps the contents of the NOR. -/
structure StartWork (s t : State) : Prop where
  same : t = { s with regs := t.regs, bay := t.bay, boot := t.boot, out := t.out }
  nor : t.boot.nor = s.boot.nor

theorem StartWork.trans {s t u : State} (h : StartWork s t) (g : StartWork t u) : StartWork s u where
  same := by
    have e := g.same
    rw [h.same] at e
    exact e
  nor := g.nor.trans h.nor

/-- Every part of the state but those four is as before. -/
theorem StartWork.part {s t : State} {α : Type} (h : StartWork s t) (f : State → α) :
    f t = f { s with regs := t.regs, bay := t.bay, boot := t.boot, out := t.out } := congrArg f h.same

theorem StartWork.after {s t u : State} (g : StartWork t u) (h : StartWork s t) : StartWork s u := h.trans g

theorem BayWork.startWork {s t : State} (h : BayWork s t) : StartWork s t := by
  rw [h.same]
  exact ⟨rfl, rfl⟩

namespace State

variable {s t : State} {p : Straps} {cause : Nat}

/-- Cells of the bay-power die are written as they stand (R68). -/
theorem writeCells_startWork {l : Cells} : StartWork t (l.foldl (fun u kv => { u with regs := u.regs.write kv.1 kv.2 }) t) := by
  induction l generalizing t with
  | nil => exact ⟨rfl, rfl⟩
  | cons kv l ih => exact StartWork.after (t := { t with regs := t.regs.write kv.1 kv.2 }) ih ⟨rfl, rfl⟩

theorem writeCells_wf {l : Cells} (ht : t.regs.wf = true) :
    (l.foldl (fun u kv => { u with regs := u.regs.write kv.1 kv.2 }) t).regs.wf = true := by
  induction l generalizing t with
  | nil => exact ht
  | cons kv l ih => exact ih (Cells.write_wf ht)

theorem keepBays_startWork : StartWork t (t.keepBays s) := by
  unfold keepBays
  extract_lets t1 t2
  have h1 : StartWork t t1 := writeCells_startWork
  clear_value t1
  exact h1.trans ⟨rfl, rfl⟩

theorem keepBays_wf (ht : t.regs.wf = true) : (t.keepBays s).regs.wf = true := by
  unfold keepBays
  extract_lets t1 t2
  have h1 : t1.regs.wf = true := writeCells_wf ht
  clear_value t1
  exact wr_wf (s := t1) h1

theorem systemClear_startWork : StartWork (State.reset.keepAlways s) (s.systemClear cause) :=
  keepBays_startWork.trans ⟨rfl, rfl⟩

theorem systemClear_wf : (s.systemClear cause).regs.wf = true := wr_wf (wr_wf (keepBays_wf keepAlways_wf))

theorem rd_systemClear_cause (hc : cause < 16) : (s.systemClear cause).rd F.SYS_STATUS_CAUSE = cause := by
  have hwf : ((State.reset.keepAlways s).keepBays s).regs.wf = true := keepBays_wf keepAlways_wf
  unfold systemClear
  dsimp only
  rw [rd_wr_ne (wr_wf hwf) (by decide), rd_wr_self hwf]
  exact Nat.mod_eq_of_lt hc

/-- The restart at step 3, before the stage moves: straps and headers (R47). -/
def restarting (s : State) (p : Straps) : State := (s.watchDomains.sampleStraps p).readHeaders

/-- STAGE 2, with SYS_RST_N released (R38, R528). -/
def stageMoved (s : State) : State := { s.setStage 2 with boot := { s.boot with rstLow := false } }

theorem rd_stageMoved {f : Field} {i j : Nat} : s.stageMoved.rd f i j = (s.setStage 2).rd f i j := rfl

theorem restart3_eq : s.restart3 p = (s.restarting p).stageMoved.holdIfFailing := rfl

theorem restarting_wf (hs : s.regs.wf = true) : (s.restarting p).regs.wf = true :=
  readHeaders_readsAs.wf (sampleStraps_wf (watchDomains_readsAs.wf hs))

theorem wr_startWork {f : Field} {v i j : Nat} : StartWork s (s.wr f v i j) := ⟨rfl, rfl⟩

theorem setDom_startWork {d src : Nat} {busy hold : Bool} : StartWork s (s.setDom d src busy hold) :=
  wr_startWork.trans wr_startWork

theorem watchDomains_startWork : StartWork s s.watchDomains := setDom_startWork.trans setDom_startWork

theorem resetNor_startWork : StartWork s s.resetNor := ⟨rfl, rfl⟩

theorem readHeaders_startWork : StartWork s s.readHeaders :=
  resetNor_startWork.trans (((wr_startWork.trans wr_startWork).trans wr_startWork).trans wr_startWork)

theorem strapped_startWork : StartWork s (s.strapped p) := (wr_startWork.trans wr_startWork).trans wr_startWork

theorem sampleStraps_startWork : StartWork s (s.sampleStraps p) :=
  (strapped_startWork.trans settleOwner_bayWork.startWork).after (t := { s with boot := { s.boot with pins := p } }) ⟨rfl, rfl⟩

theorem restarting_startWork : StartWork s (s.restarting p) :=
  (watchDomains_startWork.trans sampleStraps_startWork).trans readHeaders_startWork

theorem stageMoved_startWork : StartWork s s.stageMoved := ⟨rfl, rfl⟩

theorem holdIfFailing_startWork : StartWork s s.holdIfFailing := by
  unfold holdIfFailing
  split <;> exact ⟨rfl, rfl⟩

theorem restart3_startWork : StartWork s (s.restart3 p) := by
  rw [restart3_eq]
  exact (restarting_startWork.trans stageMoved_startWork).trans holdIfFailing_startWork

theorem systemReset_startWork : StartWork (State.reset.keepAlways s) (s.systemReset cause p) :=
  systemClear_startWork.trans restart3_startWork

theorem restart3_stage (hs : s.regs.wf = true) : (s.restart3 p).stage = 2 := by
  rw [restart3_eq, stage, rd_holdIfFailing, rd_stageMoved, setStage, rd_wr_self (restarting_wf hs)]
  rfl

/-- A field of SYS_STATUS or BOOT_STATUS stays while straps and headers are read. -/
theorem restarting_readsAs {f : Field} (hf : StartField (f.key 0 0)) (h1 : f.key 0 0 ≠ F.SYS_STRAP_SETTLE.key 0 0)
    (h2 : f.key 0 0 ≠ F.SYS_STRAP_BAY_MASTER.key 0 0) (h3 : f.key 0 0 ≠ F.SYS_STRAP_TWIN_PRSNT.key 0 0) :
    ReadsAs (· = f.key 0 0) s (s.restarting p) := by
  have early : ∀ k, k = f.key 0 0 → StartField k := fun _ e => e ▸ hf
  have hstraps (t : State) : ReadsAs (· = f.key 0 0) t (t.strapped p) :=
    .wr (.wr (.wr (.refl t) h1.symm) h2.symm) h3.symm
  have hpins : ReadsAs (· = f.key 0 0) s.watchDomains { s.watchDomains with boot := { s.watchDomains.boot with pins := p } } := .of rfl
  have hsample := (hpins.trans (hstraps _)).trans (settleOwner_bayWork.reads.mono early)
  exact ((watchDomains_readsAs.mono early).trans hsample).trans (readHeaders_readsAs.mono early)

/-- A restart leaves CAUSE alone. -/
theorem rd_restart3_cause (hs : s.regs.wf = true) : (s.restart3 p).rd F.SYS_STATUS_CAUSE = s.rd F.SYS_STATUS_CAUSE := by
  rw [restart3_eq, rd_holdIfFailing, rd_stageMoved, setStage, rd_wr_ne (restarting_wf hs) (by decide),
    (restarting_readsAs (by decide) (by decide) (by decide) (by decide)).rd hs rfl]

end State

end Sys2Proof.Machine

section
open Sys2Proof.Machine Sys2Proof.Machine.State

/-- Settles O19: one arm per reset row. -/
theorem resetsComplete : Obligations.ResetsComplete := by
  refine ⟨fun s => rfl, fun value straps s => does_of_ite ?_, fun value ok s => does_of_ite ?_, fun core ok s hc hb hs hr => ?_,
    fun straps s => does_of_ite ?_, fun s => ⟨rfl, rfl, rfl⟩, fun d s => ?_, fun straps s => ?_, fun s => rfl, fun perst s => rfl⟩
  · show execSysResetSystem value straps s = _
    simp only [execSysResetSystem, Bool.and_eq_true, decide_eq_true_eq]
  · show execSysResetCox value ok s = _
    simp only [execSysResetCox, Bool.and_eq_true, decide_eq_true_eq, Bool.not_eq_true', and_assoc]
  · intro u
    refine ⟨fun h => ?_, fun t h ht => ?_, fun t h ht hroll => ?_⟩
    · exact exec_coxWatchdogExpiry hc hb hs (by rw [expiredBefore_none h]; rfl) hr
    · have hlate : ¬ s.now - t < 86400000000000 := by omega
      exact exec_coxWatchdogExpiry hc hb hs (by rw [expiredBefore_some h, decide_eq_false hlate]; rfl) hr
    · exact exec_coxWatchdogExpiry hc hb hs (by rw [expiredBefore_some h, decide_eq_true ht]; rfl) hroll
  · show execWatchModeRestart straps s = _
    simp only [execWatchModeRestart, Bool.and_eq_true]
  · show (_ → settled (actVin12Excursion (some d) s) = _) ∧ (_ → settled (actVin12Excursion (some d) s) = _)
    exact ⟨fun h => by rw [actVin12Excursion, if_pos h]; rfl, fun h => by rw [actVin12Excursion, if_neg h]; rfl⟩
  · show (_ → execSysRstNRelease straps s = _) ∧ (_ → execSysRstNRelease straps s = _)
    exact ⟨fun h => by rw [execSysRstNRelease, if_pos h], fun h => by rw [execSysRstNRelease, if_neg h]⟩
end

section
open Sys2Proof.Machine Sys2Proof.Machine.State

/-- Settles O20: but for registers, bays, outputs and the sequencer the state is `State.reset.keepAlways s`, read off part by part. -/
theorem systemResetClearsAndKeeps : Obligations.SystemResetClearsAndKeeps := by
  intro s cause p hc t
  have h : StartWork (State.reset.keepAlways s) t := systemReset_startWork
  refine ⟨h.part State.skf, h.part State.nvt, h.part State.ev, h.part State.crw,
    h.part State.twn, h.part State.cip, h.part State.sw, h.part State.wrg,
    h.part State.cmp, h.part State.heat, ?_, h.part State.fuses, h.nor,
    h.part fun u => u.cox.log, restart3_stage systemClear_wf,
    (rd_restart3_cause systemClear_wf).trans (rd_systemClear_cause hc)⟩
  rw [show t.cox = (State.reset.keepAlways s).cox from h.part State.cox]
  rfl
end

/-! ### Indices of work rings

What a write of a ring's index comes to (R398, R400, R412), and the registers of a ring that has just been enabled.
-/

namespace Sys2Proof.Machine.State

variable {s : State} {cox : Bool} {ring i : Nat} {w0 : Word}

/-! The rows DOORBELL, CI_WRITE and RING_ENABLE. -/

/-- The steward host does not write an index of a ring of cox (R398). -/
theorem barred_iff (h : coxRing ring = true → cox = true) : (coxRing ring && !cox) = false := by
  cases hc : coxRing ring with
  | false => rfl
  | true => rw [h hc]; rfl

theorem exec_doorbell_barred (h : 1008 ≤ ring) (h2 : ring < 1024) (hr : s.ready = true) :
    exec (.doorbell false ring i) s = .next (s.raise 773 (0x9000 + ring)).atOnce := by
  show settled (actDoorbell false ring i s) = _
  simp [actDoorbell, settled, coxRing, coxOwned, hr, Nat.not_le.mpr h2, h]

theorem exec_ciWrite_barred (h : 1008 ≤ ring) (h2 : ring < 1024) (hr : s.ready = true) :
    exec (.ciWrite false ring i) s = .next (s.raise 773 (0x9000 + ring)).atOnce := by
  show settled (actCiWrite false ring i s) = _
  simp [actCiWrite, settled, coxRing, coxOwned, hr, Nat.not_le.mpr h2, h]

theorem exec_doorbell_early (hr : s.ready = false) : exec (.doorbell cox ring i) s = .next s.atOnce := by
  show settled (actDoorbell cox ring i s) = _
  simp [actDoorbell, settled, hr]

theorem exec_ciWrite_early (hr : s.ready = false) : exec (.ciWrite cox ring i) s = .next s.atOnce := by
  show settled (actCiWrite cox ring i s) = _
  simp [actCiWrite, settled, hr]

theorem exec_ringEnable_early (hr : s.ready = false) : exec (.ringEnable ring w0) s = .next s.atOnce := by
  show settled (actRingEnable ring w0 s) = _
  simp [actRingEnable, settled, hr]

/-- A host that may write the ring's index writes it. -/
theorem exec_doorbell_open (h2 : ring < 1024) (hr : s.ready = true) (hc : coxRing ring = true → cox = true) (hi : i < 2 ^ 32) :
    exec (.doorbell cox ring i) s = .next (s.writePi ring i).atOnce := by
  show settled (actDoorbell cox ring i s) = _
  simp only [actDoorbell, barred_iff hc, hr, Nat.not_le.mpr h2, Nat.mod_eq_of_lt hi, decide_false, Bool.not_true, Bool.or_self,
    Bool.false_eq_true, if_false, settled]

theorem exec_ciWrite_open (h2 : ring < 1024) (hr : s.ready = true) (hc : coxRing ring = true → cox = true) (hi : i < 2 ^ 32) :
    exec (.ciWrite cox ring i) s = .next (s.writeCi ring i).atOnce := by
  show settled (actCiWrite cox ring i s) = _
  simp only [actCiWrite, barred_iff hc, hr, Nat.not_le.mpr h2, Nat.mod_eq_of_lt hi, decide_false, Bool.not_true, Bool.or_self,
    Bool.false_eq_true, if_false, settled]

theorem exec_ringEnable_open (h2 : ring < 1024) (hr : s.ready = true) (he : s.is F.WRG_RING_EN ring = false)
    (hw : w0.getLsbD 31 = true) : exec (.ringEnable ring w0) s = .next (s.enableRing ring w0.toNat).atOnce := by
  show settled (actRingEnable ring w0 s) = _
  simp only [actRingEnable, hr, he, hw, h2, decide_true, Bool.not_false, Bool.and_self, if_true, settled]

/-! The writes themselves (R400). -/

/-- A producer index that moves backwards or too far ahead is ignored. -/
theorem writePi_bad (hk : s.rd F.WRG_RING_KIND ring = inbound) (hr : s.ringRuns ring = true)
    (h : 2 ^ 31 ≤ State.serial (s.rd F.WRG_IDX_PI ring) i ∨ s.ringSize ring < State.serial (s.rd F.WRG_IDX_CI ring) i) :
    s.writePi ring i = s.raise 768 (0x9000 + ring) := by
  rw [writePi, if_neg (by simp [hk, hr]), if_pos (by simpa using h)]

theorem writePi_good (hk : s.rd F.WRG_RING_KIND ring = inbound) (hr : s.ringRuns ring = true)
    (h1 : State.serial (s.rd F.WRG_IDX_PI ring) i < 2 ^ 31) (h2 : State.serial (s.rd F.WRG_IDX_CI ring) i ≤ s.ringSize ring) :
    s.writePi ring i = (s.wr F.WRG_IDX_PI i ring).checkCq ring := by
  have h : ¬ (2 ^ 31 ≤ State.serial (s.rd F.WRG_IDX_PI ring) i ∨ s.ringSize ring < State.serial (s.rd F.WRG_IDX_CI ring) i) := by
    omega
  rw [writePi, if_neg (by simp [hk, hr]), if_neg (by simpa using h)]

/-- A consumer index past PI or backwards is ignored. -/
theorem writeCi_bad (hk : s.rd F.WRG_RING_KIND ring ≠ inbound) (hr : s.ringRuns ring = true)
    (h : State.serial (s.rd F.WRG_IDX_CI ring) (s.rd F.WRG_IDX_PI ring) < State.serial (s.rd F.WRG_IDX_CI ring) i) :
    s.writeCi ring i = s.raise 768 (0x9000 + ring) := by
  rw [writeCi, if_neg (by simp [hk, hr]), if_pos h]

theorem key_kind_ne_ci : F.WRG_RING_KIND.key ring 0 ≠ F.WRG_IDX_CI.key ring 0 := by
  simp only [Field.key, Field.addr, F.WRG_RING_KIND, F.WRG_IDX_CI]
  omega

theorem key_lost_ne_ci : F.WRG_IDX_LOST.key ring 0 ≠ F.WRG_IDX_CI.key ring 0 := by
  simp only [Field.key, Field.addr, F.WRG_IDX_LOST, F.WRG_IDX_CI]
  omega

/-- A good consumer index moves, and where it makes room on an outbound ring the count of lost notices is told (R412). -/
theorem writeCi_good (hs : s.regs.wf = true) (hk : s.rd F.WRG_RING_KIND ring ≠ inbound) (hr : s.ringRuns ring = true)
    (h : State.serial (s.rd F.WRG_IDX_CI ring) i ≤ State.serial (s.rd F.WRG_IDX_CI ring) (s.rd F.WRG_IDX_PI ring)) :
    s.writeCi ring i =
      if s.rd F.WRG_RING_KIND ring = outbound ∧ s.rd F.WRG_IDX_LOST ring ≠ 0 ∧ 0 < (s.wr F.WRG_IDX_CI i ring).ringRoom ring then
        ((s.wr F.WRG_IDX_CI i ring).putEntry ring 0x83 2 (s.rd F.WRG_IDX_LOST ring) 0 none [] []).wr F.WRG_IDX_LOST 0 ring
      else s.wr F.WRG_IDX_CI i ring := by
  rw [writeCi, if_neg (by simp [hk, hr]), if_neg (Nat.not_lt.mpr h)]
  dsimp only
  rw [rd_wr_ne hs key_kind_ne_ci, noticeLost, rd_wr_ne hs key_lost_ne_ci]
  simp only [ne_eq, Bool.and_eq_true, decide_eq_true_eq, and_assoc]

/-! Enabling a ring (R400). -/

/-- Registers of the work rings lie from this bit address on; those that hampers show lie below. -/
abbrev RingField (k : Nat) : Prop := F.WRG_MODE_COMPAT.key 0 0 ≤ k

theorem showUse_readsAs {h : Nat} (hh : h < 16) : ReadsAs RingField s (s.showUse h) := by
  have hnow : ¬ RingField (F.HMP_USE_NOW.key h 0) := by
    simp only [RingField, Field.key, Field.addr, F.HMP_USE_NOW, F.WRG_MODE_COMPAT]
    omega
  have hpeak : ¬ RingField (F.HMP_USE_PEAK.key h 0) := by
    simp only [RingField, Field.key, Field.addr, F.HMP_USE_PEAK, F.WRG_MODE_COMPAT]
    omega
  have h1 : ReadsAs RingField s (s.wr F.HMP_USE_NOW (s.percentUsed h) h) := .wr (.refl s) hnow
  exact .ite (.wr h1 hpeak) h1

theorem freeBuffers_readsAs {h : Nat} {o : Nat × Nat × Nat} (hh : h < 16) : ReadsAs RingField s (s.freeBuffers h o) := by
  unfold freeBuffers
  exact ReadsAs.trans (t := { s with hmp := { s.hmp with holds := s.hmp.holds.filter fun x => !(x.hamper == h && x.owner == o) } })
    (.of rfl) (showUse_readsAs hh)

theorem dropWait_readsAs {h : Nat} {o : Nat × Nat × Nat} : ReadsAs RingField s (s.dropWait h o) := .of rfl

/-- Entries that are dropped release buffers of H13, and leave the rings' registers alone (R419). -/
theorem dropTaken_readsAs {gone : Taken → Bool} : ReadsAs RingField s (s.dropTaken gone) := by
  unfold dropTaken
  refine ReadsAs.trans (t := { s with wrg := { s.wrg with taken := s.wrg.taken.filter fun e => !gone e } }) (.of rfl)
    (.foldl fun t e _ => ?_)
  extract_lets o t1
  have h1 : ReadsAs RingField t t1 := .ite dropWait_readsAs (.refl t)
  clear_value t1
  exact .ite h1 (h1.trans (freeBuffers_readsAs (by decide)))

/-- Both indices of a ring at 0 and EN set. -/
def ringStarted (s : State) (ring : Nat) : State := ((s.wr F.WRG_IDX_PI 0 ring).wr F.WRG_IDX_CI 0 ring).wr F.WRG_RING_EN 1 ring

theorem key_pi_ne_ci : F.WRG_IDX_PI.key ring 0 ≠ F.WRG_IDX_CI.key ring 0 := by
  simp only [Field.key, Field.addr, F.WRG_IDX_PI, F.WRG_IDX_CI]
  omega

theorem key_pi_ne_en : F.WRG_IDX_PI.key ring 0 ≠ F.WRG_RING_EN.key ring 0 := by
  simp only [Field.key, Field.addr, F.WRG_IDX_PI, F.WRG_RING_EN]
  omega

theorem key_ci_ne_en : F.WRG_IDX_CI.key ring 0 ≠ F.WRG_RING_EN.key ring 0 := by
  simp only [Field.key, Field.addr, F.WRG_IDX_CI, F.WRG_RING_EN]
  omega

theorem ringStarted_wf (hs : s.regs.wf = true) : (s.ringStarted ring).regs.wf = true := wr_wf (wr_wf (wr_wf hs))

theorem rd_ringStarted (hs : s.regs.wf = true) : (s.ringStarted ring).rd F.WRG_RING_EN ring = 1 ∧
    (s.ringStarted ring).rd F.WRG_IDX_PI ring = 0 ∧ (s.ringStarted ring).rd F.WRG_IDX_CI ring = 0 := by
  unfold ringStarted
  refine ⟨rd_wr_self (wr_wf (wr_wf hs)), ?_, ?_⟩
  · rw [rd_wr_ne (wr_wf (wr_wf hs)) key_pi_ne_en, rd_wr_ne (wr_wf hs) key_pi_ne_ci, rd_wr_self hs]
    rfl
  · rw [rd_wr_ne (wr_wf (wr_wf hs)) key_ci_ne_en, rd_wr_self (wr_wf hs)]
    rfl

/-- A ring's registers of its own lie among those of the rings, and its state is none of EN and the indices. -/
theorem ringKeys_apart : F.WRG_RING_EN.key ring 0 ≠ F.WRG_IDX_STATE.key ring 0 ∧
    F.WRG_IDX_PI.key ring 0 ≠ F.WRG_IDX_STATE.key ring 0 ∧ F.WRG_IDX_CI.key ring 0 ≠ F.WRG_IDX_STATE.key ring 0 := by
  simp only [Field.key, Field.addr, F.WRG_RING_EN, F.WRG_IDX_PI, F.WRG_IDX_CI, F.WRG_IDX_STATE]
  omega

theorem ringKeys_ringField : RingField (F.WRG_RING_EN.key ring 0) ∧ RingField (F.WRG_IDX_PI.key ring 0) ∧
    RingField (F.WRG_IDX_CI.key ring 0) := by
  simp only [RingField, Field.key, Field.addr, F.WRG_RING_EN, F.WRG_IDX_PI, F.WRG_IDX_CI, F.WRG_MODE_COMPAT]
  omega

/-- What RING_ENABLE leaves in EN, PI and CI. -/
theorem rd_enableRing {w : Nat} (hs : s.Canonical) : (s.enableRing ring w).rd F.WRG_RING_EN ring = 1 ∧
    (s.enableRing ring w).rd F.WRG_IDX_PI ring = 0 ∧ (s.enableRing ring w).rd F.WRG_IDX_CI ring = 0 := by
  have hwf : (s.storeWord (F.WRG_RING_EN.addr ring 0) 0x7FFFFFFF w).regs.wf = true :=
    ((storeWord_kept (.refl s)).canonical hs).1
  unfold enableRing
  extract_lets s1 s2 d wrg s3
  have h2 : s2.regs.wf = true := ringStarted_wf hwf
  obtain ⟨hen, hpi, hci⟩ : s2.rd F.WRG_RING_EN ring = 1 ∧ s2.rd F.WRG_IDX_PI ring = 0 ∧ s2.rd F.WRG_IDX_CI ring = 0 :=
    rd_ringStarted hwf
  have h3 : ReadsAs RingField s2 s3 := dropTaken_readsAs.trans (.of rfl)
  clear_value s3 s2
  obtain ⟨aen, api, aci⟩ := ringKeys_apart (ring := ring)
  obtain ⟨fen, fpi, fci⟩ := ringKeys_ringField (ring := ring)
  rw [rd_wr_ne (h3.wf h2) aen, rd_wr_ne (h3.wf h2) api, rd_wr_ne (h3.wf h2) aci]
  exact ⟨(h3.rd h2 fen).trans hen, (h3.rd h2 fpi).trans hpi, (h3.rd h2 fci).trans hci⟩

end Sys2Proof.Machine.State

section
open Sys2Proof.Machine Sys2Proof.Machine.State

/-- Settles O48: the rows come to `writePi`, `writeCi` and `enableRing`, whose cases are R400's. -/
theorem ringIndexWritesComplete : Obligations.RingIndexWritesComplete := by
  refine ⟨fun ring i s h h2 hr => ⟨exec_doorbell_barred h h2 hr, exec_ciWrite_barred h h2 hr⟩,
    fun cox ring i w0 s hr => ⟨exec_doorbell_early hr, exec_ciWrite_early hr, exec_ringEnable_early hr⟩,
    fun cox ring s hs h2 hr hc => ⟨fun i hi hk hrun => ⟨fun h => ?_, fun h1 hsize => ?_⟩,
      fun i hi hk hrun => ⟨fun h => ?_, fun h => ?_⟩, fun w0 he hw => ?_⟩⟩
  · rw [exec_doorbell_open h2 hr hc hi, writePi_bad hk hrun h]
  · rw [exec_doorbell_open h2 hr hc hi, writePi_good hk hrun h1 hsize]
  · rw [exec_ciWrite_open h2 hr hc hi, writeCi_bad hk hrun h]
  · rw [exec_ciWrite_open h2 hr hc hi, writeCi_good hs.1 hk hrun h]
    refine ⟨fun hno => ?_, fun hout hlost hroom => ?_⟩
    · rw [if_neg fun ⟨hout, hlost, _⟩ => hno.elim (absurd hout) (absurd · hlost)]
    · rw [if_pos ⟨hout, hlost, hroom⟩]
  · obtain ⟨hen, hpi, hci⟩ := rd_enableRing (ring := ring) (w := w0.toNat) hs
    exact ⟨_, exec_ringEnable_open h2 hr he hw, beq_iff_eq.mpr hen, hpi, hci⟩
end

/-! ### Answers

An ANSWER whose payload its function accepts comes to `concluded` (R409, R413).
-/

namespace Sys2Proof.Machine.State

variable {s : State} {ring fn code : Nat} {data : Option (List Nat)} {e : Taken × Item}

/-- What a fatal fault does at once follows the command's own effect (R178, R277). -/
theorem settled_of_eq {t u : State} (h : t = u) : settled (.next t) = .next u.atOnce := by
  rw [h]
  rfl

/-- An ANSWER ends its item with what the function makes of its entry. -/
theorem answerWith_accepted {codes : List Nat} {act : Entry → Item → State → Option State} {effect : State → State}
    (h : s.answered ring fn code data = some e) (hc : codes.contains code = true)
    (ha : e.1.entry.code = code → act e.1.entry e.2 (s.endItem e.2.tag) = some (effect (s.endItem e.2.tag))) :
    s.answerWith ring fn codes data act = s.concluded e effect := by
  obtain ⟨hcode, hact⟩ := answerWith_answered (act := act) h hc
  rw [hact, ha hcode]
  rfl

end Sys2Proof.Machine.State

section
open Sys2Proof.Machine Sys2Proof.Machine.State

/-- Settles O50: every row is `answerWith` on its function and codes; what is left per row is that the entry's payload is one that
the row accepts. The rows that carry nothing beside their code share `answerPlain_answered`. -/
theorem answersComplete : Obligations.AnswersComplete := by
  intro ring data s e
  refine ⟨fun hp => ?_, fun h hd => ?_, fun bs hbs => ⟨fun h hne hlen h4 => ?_, fun h hd hmin hmax h8 hzero => ?_,
    fun h hmin hmax h4 hzero hdays hws => ?_, fun h hlen => ?_, fun h hlen hl hd => ?_⟩⟩
  · have plain {fn code : Nat} (act : Item → State → State) (h : s.answered ring fn code none = some e) :
        settled (.next (s.answerPlain ring fn code act)) = .next (s.concluded e fun t => act e.2 t).atOnce :=
      settled_of_eq (answerPlain_answered h hp)
    refine ⟨plain _, plain _, plain _, plain _, plain _, plain _, plain _, plain _, plain _, plain _, plain _, fun k h2 h6 h => ?_,
      plain _, plain _, plain _, plain _, fun f => plain _⟩
    refine settled_of_eq (answerWith_accepted h ?_ fun hcode => ?_)
    · simp only [List.contains_iff_mem, List.mem_cons, List.not_mem_nil, or_false]
      omega
    · rw [if_pos hp, hcode]
  · exact settled_of_eq (answerWith_accepted h rfl fun _ => if_pos hd)
  · refine settled_of_eq (answerWith_accepted h rfl fun _ => ?_)
    simp [hbs, hne, hlen, h4]
  · refine settled_of_eq (answerWith_accepted h rfl fun _ => ?_)
    simp [hbs, hd, h8, hzero, Nat.not_lt.mpr hmin, Nat.not_lt.mpr hmax]
  · refine settled_of_eq (answerWith_accepted h rfl fun _ => ?_)
    have hin : (paceWindows bs).any (fun w => decide (1440 ≤ w.1) || decide (1440 ≤ w.2)) = false := by
      simpa [List.any_eq_false] using fun a b hw => hws (a, b) hw
    simp [hbs, hin, h4, hzero, hdays, Nat.not_lt.mpr hmin, Nat.not_lt.mpr hmax]
  · refine settled_of_eq (answerWith_accepted h rfl fun _ => ?_)
    simp [hbs, hlen]
  · refine settled_of_eq (answerWith_accepted h rfl fun _ => ?_)
    simp [hbs, hlen, hl, hd]
end

/-! ### Event business leaves the clock registers alone

Raising an event writes the registers of gates, interrupts, events and counters, all of which lie above those of the pace
controller and of the references.
-/

namespace Sys2Proof.Machine

section
variable {p : Nat → Prop} {r s t : State}

/-- A change of anything but registers. -/
theorem ReadsAs.upd (h : ReadsAs p r s) (e : t.regs = s.regs) : ReadsAs p r t := h.trans (.of e)

end

/-- The registers of SYS, of the start, of the pace controller and of the references lie below this bit address. -/
abbrev BelowGates (k : Nat) : Prop := k < F.CLK_GATE_STATUS_CLOSED.key 0 0

/-- A field whose register lies from CLK_GATE_STATUS on. -/
theorem not_belowGates {f : Field} {i j : Nat} (h : F.CLK_GATE_STATUS_CLOSED.base ≤ f.base) : ¬ BelowGates (f.key i j) := by
  rw [BelowGates, show F.CLK_GATE_STATUS_CLOSED.key 0 0 = F.CLK_GATE_STATUS_CLOSED.base * 32 from rfl, Field.key, Field.addr]
  omega

section
variable {r s : State}

/-- A write above. -/
theorem ReadsAs.wrHigh {f : Field} {v i j : Nat} (h : ReadsAs BelowGates r s) (hf : F.CLK_GATE_STATUS_CLOSED.base ≤ f.base) :
    ReadsAs BelowGates r (s.wr f v i j) := .wr h (not_belowGates hf)

theorem ReadsAs.wrBitHigh {f : Field} {b i j : Nat} {v : Bool} (h : ReadsAs BelowGates r s)
    (hf : F.CLK_GATE_STATUS_CLOSED.base ≤ f.base) : ReadsAs BelowGates r (s.wrBit f b v i j) := .ite h (.wrHigh h hf)

end

namespace State

variable {r s : State}

theorem wake_below {u : Nat} (h : ReadsAs BelowGates r s) : ReadsAs BelowGates r (s.wake u) := by
  unfold wake setClosed
  exact .ite (.ite (.wrBitHigh h (by decide)) (.wrBitHigh h (by decide))) h

theorem sendInta_below (h : ReadsAs BelowGates r s) : ReadsAs BelowGates r s.sendInta := by
  unfold sendInta
  exact .ite h (.upd h rfl)

theorem settleLine_below (h : ReadsAs BelowGates r s) : ReadsAs BelowGates r s.settleLine := by
  unfold settleLine
  exact .ite h (sendInta_below (.wrHigh h (by decide)))

theorem setPend_below {p : Nat} (h : ReadsAs BelowGates r s) : ReadsAs BelowGates r (s.setPend p) := by
  unfold setPend
  exact .wrHigh (.wrHigh h (by decide)) (by decide)

theorem requestVector_below {v : Nat} (h : ReadsAs BelowGates r s) : ReadsAs BelowGates r (s.requestVector v) := by
  unfold requestVector
  extract_lets w
  have hw : ReadsAs BelowGates r w := wake_below h
  exact .ite (.ite (.upd hw rfl) (.upd hw rfl)) (settleLine_below (.ite hw (setPend_below hw)))

theorem countIn_below {u n c : Nat} (h : ReadsAs BelowGates r s) : ReadsAs BelowGates r (s.countIn u n c) := by
  unfold countIn
  extract_lets v s1
  have h1 : ReadsAs BelowGates r s1 := .wrHigh (.wrHigh h (by decide)) (by decide)
  exact .ite (.ite h1 (.wrHigh h1 (by decide))) h

theorem countAll_below {sel u n : Nat} (h : ReadsAs BelowGates r s) : ReadsAs BelowGates r (s.countAll sel u n) := by
  unfold countAll
  exact .ite h (h.trans (.foldl fun t _ _ => countIn_below (.refl t)))

theorem putSample_below {q : Sample} (h : ReadsAs BelowGates r s) : ReadsAs BelowGates r (s.putSample q) := by
  unfold putSample bump
  exact .ite (countAll_below (requestVector_below (.wrHigh (.upd h rfl) (by decide)))) (.wrHigh (.upd h rfl) (by decide))

theorem writeSample_below {k sel u : Nat} {c : Concern} (h : ReadsAs BelowGates r s) :
    ReadsAs BelowGates r (s.writeSample k sel u c) := by
  unfold writeSample
  exact .ite (.upd h rfl) (.ite (putSample_below (.upd h rfl)) (.upd h rfl))

theorem sampleAt_below {k sel u : Nat} {c : Concern} (h : ReadsAs BelowGates r s) : ReadsAs BelowGates r (s.sampleAt sel u c k) := by
  unfold sampleAt
  exact .ite (.ite (writeSample_below (.upd h rfl)) (.upd h rfl)) h

theorem occurN_below {sel u n : Nat} {c : Concern} (h : ReadsAs BelowGates r s) : ReadsAs BelowGates r (s.occurN sel u n c) := by
  unfold occurN
  exact (countAll_below h).trans (.foldl fun t _ _ => sampleAt_below (.refl t))

theorem interrupt_below {v : Nat} (h : ReadsAs BelowGates r s) : ReadsAs BelowGates r (s.interrupt v) := by
  unfold interrupt
  exact .ite (occurN_below (requestVector_below h)) (requestVector_below h)

theorem sendPldm_below {what : Nat → Nat → Out} (h : ReadsAs BelowGates r s) : ReadsAs BelowGates r (s.sendPldm what) := by
  unfold sendPldm
  split
  · exact h
  · exact .ite h (.ite (.upd h rfl) (.upd h rfl))

theorem log_below {kind sev : Nat} {p : List Nat} (h : ReadsAs BelowGates r s) : ReadsAs BelowGates r (s.log kind sev p) := by
  unfold log
  exact .wrHigh (.upd h rfl) (by decide)

theorem writeHost_below {e : EvRec} (h : ReadsAs BelowGates r s) : ReadsAs BelowGates r (s.writeHost e) := by
  unfold writeHost
  exact interrupt_below (.wrHigh (.upd h rfl) (by decide))

theorem bump_below {f : Field} {n i j : Nat} (h : ReadsAs BelowGates r s) (hf : F.CLK_GATE_STATUS_CLOSED.base ≤ f.base) :
    ReadsAs BelowGates r (s.bump f n i j) := .wrHigh h hf

theorem deliverHost_below {e : EvRec} (h : ReadsAs BelowGates r s) : ReadsAs BelowGates r (s.deliverHost e).1 := by
  unfold deliverHost
  split
  · exact h
  split
  · exact .upd h rfl
  split
  · exact writeHost_below h
  split
  · exact .upd h rfl
  split
  · split
    · exact bump_below (.upd h rfl) (by decide)
    · exact .upd h rfl
  split
  · exact .upd h rfl
  · exact bump_below h (by decide)

theorem preempt_below {e : FqEntry} (h : ReadsAs BelowGates r s) : ReadsAs BelowGates r (s.preempt e).1 := by
  unfold preempt
  split
  · exact .upd h rfl
  · exact h

theorem mergeFault_below {sev u : Nat} {p : State × Follow} (h : ReadsAs BelowGates r s) (hp : s.mergeFault sev u = some p) :
    ReadsAs BelowGates r p.1 := by
  unfold mergeFault at hp
  split at hp
  · cases hp
  split at hp
  · cases hp
    exact .upd h rfl
  split at hp
  · dsimp only at hp
    split at hp <;> (cases hp; exact .upd h rfl)
  split at hp
  · dsimp only at hp
    split at hp
    · cases hp
      exact preempt_below (.upd h rfl)
    · cases hp
      exact .upd h rfl
  · cases hp

theorem enqueueFault_below {e : FqEntry} (h : ReadsAs BelowGates r s) : ReadsAs BelowGates r (s.enqueueFault e).1 := by
  unfold enqueueFault
  split
  · exact .upd h rfl
  split
  · split
    · exact h
    · exact bump_below (.upd h rfl) (by decide)
  · split <;> exact h

theorem placeFault_below {ev sev u : Nat} (h : ReadsAs BelowGates r s) : ReadsAs BelowGates r (s.placeFault ev sev u).1 := by
  unfold placeFault
  extract_lets own src s1 e
  have h1 : ReadsAs BelowGates r s1 := .upd h rfl
  split
  · exact h
  split
  · next hp => exact mergeFault_below h1 hp
  split
  · split
    · exact .upd h1 rfl
    · exact enqueueFault_below h1
  · split
    · exact preempt_below h1
    · exact enqueueFault_below h1

theorem raiseOne_below {ev u d f : Nat} (h : ReadsAs BelowGates r s) : ReadsAs BelowGates r (s.raiseOne ev u d f).1 := by
  unfold raiseOne
  extract_lets sev nm e s1 src s2 s3 s4 s5
  have h1 : ReadsAs BelowGates r s1 := occurN_below h
  clear_value s1
  have h2 : ReadsAs BelowGates r s2 := .upd h1 rfl
  have h3 : ReadsAs BelowGates r s3 := .ite (.wrHigh (.wrHigh (bump_below h2 (by decide)) (by decide)) (by decide)) h2
  have h4 : ReadsAs BelowGates r s4 := .ite h3 (sendPldm_below h3)
  have h5 : ReadsAs BelowGates r s5 := .ite (log_below h4) h4
  clear_value s5 e
  have h6 : ReadsAs BelowGates r (s5.deliverHost e).1 := deliverHost_below h5
  generalize s5.deliverHost e = p at *
  obtain ⟨t, lost⟩ := p
  dsimp only at h6 ⊢
  have h7 {c : Prop} [Decidable c] {l m : List (Nat × Nat × Nat × Nat)} :
      ReadsAs BelowGates r (if c then (t.wr F.PMU_CTRL_FREEZE 1, l) else (t, m)).1 := by
    split
    · exact .wrHigh h6 (by decide)
    · exact h6
  split
  · exact .upd h7 rfl
  · split <;> exact placeFault_below h7

theorem raiseAll_below {evs : List (Nat × Nat × Nat × Nat)} {n : Nat} (h : ReadsAs BelowGates r s) :
    ReadsAs BelowGates r (s.raiseAll evs n) := by
  induction n generalizing r s evs with
  | zero => exact h
  | succ n ih =>
    unfold raiseAll
    exact h.trans (.foldl fun t e _ => ih (raiseOne_below (.refl t)))

theorem settleSample_below (h : ReadsAs BelowGates r s) : ReadsAs BelowGates r s.settleSample := by
  unfold settleSample
  exact .ite (.ite (.upd h rfl) (raiseAll_below (.upd h rfl))) h

/-- Raising an event. -/
theorem raise_below {ev u d : Nat} : ReadsAs BelowGates s (s.raise ev u d) := settleSample_below (raiseAll_below (.refl s))

end State

end Sys2Proof.Machine

/-! ### References that fail

What a failed reference comes to (R82 to R87), once event business is known to leave the clock registers alone.
-/

namespace Sys2Proof.Machine

section
variable {s t : State}

theorem ReadsAs.activeSrc (h : ReadsAs BelowGates s t) (hs : s.regs.wf = true) : t.activeSrc = s.activeSrc := h.rd hs (by decide)

theorem ReadsAs.refState {ref : Nat} (h : ReadsAs BelowGates s t) (hs : s.regs.wf = true) : t.refState ref = s.refState ref := by
  rw [State.refState, State.refState, h.rd hs (by decide), h.rd hs (by decide)]

theorem ReadsAs.domBusy {d : Nat} (h : ReadsAs BelowGates s t) (hs : s.regs.wf = true) : t.domBusy d = s.domBusy d := by
  rw [State.domBusy, State.domBusy, State.dom, State.dom, h.rd hs (by decide)]

end

namespace State

variable {s : State} {ref v : Nat}

theorem setRef_wf (hs : s.regs.wf = true) : (s.setRef ref v).regs.wf = true := by
  unfold setRef
  split <;> exact wr_wf hs

/-- Setting a reference's state leaves every other field alone. -/
theorem rd_setRef {f : Field} (hs : s.regs.wf = true) (ha : f.key 0 0 ≠ F.CLK_STATUS_A_STATE.key 0 0)
    (hb : f.key 0 0 ≠ F.CLK_STATUS_B_STATE.key 0 0) : (s.setRef ref v).rd f = s.rd f := by
  unfold setRef
  split
  · exact rd_wr_ne hs ha
  · exact rd_wr_ne hs hb

theorem activeSrc_setRef (hs : s.regs.wf = true) : (s.setRef ref v).activeSrc = s.activeSrc := rd_setRef hs (by decide) (by decide)

theorem domBusy_setRef {d : Nat} (hs : s.regs.wf = true) : (s.setRef ref v).domBusy d = s.domBusy d := by
  rw [domBusy, domBusy, dom, dom, rd_setRef hs (by decide) (by decide)]

theorem refState_setRef_self (hs : s.regs.wf = true) : (s.setRef ref v).refState ref = v % 4 := by
  unfold setRef refState
  split <;> exact rd_wr_self hs

theorem refState_setRef_ne {other : Nat} (hs : s.regs.wf = true) (h : (ref = 0) ≠ (other = 0)) :
    (s.setRef ref v).refState other = s.refState other := by
  by_cases hr : ref = 0 <;> by_cases ho : other = 0 <;> simp only [hr, ho, ne_eq, not_true_eq_false] at h
  all_goals
    simp only [setRef, refState, hr, ho, if_true, if_false]
    exact rd_wr_ne hs (by decide)

theorem clockItem_none (h : s.wrg.items = []) : s.clockItem = none := by rw [clockItem, h]; rfl

/-- No domain is on its way to another source. -/
theorem noDomBusy (h : ∀ d, d < 7 → s.domBusy d = false) : (List.range 7).any s.domBusy = false := by
  rw [List.any_eq_false]
  exact fun d hd => by rw [h d (List.mem_range.mp hd)]; decide

/-- The reference fails over to a good one: by hard cuts where it is stopped, else by glitch-free switches (R85). -/
theorem failover_good (h : s.refState (1 - ref) = 0) : s.failover ref =
    if s.refState ref = 3 then ((s.cutAll (1 - ref)).raise 0 0x0000).runWaiting else (s.switchAll (1 - ref) true).raise 0 0x0000 := by
  rw [failover, if_pos h]

/-- A standby reference that was good fails: an event, and no clock moves (R87). -/
theorem refFails_standby (hs : s.regs.wf = true) (hstage : 3 ≤ s.stage) (hitems : s.wrg.items = []) (hsrc : s.activeSrc < 2)
    (href : ref < 2) (hne : s.activeSrc ≠ ref) (hwas : s.refState ref = 0) (hgood : s.refState s.activeSrc = 0)
    (hbusy : ∀ d, d < 7 → s.domBusy d = false) : s.refFails ref v = (s.setRef ref v).raise 13 0x0000 := by
  have hwf : (s.setRef ref v).regs.wf = true := setRef_wf hs
  have hr : ReadsAs BelowGates (s.setRef ref v) ((s.setRef ref v).raise 13 0x0000) := raise_below
  have hact : (s.setRef ref v).activeSrc = s.activeSrc := activeSrc_setRef hs
  have hother : (s.setRef ref v).refState s.activeSrc = 0 := by
    rw [refState_setRef_ne hs fun e => by have := iff_of_eq e; omega, hgood]
  have hidle : (List.range 7).any ((s.setRef ref v).raise 13 0x0000).domBusy = false :=
    noDomBusy fun d hd => by rw [hr.domBusy hwf, domBusy_setRef hs, hbusy d hd]
  rw [refFails, if_neg (Nat.not_lt.mpr hstage)]
  simp only [hact, hwas, hne.symm, clockItem_none hitems, hr.activeSrc hwf, hr.refState hwf, hother, hidle, Nat.ne_of_lt hsrc,
    ne_eq, not_false_eq_true, decide_true, Bool.and_self, Option.isSome_none, Bool.and_false, Bool.false_and, Bool.false_eq_true,
    not_true_eq_false, if_true, if_false]

/-- The active reference fails by more than the rate: it fails over at once (R85). -/
theorem refFails_active (hs : s.regs.wf = true) (hstage : 3 ≤ s.stage) (hitems : s.wrg.items = []) (href : ref < 2)
    (hact : s.activeSrc = ref) (hv : v ≠ 1) : s.refFails ref v = (s.setRef ref v).failover ref := by
  have hact2 : (s.setRef ref v).activeSrc = ref := (activeSrc_setRef hs).trans hact
  rw [refFails, if_neg (Nat.not_lt.mpr hstage)]
  simp only [hact2, clockItem_none hitems, hv, Nat.ne_of_lt href, ne_eq, not_true_eq_false, decide_false, Bool.false_and,
    Option.isSome_none, Bool.and_false, Bool.false_eq_true, if_true, if_false]

end State

end Sys2Proof.Machine

section
open Sys2Proof.Machine Sys2Proof.Machine.State

/-- Settles O22: a standby's failure only raises its event, and an active reference fails over, by `failover_good` in the way that the
state it takes calls for. -/
theorem failedReferenceTakesItsState : Obligations.FailedReferenceTakesItsState := by
  intro ref v s ⟨hs, _⟩ href hstage hitems t
  have hgood (hother : s.refState (1 - ref) = 0) : t.refState (1 - ref) = 0 := by
    rw [refState_setRef_ne hs fun e => by have := iff_of_eq e; omega, hother]
  have hself : t.refState ref = v % 4 := refState_setRef_self hs
  refine ⟨fun hsrc hne hwas hact hbusy => refFails_standby hs hstage hitems hsrc href hne hwas hact hbusy,
    fun hact hother hv => ?_, fun hact hother hv => ?_⟩
  · rw [refFails_active hs hstage hitems href hact (by omega), failover_good (hgood hother), hself, if_pos (by omega)]
  · rw [refFails_active hs hstage hitems href hact (by omega), failover_good (hgood hother), hself, if_neg (by omega)]
end

/-! ### The reference monitor and the pace controller

What a measurement window and the return of a reference come to (R75 to R78, R82 to R88), and that failing over leaves the
checks of the references as they are.
-/

namespace Sys2Proof.Machine

section
variable {c : Instr} {s t : State} {p q : Prop}

theorem Does.congr (h : Does c s p t) (e : p ↔ q) : Does c s q t := ⟨fun hq => h.1 (e.mpr hq), fun hq => h.2 fun hp => hq (e.mp hp)⟩

theorem Settles.congr (h : Settles c s p t) (e : p ↔ q) : Settles c s q t :=
  ⟨fun hq => h.1 (e.mpr hq), fun hq => h.2 fun hp => hq (e.mp hp)⟩

/-- A command that may raise an event and whose arm is one choice. -/
theorem settles_of_ite [Decidable p] (h : exec c s = settled (.next (if p then t else s))) : Settles c s p t :=
  ⟨fun hp => by rw [h, if_pos hp]; rfl, fun hp => by rw [h, if_neg hp]; rfl⟩

/-- As `settles_of_ite`, where the arm chooses between outcomes. -/
theorem settles_of_ite_next [Decidable p] (h : exec c s = settled (if p then .next t else .next s)) : Settles c s p t :=
  settles_of_ite (by rw [h, apply_ite Host.Outcome.next])

end

namespace State

variable {s : State} {ref v : Nat}

/-! The checks of the references (R82). -/

theorem setChecks_self {c : RefChecks} (h : s.checksOf ref = c) : s.setChecks ref c = s := by
  subst h
  unfold setChecks checksOf
  split <;> rfl

theorem checksOf_setChecks {c : RefChecks} : (s.setChecks ref c).checksOf ref = c := by
  unfold setChecks checksOf
  split <;> rfl

/-- A reference to which no check applies stays as it is. -/
theorem settleRef_unchecked (h : s.checksOf ref = ⟨false, false, false⟩) : s.settleRef ref = s := by rw [settleRef, h]; rfl

/-- A good reference becomes suspect. -/
theorem settleRef_suspect (h : s.checksOf ref = ⟨false, false, true⟩) (hgood : s.refState ref = 0) :
    s.settleRef ref = s.refFails ref 1 := by
  rw [settleRef, h, hgood]
  rfl

/-! Operations that leave the checks alone. -/

theorem foldl_checks {α : Type} {f : State → α → State} {l : List α} (h : ∀ t a, (f t a).clk.checks = t.clk.checks) :
    (l.foldl f s).clk.checks = s.clk.checks := by
  induction l generalizing s with
  | nil => rfl
  | cons a l ih => exact ih.trans (h s a)

theorem raise_checks {ev u d : Nat} : (s.raise ev u d).clk.checks = s.clk.checks := by rw [raise_calm.clk]

theorem setRef_checks : (s.setRef ref v).clk.checks = s.clk.checks := by
  unfold setRef
  split <;> rfl

theorem setActive_checks {t : Nat} : (s.setActive t).clk.checks = s.clk.checks := by
  unfold setActive settleCclk
  split <;> rfl

theorem cutDom_checks {t d : Nat} : (s.cutDom t d).clk.checks = s.clk.checks := by
  unfold cutDom measuredGap
  split
  · show (s.tick.pass (s.fresh % 100)).clk.checks = _
    rw [pass_clk, tick_clk]
  · rfl

theorem cutAll_checks {t : Nat} : (s.cutAll t).clk.checks = s.clk.checks := by
  unfold cutAll
  extract_lets s1 clk
  have h1 : s1.clk.checks = s.clk.checks := foldl_checks fun _ _ => cutDom_checks
  clear_value s1
  exact setActive_checks.trans h1

theorem switchAll_checks {t : Nat} {b : Bool} : (s.switchAll t b).clk.checks = s.clk.checks := by
  unfold switchAll
  extract_lets s1 clk
  have h1 : s1.clk.checks = s.clk.checks := foldl_checks fun _ _ => rfl
  clear_value s1
  exact h1

theorem commandSwitch_checks {t : Nat} {hard : Bool} : (s.commandSwitch t hard).clk.checks = s.clk.checks := by
  unfold commandSwitch
  split
  · rfl
  split
  · exact raise_checks
  split
  · exact cutAll_checks
  · exact switchAll_checks

theorem runWaiting_checks : s.runWaiting.clk.checks = s.clk.checks := by
  unfold runWaiting
  split
  · exact commandSwitch_checks
  · rfl

theorem enterHoldover_checks : s.enterHoldover.clk.checks = s.clk.checks := by
  unfold enterHoldover
  extract_lets s1 s2
  have h1 : s1.clk.checks = s.clk.checks := foldl_checks fun _ _ => rfl
  clear_value s1
  rw [runWaiting_checks, raise_checks, setActive_checks, cutDom_checks]
  exact h1

theorem failover_checks : (s.failover ref).clk.checks = s.clk.checks := by
  unfold failover
  extract_lets o
  split
  · split
    · rw [runWaiting_checks, raise_checks, cutAll_checks]
    · rw [raise_checks, switchAll_checks]
  · exact enterHoldover_checks

theorem irq_clk {n : Nat} : (s.irq n).clk = s.clk := (interrupt_calm.add settleSample_calm).clk

theorem publish_clk {r n : Nat} : (s.publish r n).clk = s.clk := by
  unfold publish
  extract_lets s1 s2 coal wrg s3 wrg3
  have h1 : s1.clk = s.clk := (Calm.ite wake_calm (.refl s)).clk
  have h2 : s2.clk = s.clk := (Calm.ite emit_calm (.refl s1)).clk.trans h1
  have h3 : s3.clk = s.clk := irq_clk.trans h2
  clear_value s2 s3
  split
  · split
    · exact irq_clk.trans h2
    · split
      · exact h2
      · exact h3
  · exact h2

theorem putEntry_clk {r opcode fn dlen tag : Nat} {fallback : Option Nat} {content data : List Nat} :
    (s.putEntry r opcode fn dlen tag fallback content data).clk = s.clk := by
  unfold putEntry
  exact publish_clk

theorem countOpen_clk {base which u n : Nat} : (s.countOpen base which u n).clk = s.clk := by
  unfold countOpen
  split
  · exact countN_calm.clk
  · rfl

theorem handOver_checks {fn arg arg2 : Nat} {content data : List Nat} {dlen fallAt : Nat} {p : State × Bool}
    (h : s.handOver fn arg arg2 content data dlen fallAt = p) : p.1.clk.checks = s.clk.checks := by
  unfold handOver at h
  split at h
  · rw [← h]
  extract_lets r cox tag wrg s1 s2 s3 at h
  have h1 : s1.clk = s.clk := rfl
  clear_value s1
  have h2 : s2.clk = s.clk := putEntry_clk.trans h1
  clear_value s2
  have h3 : s3.clk = s.clk := (Calm.ite sendPldm_calm (.refl s2)).clk.trans h2
  clear_value s3
  split at h <;> subst h
  · rw [raiseOnce_calm.clk, fallbackEvent, raise_checks]
  · rw [countOpen_clk, h3]

theorem clockItemFalls_checks : s.clockItemFalls.clk.checks = s.clk.checks := by
  unfold clockItemFalls
  split
  · exact raise_checks
  · rfl

/-- What follows from a failure does not touch the checks (R82). -/
theorem refFails_checks : (s.refFails ref v).clk.checks = s.clk.checks := by
  unfold refFails
  split
  · rfl
  extract_lets was item t u
  have ht : t.clk.checks = s.clk.checks := setRef_checks
  have hu : u.clk.checks = s.clk.checks := (apply_ite (fun x : State => x.clk.checks) _ _ _).trans (by rw [raise_checks, ite_self, ht])
  clear_value t u
  split
  · split
    · exact enterHoldover_checks.trans ht
    · exact ht
  split
  · exact failover_checks.trans (clockItemFalls_checks.trans hu)
  split
  · split
    · split
      next s1 handed hh =>
        have h1 : s1.clk.checks = s.clk.checks := (handOver_checks hh).trans hu
        split
        · exact h1
        · exact failover_checks.trans h1
    · exact failover_checks.trans hu
  split
  · exact enterHoldover_checks.trans hu
  split
  · exact switchAll_checks.trans hu
  · exact hu

end State

end Sys2Proof.Machine

/-! The rows of the monitor. -/

namespace Sys2Proof.Machine.State

variable {s : State} {ref w a b : Nat} {ppb highest : Int}

/-- The state of a measurement window once CLK_DIFF has taken the difference (R84). -/
def windowTaken (s : State) (ppb : Int) (a b : Nat) : State :=
  { s with clk := { s.clk with offs := (a, b) } }.wr F.CLK_DIFF_PPB (ppb % 2 ^ 32).toNat

/-- The references disagree, while both of them run. -/
def disagrees (s : State) (ppb : Int) : Bool :=
  !(s.checksOf 0).stopped && !(s.checksOf 1).stopped && decide (s.ef F.CLK_MON_LIMIT_PPM * 1000 < ppb.natAbs)

/-- The reference judged in error is suspect, and the other one is not. -/
def suspected (s : State) (apart : Bool) : State :=
  (s.setChecks 0 { s.checksOf 0 with suspect := apart && s.wrongRef == 0 }).setChecks 1
    { s.checksOf 1 with suspect := apart && s.wrongRef == 1 }

theorem rd_windowTaken {f : Field} (hs : s.regs.wf = true) (hf : f.key 0 0 ≠ F.CLK_DIFF_PPB.key 0 0) :
    (s.windowTaken ppb a b).rd f = s.rd f := rd_wr_ne hs hf

theorem exec_ppmWindow : exec (.ppmWindow ppb a b) s = .next
    ((((s.windowTaken ppb a b).suspected ((s.windowTaken ppb a b).disagrees ppb)).settleRef 0).settleRef 1).atOnce := rfl

section
variable (hu : s.clk.checks = (⟨false, false, false⟩, ⟨false, false, false⟩))
include hu

theorem checksOf_none : s.checksOf ref = ⟨false, false, false⟩ := by rw [checksOf, hu, ite_self]

theorem windowTaken_checks : (s.windowTaken ppb a b).clk.checks = (⟨false, false, false⟩, ⟨false, false, false⟩) := hu

theorem disagrees_eq : s.disagrees ppb = decide (s.ef F.CLK_MON_LIMIT_PPM * 1000 < ppb.natAbs) := by
  simp only [disagrees, checksOf_none hu, Bool.not_false, Bool.true_and]

theorem suspected_false : s.suspected false = s := by
  simp only [suspected, checksOf_none hu, Bool.false_and]
  rw [setChecks_self (checksOf_none hu), setChecks_self (checksOf_none hu)]

theorem suspected_true (hw : s.wrongRef = w) (h2 : w < 2) : s.suspected true = s.setChecks w ⟨false, false, true⟩ := by
  simp only [suspected, checksOf_none hu, hw, Bool.true_and]
  obtain rfl | rfl : w = 0 ∨ w = 1 := by omega
  · exact setChecks_self (congrArg Prod.snd hu)
  · exact congrArg (State.setChecks · 1 ⟨false, false, true⟩) (setChecks_self (checksOf_none hu))

/-- Of two references of which one has become suspect, that one fails (R82). -/
theorem settleRefs_suspect (h2 : w < 2) (hgood : s.refState w = 0) :
    (((s.setChecks w ⟨false, false, true⟩).settleRef 0).settleRef 1) = (s.setChecks w ⟨false, false, true⟩).refFails w 1 := by
  obtain rfl | rfl : w = 0 ∨ w = 1 := by omega
  · rw [settleRef_suspect checksOf_setChecks hgood, settleRef_unchecked]
    rw [checksOf, refFails_checks]
    exact congrArg Prod.snd hu
  · have h0 : (s.setChecks 1 ⟨false, false, true⟩).checksOf 0 = ⟨false, false, false⟩ := congrArg Prod.fst hu
    rw [settleRef_unchecked h0, settleRef_suspect checksOf_setChecks hgood]

/-- References to which no check applies, and whose rates agree, stay as they are (R82). -/
theorem exec_ppmWindow_agree (h : ppb.natAbs ≤ s.ef F.CLK_MON_LIMIT_PPM * 1000) :
    exec (.ppmWindow ppb a b) s = .next (s.windowTaken ppb a b).atOnce := by
  have hlim : (s.windowTaken ppb a b).ef F.CLK_MON_LIMIT_PPM = s.ef F.CLK_MON_LIMIT_PPM := ef_wr_shadow rfl
  have hw := windowTaken_checks (ppb := ppb) (a := a) (b := b) hu
  rw [exec_ppmWindow, disagrees_eq hw, hlim, decide_eq_false (Nat.not_lt.mpr h), suspected_false hw,
    settleRef_unchecked (checksOf_none hw), settleRef_unchecked (checksOf_none hw)]

/-- Of two good references that disagree the one judged in error fails (R84). -/
theorem exec_ppmWindow_apart (hs : s.regs.wf = true) (hgood : s.refState w = 0) (h2 : w < 2)
    (h : s.ef F.CLK_MON_LIMIT_PPM * 1000 < ppb.natAbs) (hwrong : (s.windowTaken ppb a b).wrongRef = w) :
    exec (.ppmWindow ppb a b) s =
      .next (((s.windowTaken ppb a b).setChecks w ⟨false, false, true⟩).refFails w 1).atOnce := by
  have hlim : (s.windowTaken ppb a b).ef F.CLK_MON_LIMIT_PPM = s.ef F.CLK_MON_LIMIT_PPM := ef_wr_shadow rfl
  have hw := windowTaken_checks (ppb := ppb) (a := a) (b := b) hu
  have hstill : (s.windowTaken ppb a b).refState w = 0 := by
    rw [refState, rd_windowTaken hs (by decide), rd_windowTaken hs (by decide)]
    exact hgood
  rw [exec_ppmWindow, disagrees_eq hw, hlim, decide_eq_true h, suspected_true hw hwrong h2, settleRefs_suspect hw h2 hstill]

end

/-! Which reference is judged in error (R84). -/

theorem windowTaken_wrongRef (hs : s.regs.wf = true) : (s.windowTaken ppb a b).wrongRef =
    if s.is F.SCH_PTP_STAT_LOCKED = true then (if a < b then 1 else 0) else if s.activeSrc = 0 then 1 else 0 := by
  rw [wrongRef, is, activeSrc, rd_windowTaken hs (by decide), rd_windowTaken hs (by decide)]
  rfl

/-- A reference returns good (R83): in holdover every domain takes it. -/
theorem exec_referenceReturnGood (href : ref < 2) (hbad : s.refState ref ≠ 0) :
    let u := ((s.setChecks ref ⟨false, false, false⟩).setRef ref 0).raise 15 0x0000
    exec (.referenceReturnGood ref) s = .next (if s.activeSrc = 2 && !s.is F.CLK_STATUS_WATCH && s.is F.CLK_STATUS_HOLD &&
        !s.clk.failover then
      if u.domSrc 0 < 2 && u.domSrc 0 ≠ ref && u.refState (u.domSrc 0) = 3 then (u.cutAll ref).raise 0 0x0000
      else (u.switchAll ref true).raise 0 0x0000
    else u).atOnce := by
  have hc : ¬ (decide (2 ≤ ref) || decide (s.refState ref = 0)) = true := by simp [href, hbad]
  show settled (actReferenceReturnGood ref s) = _
  rw [actReferenceReturnGood, if_neg hc]
  rfl

/-! The thermal step (R78). -/

theorem exec_paceThermalStep_above (h : (s.ef F.PACE_LIMIT_TLIMIT : Int) < highest) :
    let u : State := { s with clk := { s.clk with
      thermCut := min (50 * s.ef F.PACE_TARGET_RATE - 100000) (s.clk.thermCut + s.ef F.PACE_TARGET_RATE) } }
    exec (.paceThermalStep highest) s =
      .next (if s.is F.PACE_STATUS_TLIM = true then u else (u.wr F.PACE_STATUS_TLIM 1).raise 22 0x0000).atOnce := by
  show settled (actPaceThermalStep highest s) = _
  simp only [actPaceThermalStep, h, if_true]
  rfl

theorem exec_paceThermalStep_below (h : highest < (s.ef F.PACE_LIMIT_TLIMIT : Int) - 3) :
    let n := min (50 * s.ef F.PACE_TARGET_RATE - 100000) s.clk.thermCut - s.ef F.PACE_TARGET_RATE
    let u : State := { s with clk := { s.clk with thermCut := n } }
    exec (.paceThermalStep highest) s = .next (if n = 0 then u.wr F.PACE_STATUS_TLIM 0 else u).atOnce := by
  have h1 : ¬ (s.ef F.PACE_LIMIT_TLIMIT : Int) < highest := by omega
  show settled (actPaceThermalStep highest s) = _
  simp only [actPaceThermalStep, h1, h, if_true, if_false]
  rfl

theorem exec_paceThermalStep_within (h1 : highest ≤ (s.ef F.PACE_LIMIT_TLIMIT : Int))
    (h2 : (s.ef F.PACE_LIMIT_TLIMIT : Int) - 3 ≤ highest) : exec (.paceThermalStep highest) s = .next s.atOnce := by
  show settled (actPaceThermalStep highest s) = _
  simp only [actPaceThermalStep, Int.not_lt.mpr h1, Int.not_lt.mpr h2, if_false]
  rfl

end Sys2Proof.Machine.State

section
open Sys2Proof.Machine Sys2Proof.Machine.State

/-- Settles O21: one lemma per row. -/
theorem referenceAndPaceEventsComplete : Obligations.ReferenceAndPaceEventsComplete := by
  refine ⟨fun ref s => settles_of_ite rfl, fun ref off s => settles_of_ite rfl, fun ppb a b s _ _ _ hc h => exec_ppmWindow_agree hc h,
    fun ref s href hbad hsrc => ?_, fun ref s href hbad hsrc hwatch hhold hfail => ⟨fun hold h3 => ?_, fun hold h3 => ?_⟩,
    fun s => (does_of_ite rfl).congr ?_, fun readings s => rfl, fun highest s h => ⟨fun hlim => ?_, fun hlim => ?_⟩,
    fun highest s h => exec_paceThermalStep_below h, fun highest s h1 h2 => exec_paceThermalStep_within h1 h2⟩
  · rw [exec_referenceReturnGood href hbad, if_neg (by simp [hsrc])]
  · rw [exec_referenceReturnGood href hbad, if_pos (by simp [hsrc, hwatch, hhold, hfail]), hold, h3,
      if_pos (by simp; omega)]
  · rw [exec_referenceReturnGood href hbad, if_pos (by simp [hsrc, hwatch, hhold, hfail]), hold, if_neg (by simp [h3])]
  · simp only [Bool.and_eq_true, Bool.not_eq_true', decide_eq_true_eq, and_assoc]
  · rw [exec_paceThermalStep_above h, if_neg (by rw [hlim]; decide)]
  · rw [exec_paceThermalStep_above h, if_pos hlim]

/-- Settles O23: the window makes exactly one reference suspect, the one that `windowTaken_wrongRef` gives, and that one fails. -/
theorem disagreementJudgesOneReference : Obligations.DisagreementJudgesOneReference := by
  intro ppb a b s ⟨hs, _⟩ h0 h1 hc hlim _ u inError
  refine ⟨fun hl hlt => ?_, fun hl hlt => ?_, fun active hact hl hsrc => ?_⟩
  · exact exec_ppmWindow_apart hc hs h0 (by decide) hlim (by rw [windowTaken_wrongRef hs, if_pos hl, if_neg (by omega)])
  · exact exec_ppmWindow_apart hc hs h1 (by decide) hlim (by rw [windowTaken_wrongRef hs, if_pos hl, if_pos hlt])
  · have hl' : ¬ s.is F.SCH_PTP_STAT_LOCKED = true := by rw [hl]; decide
    obtain rfl | rfl : active = 0 ∨ active = 1 := by omega
    · exact exec_ppmWindow_apart hc hs h1 (by decide) hlim (by rw [windowTaken_wrongRef hs, if_neg hl', if_pos hsrc])
    · exact exec_ppmWindow_apart hc hs h0 (by decide) hlim (by rw [windowTaken_wrongRef hs, if_neg hl', if_neg (by omega)])
end

/-! ### Multiplexers and gates

The rows of the clock multiplexers and of the clock gates (R90 to R94, R96).
-/

namespace Sys2Proof.Machine.State

variable {s : State} {unit : Nat}

/-- As `does_of_ite`, where the arm chooses between outcomes. -/
theorem does_of_ite_next {c : Instr} {t : State} {p : Prop} [Decidable p] (h : exec c s = if p then .next t else .next s) :
    Does c s p t := does_of_ite (by rw [h, apply_ite Host.Outcome.next])

theorem gateWaits_iff : (s.clk.gateWaiting.any fun e => e.unit_ == unit) = true ↔ ∃ e ∈ s.clk.gateWaiting, e.unit_ = unit := by
  simp only [List.any_eq_true, beq_iff_eq]

/-- Where no forced gate waits for the unit, an idle unit's gate closes by itself (R92). -/
theorem does_gateIdleClose (h : ∀ e ∈ s.clk.gateWaiting, e.unit_ ≠ unit) :
    Does (.gateIdleClose unit) s (State.gatedUnit unit = true ∧ s.unitBusy unit = false) (s.setClosed unit true) := by
  have hw : ¬ (s.clk.gateWaiting.any fun e => e.unit_ == unit) = true :=
    fun hany => let ⟨e, he, heq⟩ := gateWaits_iff.mp hany; h e he heq
  show (_ → execGateIdleClose unit s = _) ∧ (_ → execGateIdleClose unit s = _)
  unfold execGateIdleClose
  rw [if_neg hw]
  cases State.gatedUnit unit <;> cases s.unitBusy unit <;> simp

/-- Where one waits, its accesses have ended, and it closes (R94). -/
theorem exec_gateIdleClose_forced (hg : State.gatedUnit unit = true) (h : ∃ e ∈ s.clk.gateWaiting, e.unit_ = unit) :
    exec (.gateIdleClose unit) s = .next
      ({ s with clk := { s.clk with gateWaiting := s.clk.gateWaiting.filter (·.unit_ != unit) } }.closeForced unit).carryOn := by
  show execGateIdleClose unit s = _
  rw [execGateIdleClose, if_neg (by rw [hg]; decide), if_pos (gateWaits_iff.mpr h)]

theorem exec_forcedGateTimeout_none (h : ∀ e ∈ s.clk.gateWaiting, e.unit_ ≠ unit) : exec (.forcedGateTimeout unit) s = .next s := by
  have hfind : (s.clk.gateWaiting.find? fun e => e.unit_ == unit) = none :=
    List.find?_eq_none.mpr fun e he heq => h e he (beq_iff_eq.mp heq)
  show execForcedGateTimeout unit s = _
  rw [execForcedGateTimeout, hfind]

theorem exec_forcedGateTimeout_some {e : GateWait} (h : s.clk.gateWaiting.find? (·.unit_ == unit) = some e) :
    let rest := (s.clk.gateWaiting.filter (·.unit_ != unit)).map fun (x : GateWait) => if x.num = e.num then { x with num := 0 } else x
    let u := e.accesses.foldl answerGated { s with clk := { s.clk with gateWaiting := rest } }
    exec (.forcedGateTimeout unit) s = .next ((if e.num = 0 then u else u.raise 41 0x0000).closeForced unit).carryOn := by
  show execForcedGateTimeout unit s = _
  rw [execForcedGateTimeout, h]

end Sys2Proof.Machine.State

section
open Sys2Proof.Machine Sys2Proof.Machine.State

/-- Settles O24: the rows of the multiplexers are one choice each; those of the gates have a lemma each. -/
theorem muxAndGateCommandsComplete : Obligations.MuxAndGateCommandsComplete := by
  refine ⟨fun value s => (settles_of_ite rfl).congr ?_, fun value s => (settles_of_ite rfl).congr ?_,
    fun dom s => (settles_of_ite_next rfl).congr ?_, fun dom s => (settles_of_ite_next rfl).congr ?_,
    fun dom s => (does_of_ite_next rfl).congr ?_, fun unit s h => does_gateIdleClose h,
    fun unit s hg h => exec_gateIdleClose_forced hg h, fun unit s => (does_of_ite rfl).congr ?_, fun bay value pending s => rfl,
    fun unit s h => exec_forcedGateTimeout_none h, fun unit s e h => exec_forcedGateTimeout_some h⟩
  · simp only [Bool.and_eq_true, Bool.not_eq_true']
  · simp only [Bool.and_eq_true]
  · simp only [Bool.and_eq_true, Bool.not_eq_true', Bool.and_eq_false_imp, decide_eq_true_eq, decide_eq_false_iff_not, not_and, and_assoc]
  · simp only [Bool.and_eq_true, decide_eq_true_eq, and_assoc]
  · simp only [Bool.and_eq_true, Bool.or_eq_true, decide_eq_true_eq, and_assoc]
  · simp only [Bool.and_eq_true, Bool.not_eq_true', and_assoc]
end

/-! ### The steward endpoint

Configuration requests, accesses of the window and the link of the endpoint (R422 to R430, R433 to R439).
-/

namespace Sys2Proof.Machine.State

variable {s : State} {offset width : Nat}

/-- A ready NP32 is not in recovery mode. -/
theorem recovering_of_ready (h : s.ready = true) : s.recovering = false := by
  rw [ready, beq_iff_eq] at h
  rw [recovering, h]
  rfl

/-- Until STAGE reads 0x6 or 0xE a request is answered with retry (R422). -/
theorem exec_configurationRequest_early {req : CfgReq} (hr : s.ready = false) (hstage : s.stage ≠ 0xE) :
    exec (.configurationRequest req) s = .next (s.emit .requestRetry) := by
  show execConfigurationRequest req s = _
  rw [execConfigurationRequest, if_neg (by simp [hr, recovering, hstage])]

theorem exec_configurationRequest_ready {req : CfgReq} (hr : s.ready = true) :
    exec (.configurationRequest req) s = .next (s.configure req).carryOn := by
  show execConfigurationRequest req s = _
  rw [execConfigurationRequest, if_pos (by simp [hr])]

theorem configure_msixMask {v : Nat} (hr : s.ready = true) (hv : v < 64) :
    s.configure (.msixMask (some v)) = { s with ept := { s.ept with msixMasked := addTo s.ept.msixMasked v } } :=
  if_neg (by simp [recovering_of_ready hr]; omega)

/-- The last doubleword of an entry of the MSI-X table is its vector control: bit 0 is the vector's mask (R426, R433). -/
theorem configure_vectorControl {k v : Nat} (hr : s.ready = true) (hk : k < 64) : s.configure (.msixWrite (16 * k + 12) v) =
    if v % 2 = 1 then { s with ept := { s.ept with msixMasked := addTo s.ept.msixMasked k } }
    else State.sendPba { s with ept := { s.ept with msixMasked := dropFrom s.ept.msixMasked k } } := by
  show s.msixWrite ((16 * k + 12) / 4) (v % 2 ^ 32) = _
  have hn : (16 * k + 12) / 4 = 4 * k + 3 := by omega
  have hv : v % 2 ^ 32 % 2 = v % 2 := by omega
  have hdiv : (4 * k + 3) / 4 = k := by omega
  rw [hn, msixWrite, if_neg (by simp [recovering_of_ready hr]; omega), if_neg (by omega), hdiv, hv]

/-! The window (R427 to R430). -/

/-- The Expansion ROM BAR takes the access (R427, R438). -/
structure WindowOpen (s : State) (offset : Nat) : Prop where
  ready : s.ready = true
  linkUp : s.ept.dlActive = true
  inD0 : s.ept.d3hot = false
  memSpace : s.ept.memSpace = true
  romEnable : s.ept.romEnable = true
  romThere : s.romThere = true
  inBar : offset < 0x1000000

theorem exec_windowAccess {write : Option Nat} (ho : WindowOpen s offset) :
    exec (.windowAccess offset width write) s = .next (s.windowAccess offset width write).atOnce := by
  show settled (actWindowAccess offset width write s) = _
  rw [actWindowAccess, if_neg (by simp [recovering_of_ready ho.ready]),
    if_pos (by simp [ho.ready, ho.linkUp, ho.inD0, ho.memSpace, ho.romEnable, ho.romThere, ho.inBar])]
  rfl

/-- The option-ROM page is not written. -/
theorem windowAccess_romWrite {v : Nat} (h : offset < 0x100000) : s.windowAccess offset width (some v) = s := by
  rw [windowAccess, if_pos h]

theorem windowAccess_noRom (h : offset < 0x100000) (hrom : s.is F.EPT_ROM_OPTROM = false) :
    s.windowAccess offset width none = s.emit (.windowData offset 0) := by
  rw [windowAccess, if_pos h, hrom]

/-- Without the register view the rest of the BAR reads 0. -/
theorem windowAccess_noView (h : 0x100000 ≤ offset) (hview : s.is F.EPT_ROM_WINDOW = false) :
    s.windowAccess offset width none = s.emit (.windowData offset 0) := by
  rw [windowAccess, if_neg (Nat.not_lt.mpr h), hview, if_pos (by decide)]

theorem windowAccess_noView_write {v : Nat} (h : 0x100000 ≤ offset) (hview : s.is F.EPT_ROM_WINDOW = false) :
    s.windowAccess offset width (some v) = s := by
  rw [windowAccess, if_neg (Nat.not_lt.mpr h), hview, if_pos (by decide)]

/-! An offset of the register view reaches the register that the page and the offset name (R429). -/

section
variable {addr : Nat} (h : 0x100000 ≤ offset) (hview : s.is F.EPT_ROM_WINDOW = true)
  (haddr : addr = s.rd F.EPT_WIN_PAGE_PAGE * 0x100000 + offset - 0x100000)
include h hview haddr

theorem windowAccess_view_write {v : Nat} : s.windowAccess offset width (some v) = s.pathWrite .window addr width v := by
  rw [windowAccess, if_neg (Nat.not_lt.mpr h), hview, if_neg (by decide), ← haddr]

theorem windowAccess_view_unfit (hfit : accessFits addr width = false) :
    s.windowAccess offset width none = s.refuseAccess .window addr true := by
  rw [windowAccess, if_neg (Nat.not_lt.mpr h), hview, if_neg (by decide), ← haddr]
  exact if_pos (by rw [hfit]; rfl)

theorem windowAccess_view_read (hfit : accessFits addr width = true) (hw : width ≠ 8) : s.windowAccess offset width none =
    (s.accessRead .window addr).1.emit (.windowData offset ((s.accessRead .window addr).2.getD 0)) := by
  rw [windowAccess, if_neg (Nat.not_lt.mpr h), hview, if_neg (by decide), ← haddr]
  refine (if_neg (by rw [hfit]; decide)).trans ?_
  generalize s.accessRead .window addr = r
  obtain ⟨t, x⟩ := r
  dsimp only
  rw [if_neg hw]
  rfl

end

/-! The link (R80, R435). -/

theorem exec_endpointLinkUp {speed : Nat} {host : Option Nat} (hs : s.regs.wf = true) (hdl : s.ept.dlActive = false)
    (hp : s.boot.perstLow = false) (hg : s.gateForced 9 = false) (hw : s.is F.CLK_STATUS_WATCH = false)
    (hstage : s.stage = 5 ∨ s.ready = true ∨ (s.stage = 0xE ∧ s.boot.refPassed = true)) :
    let u : State := { s with ept := { s.ept with
      dlActive := true
      hostRef := host } }
    exec (.endpointLinkUp speed width host) s = .next ((((u.wr F.EPT_STATUS_SPEED speed).wr F.EPT_STATUS_WIDTH width).wr
      F.EPT_STATUS_CCLK (if host = some s.activeSrc then 1 else 0)).settleEndpoint).atOnce := by
  intro u
  have hact : ((u.wr F.EPT_STATUS_SPEED speed).wr F.EPT_STATUS_WIDTH width).activeSrc = s.activeSrc := by
    have hu : u.regs.wf = true := hs
    exact (rd_wr_ne (wr_wf hu) (by decide)).trans (rd_wr_ne hu (by decide))
  have hcclk : ((u.wr F.EPT_STATUS_SPEED speed).wr F.EPT_STATUS_WIDTH width).settleCclk =
      ((u.wr F.EPT_STATUS_SPEED speed).wr F.EPT_STATUS_WIDTH width).wr F.EPT_STATUS_CCLK (if host = some s.activeSrc then 1 else 0) := by
    rw [settleCclk, hact]
    rfl
  have hstage' : (s.stage == 5 || s.ready || (s.recovering && s.boot.refPassed)) = true := by
    simpa [recovering, or_assoc] using hstage
  show settled (actEndpointLinkUp speed width host s) = _
  rw [actEndpointLinkUp, if_neg (by simp only [hdl, hp, hg, hw, hstage']; decide)]
  exact settled_of_eq (congrArg settleEndpoint hcclk)

end Sys2Proof.Machine.State

section
open Sys2Proof.Machine Sys2Proof.Machine.State

/-- Settles O53: requests come to `configure`, accesses to `windowAccess`, and the interrupt rows are what their arms say. -/
theorem endpointCommandsComplete : Obligations.EndpointCommandsComplete := by
  refine ⟨fun req s hr hstage => exec_configurationRequest_early hr hstage, fun m b s hr => exec_configurationRequest_ready hr,
    fun r c s hr => exec_configurationRequest_ready hr, fun v s hv hr => ?_, fun s hr => exec_configurationRequest_ready hr,
    fun offset v k s ho hk hr => ?_, fun offset width s hr hdl hd3 hmem hen hrom hbar => ?_, fun hi value s => rfl, fun v s => rfl,
    fun s => rfl, fun b s => rfl, fun s => (does_of_ite rfl).congr ?_,
    fun speed width host s hs hdl hp hg hw hstage => exec_endpointLinkUp hs.1 hdl hp hg hw hstage, fun s => does_of_ite rfl⟩
  · rw [exec_configurationRequest_ready hr, configure_msixMask hr hv]
  · subst ho
    rw [exec_configurationRequest_ready hr, configure_vectorControl hr hk]
    exact ⟨fun hv => by rw [if_pos hv], fun hv => by rw [if_neg (by omega)]⟩
  · have ho : WindowOpen s offset := ⟨hr, hdl, hd3, hmem, hen, hrom, hbar⟩
    refine ⟨fun v h => ?_, fun h hno => ?_, fun h hno => ⟨?_, fun v => ?_⟩,
      fun h hview => ⟨fun v => ?_, fun hfit => ?_, fun hfit hw => ?_⟩⟩
    · rw [exec_windowAccess ho, windowAccess_romWrite h]
    · rw [exec_windowAccess ho, windowAccess_noRom h hno]
    · rw [exec_windowAccess ho, windowAccess_noView h hno]
    · rw [exec_windowAccess ho, windowAccess_noView_write h hno]
    · rw [exec_windowAccess ho, windowAccess_view_write h hview rfl]
    · rw [exec_windowAccess ho, windowAccess_view_unfit h hview rfl hfit]
    · rw [exec_windowAccess ho, windowAccess_view_read h hview rfl hfit hw]
  · simp only [recovering, Bool.or_eq_true, beq_iff_eq]
end

/-! ### Seats and links of a bay

The rows of presence, links, Slot Control and the attention button (R374 to R377, R384, R388, R390 to R392, R395).
-/

namespace Sys2Proof.Machine.State

variable {s : State} {bay : Nat}

theorem exec_driveSeated (hb : bay < 32) (hstage : s.stage ≠ 0) (hseat : (s.bayAt bay).seated = false)
    (h : s.bayState bay = bEmpty ∨ s.bayState bay = bSeating) : exec (.driveSeated bay) s =
      .next (((s.toBay bay bCooling).modBay bay fun b => { b with slot := 0 }).verdict bay true).atOnce := by
  show settled (actDriveSeated bay s) = _
  rw [actDriveSeated, if_neg (by simp [hb, hstage, hseat])]
  exact settled_of_eq (congrArg (fun u => verdict u bay true) (if_pos (by simpa using h)))

theorem exec_driveLost (hb : bay < 32) (hseat : (s.bayAt bay).seated = true) :
    let u := (((s.verdict bay false).cutPower bay).holdReset bay).wr F.BAY_PSTAT_RETRY 0 bay
    exec (.driveLost bay) s = .next ((if u.bayState bay = bStandby then u else u.toBay bay bEmpty).dropDrive bay).atOnce := by
  show settled (actDriveLost bay s) = _
  rw [actDriveLost, if_neg (by simp [hb, hseat])]
  rfl

/-! A link that does not train (R375). -/

theorem exec_linkTrainingTimeout_again (hb : bay < 32) (hup : s.bayUp bay = false) (h : (s.bayAt bay).trains = 1) :
    exec (.linkTrainingTimeout bay) s = .next (s.modBay bay fun b => { b with trains := 2 }).atOnce := by
  show settled (actLinkTrainingTimeout bay s) = _
  rw [actLinkTrainingTimeout, if_neg (by simp [hb, hup, h]), if_pos h]
  rfl

theorem exec_linkTrainingTimeout_last (hb : bay < 32) (hup : s.bayUp bay = false) (h : (s.bayAt bay).trains = 2) :
    exec (.linkTrainingTimeout bay) s = .next ((((s.setPerst bay true).modBay bay fun b => { b with trains := 3 }).wr
      F.BAY_LINKST_FAIL 1 bay).bayEventIf bay 5 F.BAY_SLTCTL_DLLSCE).atOnce := by
  show settled (actLinkTrainingTimeout bay s) = _
  rw [actLinkTrainingTimeout, if_neg (by simp [hb, hup, h]), if_neg (by omega)]
  rfl

/-- A link comes up: its status and the slot power limit, and the event of a link below 64 GT/s or x2 (R374, R375). -/
theorem exec_bayLinkUp {speed width : Nat} (hb : bay < 32) (hup : s.bayUp bay = false) (h0 : (s.bayAt bay).trains ≠ 0)
    (h3 : (s.bayAt bay).trains ≠ 3) (hg : s.gateForced (32 + bay) = false) (hw : s.is F.CLK_STATUS_WATCH = false)
    (hstage : s.stage = 5 ∨ s.ready = true) (h1 : 1 ≤ speed) (h6 : speed ≤ 6) (hwidth : width = 1 ∨ width = 2) :
    let u := (((s.wr F.BAY_LINKST_DLLLA 1 bay).wr F.BAY_LINKST_WIDTH width bay).wr F.BAY_LINKST_SPEED speed bay).wr
      F.BAY_LINKST_FAIL 0 bay
    let v := ((u.wr F.BAY_SLTCTL_DLLSC 1 bay).emit (.slotPowerLimit bay (12 * s.ef F.BAY_PCFG_LIMIT bay))).bayEventIf bay 5
      F.BAY_SLTCTL_DLLSCE
    exec (.bayLinkUp bay speed width) s = .next
      (if speed < 6 ∨ width < 2 then v.bayEventIf bay 5 F.BAY_SLTCTL_DLLSCE else v).atOnce := by
  have hcond : (bay < 32 && !s.bayUp bay && (s.bayAt bay).trains ≠ 0 && (s.bayAt bay).trains ≠ 3 && !s.gateForced (32 + bay) &&
      !s.is F.CLK_STATUS_WATCH && (s.stage == 5 || s.ready) && 1 ≤ speed && speed ≤ 6 && (width = 1 || width = 2)) = true := by
    simpa [hb, hup, h0, h3, hg, hw, h1, h6, hwidth] using hstage
  show settled (actBayLinkUp bay speed width s) = _
  rw [actBayLinkUp, if_pos hcond]
  refine settled_of_eq ?_
  simp only [Bool.or_eq_true, decide_eq_true_eq]

/-- The drive of a bay whose link is up becomes ready (R271, R375). -/
theorem exec_driveReady {lbas labelA labelB : Nat} {meta16 cache : Bool} (hb : bay < 32) (hup : s.bayUp bay = true)
    (hr : (s.bayAt bay).ready = false) :
    let a := s.modBay bay fun b => { b with ready := true }
    let u : State := { a with crw := { a.crw with drives := (s.crw.drives.filter fun (d : Drive) => d.bay != bay) ++
      [Drive.mk bay lbas meta16 cache (chooseLabel labelA labelB)] } }
    let v := if u.twinShelf = true then u.issueBay bay (.register (Config.uniqueId % 2 ^ 64)) else u
    exec (.driveReady bay lbas meta16 cache labelA labelB) s = .next (v.driveArrives bay).carryOn := by
  show execDriveReady bay lbas meta16 cache labelA labelB s = _
  rw [execDriveReady, if_pos (by simp [hb, hup, hr])]
  rfl

/-! The attention button (R392, R395). -/

/-- What a press comes to, once it has been recorded. -/
theorem exec_attentionButtonPress (hb : bay < 32) (hstage : s.stage ≠ 0) :
    let u := (s.wr F.BAY_SLTCTL_ABP 1 bay).bayEventIf bay 4 F.BAY_SLTCTL_ABPE
    exec (.attentionButtonPress bay) s = .next (
      if u.ef F.BAY_CFG_BTNACT ≠ 1 then u
      else if u.bayState bay = bOn then u.modBay bay fun b => { b with buttonBlink := !b.buttonBlink }
      else if u.bayState bay = bOff || u.bayState bay = bLatched then u.powerOn bay else u).atOnce := by
  show settled (actAttentionButtonPress bay s) = _
  rw [actAttentionButtonPress, if_neg (by simp [hb, hstage])]
  dsimp only
  split
  · rfl
  · split <;> rfl

end Sys2Proof.Machine.State

section
open Sys2Proof.Machine Sys2Proof.Machine.State

/-- Settles O47: a row that is one choice has the rest of its arm's condition left once the bay is one of the 32; the others have a
lemma each. -/
theorem baySeatCommandsComplete : Obligations.BaySeatCommandsComplete := by
  refine ⟨fun prsS prsL a b meas s hstage => ?_, fun bay s hb => ⟨fun hstage hseat h => exec_driveSeated hb hstage hseat h,
    fun hseat => exec_driveLost hb hseat, (settles_of_ite rfl).congr ?_,
    fun hup => ⟨fun h => exec_linkTrainingTimeout_again hb hup h, fun h => exec_linkTrainingTimeout_last hb hup h,
      fun speed width h0 h3 hg hw hstage h1 h6 hwidth => exec_bayLinkUp hb hup h0 h3 hg hw hstage h1 h6 hwidth⟩,
    (settles_of_ite rfl).congr ?_, fun lbas meta16 cache labelA labelB hup hr => exec_driveReady hb hup hr, settled_of_eq (if_pos hb),
    settled_of_eq (if_pos hb), (settles_of_ite rfl).congr ?_, fun hstage => ⟨fun h => ?_, fun h hon => ?_, fun h hoff => ?_⟩,
    (settles_of_ite rfl).congr ?_, settled_of_eq (if_pos hb)⟩⟩
  · show settled (actPresenceSample prsS prsL a b meas s) = _
    rw [actPresenceSample, if_neg hstage]
    rfl
  · simp only [hb, decide_true, Bool.true_and, Bool.and_eq_true, Bool.or_eq_true, Bool.not_eq_true', beq_iff_eq, decide_eq_true_eq,
      and_assoc]
  · simp only [hb, decide_true, Bool.true_and]
  · simp only [hb, decide_true, Bool.true_and, decide_eq_true_eq]
  · rw [exec_attentionButtonPress hb hstage, if_pos h]
  · rw [exec_attentionButtonPress hb hstage, if_neg (not_not_intro h), if_pos hon]
  · have hnotOn : ∀ n, n = bOff ∨ n = bLatched → n ≠ bOn := by rintro n (rfl | rfl) <;> decide
    rw [exec_attentionButtonPress hb hstage, if_neg (not_not_intro h), if_neg (hnotOn _ hoff), if_pos (by simpa using hoff)]
  · simp only [hb, decide_true, Bool.true_and, Bool.and_eq_true, decide_eq_true_eq]
end

/-! ### Acknowledgements

What R114's pseudocode leaves alone, SRTT after a sample, and the bounds of the congestion window.
-/

namespace Sys2Proof.Machine

variable {f : Flow} {ackseq tsecr now most target sample srtt : Nat} {ece : Bool}

/-- SRTT after an acknowledgement that echoes `tsecr` at the time `now` (R114); an echo of 0 brings no sample. -/
def ackSrtt (srtt tsecr now : Nat) : Nat :=
  if tsecr = 0 then srtt
  else if srtt = 0 then min ((now + 2 ^ 32 - tsecr % 2 ^ 32) % 2 ^ 32) 65535
  else smooth ((now + 2 ^ 32 - tsecr % 2 ^ 32) % 2 ^ 32) srtt

/-- The acknowledgement has reached CUT_SEQ, so that it may cut the window (R114). -/
def mayCut (f : Flow) (ackseq : Nat) : Bool := decide ((ackseq + 65536 - f.cutSeq % 65536) % 65536 < 0x8000)

/-- The window after an acknowledgement that leaves SRTT at `srtt` (R114): halved on an echoed mark, cut by an eighth above the
target, and raised where no mark is echoed. -/
def ackWindow (f : Flow) (ackseq : Nat) (ece : Bool) (srtt most target : Nat) : Nat :=
  if ece && mayCut f ackseq then max 16 (f.cwnd / 2)
  else if target < srtt && mayCut f ackseq then max 16 (f.cwnd - f.cwnd / 8)
  else if !ece then min most (f.cwnd + serial ackseq f.sndUna * 256 / f.cwnd)
  else f.cwnd

/-- An acknowledgement that goes back, or of what was never sent. -/
theorem onAck_outside (h : before ackseq f.sndUna = true ∨ before f.sndNxt ackseq = true) :
    onAck f ackseq ece tsecr now most target = f := by
  rw [onAck, if_pos (Bool.or_eq_true _ _ ▸ h)]

/-- What an acknowledgement within the window does to the fields that R114's pseudocode names. -/
theorem onAck_within (hback : before ackseq f.sndUna = false) (hsent : before f.sndNxt ackseq = false) :
    let g := onAck f ackseq ece tsecr now most target
    g.sndUna = ackseq ∧ g.timeouts = 0 ∧ g.srtt = ackSrtt f.srtt tsecr now ∧
      g.cwnd = ackWindow f ackseq ece (ackSrtt f.srtt tsecr now) most target := by
  have hin : ¬ (before ackseq f.sndUna || before f.sndNxt ackseq) = true := by simp [hback, hsent]
  rw [onAck, if_neg hin]
  dsimp only
  rw [← ackSrtt, ← mayCut]
  generalize ackSrtt f.srtt tsecr now = srtt
  rw [ackWindow]
  split
  · exact ⟨rfl, rfl, rfl, rfl⟩
  · split
    · exact ⟨rfl, rfl, rfl, rfl⟩
    · split <;> exact ⟨rfl, rfl, rfl, rfl⟩

theorem smooth_lt : smooth sample srtt < 65536 := by
  rw [smooth]
  split <;> omega

theorem ackSrtt_lt (h : srtt < 65536) : ackSrtt srtt tsecr now < 65536 := by
  rw [ackSrtt]
  split
  · exact h
  · split
    · omega
    · exact smooth_lt

/-- No acknowledgement takes the window below one packet or above its greatest value. -/
theorem ackWindow_bounds (h16 : 16 ≤ f.cwnd) (hmost : f.cwnd ≤ most) :
    16 ≤ ackWindow f ackseq ece srtt most target ∧ ackWindow f ackseq ece srtt most target ≤ most := by
  unfold ackWindow
  generalize serial ackseq f.sndUna * 256 / f.cwnd = rise
  split
  · omega
  · split
    · omega
    · split <;> omega

theorem ackWindow_rises (htarget : srtt ≤ target) :
    ackWindow f ackseq false srtt most target = min most (f.cwnd + serial ackseq f.sndUna * 256 / f.cwnd) := by
  simp [ackWindow, Nat.not_lt.mpr htarget]

theorem ackWindow_halves (h : (ackseq + 65536 - f.cutSeq % 65536) % 65536 < 0x8000) :
    ackWindow f ackseq true srtt most target = max 16 (f.cwnd / 2) := by
  simp [ackWindow, mayCut, h]

end Sys2Proof.Machine

section
open Sys2Proof.Machine

/-- Settles O31: an acknowledgement within the window leaves SRTT at `ackSrtt` and the window at `ackWindow`. -/
theorem acknowledgementMovesTheWindow : Obligations.AcknowledgementMovesTheWindow := by
  intro f ackseq tsecr now most target ece h16 hmost hsrtt
  refine ⟨onAck_outside, fun hback hsent => ?_⟩
  obtain ⟨huna, htimeouts, hrtt, hcwnd⟩ :=
    onAck_within (ece := ece) (tsecr := tsecr) (now := now) (most := most) (target := target) hback hsent
  obtain ⟨hlo, hhi⟩ :=
    ackWindow_bounds (ackseq := ackseq) (ece := ece) (srtt := ackSrtt f.srtt tsecr now) (target := target) h16 hmost
  refine ⟨huna, htimeouts, hrtt, hrtt ▸ ackSrtt_lt hsrtt, hcwnd ▸ hlo, hcwnd ▸ hhi, ?_, ?_⟩
  · rintro rfl htarget
    exact hcwnd.trans (ackWindow_rises htarget)
  · rintro rfl hcut
    exact hcwnd.trans (ackWindow_halves hcut)
end

/-! ### Packets, control messages and timers of Skiff flows

What a packet that is no Skiff traffic leaves alone (R97), and what the rows of flows come to (R103 to R128).
-/

namespace Sys2Proof.Machine.State

variable {s : State} {h : SkHdr} {b : PktBody}

/-! #### Packets -/

/-- What no Skiff packet may show (R97). -/
theorem isSkiff_false (hno : h.dport ≠ s.rd F.SKF_CFG_PORT ∨ h.fragment = true ∨ h.ipPlain = false ∨
    (h.csumOk = false ∧ h.csumZero = false) ∨ (h.csumOk = false ∧ h.v6 = true)) : s.isSkiff h = false := by
  rcases hno with hport | hfrag | hplain | ⟨hsum, hzero⟩ | ⟨hsum, hv6⟩
  · simp [isSkiff, hport]
  · simp [isSkiff, hfrag]
  · simp [isSkiff, hplain]
  · simp [isSkiff, hsum, hzero]
  · simp [isSkiff, hsum, hv6]

theorem bareArrive_foreign (hno : s.isSkiff h = false) : s.bareArrive h b = s := by
  rw [bareArrive, hno]
  rfl

theorem bareArrive_wellFormed (hs : s.isSkiff h = true) (hwf : headBad h false = false) :
    s.bareArrive h b = ((s.fromSwitch h).1.arrive h b (s.fromSwitch h).2).fireDue := by
  rw [bareArrive, hs, hwf]
  rfl

theorem packetIn_foreign {hostBad : Bool} (hno : s.isSkiff h = false) : s.packetIn h b hostBad = s := by
  rw [packetIn, hno]
  rfl

/-- A message of a type that no host may send is malformed, whatever else its header shows (R103). -/
theorem packetIn_hostBad (hs : s.isSkiff h = true) : s.packetIn h b true = (s.fromSwitch h).1.malformed := by
  have hbad : headBad h true = true := Bool.or_true _
  rw [packetIn, hs, hbad]
  rfl

theorem exec_msgReceive {part : MsgPart} :
    exec (.msgReceive h part) s = .next (s.packetIn h (.msg part) (mtypeBad h part.mtype)).carryOn := rfl

theorem exec_fdataReceive {ftag offset data : Nat} : exec (.fdataReceive h ftag offset data) s =
    .next (s.packetIn h (.fdata ftag offset (h.payLen - (if h.enc.isSome then 32 else 0)) data) false).carryOn := rfl

/-! #### Control messages -/

variable {flow : FlowRef} {msgid key kind chainId : Nat} {trigger : Nat × Nat × Nat} {entries : List ChainEntry} {enc : Option Nat}

theorem exec_keyreg :
    let t := s.takeControl flow 2 msgid
    exec (.keyreg flow msgid key) s =
      .next (if t.1.hasKey flow.ip flow.ptag = true ∨ t.1.skf.keys.length < 65536 then
        t.1.setKey flow.ip flow.ptag (key % 2 ^ 64)
      else (t.1.sendNak flow 6 t.2 0 none).raise 70 0x8000).atOnce := by
  show settled (actKeyreg flow msgid key s) = _
  simp only [actKeyreg, Bool.or_eq_true, decide_eq_true_eq, settled]

/-- A chain of a kind and a length that R126 lists. -/
theorem exec_chainpost_listed (h1 : 1 ≤ kind) (h3 : kind ≤ 3) (hne : entries ≠ []) (h8 : entries.length ≤ 8) :
    let t := s.takeControl flow 4 msgid
    exec (.chainpost flow msgid kind chainId trigger entries enc) s =
      .next (if t.1.chainFull flow.ip flow.ptag chainId entries.length = true then (t.1.sendNak flow 7 t.2 0 none).raise 71 0x8000
        else { t.1 with skf := { t.1.skf with
          chains := t.1.skf.chains ++ [⟨flow.ip, flow.port, flow.ptag, kind, chainId, trigger, entries, enc⟩] } }).atOnce := by
  have hlisted : ¬ (kind = 0 || 3 < kind || entries.isEmpty || 8 < entries.length) = true := by simp [hne]; omega
  show settled (actChainpost flow msgid kind chainId trigger entries enc s) = _
  rw [actChainpost, if_neg hlisted]
  rfl

/-! #### Timers -/

variable {f g : Flow} {p : Nat × SentBody} {rest : List (Nat × SentBody)} {sent base cap : Nat}

theorem exec_ackDelayExpiry (hf : s.flowAt flow = some f) (hdue : 0 < f.ackDue) :
    exec (.ackDelayExpiry flow) s = .next (s.sendAck flow).atOnce := by
  refine settled_of_eq ?_
  simp only [hf, hdue, if_true]

/-- Whether a timeout loses the flow is decided with LIMIT as it stands when the timer ends (R115, R116). -/
theorem exec_retransmissionTimeout (hf : s.flowAt flow = some f) (hsent : f.sent = p :: rest)
    (htimer : f.times.lookup p.1 = some (sent, base, cap)) :
    let u := s.passTo (sent + 1000 * min cap (base * 2 ^ f.timeouts))
    let lost := (u.loseFlow f).raise 67 0x8000
    exec (.retransmissionTimeout flow) s =
      .next (if u.ef F.SKF_RTO_LIMIT ≤ f.timeouts + 1 then
          (if flow.ptag = 0xFFFF then lost.raise 74 (u.fedUnit flow.ip) else lost).fireDue
        else (u.setFlow { f with timeouts := f.timeouts + 1, cwnd := max 16 (f.cwnd / 2) }).retransmit flow p.1).atOnce := by
  refine settled_of_eq ?_
  simp only [hf, hsent, htimer]

theorem exec_flowIdleDrop (hf : s.flowAt flow = some f) (hidle : idleFlow f = true) :
    exec (.flowIdleDrop flow) s = .next (s.dropFlow flow) := by
  show execFlowIdleDrop flow s = _
  simp only [execFlowIdleDrop, hf, hidle, if_true]

/-- A record in HBM for which there is room on die comes back, and what waited for it goes on (R118). -/
theorem exec_recordRestore (hf : s.flowAt flow = some f) (hhbm : f.onDie = false) (hg : (s.restore f).flowAt flow = some g)
    (hdie : g.onDie = true) :
    exec (.recordRestore flow) s = .next (((s.restore f).unpark flow).pumpFlow flow 600).carryOn := by
  show execRecordRestore flow s = _
  simp only [execRecordRestore, hf, hhbm, hg, hdie, if_true, Bool.false_eq_true, if_false]

/-- A reach key is released once no flow of its address and tag is left (R120). -/
theorem does_reachKeyRelease {ip ptag : Nat} :
    Does (.reachKeyRelease ip ptag) s (∀ f ∈ s.skf.flows, ¬ (f.ip = ip ∧ f.ptag = ptag)) (s.releaseKey ip ptag) := by
  have hexec : exec (.reachKeyRelease ip ptag) s =
      .next (if ¬ (s.skf.flows.any fun f => f.ip == ip && f.ptag == ptag) = true then s.releaseKey ip ptag else s) := by
    rw [ite_not]
    rfl
  refine (does_of_ite hexec).congr ?_
  simp only [List.any_eq_true, Bool.and_eq_true, beq_iff_eq, not_exists, not_and]

end Sys2Proof.Machine.State

section
open Sys2Proof.Machine Sys2Proof.Machine.State

/-- Settles O28: a packet of no Skiff traffic leaves the state as it is before anything goes on. -/
theorem skiffPacketsComplete : Obligations.SkiffPacketsComplete := by
  refine ⟨fun h part s _ hm => ?_, fun h part s hs hm => ?_, fun h ftag offset data s => exec_fdataReceive,
    fun h s hs hwf => settled_of_eq (bareArrive_wellFormed hs hwf), fun h n s hs hwf => ?_, fun h s hno hfatal => ?_⟩
  · rw [exec_msgReceive, hm]
  · rw [exec_msgReceive, hm, packetIn_hostBad hs]
  · have htook : ∀ code, settled (.next (s.nakArrive h code n)) =
        .next ((s.fromSwitch h).1.arrive h (.nak code n) (s.fromSwitch h).2).fireDue.atOnce :=
      fun code => settled_of_eq (bareArrive_wellFormed hs hwf)
    exact ⟨htook 1, htook 2, htook 3, htook 4, htook 5, htook 6, htook 7⟩
  · have hforeign := isSkiff_false hno
    have hbare : ∀ b, settled (.next (s.bareArrive h b)) = .next s := fun b => by
      rw [bareArrive_foreign hforeign, settled, atOnce_of_not_fatal hfatal]
    exact ⟨hbare _, fun n => ⟨hbare _, hbare _⟩, fun part => by rw [exec_msgReceive, packetIn_foreign hforeign],
      fun ftag offset data => by rw [exec_fdataReceive, packetIn_foreign hforeign]⟩

/-- Settles O29: a registration and a chain of a listed kind are one choice each. -/
theorem skiffControlCompletes : Obligations.SkiffControlCompletes := by
  refine ⟨fun flow msgid key s => ⟨fun hroom => ?_, fun hkey hfull => ?_⟩, fun flow msgid s => rfl,
    fun flow msgid kind id trigger entries enc s h1 h3 hne h8 => ⟨fun hroom => ?_, fun hfull => ?_⟩, fun flow msgid id s => rfl⟩
  · rw [exec_keyreg, if_pos hroom]
  · rw [exec_keyreg, if_neg fun h => h.elim (hkey ▸ Bool.false_ne_true) (Nat.not_lt.mpr hfull)]
  · rw [exec_chainpost_listed h1 h3 hne h8, if_neg (by rw [hroom]; decide)]
  · rw [exec_chainpost_listed h1 h3 hne h8, if_pos hfull]

/-- Settles O30: one lemma per timer. -/
theorem flowTimersComplete : Obligations.FlowTimersComplete := by
  refine ⟨fun flow s f hf hdue => exec_ackDelayExpiry hf hdue, fun flow s f p rest sent base cap hf hsent htimer => ?_,
    fun flow s f hf hidle => exec_flowIdleDrop hf hidle, fun flow s f g hf hhbm hg hdie => exec_recordRestore hf hhbm hg hdie,
    fun ip ptag s => does_reachKeyRelease⟩
  refine ⟨fun hmore => ?_, fun hlimit hhost => ?_, fun hlimit hfed => ?_⟩
  · rw [exec_retransmissionTimeout hf hsent htimer, if_neg (Nat.not_le.mpr hmore)]
  · rw [exec_retransmissionTimeout hf hsent htimer, if_pos hlimit, if_neg hhost]
  · rw [exec_retransmissionTimeout hf hsent htimer, if_pos hlimit, if_pos hfed]
end

/-! ### The NVMe target

What a Connect comes to for each outcome of R139's table, what a command that touches no media is answered with, and how a command
with media or with keys to fetch goes on, each once it has been admitted at its delivery.
-/

namespace Sys2Proof.Machine.State

variable {s u : State} {a : Assoc} {k : Cmd} {c : Capsule} {i : CmdId} {req : Req} {instr : Instr}

/-! ### Connect (R136, R138 to R141) -/

/-- A good capsule of a command that the NP32 knows is held without an error. -/
theorem holdCmd_good {n at_ point : Nat} (hnew : s.cmdOf (capId c) = none) (hbad : c.bad = false) (halien : c.alien = false)
    (hk : (s.holdCmd c req n at_ point).cmdOf (capId c) = some k) : k.err = none := by
  have hheld : ∃ k : Cmd, (s.holdCmd c req n at_ point).nvt.cmds = s.nvt.cmds ++ [k] ∧ k.id = capId c ∧ k.err = none := by
    simp only [holdCmd, hbad, halien]
    split
    · exact ⟨_, rfl, rfl, rfl⟩
    · rw [mirror_nvt]
      exact ⟨_, rfl, rfl, rfl⟩
  obtain ⟨k0, hcmds, hid, herr⟩ := hheld
  rw [cmdOf] at hnew hk
  rw [hcmds, List.find?_append, hnew, Option.none_or, List.find?_singleton, hid, beq_self_eq_true, if_pos rfl] at hk
  exact Option.some.inj hk ▸ herr

/-- Taking its context leaves what was wrong with a command's capsule as it is. -/
theorem contextTaken_err (h : s.contextTaken i = some (k, u)) : ∃ k0, s.cmdOf i = some k0 ∧ k.err = k0.err := by
  unfold contextTaken at h
  split at h
  · cases h
  · next k0 hk0 =>
    dsimp only at h
    split at h
    · cases h
      exact ⟨k0, hk0, rfl⟩
    · cases h

/-- A Connect that takes its context has been held by its delivery. -/
theorem connecting_held (h : s.connecting c req = some (k, u)) : ∃ (s1 : State) (at_ point : Nat),
    s1.cmdOf (capId c) = none ∧ (s1.holdCmd c req 0 at_ point).contextTaken (capId c) = some (k, u) := by
  unfold connecting at h
  split at h
  · cases h
  · next s1 at_ point _ =>
    rw [Option.ite_none_left_eq_some] at h
    obtain ⟨hcond, htaken⟩ := h
    rw [Bool.or_eq_true, not_or, Option.not_isSome_iff_eq_none] at hcond
    exact ⟨s1, at_, point, hcond.2, htaken⟩

theorem connecting_cmd (h : s.connecting c req = some (k, u)) (hbad : c.bad = false) (halien : c.alien = false) :
    k.id = capId c ∧ k.flow = c.flow ∧ k.err = none := by
  obtain ⟨s1, at_, point, hnew, htaken⟩ := connecting_held h
  obtain ⟨k0, hk0, hid0, -, hflow0, -⟩ := holdCmd_cmdOf (req := req) (n := 0) (at_ := at_) (point := point) hnew
  obtain ⟨k1, hk1, -, hid, hflow, -⟩ := start_taken htaken
  obtain ⟨k2, hk2, herr⟩ := contextTaken_err htaken
  cases hk0.symm.trans hk1
  cases hk0.symm.trans hk2
  exact ⟨hid.trans hid0, hflow.trans hflow0, herr.trans (holdCmd_good hnew hbad halien hk0)⟩

section
variable {qid sqsize kato hostid data : Nat} {nqn : Bool}

theorem exec_connect (h : s.connecting c (.connect qid sqsize kato hostid data nqn) = some (k, u)) :
    exec (.connect c qid sqsize kato hostid data nqn) s = .next (u.connect k qid sqsize kato hostid data nqn).carryOn := by
  show execConnect c qid sqsize kato hostid data nqn s = _
  rw [execConnect, takeCmd_connect h]

/-- A row of R139's table refuses a Connect with its status, and raises its event. -/
theorem connect_refused {st : Status} {ev : Option Nat} (herr : k.err = none)
    (hcheck : s.connectCheck (s.assocOf k.id.cntlid) k.id qid sqsize hostid data nqn = some (st, ev)) :
    s.connect k qid sqsize kato hostid data nqn =
      (ev.elim s fun e => s.raise e 0x8000).connectAnswer k 0 st 0 none := by
  simp only [connect, herr, hcheck, Option.isSome_none, Bool.false_eq_true, if_false]
  cases ev <;> rfl

/-- The association that an admin Connect makes (R140, R143). -/
def madeAssoc (s : State) (k : Cmd) (sqsize kato hostid cntlid entry : Nat) : Assoc :=
  { cntlid := cntlid, hostid := hostid, sub := s.ef F.NVT_HOST_SUB entry, flow := k.flow, kato := s.holdKato kato, cc := 0, shst := 0
    queues := [(0, sqsize)], closing := [], sqhd := [(0, 1 % (sqsize + 1))], ioQueues := 64, ioConnected := false, aers := []
    aenConfig := 0, notices := [], rsvMask := [], rsvLog := [], rsvCount := 0, changed := [], reported := [], adopted := false }

theorem connect_admin {n e : Nat} (herr : k.err = none)
    (hcheck : s.connectCheck (s.assocOf k.id.cntlid) k.id 0 sqsize hostid data nqn = none)
    (hn : s.nextCntlid = some n) (he : s.hostEntry hostid = some e) :
    let a := s.madeAssoc k sqsize kato hostid n e
    let v := { s with nvt := { s.nvt with assocs := s.nvt.assocs ++ [a], freed := s.nvt.freed.filter fun f => f.1 != n } }
    let m := v.mirror (.assoc (v.assocRec a false))
    s.connect k 0 sqsize kato hostid data nqn = m.1.showTarget.connectAnswer k (1 % (sqsize + 1)) stOk n m.2 := by
  simp only [connect, herr, hcheck, hn, he, Option.isSome_none, Bool.false_eq_true, if_false, if_true, madeAssoc]

theorem connect_io (herr : k.err = none) (hqid : qid ≠ 0) (ha : s.assocOf k.id.cntlid = some a)
    (hcheck : s.connectCheck (s.assocOf k.id.cntlid) k.id qid sqsize hostid data nqn = none) :
    let b := { a with
      queues := a.queues ++ [(qid, sqsize)]
      closing := dropFrom a.closing qid
      ioConnected := true
      flow := k.flow
      sqhd := (a.sqhd.filter fun (x : Nat × Nat) => x.1 != qid) ++ [(qid, 1 % (sqsize + 1))] }
    let m := (s.setAssoc b).mirror (.assoc (s.assocRec b false))
    s.connect k qid sqsize kato hostid data nqn = m.1.connectAnswer k (1 % (sqsize + 1)) stOk k.id.cntlid m.2 := by
  rw [ha] at hcheck
  simp only [connect, herr, ha, hcheck, hqid, Option.isSome_none, Bool.false_eq_true, if_false]

end

/-! ### Commands without media: what each is answered with (R143, R144, R150 to R152, R156, R171 to R174) -/

/-- A command that has no media to touch and no data to fetch is executed where it is admitted. -/
def executesAtOnce : Req → Bool
  | .connect .. => false
  | req => !(isMedia req || req.wantsData)

theorem takeCmd_executes (h : s.admitted c req = some (a, k, u)) (hreq : executesAtOnce req = true) :
    k.req = req ∧ k.id = capId c ∧ s.takeCmd c req = u.executePlain a k := by
  have hconnect : ∀ q z t d e n, req ≠ .connect q z t d e n := by
    rintro q z t d e n rfl
    cases hreq
  have hplain : (isMedia req || req.wantsData) = false := by
    cases req with
    | connect => cases hreq
    | _ => exact Bool.not_eq_true' _ ▸ hreq
  obtain ⟨-, hid, hk, -, -, htake⟩ := takeCmd_admitted h hconnect
  exact ⟨hk, hid, by rw [htake, hplain, if_neg Bool.false_ne_true]⟩

/-- The outcome of an admitted command without media is what `executePlain` makes of its request. -/
theorem exec_executes {t : State} (h : s.admitted c req = some (a, k, u)) (hreq : executesAtOnce req = true)
    (hinstr : exec instr s = .next (s.takeCmd c req).carryOn) (hend : k.req = req → k.id = capId c → u.executePlain a k = t) :
    exec instr s = .next t.carryOn := by
  obtain ⟨hk, hid, htake⟩ := takeCmd_executes h hreq
  rw [hinstr, htake, hend hk hid]

section
variable {n nsid nr numd off lid cns cntid csi fid value sqid cid : Nat} {eds : Bool} {sgl : Sgl} {st : Status}

theorem executePlain_flush (hk : k.req = .flush nsid) (hid : k.id = i) : s.executePlain a k = s.answer i stOk 0 [] := by
  simp only [executePlain, hk, hid]

theorem executePlain_dsm {ad : Bool} {ranges : List (Nat × Nat)} (hk : k.req = .dsm nsid nr ad sgl ranges) (hid : k.id = i) :
    s.executePlain a k = s.answer i stOk 0 [] := by
  simp only [executePlain, hk, hid]

theorem executePlain_keepAlive (hk : k.req = .keepAlive) (hid : k.id = i) : s.executePlain a k = s.answer i stOk 0 [] := by
  simp only [executePlain, hk, hid]

theorem executePlain_rsvReport (hk : k.req = .rsvReport n numd eds sgl) (hid : k.id = i) :
    s.executePlain a k = s.answerData i (sliceOf (rsvReportData s (s.rsvOf n)) 0 (4 * (numd + 1))) := by
  simp only [executePlain, hk, hid]

theorem executePlain_getLog_page {t : State} {page : Nat} (hpage : s.logPage a lid n = .inl (t, page))
    (hk : k.req = .getLog lid n off numd sgl) (hid : k.id = i) :
    s.executePlain a k = t.answerData i (sliceOf page off (4 * (numd + 1))) := by
  simp only [executePlain, hk, hid, hpage]

theorem executePlain_getLog_refused (hst : s.logPage a lid n = .inr st) (hk : k.req = .getLog lid n off numd sgl) (hid : k.id = i) :
    s.executePlain a k = s.answer i st 0 [] := by
  simp only [executePlain, hk, hid, hst]

theorem executePlain_identify_page {page : Nat} (hpage : s.identify a cns n csi = .inl page)
    (hk : k.req = .identify cns n cntid csi sgl) (hid : k.id = i) : s.executePlain a k = s.answerData i page := by
  simp only [executePlain, hk, hid, hpage]

theorem executePlain_identify_refused (hst : s.identify a cns n csi = .inr st) (hk : k.req = .identify cns n cntid csi sgl)
    (hid : k.id = i) : s.executePlain a k = s.answer i st 0 [] := by
  simp only [executePlain, hk, hid, hst]

theorem executePlain_abort (hk : k.req = .abort sqid cid) : s.executePlain a k = s.abortCmd k sqid cid := by
  simp only [executePlain, hk]

theorem executePlain_setFeatures (hk : k.req = .setFeatures fid n value) (hid : k.id = i) :
    s.executePlain a k =
      (s.setFeature a fid n value).1.answer i (s.setFeature a fid n value).2.1 (s.setFeature a fid n value).2.2 [] := by
  simp only [executePlain, hk, hid]

theorem executePlain_getFeatures_hostid (hfid : fid = 0x81) (hk : k.req = .getFeatures fid n sgl) (hid : k.id = i) :
    s.executePlain a k = s.answerData i a.hostid := by
  simp only [executePlain, hk, hid, hfid, if_true]

theorem executePlain_getFeatures_value (hfid : fid ≠ 0x81) (hk : k.req = .getFeatures fid n sgl) (hid : k.id = i) :
    s.executePlain a k = s.answer i (s.getFeature a fid n).1 (s.getFeature a fid n).2 [] := by
  simp only [executePlain, hk, hid, if_neg hfid]

theorem executePlain_aer_notice {x : Nat} {rest : List Nat} (hnotices : a.notices = x :: rest) (hk : k.req = .aer) (hid : k.id = i) :
    s.executePlain a k = (s.setAssoc { a with notices := rest }).answer i stOk x [] := by
  simp only [executePlain, hk, hid, hnotices]

theorem executePlain_aer_kept (hnotices : a.notices = []) (hroom : a.aers.length < 8) (hk : k.req = .aer) (hid : k.id = i) :
    s.executePlain a k = s.setAssoc { a with aers := a.aers ++ [i] } := by
  simp only [executePlain, hk, hid, hnotices, if_neg (Nat.not_le.mpr hroom)]

theorem executePlain_aer_ninth (hnotices : a.notices = []) (hfull : 8 ≤ a.aers.length) (hk : k.req = .aer) (hid : k.id = i) :
    s.executePlain a k = s.answer i stInvalidField 0 [] := by
  simp only [executePlain, hk, hid, hnotices, if_pos hfull]

theorem executePlain_propertySet_cc (hoff : off = 0x14) (hk : k.req = .propertySet off value) (hid : k.id = i) :
    s.executePlain a k = (s.setAssoc { a with
      cc := value % 2 ^ 32
      shst := if value / 2 ^ 14 % 4 ≠ 0 then 2 else if value % 2 = 0 then 0 else a.shst }).answer i stOk 0 [] := by
  simp only [executePlain, hk, hid, if_pos hoff]

theorem executePlain_propertySet_other (hoff : off ≠ 0x14) (hk : k.req = .propertySet off value) (hid : k.id = i) :
    s.executePlain a k = s.answer i stInvalidField 0 [] := by
  simp only [executePlain, hk, hid, if_neg hoff]

theorem executePlain_propertyGet_value {v : Nat} (hv : propertyValue a off = some v) (hk : k.req = .propertyGet off) (hid : k.id = i) :
    s.executePlain a k = s.answer i stOk v [] := by
  simp only [executePlain, hk, hid, hv]

theorem executePlain_propertyGet_none (hv : propertyValue a off = none) (hk : k.req = .propertyGet off) (hid : k.id = i) :
    s.executePlain a k = s.answer i stInvalidField 0 [] := by
  simp only [executePlain, hk, hid, hv]

theorem capId_qid : (capId c).qid = c.qid := by
  unfold capId connId
  split <;> rfl

theorem executePlain_disconnect_admin (hqid : c.qid = 0) (hk : k.req = .disconnect) (hid : k.id = capId c) :
    s.executePlain a k = s.answer (capId c) stOk 0 [] := by
  simp only [executePlain, hk, hid, capId_qid, if_pos hqid]

theorem executePlain_disconnect_io (hqid : c.qid ≠ 0) (hk : k.req = .disconnect) (hid : k.id = capId c) :
    s.executePlain a k = (s.setAssoc { a with
      queues := a.queues.filter fun (x : Nat × Nat) => x.1 != c.qid
      closing := addTo a.closing c.qid }).answer (capId c) stOk 0 [] := by
  simp only [executePlain, hk, hid, capId_qid, if_neg hqid]

end

/-! ### Commands with media, or with keys to fetch (R145 to R147, R155) -/

/-- A command that has media to touch or data to fetch takes a context, and is no Connect. -/
theorem takesContext_of_work (hwork : (isMedia req || req.wantsData) = true) :
    req.free = false ∧ ∀ q z t d e n, req ≠ .connect q z t d e n := by
  cases req with
  | connect | aer | keepAlive => cases hwork
  | _ => exact ⟨rfl, nofun⟩

/-- Such a command, admitted at its delivery, is held with its context, and the state goes on with it. -/
theorem exec_holds (h : s.admitted c req = some (a, k, u)) (hwork : (isMedia req || req.wantsData) = true)
    (hinstr : exec instr s = .next (s.takeCmd c req).carryOn) :
    u.cmdOf (capId c) = some k ∧ k.phase = 1 ∧ k.ctx = true ∧ exec instr s = .next u.carryOn := by
  obtain ⟨hfree, hconnect⟩ := takesContext_of_work hwork
  obtain ⟨hheld, -, -, hphase, hctx, htake⟩ := takeCmd_admitted h hconnect
  exact ⟨hheld, hphase, by rw [hctx, hfree]; rfl, by rw [hinstr, htake, if_pos hwork]⟩

/-! ### Keys of reservation commands (R155, R173), in the layout of log entry 132 -/

section
variable {n act t cptpl x y buf : Nat} {ign : Bool} {g : Sgl}

theorem withData_rsvRegister : Req.withData (.rsvRegister n act ign cptpl g x y) buf =
    .rsvRegister n act ign cptpl g (buf % 2 ^ 64) (buf / 2 ^ 64 % 2 ^ 64) := by
  simp [Req.withData]

theorem withData_rsvAcquire : Req.withData (.rsvAcquire n act t ign g x y) buf =
    .rsvAcquire n act t ign g (buf % 2 ^ 64) (buf / 2 ^ 64 % 2 ^ 64) := by
  simp [Req.withData]

theorem withData_rsvRelease : Req.withData (.rsvRelease n act t ign g x) buf = .rsvRelease n act t ign g (buf % 2 ^ 64) := by
  simp [Req.withData]

theorem executePlain_rsvRegister (hk : k.req = .rsvRegister n act ign cptpl g x y) :
    s.executePlain a k = s.reserve k a.hostid n (rsvRegister (s.rsvOf n) a.hostid act ign cptpl x y) false false := by
  simp only [executePlain, hk, rsvEffect]

theorem executePlain_rsvAcquire (hk : k.req = .rsvAcquire n act t ign g x y) :
    s.executePlain a k = s.reserve k a.hostid n (rsvAcquire (s.rsvOf n) a.hostid act t ign x y) (act == 2) false := by
  simp only [executePlain, hk, rsvEffect]

theorem executePlain_rsvRelease (hk : k.req = .rsvRelease n act t ign g x) :
    s.executePlain a k = s.reserve k a.hostid n (rsvRelease (s.rsvOf n) a.hostid act t ign x) false (act == 1) := by
  simp only [executePlain, hk, rsvEffect]

end

end Sys2Proof.Machine.State

section
open Sys2Proof.Machine Sys2Proof.Machine.State

/-- Settles O32: a Connect comes to `connect` on a command without an error, which has one outcome for each outcome of the check. -/
theorem connectsComplete : Obligations.ConnectsComplete := by
  intro c qid sqsize kato hostid data nqn s k u h hbad halien
  obtain ⟨hid, hflow, herr⟩ := connecting_cmd h hbad halien
  rw [exec_connect h, ← hid, ← hflow]
  refine ⟨fun n e hqid hcheck hn he => ?_, fun a hqid ha hcheck => ?_, fun st ev hcheck => ?_⟩
  · subst hqid
    exact ⟨u.madeAssoc k sqsize kato hostid n e, rfl, rfl, rfl, rfl, rfl, rfl, rfl, by rw [connect_admin herr hcheck hn he]⟩
  · rw [connect_io herr hqid ha hcheck]
  · rw [connect_refused herr hcheck]
    cases ev <;> rfl

/-- Settles O33: each command is executed at its admission, with the effect that `executePlain` has for its request; SHST
after CC.EN is cleared follows log entry 100, and the refusals of a ninth request and of no property follow log entry 62. -/
theorem admittedCommandsAreAnswered : Obligations.AdmittedCommandsAreAnswered := by
  refine ⟨fun c nsid s a k u h => exec_executes h rfl rfl executePlain_flush,
    fun c nsid nr sgl s a k u h => exec_executes h rfl rfl executePlain_dsm,
    fun c s a k u h => exec_executes h rfl rfl executePlain_keepAlive,
    fun c n numd eds sgl s a k u h => exec_executes h rfl rfl executePlain_rsvReport,
    fun c lid n off numd sgl s a k u h => ⟨fun t page hpage => ?_, fun st hst => ?_⟩,
    fun c cns n cntid csi sgl s a k u h => ⟨fun page hpage => ?_, fun st hst => ?_⟩,
    fun c sqid cid s a k u h => exec_executes h rfl rfl fun hk _ => executePlain_abort hk,
    fun c fid n value s a k u h => exec_executes h rfl rfl executePlain_setFeatures,
    fun c fid n sgl s a k u h => ⟨fun hfid => ?_, fun hfid => ?_⟩,
    fun c s a k u h => ⟨fun x rest hx => ?_, fun hx hroom => ?_, fun hx hfull => ?_⟩,
    fun c off value s a k u h => ⟨fun hoff => ?_, fun hoff => ?_⟩,
    fun c off s a k u h => ⟨fun v hv => ?_, fun hv => ?_⟩,
    fun c s a k u h => ⟨fun hqid => ?_, fun hqid => ?_⟩⟩
  · exact exec_executes h rfl rfl (executePlain_getLog_page hpage)
  · exact exec_executes h rfl rfl (executePlain_getLog_refused hst)
  · exact exec_executes h rfl rfl (executePlain_identify_page hpage)
  · exact exec_executes h rfl rfl (executePlain_identify_refused hst)
  · exact exec_executes h rfl rfl (executePlain_getFeatures_hostid hfid)
  · exact exec_executes h rfl rfl (executePlain_getFeatures_value hfid)
  · exact exec_executes h rfl rfl (executePlain_aer_notice hx)
  · exact exec_executes h rfl rfl (executePlain_aer_kept hx hroom)
  · exact exec_executes h rfl rfl (executePlain_aer_ninth hx hfull)
  · exact exec_executes h rfl rfl (executePlain_propertySet_cc hoff)
  · exact exec_executes h rfl rfl (executePlain_propertySet_other hoff)
  · exact exec_executes h rfl rfl (executePlain_propertyGet_value hv)
  · exact exec_executes h rfl rfl (executePlain_propertyGet_none hv)
  · exact exec_executes h rfl rfl (executePlain_disconnect_admin hqid)
  · exact exec_executes h rfl rfl (executePlain_disconnect_io hqid)

/-- Settles O34: each of these commands has media to touch, or ranges to fetch. -/
theorem admittedMediaCommandsGoOn : Obligations.AdmittedMediaCommandsGoOn :=
  ⟨fun _ _ _ _ _ _ h => exec_holds h rfl rfl, fun _ _ _ _ _ _ h => exec_holds h rfl rfl, fun _ _ _ _ _ _ h => exec_holds h rfl rfl,
    fun _ _ _ _ _ _ h => exec_holds h rfl rfl, fun _ _ _ _ _ _ _ _ h => exec_holds h rfl rfl⟩

/-- Settles O35: keys are data to fetch, and a request with its keys has the effect of its own rule. -/
theorem reservationCommandsTakeEffectWithTheirKeys : Obligations.ReservationCommandsTakeEffectWithTheirKeys :=
  ⟨fun _ _ _ _ _ _ _ _ _ _ h => exec_holds h rfl rfl, fun _ _ _ _ _ _ _ _ _ _ h => exec_holds h rfl rfl,
    fun _ _ _ _ _ _ _ _ _ _ h => exec_holds h rfl rfl,
    fun _ _ _ _ => ⟨fun _ _ _ _ _ _ _ hk => executePlain_rsvRegister (hk.trans withData_rsvRegister),
      fun _ _ _ _ _ _ _ hk => executePlain_rsvAcquire (hk.trans withData_rsvAcquire),
      fun _ _ _ _ _ _ hk => executePlain_rsvRelease (hk.trans withData_rsvRelease)⟩⟩
end

/-! ### The turn and the power-fail drain

The outcome of each row of the turn, of the drain and of a buffer grant, where it acts and where it does not (R184, R185, R187 to R199,
R283, R290, R509).
-/

namespace Sys2Proof.Machine

section
variable {c : Instr} {s t : State} {p : Prop}

/-- As `does_of_ite`, where the arm names the case in which nothing happens. -/
theorem does_of_ite_not [Decidable p] (h : exec c s = .next (if p then s else t)) : Does c s (¬ p) t :=
  State.does_of_ite (by rw [h, ite_not])

/-- As `settles_of_ite`, where the arm names the case in which nothing happens. -/
theorem settles_of_ite_not [Decidable p] (h : exec c s = settled (.next (if p then s else t))) : Settles c s (¬ p) t :=
  settles_of_ite (by rw [h, ite_not])

end

namespace State

variable {s u : State} {t : TurnFacts} {high : Bool} {hamper : Nat}

/-- A turn mark whose frame is accepted is taken (R192). -/
theorem exec_turnMark {h : TwHdr} {heat len pref late : Nat} {master : Bool} (hu : s.frameIn h = some u) :
    exec (.turnMark h heat len master pref late t) s = .next (u.takeMark heat len master pref late t).carryOn := by
  show execTurnMark h heat len master pref late t s = _
  rw [execTurnMark, rxFrame_accepted hu]
  rfl

/-! ### PWR_FAIL_N -/

/-- PWR_FAIL_N has fallen. -/
def failing (s : State) : State := { s with hmp := { s.hmp with pfLow := true } }

@[simp] theorem failing_rd {f : Field} {i j : Nat} : s.failing.rd f i j = s.rd f i j := rfl

@[simp] theorem failing_twinState : s.failing.twinState = s.twinState := rfl

/-- A fall before ready is PWR_FAIL_BEFORE_READY's (R41). -/
theorem exec_powerFailDrain_early (hr : s.ready = false) : exec (.powerFailDrain high t) s = .next s := by
  show execPowerFailDrain high t s = _
  rw [execPowerFailDrain, if_pos (by rw [hr]; rfl)]

/-- What a fall in an NP32 that is ready comes to, by the state of HMP_PFAIL (R195, R198, R290). -/
theorem exec_powerFailDrain_ready (hr : s.ready = true) : exec (.powerFailDrain high t) s = .next (
    if s.rd F.HMP_PFAIL_STATE = 3 then s.failing.wr F.HMP_PFAIL_STATE 2
    else if s.rd F.HMP_PFAIL_STATE ≠ 0 ∨ s.twinState = 3 then s.failing
    else (s.failing.startDrain high t).carryOn) := by
  show execPowerFailDrain high t s = _
  rw [execPowerFailDrain, if_neg (by rw [hr]; decide)]
  simp only [Bool.or_eq_true, decide_eq_true_eq]
  rfl

/-! ### A planned handover and buffer grants -/

/-- The crews pass to the partner at the first turn after the request (R283). -/
theorem does_plannedHandover {crews : List Nat} {back : Bool} {heat : Nat} (h : s.twn.handing = some (crews, back, heat)) :
    Does .plannedHandover s (s.ready = true ∧ s.twinState = 2 ∧ s.is F.TWN_STATUS_LINK = true ∧ heat < s.heat)
      (s.handOverCrews crews back).carryOn := by
  have hexec : exec .plannedHandover s = .next (
      if s.ready && s.twinState = 2 && s.is F.TWN_STATUS_LINK && decide (heat < s.heat) then (s.handOverCrews crews back).carryOn
      else s) := by
    show execPlannedHandover s = _
    rw [execPlannedHandover, h]
  refine (does_of_ite hexec).congr ?_
  simp only [Bool.and_eq_true, decide_eq_true_eq, and_assoc]

/-- No wait that can be met: nothing happens. -/
theorem exec_hamperBufferGrant_none (h : (s.grantBuffers hamper).2 = none) : exec (.hamperBufferGrant hamper) s = .next s := by
  have hg : s.grantBuffers hamper = ((s.grantBuffers hamper).1, none) := Prod.ext rfl h
  show execHamperBufferGrant hamper s = _
  rw [execHamperBufferGrant, hg]

/-- Buffers of any hamper but those of catch-up logs, of rebuild and patrol, and of collection go to a stage of the data path (R185). -/
theorem exec_hamperBufferGrant_some {owner : Nat × Nat × Nat} (h8 : hamper ≠ 8) (h9 : hamper ≠ 9) (h14 : hamper ≠ 14)
    (h : s.grantBuffers hamper = (u, some owner)) : exec (.hamperBufferGrant hamper) s = .next u.carryOn := by
  show execHamperBufferGrant hamper s = _
  simp [execHamperBufferGrant, h, h8, h9, h14]

end State

end Sys2Proof.Machine

section
open Sys2Proof.Machine Sys2Proof.Machine.State

/-! ### The statements of spec/06_hampers_and_heats.md -/

/-- Settles O37: a row of the turn or of the drain is one choice, the fall of PWR_FAIL_N one by the state of HMP_PFAIL. -/
theorem heatsAndDrainComplete : Obligations.HeatsAndDrainComplete := by
  refine ⟨fun t s => (does_of_ite rfl).congr ?_, fun h heat len master pref late t s u hu => exec_turnMark hu,
    fun high t s => ⟨exec_powerFailDrain_early, fun hr h0 h3 => ?_, fun hr h0 h3 => ?_, fun hr h3 => ?_, fun hr h12 => ?_⟩,
    fun s => (settles_of_ite_not rfl).congr ?_, fun s => (does_of_ite_not rfl).congr ?_, fun s => (settles_of_ite_not rfl).congr ?_,
    fun s => ⟨fun h2 => ?_, fun h2 => ?_⟩, fun t s => (does_of_ite_not rfl).congr Classical.not_not,
    fun s crews back heat h => does_plannedHandover h, fun hamper s u owner => exec_hamperBufferGrant_some,
    fun hamper s => exec_hamperBufferGrant_none⟩
  · simp only [Bool.and_eq_true, decide_eq_true_eq, Bool.not_eq_true', and_assoc]
  · rw [exec_powerFailDrain_ready hr, if_neg (by omega), if_neg (by omega)]
    rfl
  · rw [exec_powerFailDrain_ready hr, if_neg (by omega), if_pos (.inr h3)]
    rfl
  · rw [exec_powerFailDrain_ready hr, if_pos h3]
    rfl
  · rw [exec_powerFailDrain_ready hr, if_neg (by omega), if_pos (.inl (by omega))]
    rfl
  · simp only [ne_eq, Bool.or_eq_true, decide_eq_true_eq, not_or, Classical.not_not, Bool.not_eq_true]
  · simp only [ne_eq, Bool.or_eq_true, decide_eq_true_eq, not_or, Classical.not_not, List.any_eq_true, beq_iff_eq, not_exists, not_and]
  · simp only [ne_eq, Bool.or_eq_true, decide_eq_true_eq, not_or, Classical.not_not, Bool.not_eq_true]
  · exact congrArg Host.Outcome.next (if_pos h2)
  · exact congrArg Host.Outcome.next (if_neg h2)
end

/-! ### The twin link and takeover

The outcome of a deferral's end, of the end of the Acquires, of the keyed writes of TWN_CMD, and of a link that trains (R192, R270, R274,
R277 to R279, R282 to R284, R290).
-/

namespace Sys2Proof.Machine.State

variable {s : State} {value : Word}

/-! ### The end of a deferral (R278, R282)

Driving the bay gates leaves the state of the twin as it is.
-/

theorem toBay_twn {nn st : Nat} : (s.toBay nn st).twn = s.twn := by
  unfold toBay
  dsimp only
  split <;> rfl

theorem ownBay_twn {nn : Nat} : (s.ownBay nn).twn = s.twn := by
  unfold ownBay
  dsimp only
  split
  · exact toBay_twn
  · split <;> exact toBay_twn

theorem becomeOwner_twn : s.becomeOwner.twn = s.twn := by
  unfold becomeOwner
  split
  · rfl
  · generalize List.range 32 = l
    exact List.foldlRecOn (motive := fun t : State => t.twn = s.twn) l (fun t nn => t.ownBay nn) rfl
      fun _ h _ _ => ownBay_twn.trans h

/-- The gates are this NP32's, and it defers no longer. -/
def deferred (s : State) : State := { s.becomeOwner with twn := { s.becomeOwner.twn with deferring := false } }

theorem deferred_eq : s.deferred = { s.becomeOwner with twn := { s.twn with deferring := false } } := by
  rw [deferred, becomeOwner_twn]

theorem deferEnds_deferring (h : s.twn.deferring = true) : s.deferEnds =
    if s.deferred.twinState = 3 && s.deferred.twn.item.isNone then s.deferred.startTakeover else s.deferred := by
  have hd : ¬ (!s.twn.deferring) = true := by rw [h]; decide
  rw [deferred_eq, deferEnds]
  exact if_neg hd

theorem exec_takeoverDeferExpiry_starts (h : s.twn.deferring = true) (h3 : s.deferred.twinState = 3)
    (hitem : s.deferred.twn.item = none) : exec .takeoverDeferExpiry s = .next s.deferred.startTakeover.carryOn := by
  show execTakeoverDeferExpiry s = _
  rw [execTakeoverDeferExpiry, deferEnds_deferring h, if_pos (by rw [h3, hitem]; rfl)]

/-- A takeover that its item or a decline holds back does not start with the gates. -/
theorem exec_takeoverDeferExpiry_waits (h : s.twn.deferring = true)
    (hor : s.deferred.twinState ≠ 3 ∨ s.deferred.twn.item.isSome = true) :
    exec .takeoverDeferExpiry s = .next s.deferred.carryOn := by
  have hno : ¬ (s.deferred.twinState = 3 && s.deferred.twn.item.isNone) = true := by
    rw [Bool.and_eq_true, decide_eq_true_eq, Option.isNone_iff_eq_none, not_and, ← ne_eq, ← Option.isSome_iff_ne_none]
    exact hor.neg_resolve_left
  show execTakeoverDeferExpiry s = _
  rw [execTakeoverDeferExpiry, deferEnds_deferring h, if_neg hno]

/-! ### The end of the Acquires (R278, R279, R290) -/

section
variable {conflict : Bool} {late : List Nat} {torn : List (Nat × List TornRange)} {straps : Straps} {t : TurnFacts}

theorem exec_acquireComplete_idle (h : s.twn.taking = false) : exec (.acquireComplete conflict late torn straps t) s = .next s := by
  show execAcquireComplete conflict late torn straps t s = _
  rw [execAcquireComplete, if_pos (by rw [h]; rfl)]

/-- What the end comes to: a conflict in a takeover fences this NP32, and else what the partner had is adopted. -/
theorem exec_acquireComplete_taking (h : s.twn.taking = true) : exec (.acquireComplete conflict late torn straps t) s = .next
    (if conflict = true ∧ s.twinState = 3 then s.fence straps else ((s.adoptAll late torn).heldDrain t).carryOn) := by
  show execAcquireComplete conflict late torn straps t s = _
  rw [execAcquireComplete, if_neg (by rw [h]; decide)]
  simp only [Bool.and_eq_true, decide_eq_true_eq]

end

/-! ### Keyed writes of TWN_CMD (R282 to R284) -/

theorem does_twnCmdHandover (hkey : twnKeyed value 0 = true) :
    Does (.twnCmdHandover value) s (s.twinState = 2 ∧ s.twn.handing = none ∧ s.ownedCrews ≠ [])
      { s with twn := { s.twn with handing := some (s.ownedCrews, false, s.heat) } } := by
  have hexec : exec (.twnCmdHandover value) s = .next s.askHandover := congrArg Host.Outcome.next (if_pos hkey)
  refine (does_of_ite_not hexec).congr ?_
  simp [and_assoc]

theorem does_twnCmdGiveback (hkey : twnKeyed value 2 = true) :
    let back := s.ownedCrews.filter fun n => !s.prefers n
    Does (.twnCmdGiveback value) s (s.twinState = 2 ∧ s.twn.handing = none ∧ back ≠ [])
      { s with twn := { s.twn with handing := some (back, true, s.heat) } } := by
  have hexec : exec (.twnCmdGiveback value) s = .next s.askGiveback := congrArg Host.Outcome.next (if_pos hkey)
  refine (does_of_ite_not hexec).congr ?_
  simp [and_assoc]

/-- A takeover that was declined starts. -/
theorem askTakeover_declined (h : s.twinState = 6) : s.askTakeover = (s.wr F.TWN_STATUS_STATE 3).startTakeover := if_pos h

/-- A takeover that waits for its item waits for it no longer. -/
theorem askTakeover_waiting {tag : Nat} (h : s.twinState = 3) (hitem : s.twn.item = some tag) :
    s.askTakeover = (s.endItem tag).goTakeover := by
  rw [askTakeover, if_neg (by omega), if_pos h, hitem]

theorem exec_twnCmdTakeover (hkey : twnKeyed value 1 = true) :
    exec (.twnCmdTakeover value) s = .next s.askTakeover.carryOn := congrArg Host.Outcome.next (if_pos hkey)

/-- A write of TWN_CMD without its key sets no bit. -/
theorem exec_twnCmd_unkeyed :
    (twnKeyed value 0 = false → exec (.twnCmdHandover value) s = .next s) ∧
    (twnKeyed value 1 = false → exec (.twnCmdTakeover value) s = .next s) ∧
    (twnKeyed value 2 = false → exec (.twnCmdGiveback value) s = .next s) :=
  ⟨fun h => congrArg Host.Outcome.next (if_neg (Bool.eq_false_iff.mp h)),
    fun h => congrArg Host.Outcome.next (if_neg (Bool.eq_false_iff.mp h)),
    fun h => congrArg Host.Outcome.next (if_neg (Bool.eq_false_iff.mp h))⟩

/-! ### A link that trains (R192, R274, R284) -/

section
variable {heat len pref : Nat} {master running : Bool}

/-- The link is up, frames are numbered from 0 again, and the partner's BAY_MASTER is known. -/
def linkUp (s : State) (master : Bool) : State :=
  { s.wr F.TWN_STATUS_LINK 1 with
    twn := { s.twn with
      txNext := 0
      rxNext := 0
      sent := []
      syncing := none
      partnerMaster := some master } }.unframe

/-- The twins have one heat length, and the twin with the higher heat number leads, by BAY_MASTER where they are equal (R192). -/
def linkAligned (s : State) (heat : Nat) (master : Bool) : State :=
  let leads := decide (heat < s.heat) || (heat == s.heat && s.is F.SYS_STRAP_BAY_MASTER)
  { s.linkUp master with twn := { (s.linkUp master).twn with unlike := false } }.wr F.HMP_ALIGN_STAT_LEAD (if leads = true then 1 else 0)

/-- What an aligned pair does next (R284): one that starts is paired, or joins a partner that runs; one that runs sends its state to a
partner that starts. -/
def linkStarted (s : State) (ready running : Bool) : State :=
  if !ready then
    if running then { s with sw := { s.sw with ownOff := true } }.wr F.TWN_STATUS_STATE 1
    else s.wr F.TWN_STATUS_STATE 2
  else if running then s
  else s.syncPartner

/-- The training of twins that have one heat length and one preference. -/
theorem linkTrained_alike (hshelf : s.twinShelf = true) (hdown : s.is F.TWN_STATUS_LINK = false)
    (hstage : s.stage = 5 ∨ s.ready = true) (hgate : s.gateForced 8 = false) (hwatch : s.is F.CLK_STATUS_WATCH = false)
    (hlen : min 6 len = s.ef F.HMP_HEAT_LEN) (hpref : pref = s.rd F.TWN_OWN_PREF) :
    s.linkTrained heat len master pref running = (s.linkAligned heat master).linkStarted s.ready running := by
  have hstart : (s.stage == 5 || s.ready) = true := by simpa using hstage
  have htrains : ¬ (!s.twinShelf || s.is F.TWN_STATUS_LINK || !(s.stage == 5 || s.ready) || s.gateForced 8 ||
      s.is F.CLK_STATUS_WATCH) = true := by
    simp only [hshelf, hdown, hstart, hgate, hwatch]
    decide
  exact (if_neg htrains).trans ((if_neg (not_not_intro hlen)).trans
    (congrArg (fun u : State => u.linkStarted s.ready running) (if_pos hpref)))

theorem exec_twinLinkTrained : exec (.twinLinkTrained heat len master pref running) s =
    .next (s.linkTrained heat len master pref running).carryOn := rfl

end

end Sys2Proof.Machine.State

section
open Sys2Proof.Machine Sys2Proof.Machine.State

/-! ### The statements of spec/08_degradation_rebuild_takeover.md -/

/-- Settles O43: a row that is one choice does what its arm says; the others have a lemma for each case, and `linkTrained_alike` has the
training of a link. -/
theorem twinEventsComplete : Obligations.TwinEventsComplete := by
  refine ⟨fun s => does_of_ite rfl, fun s => does_of_ite rfl,
    fun s h => ⟨exec_takeoverDeferExpiry_starts h, exec_takeoverDeferExpiry_waits h⟩,
    fun conflict late torn straps t s => ⟨exec_acquireComplete_idle, fun ht hc h3 => ?_, fun ht hor => ?_⟩, fun s => does_of_ite rfl,
    fun value s => does_twnCmdHandover, fun value s hkey => ⟨fun h6 => ?_, fun tag h3 hi => ?_⟩, fun value s => does_twnCmdGiveback,
    fun value s => exec_twnCmd_unkeyed, fun heat len master pref running s hshelf hdown hstage hgate hwatch hlen hpref => ?_⟩
  · rw [exec_acquireComplete_taking ht, if_pos ⟨hc, h3⟩]
  · rw [exec_acquireComplete_taking ht, if_neg fun hand => hor.elim (by simp [hand.1]) (absurd hand.2)]
  · rw [exec_twnCmdTakeover hkey, askTakeover_declined h6]
  · rw [exec_twnCmdTakeover hkey, askTakeover_waiting h3 hi]
  · intro a leads u
    have hexec : exec (.twinLinkTrained heat len master pref running) s = .next (u.linkStarted s.ready running).carryOn := by
      rw [exec_twinLinkTrained, linkTrained_alike hshelf hdown hstage hgate hwatch hlen hpref]
      rfl
    rw [hexec]
    refine ⟨fun hr hp => ?_, fun hr hp => ?_, fun hr hp => ?_, fun hr hp => ?_⟩ <;> rw [hr, hp] <;> rfl
end

/-! ### Management protocols of cox

What a request to cox comes to by whether cox runs and H15 has a buffer for it (R185, R446), and the requests whose answer depends
on more (R445, R447, R448).
-/

namespace Sys2Proof.Machine.State

variable {s t : State} {c : Instr} {busy : State → State} {r : Host.Outcome State Fault Refusal}
  {ask : Host.Outcome State Fault Refusal → Host.Outcome State Fault Refusal}

/-! ### Requests to cox -/

theorem asked_served (hruns : s.ev.coxRuns = true) (hroom : s.canHold 15 askOwner 1 = true) : s.asked busy r = r := by
  rw [asked, if_neg (by rw [hruns]; decide), if_pos hroom]

theorem asked_busy (hruns : s.ev.coxRuns = true) (hfull : s.canHold 15 askOwner 1 = false) :
    s.asked busy r = .next (busy (s.exhausted 15)) := by
  rw [asked, if_neg (by rw [hruns]; decide), if_neg (by rw [hfull]; decide)]

theorem asked_down (hdown : s.ev.coxRuns = false) : s.asked busy r = .next s := by
  rw [asked, if_pos (by rw [hdown]; rfl)]

/-- The outcome of a row that is a request, where it is served. -/
theorem exec_served (h : exec c s = settled (ask (.next t))) (hask : ask = s.asked busy) (hruns : s.ev.coxRuns = true)
    (hroom : s.canHold 15 askOwner 1 = true) : exec c s = .next t.atOnce := by
  rw [h, hask, asked_served hruns hroom]
  rfl

/-- The outcome of a row that is a request, where H15 has no buffer for it. -/
theorem exec_busy (h : exec c s = settled (ask r)) (hask : ask = s.asked busy) (hruns : s.ev.coxRuns = true)
    (hfull : s.canHold 15 askOwner 1 = false) (ht : busy (s.exhausted 15) = t) : exec c s = .next t.atOnce := by
  rw [h, hask, asked_busy hruns hfull, ht]
  rfl

/-- The outcome of a row that is a request, while no core of cox runs. -/
theorem exec_down (h : exec c s = settled (ask r)) (hask : ask = s.asked busy) (hdown : s.ev.coxRuns = false) :
    exec c s = .next s.atOnce := by
  rw [h, hask, asked_down hdown]
  rfl

/-! ### Requests whose answer depends on the state or an operand -/

section
variable (hruns : s.ev.coxRuns = true) (hroom : s.canHold 15 askOwner 1 = true)
include hruns hroom

/-- There are the structures 0 to 4 (R447). -/
theorem exec_readNvmeMiDataStructure_unknown {d : Nat} (hd : 4 < d) :
    exec (.readNvmeMiDataStructure d) s = .next (s.nvmeMi 0x04 []).atOnce := by
  obtain ⟨k, rfl⟩ : ∃ k, d = k + 5 := ⟨d - 5, by omega⟩
  exact exec_served rfl rfl hruns hroom

theorem exec_nvmSubsystemHealthStatusPoll : exec .nvmSubsystemHealthStatusPoll s =
    .next (s.nvmeMi 0x00 ((if s.ready = true ∧ s.fatal = false then 1 else 0) :: s.healthBytes)).atOnce := by
  rw [exec_served (c := .nvmSubsystemHealthStatusPoll) rfl rfl hruns hroom]
  simp only [Bool.and_eq_true, Bool.not_eq_true']

theorem exec_controllerHealthStatusPoll_some {n : Nat} {a : Assoc} (ha : s.assocOf n = some a) :
    exec (.controllerHealthStatusPoll n) s = .next (s.nvmeMi 0x00 ([n, a.cc % 2 + 4 * a.shst] ++ s.healthBytes)).atOnce := by
  rw [exec_served (c := .controllerHealthStatusPoll n) rfl rfl hruns hroom, ha]

theorem exec_controllerHealthStatusPoll_none {n : Nat} (ha : s.assocOf n = none) :
    exec (.controllerHealthStatusPoll n) s = .next (s.nvmeMi 0x04 []).atOnce := by
  rw [exec_served (c := .controllerHealthStatusPoll n) rfl rfl hruns hroom, ha]

theorem exec_configurationGet_unknown {id : Nat} (h1 : id ≠ 1) (h3 : id ≠ 3) :
    exec (.configurationGet id) s = .next (s.emit (.mctp 0x04 0x04 [])).atOnce := by
  rw [exec_served (c := .configurationGet id) rfl rfl hruns hroom, if_neg h1, if_neg h3]

theorem exec_configurationSet_unknown {id v : Nat} (h1 : id ≠ 1) (h3 : id ≠ 3) :
    exec (.configurationSet id v) s = .next (s.emit (.mctp 0x04 0x04 [])).atOnce := by
  rw [exec_served (c := .configurationSet id v) rfl rfl hruns hroom, if_neg h1, if_neg h3]

/-- Identify, Get Log Page and Get Features alone are tunnelled (R447). -/
theorem exec_miTunneledAdminCommand_unknown {op arg : Nat} (h6 : op ≠ 0x06) (h2 : op ≠ 0x02) (h10 : op ≠ 0x0A) :
    exec (.miTunneledAdminCommand op arg) s = .next (s.nvmeMi 0x03 []).atOnce := by
  rw [exec_served (c := .miTunneledAdminCommand op arg) rfl rfl hruns hroom]
  split
  · exact absurd rfl h6
  · exact absurd rfl h2
  · exact absurd rfl h2
  · exact absurd rfl h10
  · rfl

/-- An effecter is a write of its field, refused where a B-class field of the register would change (R11, R448). -/
theorem exec_setNumericEffecterValue {id v : Nat} {f : Field} (hf : effecter id = some f) :
    let w := v % 2 ^ f.width * 2 ^ f.lo
    exec (.setNumericEffecterValue id v) s = .next
      (if s.changesB (f.addr 0 0) f.mask w = true then (s.refuseB .pldm (f.addr 0 0)).emit (.mctp 0x01 0x02 [])
        else (s.storeWord (f.addr 0 0) f.mask w).emit (.mctp 0x01 0x00 [])).atOnce := by
  show settled (actSetNumericEffecterValue id v s) = _
  rw [actSetNumericEffecterValue, askPldm, asked_served hruns hroom, hf]
  dsimp only
  rw [← apply_ite Host.Outcome.next]
  rfl

end

/-! ### The echo (R445) -/

theorem byCox_runs (hruns : s.ev.coxRuns = true) : s.byCox r = r := if_pos hruns

theorem byCox_down (hdown : s.ev.coxRuns = false) : s.byCox r = .next s := if_neg (Bool.eq_false_iff.mp hdown)

/-- The echo is answered while the out-of-band port is enabled. -/
theorem does_echoRequest {seq : Nat} (hruns : s.ev.coxRuns = true) :
    Does (.echoRequest seq) s (s.is F.COX_OOB_CFG_EN = true) (s.emit (.echoReply seq)) := does_of_ite (byCox_runs hruns)

end Sys2Proof.Machine.State

section
open Sys2Proof.Machine Sys2Proof.Machine.State

/-! ### The statements of spec/15_cox_management.md -/

/-- Settles O56: every row but the echo is a request, which `asked` serves, answers busy, or drops. The response codes and data layouts
of MCTP, PLDM and NVMe-MI are those of log entry 88, and that cox answers nothing while it is down is log entry 89. -/
theorem managementCommandsComplete : Obligations.ManagementCommandsComplete := by
  refine ⟨fun s hr hb => ⟨fun eid => exec_served rfl rfl hr hb,
      ⟨exec_served rfl rfl hr hb, exec_served rfl rfl hr hb, exec_served rfl rfl hr hb,
        fun d => exec_readNvmeMiDataStructure_unknown hr hb⟩,
      exec_nvmSubsystemHealthStatusPoll hr hb, fun n a => exec_controllerHealthStatusPoll_some hr hb,
      fun n => exec_controllerHealthStatusPoll_none hr hb,
      ⟨exec_served rfl rfl hr hb, exec_served rfl rfl hr hb, fun v => ⟨exec_served rfl rfl hr hb, exec_served rfl rfl hr hb⟩⟩,
      fun id v h1 h3 => ⟨exec_configurationGet_unknown hr hb h1 h3, exec_configurationSet_unknown hr hb h1 h3⟩,
      ⟨exec_served rfl rfl hr hb, exec_served rfl rfl hr hb, exec_served rfl rfl hr hb,
        fun op arg => exec_miTunneledAdminCommand_unknown hr hb⟩,
      fun id v f hf => ⟨fun hc => ?_, fun hc => ?_⟩, fun receiver => exec_served rfl rfl hr hb, fun seq => does_echoRequest hr⟩,
    fun s hr => ⟨fun seq => byCox_down hr, fun e => exec_down rfl rfl hr, fun d => exec_down rfl rfl hr, fun e => exec_down rfl rfl hr⟩,
    fun s hr hb => ⟨fun e => exec_busy rfl rfl hr hb rfl, fun e => exec_busy rfl rfl hr hb rfl,
      fun receiver => exec_busy rfl rfl hr hb rfl, fun d => exec_busy rfl rfl hr hb rfl, fun q => exec_busy rfl rfl hr hb rfl⟩⟩
  · rw [exec_setNumericEffecterValue hr hb hf, if_pos hc]
  · rw [exec_setNumericEffecterValue hr hb hf, if_neg (Bool.eq_false_iff.mp hc)]
end

/-! ### Assembly, rows and drive commands

What a crew is assembled to from its labels, the clean mark that ends a replay, the next holder of a row's lock, and how a drive command
ends (R211, R212, R219, R241, R253, R254).
-/

namespace Sys2Proof.Machine.State

variable {s : State} {crew : Nat}

/-! ### Assembly (R211, R212) -/

section
variable {media : CrewMedia} {late : Bool}

theorem exec_crewAssembly (h : crew < 8) :
    exec (.crewAssembly crew media) s = .next (s.assemble crew media false).carryOn := congrArg Host.Outcome.next (if_pos h)

theorem exec_assemblyWaitExpiry (h : crew < 8) :
    exec (.assemblyWaitExpiry crew media) s = .next (s.assemble crew media true).carryOn := congrArg Host.Outcome.next (if_pos h)

/-- The seats of a crew, as the labels that count and the states in one of them describe them. -/
def foundSeats (s : State) (crew : Nat) (l : Label) : List Seat :=
  (List.range (s.nOf crew)).map (foundSeat (countedLabels (s.labelsOf crew)) l.states)

/-- Every seat of the crew has a label that counts. -/
def everySeatFound (s : State) (crew : Nat) : Bool :=
  (List.range (s.nOf crew)).all fun i => (countedLabels (s.labelsOf crew)).any fun c => c.2.seat == i

/-- The crew enters service with its seats as they were found. -/
def enterFound (s : State) (crew : Nat) (media : CrewMedia) (l : Label) : State :=
  (s.strangers crew l.print).enterCrew crew (newCrew l.print l.gen l.smin (s.foundSeats crew l) s.startNo s.heat) media l.states
    ((indexed (s.foundSeats crew l)).any fun p => labelState p.2.st != l.states.getD p.1 0) false

section
variable (hmay : s.mayAssemble crew = true)
include hmay

/-- Drives without labels are initialised where INIT asks for it, whether or not the wait has passed. -/
theorem assemble_unlabelled {ds : List Drive} (hlabels : s.labelsOf crew = []) (hinit : s.is F.CRW_CREW_INIT crew = true)
    (hnamed : s.namedLabels crew = []) (hds : s.namedDrives crew = some ds) :
    s.assemble crew media late = s.initialise crew ds := by
  simp only [assemble, hmay, hlabels, hinit, hnamed, hds, List.isEmpty_nil, Bool.and_self, Bool.not_true, Bool.false_eq_true, if_true,
    if_false]

/-- What labels come to: a crew of which every seat is found enters service, and after the wait one with at most two bad seats. -/
theorem assemble_labelled {k : Nat} {l : Label} {rest : List (Nat × Label)} (hcounted : countedLabels (s.labelsOf crew) = (k, l) :: rest)
    (hlabels : (s.labelsOf crew).isEmpty = false) :
    s.assemble crew media late =
      if s.everySeatFound crew || (late && decide (badSeats (s.foundSeats crew l) ≤ 2)) then s.enterFound crew media l
      else if late then (s.strangers crew l.print).notAssembled crew else s := by
  simp only [assemble, hmay, hlabels, hcounted, enterFound, everySeatFound, foundSeats, Bool.not_true, Bool.false_and,
    Bool.false_eq_true, if_false]

end

end

/-! ### Rows (R219, R241) -/

/-- Replay's own clean mark, with what is live when it is written. -/
def cleanMark (c : Crew) (b : JBlock) : JBlock := { b with entries := b.entries.take 3 ++ [(liveOf c).1, (liveOf c).2] }

/-- The mark is written once no flush of replay is outstanding. -/
theorem replayMark_flushed {c : Crew} {b : JBlock} (hc : s.crewOf crew = some c) (hb : c.replayed = some b)
    (hflushed : c.replayFlushed = true) (hios : ∀ o ∈ s.crw.ios, ¬ (o.crew = crew ∧ o.heat = replayHeat ∧ o.op = .flush)) :
    s.replayMark crew = (((s.modCrew crew fun d => { d with replayed := none }).modSegment crew c.seg.heat fun g =>
      { g with blocks := g.blocks ++ [cleanMark c b] }).settleSegment crew c.seg.heat) := by
  have hnone : (s.crw.ios.any fun o => o.crew == crew && o.heat == replayHeat && o.op == .flush) = false := by
    simpa [and_assoc] using hios
  simp only [replayMark, hc, hb, hflushed, hnone, Bool.not_true, Bool.or_self, Bool.false_eq_true, if_false, cleanMark]

theorem grantRow_free {row : Nat} {j : Job} (hfree : s.rowLocked crew row = false)
    (hj : s.crw.jobs.find? (fun j => j.crew == crew && j.row == row && j.lockWait && !s.earlierUpdate j) = some j) :
    s.grantRow crew row = (s.setJob { j with lock := true, lockWait := false }).advanceReads j.id := by
  rw [grantRow, if_neg (by rw [hfree]; decide), hj]

/-! ### Drive commands (R253, R254) -/

section
variable {io latency : Nat} {result : DriveEnd} {o : Io}

theorem exec_driveCommandCompletion_some (h : s.ioOf io = some o) :
    exec (.driveCommandCompletion io result latency) s = .next (s.ioEnds o result latency).carryOn := by
  show execDriveCommandCompletion io result latency s = _
  rw [execDriveCommandCompletion, h]

theorem exec_driveCommandTimeout_some (h : s.ioOf io = some o) : exec (.driveCommandTimeout io) s = .next (s.commandFails o).carryOn := by
  show execDriveCommandTimeout io s = _
  rw [execDriveCommandTimeout, h]

theorem does_drivePathErrorWaitEnd (h : s.ioOf io = some o) :
    Does (.drivePathErrorWaitEnd io) s (o.path = true) (s.commandFails { o with path := false }).carryOn := by
  refine does_of_ite ?_
  show execDrivePathErrorWaitEnd io s = _
  rw [execDrivePathErrorWaitEnd, h]

/-- A drive command that is not outstanding does not end. -/
theorem exec_driveCommand_none (h : s.ioOf io = none) :
    exec (.driveCommandTimeout io) s = .next s ∧ exec (.drivePathErrorWaitEnd io) s = .next s ∧ exec (.readHedge io) s = .next s ∧
    ∀ result latency, exec (.driveCommandCompletion io result latency) s = .next s := by
  refine ⟨?_, ?_, ?_, fun result latency => ?_⟩
  · show execDriveCommandTimeout io s = _
    rw [execDriveCommandTimeout, h]
  · show execDrivePathErrorWaitEnd io s = _
    rw [execDrivePathErrorWaitEnd, h]
  · show execReadHedge io s = _
    rw [execReadHedge, h]
  · show execDriveCommandCompletion io result latency s = _
    rw [execDriveCommandCompletion, h]

/-- The chunks that a row would miss without the seat that a read waits for. -/
def hedgeMissing (c : Crew) (j : Job) (o : Io) (lba : Nat) : List Nat :=
  (List.range c.seats.length).filter fun i => i == o.seat || !j.avail c i lba

/-- A late read is hedged: the seat is slow for this sector, and the job goes on with the rest of the row. -/
def hedge (s : State) (o : Io) (j : Job) (lba : Nat) : State :=
  ((((s.setIo { o with hedged := true }).setJob { j with slow := j.slow ++ [(o.seat, lba)] }).countOpen 0x280 5
    (crewUnit o.crew)).seatOnce 301 0 o.crew o.seat).advanceReads j.id

theorem does_readHedge {lba : Nat} {j : Job} {c : Crew} (h : s.ioOf io = some o) (hop : o.op = .read lba) (hj : s.jobOf o.job = some j)
    (hc : s.crewOf o.crew = some c) :
    Does (.readHedge io) s (o.hedged = false ∧ j.phase = 0 ∧ (hedgeMissing c j o lba).length ≤ 2) (s.hedge o j lba).carryOn := by
  have hexec : exec (.readHedge io) s =
      .next (if o.hedged || j.phase ≠ 0 || 2 < (hedgeMissing c j o lba).length then s else (s.hedge o j lba).carryOn) := by
    show execReadHedge io s = _
    simp only [execReadHedge, h, hop, hj, hc]
    rw [← hop]
    rfl
  refine (does_of_ite_not hexec).congr ?_
  simp only [ne_eq, Bool.or_eq_true, decide_eq_true_eq, not_or, Classical.not_not, Bool.not_eq_true, Nat.not_lt, and_assoc]

end

end Sys2Proof.Machine.State

/-! ### The journal, the maps, collection and patrol

The outcome of a grain's hold, of the journal's blocks and segments, of a map pass, of a round of collection and of the patrol's next row
(R222, R228, R231, R235, R240, R244, R245).
-/

namespace Sys2Proof.Machine.State

variable {s : State} {crew vol : Nat}

/-! ### The journal (R235, R240) -/

theorem exec_journalBlockFlush {c : Crew} (hc : s.crewOf crew = some c) : exec (.journalBlockFlush crew) s =
    .next ((s.closeBlocks crew c.seg.heat 0).closeBlocks crew c.seg.heat 2).carryOn := by
  show execJournalBlockFlush crew s = _
  rw [execJournalBlockFlush, hc]

section
variable {io slot kind heat index image : Nat} {o : Io}

theorem ioEnds_block_ok {v latency : Nat} (hop : o.op = .block slot kind heat index image) :
    s.ioEnds o (.ok v) latency = (s.dropIo o.id).blockDone o kind heat index := by
  unfold ioEnds
  simp only [hop]

theorem ioEnds_other {status latency : Nat} : s.ioEnds o (.other status) latency = (s.noteStatus o status).commandFails o := by
  rw [ioEnds]

theorem exec_journalBlockWritten {status : Nat} (h : s.ioOf io = some o) (hop : o.op = .block slot kind heat index image) :
    exec (.journalBlockWritten io status) s = .next (s.ioEnds o (if status = 0 then .ok 0 else .other status) 0).carryOn := by
  show execJournalBlockWritten io status s = _
  simp only [execJournalBlockWritten, h, hop]

end

/-- A segment that is on media, and over which every map pass that it waits for has gone, leaves the journal with its slots. -/
theorem freeSegment_passed {heat : Nat} {c : Crew} {g : Segment} (hc : s.crewOf crew = some c)
    (hg : c.old.find? (·.heat == heat) = some g) (hmedia : s.onMedia crew g = true) (hpassed : s.passedSince crew heat = true) :
    s.freeSegment crew heat = (((s.releaseSegment crew g).keepRsv crew fun h => h.heat == heat).modCrew crew fun d =>
      { d with old := d.old.filter fun (x : Segment) => x.heat != heat }).freeSlots crew [(g.start, g.heat)] := by
  simp only [freeSegment, hc, hg, hmedia, hpassed, Bool.and_self, if_true]

/-! ### Map passes (R228) -/

section
variable {x : Vol}

/-- A pass that is due begins, or is delayed by the one that runs. -/
theorem exec_mapPass (hx : s.volOf vol = some x) (hpriv : x.priv = true) (hrests : s.engineRests = false) :
    exec (.mapPass vol) s = .next (if x.passRun.isSome then (s.setVol { x with passDue := true }).raise 268 (crewUnit x.crew)
      else (s.beginPass x).carryOn) := by
  show execMapPass vol s = _
  simp only [execMapPass, hx, hpriv, hrests, Bool.not_true, Bool.or_self, Bool.false_eq_true, if_false]

/-- A volume whose pass is complete: the copy that was written holds it. -/
def passDone (x : Vol) (p h : Nat) : Vol := { x with pass := p, passHeat := h, copy := 1 - x.copy, passRun := none }

/-- The header of the copy is written, and the volume shows the pass. -/
def closePass (s : State) (vol : Nat) (x : Vol) (p h : Nat) : State :=
  let place := Config.mapHeaderAt vol (1 - x.copy)
  ((s.issueIo x.crew (place.1 % s.nOf x.crew) (.write place.2 (mapHeader p h x.cap) true) s.heat 0).setVol (passDone x p h)).showPvol vol

/-- A pass whose rows are all written is complete, and one that was delayed by it begins. -/
theorem exec_mapPassComplete {p h : Nat} (hx : s.volOf vol = some x) (hrun : x.passRun = some (p, h))
    (hjobs : ∀ j ∈ s.crw.jobs, ¬ (j.kind = 5 ∧ j.vol = vol)) :
    exec (.mapPassComplete vol) s = .next (if x.passDue && !(s.closePass vol x p h).engineRests then
      (s.closePass vol x p h).beginPass (passDone x p h) else s.closePass vol x p h).carryOn := by
  have hnone : (s.crw.jobs.any fun j => j.kind == 5 && j.vol == vol) = false := by simpa using hjobs
  show execMapPassComplete vol s = _
  simp only [execMapPassComplete, hx, hrun, hnone, Bool.false_eq_true, if_false]
  rfl

end

/-! ### Collection (R231) -/

theorem gcRound_own {x : Vol} (hx : s.volOf vol = some x) (hgc : x.gc = true) (hitem : x.gcItem = none) (hrests : s.engineRests = false)
    (hjobs : ∀ j ∈ s.crw.jobs, ¬ ((j.kind = 6 ∨ j.kind = 11) ∧ j.vol = vol)) (hown : s.assisted 3 = false) :
    s.gcRound vol = s.collectOwn vol := by
  have hnone : (s.crw.jobs.any fun j => (j.kind == 6 || j.kind == 11) && j.vol == vol) = false := by simpa using hjobs
  simp only [gcRound, hx, hgc, hitem, hrests, hnone, hown, Option.isSome_none, Bool.not_true, Bool.or_self, Bool.false_eq_true, if_false]

/-! ### Patrol (R244, R245) -/

theorem exec_patrolRow : exec (.patrolRow crew) s = .next (s.patrol crew).carryOn := rfl

section
variable {c : Crew} (hc : s.crewOf crew = some c) (hen : s.ef F.CRW_PATROL_EN ≠ 0) (hrests : s.engineRests = false)
  (hitem : c.patrolItem = none) (hdays : c.days ≠ 0) (hopen : s.patrolOpen c = true)
  (hjobs : ∀ j ∈ s.crw.jobs, ¬ (j.crew = crew ∧ j.kind = 3))

/-- The patrol takes a row: it passes over the row, or reads it where its buffers can be had. -/
def takePatrolRow (s : State) (crew row : Nat) (c : Crew) : State :=
  if s.patrolSkips crew row c then
    (s.modCrew crew fun d => { d with skipped := addTo d.skipped row }).wr F.CRW_CREW_PATROL_ROW (row + 1) crew
  else if (s.patrolRow crew row c).2 then (s.patrolRow crew row c).1.wr F.CRW_CREW_PATROL_ROW (row + 1) crew
  else (s.patrolRow crew row c).1

/-- The patrol comes back to a row that it passed over. -/
def retakePatrolRow (s : State) (crew row : Nat) (c : Crew) : State :=
  if (s.patrolRow crew row c).2 then
    (s.patrolRow crew row c).1.modCrew crew fun d => { d with skipped := dropFrom d.skipped row }
  else (s.patrolRow crew row c).1

/-- A pass of the patrol is complete. -/
def endPatrol (s : State) (crew : Nat) : State :=
  ((s.modCrew crew fun d => { d with days := 0, windows := [] }).wr F.CRW_CREW_PATROL_ROW 0 crew).raise 284 (crewUnit crew)

theorem takePatrolRow_skips {row : Nat} (h : s.patrolSkips crew row c = true) : s.takePatrolRow crew row c =
    (s.modCrew crew fun d => { d with skipped := addTo d.skipped row }).wr F.CRW_CREW_PATROL_ROW (row + 1) crew := if_pos h

theorem takePatrolRow_reads {row : Nat} {u : State} (h : s.patrolSkips crew row c = false) (hread : s.patrolRow crew row c = (u, true)) :
    s.takePatrolRow crew row c = u.wr F.CRW_CREW_PATROL_ROW (row + 1) crew := by
  rw [takePatrolRow, if_neg (by rw [h]; decide), hread, if_pos rfl]

include hc hen hrests hitem hdays hopen hjobs

/-- A pass that has begun and may run takes its next row, or, past the last row, the first one that it passed over and need not any more;
the pass is complete where it passed over none. -/
theorem patrol_runs : s.patrol crew =
    if s.rd F.CRW_CREW_PATROL_ROW crew < s.rd F.CRW_CREW_ROWS crew then s.takePatrolRow crew (s.rd F.CRW_CREW_PATROL_ROW crew) c
    else match c.skipped.find? fun r => !s.patrolSkips crew r c with
      | some r => s.retakePatrolRow crew r c
      | none => if c.skipped.isEmpty then s.endPatrol crew else s := by
  have hnone : (s.crw.jobs.any fun j => j.crew == crew && j.kind == 3) = false := by simpa using hjobs
  simp only [patrol, hc, hen, hrests, hitem, hdays, hopen, hnone, Option.isSome_none, decide_false, Bool.not_true, Bool.or_self,
    Bool.false_eq_true, if_false]
  rfl

end

end Sys2Proof.Machine.State

section
open Sys2Proof.Machine Sys2Proof.Machine.State

/-! ### The statements of spec/07_crews_and_parity.md -/

/-- Settles O39: labels come to what `assemble_labelled` says, the other rows each have their outcome where they act, and `does_readHedge`
has the hedge. -/
theorem assemblyAndRowsComplete : Obligations.AssemblyAndRowsComplete := by
  refine ⟨fun crew media s hcrew hmay => ⟨fun ds hlabels hinit hnamed hds => ?_, fun k l rest hcounted hlabels => ?_⟩,
    fun crew s c b hc hb hflushed hios => ?_, fun crew row s j hfree hj => ?_,
    fun io result latency s o h =>
      ⟨exec_driveCommandCompletion_some h, exec_driveCommandTimeout_some h, does_drivePathErrorWaitEnd h⟩,
    fun io s => exec_driveCommand_none, fun io s o lba j c => does_readHedge⟩
  · rw [exec_crewAssembly hcrew, exec_assemblyWaitExpiry hcrew, assemble_unlabelled hmay hlabels hinit hnamed hds,
      assemble_unlabelled hmay hlabels hinit hnamed hds]
    exact ⟨rfl, rfl⟩
  · rw [exec_crewAssembly hcrew, exec_assemblyWaitExpiry hcrew, assemble_labelled hmay hcounted hlabels,
      assemble_labelled hmay hcounted hlabels]
    refine ⟨fun (hall : s.everySeatFound crew = true) => ?_, fun (hnot : s.everySeatFound crew = false) => ?_⟩
    · rw [hall]
      exact ⟨rfl, rfl⟩
    · rw [hnot]
      refine ⟨rfl, fun (h2 : badSeats (s.foundSeats crew l) ≤ 2) => ?_, fun (h2 : 2 < badSeats (s.foundSeats crew l)) => ?_⟩
      · rw [decide_eq_true h2]
        rfl
      · rw [decide_eq_false (Nat.not_le.mpr h2)]
        rfl
  · exact congrArg (fun t : State => Host.Outcome.next t.carryOn) (replayMark_flushed hc hb hflushed hios)
  · exact congrArg (fun t : State => Host.Outcome.next t.carryOn) (grantRow_free hfree hj)

/-- Settles O40: one outcome lemma per row; the patrol's cases are those of `patrol_runs`. -/
theorem journalAndMapsComplete : Obligations.JournalAndMapsComplete := by
  refine ⟨fun vol grain s => rfl, fun crew s c => exec_journalBlockFlush,
    fun io s o slot kind heat index image h hop => ⟨?_, fun status hstatus => ?_⟩,
    fun crew heat s c g hc hg hmedia hpassed => ?_, fun vol s x hx hpriv hrests => ⟨fun hrun => ?_, fun hrun => ?_⟩,
    fun vol s x p h hx hrun hjobs => ⟨fun hdue => ?_, fun hdue hrests => ?_⟩, fun vol s x hx hgc hitem hrests hjobs hown => ?_,
    fun crew s c hc hen hrests hitem hdays hopen hjobs => ?_⟩
  · rw [exec_journalBlockWritten h hop, if_pos rfl, ioEnds_block_ok hop]
  · rw [exec_journalBlockWritten h hop, if_neg hstatus, ioEnds_other]
  · exact congrArg (fun t : State => Host.Outcome.next (t.freeFound crew).carryOn) (freeSegment_passed hc hg hmedia hpassed)
  · rw [exec_mapPass hx hpriv hrests, if_neg (by rw [hrun]; exact Bool.false_ne_true)]
  · rw [exec_mapPass hx hpriv hrests, if_pos hrun]
  · exact (exec_mapPassComplete hx hrun hjobs).trans (congrArg (fun t : State => Host.Outcome.next t.carryOn)
      (if_neg (by rw [hdue]; exact Bool.false_ne_true)))
  · exact (exec_mapPassComplete hx hrun hjobs).trans (congrArg (fun t : State => Host.Outcome.next t.carryOn)
      (if_pos ((Bool.and_eq_true _ _).mpr ⟨hdue, (Bool.not_eq_true' _).mpr hrests⟩)))
  · exact congrArg (fun t : State => Host.Outcome.next t.carryOn) (gcRound_own hx hgc hitem hrests hjobs hown)
  · rw [exec_patrolRow, patrol_runs hc hen hrests hitem hdays hopen hjobs]
    refine ⟨fun hrow hskips => ?_, fun u hrow hskips hread => ?_, fun hrow hnone => ?_⟩
    · rw [if_pos hrow, takePatrolRow_skips hskips]
    · rw [if_pos hrow, takePatrolRow_reads hskips hread]
    · rw [if_neg (Nat.not_lt.mpr hrow), hnone, List.find?_nil]
      exact congrArg (fun t : State => Host.Outcome.next t.carryOn) (if_pos List.isEmpty_nil)
end

/-! ### Degraded seats, frames of the twin link and cross-shelf mirrors

What the rows of a degraded seat and of a rebuild come to (R255, R258 to R260, R266), what the content of a frame of the twin link does
(R273, R274, R277, R283, R284, R471), and the two ends of a mirror (R286 to R290).
-/

namespace Sys2Proof.Machine.State

variable {s : State} {crew seat : Nat}

/-- Commands with equal effects have equal outcomes once everything has gone on. -/
theorem next_carryOn_congr {a b : State} (h : a = b) :
    (Host.Outcome.next a.carryOn : Host.Outcome State Fault Refusal) = .next b.carryOn := by rw [h]

/-! ### Seats that fail, lag or come back (R255, R258 to R260) -/

section
variable {x : Seat}

/-- The ladder's step that runs has ended, and none waits for the host's choice. -/
theorem exec_recoveryLadderStep {k : Nat} {success : Bool} (hx : s.seatOf crew seat = some x) (hk : x.ladder = some k)
    (hitem : x.ladderItem = none) : exec (.recoveryLadderStep crew seat success) s =
      .next (if success then s.ladderDone crew seat else s.nextLadder crew seat (k + 1)).carryOn := by
  show execRecoveryLadderStep crew seat success s = _
  simp only [execRecoveryLadderStep, hx, hk, hitem]

theorem exec_laggardCheck {c : Crew} (hc : s.crewOf crew = some c) : exec (.laggardCheck crew) s = .next
    ((List.range c.seats.length).foldl (fun t i => t.checkLaggard crew (medianE2 c) i) s).carryOn := by
  show execLaggardCheck crew s = _
  simp only [execLaggardCheck, hc]

/-- The only entry of a catch-up log is its oldest, and goes to a seat at easy or coming back. -/
theorem exec_catchUpWrite_single {e : CatchUp} (hx : s.seatOf crew seat = some x) (hst : x.st = 1 ∨ x.st = 3) (hlog : x.log = [e])
    (hidle : e.busy = false) : exec (.catchUpWrite crew seat) s = .next
      (((s.modSeat crew seat fun y => { y with log := y.log.map fun q => if q == e then { q with busy := true } else q }).issueIo
        crew seat (.write e.lba e.value false) e.heat 0).countOpen 0x280 6 (crewUnit crew)).atOnce := by
  have hopen : ¬ (x.st ≠ 1 && x.st ≠ 3 || x.log.any (·.busy)) = true := by
    simp [hlog, hidle]
    omega
  show settled (actCatchUpWrite crew seat s) = _
  simp only [actCatchUpWrite, hx]
  rw [if_neg hopen, hlog]
  rfl

theorem does_easyClear {t : Nat} (hx : s.seatOf crew seat = some x) (ht : x.below = some t) : Does (.easyClear crew seat) s
    (x.st = 1 ∧ x.byLadder = false ∧ x.log = [] ∧ t + 100000000 * s.ef F.CRW_EASY_CLEAR ≤ s.now)
    (s.backInService crew seat true).carryOn := by
  have hexec : exec (.easyClear crew seat) s = .next
      (if x.st = 1 && !x.byLadder && x.log.isEmpty && t + 100000000 * s.ef F.CRW_EASY_CLEAR ≤ s.now then
        (s.backInService crew seat true).carryOn else s) := by
    show execEasyClear crew seat s = _
    simp only [execEasyClear, hx, ht]
  refine (does_of_ite hexec).congr ?_
  simp [and_assoc]

theorem does_easyLimitExpiry (hx : s.seatOf crew seat = some x) :
    Does (.easyLimitExpiry crew seat) s (x.st = 1) (s.failSeat crew seat 293).carryOn := by
  refine does_of_ite ?_
  show execEasyLimitExpiry crew seat s = _
  simp only [execEasyLimitExpiry, hx]

/-- A write for the seat waits for a place in its catch-up log, which is in H8. -/
theorem does_catchUpFullExpiry : Does (.catchUpFullExpiry crew seat) s
    (∃ w ∈ s.hmp.waits, w.hamper = 8 ∧ w.owner.1 = 2 ^ 65 + crew ∧ w.owner.2.1 = seat) (s.failSeat crew seat 293).carryOn := by
  refine (does_of_ite rfl).congr ?_
  simp [and_assoc]

end

/-! ### Rebuild (R266) -/

/-- The job that rebuilds a row: the chunks of its targets are wanted. -/
def rebuildJob (s : State) (crew row : Nat) (c : Crew) : Job :=
  let want := (rebuildTargets c row).flatMap fun i => (List.range (s.chunkOf crew)).map fun o => (i, s.lbaOf crew row o)
  ⟨0, 4, crew, row, 0, none, want, [], [], [], [], 0, false, false, s.heat, [], [], 0⟩

/-- A rebuild whose turn it is takes its next row once it has the row's buffers. -/
theorem rebuildRow_starts {c : Crew} {row : Nat} {u : State} (hc : s.crewOf crew = some c) (hrow : nextRebuildRow c = some row)
    (hrests : s.engineRests = false) (hfirst : s.rebuildFirst crew c = true)
    (hjobs : ∀ j ∈ s.crw.jobs, ¬ (j.crew = crew ∧ j.kind = 4))
    (hown : s.ownBuffers crew row 4 0 (c.seats.length * s.chunkOf crew) = (u, true)) :
    s.rebuildRow crew = (u.startJob (s.rebuildJob crew row c)).1 := by
  have hnone : (s.crw.jobs.any fun j => j.crew == crew && j.kind == 4) = false := by simpa using hjobs
  simp only [rebuildRow, hc, hrow, hrests, hfirst, hnone, hown, Bool.not_true, Bool.or_self, Bool.false_eq_true, if_false]
  rfl

/-! ### Frames of the twin link (R273, R274)

A command that only receives a frame, by what the frame's content does in the state that has accepted it.
-/

section
variable {h : TwHdr} {u t : State} {c : Instr}

/-- Content that is always taken. -/
theorem exec_frame_taken (f : State → State) (hu : s.frameIn h = some u)
    (hexec : exec c s = .next (s.rxFrame h fun t => (f t, true)).carryOn) :
    exec c s = .next (f u).carryOn := by
  rw [hexec, rxFrame_accepted hu, if_pos rfl]

/-- Content for which there is a buffer. -/
theorem exec_frame_held (act : State → State × Bool) (hu : s.frameIn h = some u)
    (hexec : exec c s = .next (s.rxFrame h act).carryOn) (hact : (act u).2 = true) :
    exec c s = .next (act u).1.carryOn := by
  rw [hexec, rxFrame_accepted hu, if_pos hact]

/-- Content for which there is no buffer: its frame is expected again, which is not to acknowledge it (log entry 80). -/
theorem exec_frame_unheld (act : State → State × Bool) (hu : s.frameIn h = some u)
    (hexec : exec c s = .next (s.rxFrame h act).carryOn) (hact : act u = (t, false)) :
    exec c s = .next ({ t with twn := { t.twn with rxNext := h.seq } } : State).carryOn := by
  rw [hexec, rxFrame_accepted hu, hact, if_neg Bool.false_ne_true]

/-- A running pair's crews are handed over (R283). -/
theorem exec_handover {crews : List Nat} {back : Bool} (hu : s.frameIn h = some u) (hpair : u.twinState = 2) :
    exec (.handover h crews back) s = .next (u.takeHandover crews back).carryOn :=
  (exec_frame_taken (fun t => if t.twinState = 2 then t.takeHandover crews back else t) hu rfl).trans
    (next_carryOn_congr (if_pos hpair))

end

/-! ### Cross-shelf mirrors (R286 to R290) -/

section
variable {flow : FlowRef} {msgid vol token slba nlb data : Nat} {zero dealloc : Bool}

/-- The control message is taken. -/
def controlTaken (s : State) (flow : FlowRef) (msgid : Nat) : State := (s.takeControl flow 6 msgid).1

/-- The command that a message of the primary becomes at the secondary of pairing `m` (R287). -/
def copyCmd (u : State) (flow : FlowRef) (msgid vol token slba nlb : Nat) (zero dealloc : Bool) (data m : Nat) : Cmd :=
  { Cmd.fresh ⟨0xFFFF, m, token % 65536, msgid⟩ flow 0 none (.mirrored vol slba nlb zero dealloc data) u.now (u.now + u.deadline)
      u.nvt.nextAdmit 0 u.heat with
    ctx := true
    phase := 1
    passed := true }

/-- A command is admitted that owes the primary an ACK for its token. -/
def oweAck (u : State) (k : Cmd) (m token : Nat) : State :=
  { u with
    nvt := { u.nvt with cmds := u.nvt.cmds ++ [k], nextAdmit := u.nvt.nextAdmit + 1 }
    twn := { u.twn with owed := u.twn.owed ++ [(m, token, k.id)] } }

/-- A write of the peer is executed at a secondary that admits commands and serves the volume. -/
theorem copyWrite_admitted {m : Nat} (hctx : s.fedContext = true) (hm : (s.controlTaken flow msgid).secondaryPairing vol = some m)
    (hpeer : (s.controlTaken flow msgid).fromPeer m flow = true) (hvol : ((s.controlTaken flow msgid).volOf vol).isSome = true)
    (hhalt : (s.controlTaken flow msgid).admissionHalted = false) (hstop : (s.controlTaken flow msgid).twn.stopped = false) :
    let u := s.controlTaken flow msgid
    s.copyWrite flow msgid vol token slba nlb zero dealloc data =
      (u.oweAck (u.copyCmd flow msgid vol token slba nlb zero dealloc data m) m token).showTarget := by
  unfold controlTaken at *
  have hserves : ¬ (!(s.takeControl flow 6 msgid).1.fromPeer m flow || ((s.takeControl flow 6 msgid).1.volOf vol).isNone ||
      (s.takeControl flow 6 msgid).1.admissionHalted || (s.takeControl flow 6 msgid).1.twn.stopped) = true := by
    rw [hpeer, ← Option.not_isSome, hvol, hhalt, hstop]
    decide
  simp only [copyWrite, hctx, hm, Bool.not_true, Bool.false_eq_true, if_false]
  exact if_neg hserves

section
variable {w : XmWait}

/-- What waited for the ACK waits no longer. -/
def waitOver (u : State) (w : XmWait) : State := { u with twn := { u.twn with waits := u.twn.waits.filter (· != w) } }

/-- The unit that was sent is clean. -/
def unitClean (u : State) (pairing n : Nat) : State :=
  { u with twn := { u.twn with dirty := u.twn.dirty.filter (· != (pairing, n)) } }

/-- The mirror is joined again (R289). -/
def joinMirror (u : State) (pairing : Nat) : State := (u.wr F.TWN_XM_SPLIT 0 pairing).raise 303 (u.xmUnit pairing)

theorem xmAcked_write (hunit : w.unit_ = none) (hw : (s.controlTaken flow msgid).twn.waits.find? (fun w =>
      w.token == token && w.unit_.isSome == false && (s.controlTaken flow msgid).fromPeer w.pairing flow) = some w) :
    s.xmAcked flow msgid token false = (s.controlTaken flow msgid).waitOver w := by
  unfold controlTaken at *
  simp only [xmAcked, hw, hunit]
  rfl

/-- An ACK of a resynchronisation joins the mirror where it has no dirty unit left. -/
theorem xmAcked_resync {n : Nat} (hunit : w.unit_ = some n) (hw : (s.controlTaken flow msgid).twn.waits.find? (fun w =>
      w.token == token && w.unit_.isSome == true && (s.controlTaken flow msgid).fromPeer w.pairing flow) = some w) :
    let x := ((s.controlTaken flow msgid).waitOver w).unitClean w.pairing n
    s.xmAcked flow msgid token true = if x.twn.dirty.any fun d => d.1 == w.pairing then x else x.joinMirror w.pairing := by
  unfold controlTaken at *
  simp only [xmAcked, hw, hunit]
  rfl

end

/-- The unit waits for the ACK of the token with which it is sent. -/
def unitSent (u : State) (pairing unit : Nat) : State :=
  { u with twn := { u.twn with
    nextToken := (u.twn.nextToken + 1) % 2 ^ 32
    waits := (u.twn.waits.filter fun (w : XmWait) => !(w.pairing == pairing && w.unit_ == some unit)) ++
      [XmWait.mk u.twn.nextToken pairing none (some unit)] } }

/-- The oldest dirty unit of a split mirror goes to the secondary over a flow that is open. -/
theorem resyncSend_open {pairing unit n : Nat} {u : State} {f : FlowRef} (hpeer : s.xmPeer pairing = some n)
    (hvalid : s.ef F.TWN_XM_VALID pairing = 1) (hrole : s.ef F.TWN_XM_ROLE pairing = 0) (hsplit : s.is F.TWN_XM_SPLIT pairing = true)
    (hnext : s.resyncNext pairing unit = true) (hflow : s.fedFlow n = (u, some f)) :
    let count := min 64 (u.nsSize (s.ef F.TWN_XM_VOL pairing) - 64 * unit)
    let v := u.unitSent pairing unit
    s.resyncSend pairing unit zero data =
      v.sendFed n ⟨3, zero, false, v.ef F.TWN_XM_PEER_VOL pairing, u.twn.nextToken, v.heat, 64 * unit, count - 1, data⟩
        (if zero then 0 else count * (4096 + (if v.fmtOf (s.ef F.TWN_XM_VOL pairing) = 1 then 8 else 0))) := by
  have hsends : ¬ (s.ef F.TWN_XM_VALID pairing ≠ 1 || s.ef F.TWN_XM_ROLE pairing ≠ 0 || !s.is F.TWN_XM_SPLIT pairing ||
      !s.resyncNext pairing unit) = true := by
    simp [hvalid, hrole, hsplit, hnext]
  simp only [resyncSend, hpeer, hflow]
  exact if_neg hsends

/-- No ACK has followed a send of a mirror that is whole (R288). -/
theorem does_mirrorSplit {pairing : Nat} : Does (.mirrorSplit pairing) s
    (s.ef F.TWN_XM_VALID pairing = 1 ∧ s.ef F.TWN_XM_ROLE pairing = 0 ∧ s.is F.TWN_XM_SPLIT pairing = false ∧
      ∃ w ∈ s.twn.waits, w.pairing = pairing ∧ w.unit_ = none)
    (s.splitMirror pairing).carryOn := by
  refine (does_of_ite rfl).congr ?_
  simp [and_assoc]

end

end Sys2Proof.Machine.State

section
open Sys2Proof.Machine Sys2Proof.Machine.State

/-! ### The statements on degraded seats, twin frames and mirrors (spec/08_degradation_rebuild_takeover.md) -/

/-- Settles O41: one lemma per row, and a rebuild that may run starts the job of its row. -/
theorem degradedSeatsComplete : Obligations.DegradedSeatsComplete :=
  ⟨fun crew seat s x k hx hk hitem => ⟨exec_recoveryLadderStep hx hk hitem, exec_recoveryLadderStep hx hk hitem⟩,
    fun crew s c => exec_laggardCheck, fun crew seat s x e => exec_catchUpWrite_single, fun crew seat s x t => does_easyClear,
    fun crew seat s x => does_easyLimitExpiry, fun crew seat s => does_catchUpFullExpiry,
    fun crew s c row u hc hrow hrests hfirst hjobs hown =>
      next_carryOn_congr (rebuildRow_starts hc hrow hrests hfirst hjobs hown)⟩

/-- Settles O42: every row receives a frame, whose content is always taken, or held where there is a buffer for it; that a frame without a
buffer is not acknowledged is log entry 80. -/
theorem twinFramesComplete : Obligations.TwinFramesComplete := fun h s u hu =>
  ⟨exec_frame_taken (fun t => t.takeHeartbeat h.ackseq) hu rfl,
    fun r => exec_frame_held (fun t => t.holdBlock r) hu rfl, fun r t => exec_frame_unheld (fun t => t.holdBlock r) hu rfl,
    fun r => exec_frame_held (fun t => t.holdCmdRec r) hu rfl, fun r t => exec_frame_unheld (fun t => t.holdCmdRec r) hu rfl,
    fun r => exec_frame_taken (fun t => t.holdState r) hu rfl, fun r => exec_frame_taken (fun t => t.holdAssoc r) hu rfl,
    fun r => exec_frame_taken (fun t => t.takeNews r) hu rfl, fun crew heat => exec_frame_taken (fun t => t.releaseHeld crew heat) hu rfl,
    fun crews back => exec_handover hu, exec_frame_taken (fun t => t.partnerLost 2) hu rfl,
    fun part => exec_frame_held (fun t => t.takeSync part) hu rfl,
    fun part t => exec_frame_unheld (fun t => t.takeSync part) hu rfl⟩

/-- Settles O44: a write and a resynchronisation write of the primary are one `copyWrite`, both kinds of ACK one `xmAcked`. -/
theorem mirrorsComplete : Obligations.MirrorsComplete := by
  refine ⟨?_, fun _ _ _ _ _ _ _ _ _ _ => rfl, ?_,
    fun pairing unit zero data s n u f hpeer hvalid hrole hsplit hnext hflow => ?_, fun pairing s => does_mirrorSplit⟩
  · intro flow msgid vol token heat slba nlb zero dealloc data s m u hctx hm hpeer hvol hhalt hstop
    exact ⟨u.copyCmd flow msgid vol token slba nlb zero dealloc data m, rfl, rfl, rfl, rfl, rfl, rfl,
      next_carryOn_congr (copyWrite_admitted hctx hm hpeer hvol hhalt hstop)⟩
  · intro flow msgid token s w u v
    refine ⟨fun hunit hw => next_carryOn_congr (xmAcked_write hunit hw), fun n hunit hw => ?_⟩
    intro x
    have hacked : s.xmAcked flow msgid token true = if x.twn.dirty.any fun d => d.1 == w.pairing then x else x.joinMirror w.pairing :=
      xmAcked_resync hunit hw
    refine ⟨fun hdirty => next_carryOn_congr (hacked.trans (if_pos ?_)), fun hclean => next_carryOn_congr (hacked.trans (if_neg ?_))⟩
    · simpa only [List.any_eq_true, beq_iff_eq] using hdirty
    · simpa only [List.any_eq_true, beq_iff_eq, not_exists, not_and] using hclean
  · exact next_carryOn_congr (resyncSend_open hpeer hvalid hrole hsplit hnext hflow)
end

/-! ### Key loads and unwraps

What an operation of CIP_KLOAD_CMD comes to, by the state of its slot, and how the cipher's own unwrap ends (R331, R333, R474).
-/

namespace Sys2Proof.Machine.State

variable {s : State} {k : Nat}

/-! ### The key operations (R331) -/

theorem kload_inUse (huse : s.slotInUse k = true) : s.kload k = s.kloadEnd k 0x01 := if_pos huse

/-- The wrapped key that CIP_KLOAD_DATA holds is one for the slot. -/
def FormatGood (s : State) (k : Nat) : Prop :=
  wrappedBytes s.kloadData 0 1 = 1 ∧ (wrappedBytes s.kloadData 1 1 = 1 ∨ wrappedBytes s.kloadData 1 1 = 2) ∧
    wrappedBytes s.kloadData 2 2 = k

/-- The slot holds the wrapped key of CIP_KLOAD_DATA and nothing else, and shows what the key says of itself. -/
def storeWrapped (s : State) (k : Nat) : State :=
  let w := s.kloadData
  let typ := wrappedBytes w 1 1
  let a := s.dropKey k
  let b := { a with cip := { a.cip with wrapped := a.cip.wrapped ++ [(k, w)] } }
  let c := ((b.wr F.CIP_SLOT_STATE 1 k).wr F.CIP_SLOT_TYPE typ k).wr F.CIP_SLOT_KEKID (wrappedBytes w 7 1 % 4) k
  (c.wr F.CIP_SLOT_ANYPTAG (if typ = 2 then wrappedBytes w 6 1 % 2 else 0) k).wr F.CIP_SLOT_PTAG
    (if typ = 2 then wrappedBytes w 4 2 else 0) k

theorem formatCheck_iff :
    (wrappedBytes s.kloadData 0 1 ≠ 1 || wrappedBytes s.kloadData 1 1 = 0 || 2 < wrappedBytes s.kloadData 1 1 ||
      wrappedBytes s.kloadData 2 2 ≠ k) = true ↔ ¬ s.FormatGood k := by
  simp only [FormatGood, Bool.or_eq_true, decide_eq_true_eq]
  omega

theorem kload_badFormat (hfree : s.slotInUse k = false) (hbad : ¬ s.FormatGood k) : s.kload k = s.kloadEnd k 0x02 := by
  rw [kload, if_neg (Bool.eq_false_iff.mp hfree)]
  exact if_pos (formatCheck_iff.mpr hbad)

theorem kload_goodFormat (hfree : s.slotInUse k = false) (hgood : s.FormatGood k) :
    s.kload k = (s.storeWrapped k).kloadEnd k 0x00 := by
  rw [kload, if_neg (Bool.eq_false_iff.mp hfree)]
  exact if_neg fun hbad => formatCheck_iff.mp hbad hgood

theorem kclear_inUse (huse : s.slotInUse k = true) : s.kclear k = s.kloadEnd k 0x01 := if_pos huse

/-- The slot is empty. -/
def emptySlot (s : State) (k : Nat) : State :=
  let a := ((s.dropKey k).wr F.CIP_SLOT_STATE 0 k).wr F.CIP_SLOT_TYPE 0 k
  ((a.wr F.CIP_SLOT_KEKID 0 k).wr F.CIP_SLOT_ANYPTAG 0 k).wr F.CIP_SLOT_PTAG 0 k

theorem kclear_free (hfree : s.slotInUse k = false) : s.kclear k = (s.emptySlot k).kloadEnd k 0x00 :=
  if_neg (Bool.eq_false_iff.mp hfree)

theorem kprepare_ready (hst : s.slotState k = 2) : s.kprepare k = s.kloadEnd k 0x00 := by
  rw [kprepare, hst]
  rfl

theorem kprepare_failed (hst : s.slotState k = 3) : s.kprepare k = s.kloadEnd k 0x04 := by
  rw [kprepare, hst]
  rfl

/-- The key operation waits for the unwrap of its slot. -/
def waitUnwrap (u : State) (k : Nat) : State :=
  ({ u with cip := { u.cip with preparing := some k } }.wr F.CIP_KLOAD_STAT_BUSY 1).wr F.CIP_KLOAD_STAT_SLOT k

/-- A wrapped slot that the host does not unwrap is unwrapped by the cipher, and PREPARE waits for it. -/
theorem kprepare_wrapped (hst : s.slotState k = 1)
    (hown : (s.beginUnwrap k).cip.unwraps.any (fun u => u.1 == k && u.2.isSome) = false) :
    s.kprepare k = (s.beginUnwrap k).waitUnwrap k := by
  rw [kprepare, hst]
  exact if_neg (Bool.eq_false_iff.mp hown)

/-! ### The writes of CIP_KLOAD_CMD (R331) -/

/-- The key operation of each value of OP. -/
def keyOp (s : State) (op k : Nat) : State :=
  match op with
  | 1 => s.kload k
  | 2 => s.kclear k
  | 3 => s.kprepare k
  | _ => s

section
variable {value : Word} (hkey : value.toNat / 65536 = 0x6C39) (hidle : s.is F.CIP_KLOAD_STAT_BUSY = false)
include hkey hidle

theorem kloadCmd_keyed : s.kloadCmd value.toNat = s.keyOp (value.toNat / 16384 % 4) (value.toNat % 8192) := by
  have hopen : ¬ (value.toNat / 65536 % 65536 ≠ 0x6C39 || s.is F.CIP_KLOAD_STAT_BUSY) = true := by
    simp [hkey, hidle]
  exact if_neg hopen

/-- A keyed write while no operation runs carries out the operation that it names. -/
theorem settled_kloadOp {op : Nat} (hop : value.toNat / 16384 % 4 = op) :
    settled (.next (s.kloadOp op value)) = .next (s.keyOp op (value.toNat % 8192)).carryOn.atOnce := by
  rw [kloadOp, if_pos hop, kloadCmd_keyed hkey hidle, hop]
  rfl

theorem exec_load (hop : value.toNat / 16384 % 4 = 1) :
    exec (.load value) s = .next (s.kload (value.toNat % 8192)).carryOn.atOnce := settled_kloadOp hkey hidle hop

theorem exec_clear (hop : value.toNat / 16384 % 4 = 2) :
    exec (.clear value) s = .next (s.kclear (value.toNat % 8192)).carryOn.atOnce := settled_kloadOp hkey hidle hop

theorem exec_prepare (hop : value.toNat / 16384 % 4 = 3) :
    exec (.prepare value) s = .next (s.kprepare (value.toNat % 8192)).carryOn.atOnce := settled_kloadOp hkey hidle hop

end

/-! ### The end of the cipher's own unwrap (R333, R474) -/

section
variable {slot material : Nat} {ok : Bool}

theorem exec_unwrap (hruns : (slot, none) ∈ s.cip.unwraps) :
    exec (.unwrap slot ok material) s = .next (s.unwrapOwn slot ok material).atOnce := by
  have hany : (s.cip.unwraps.any fun u => u.1 == slot && u.2.isNone) = true :=
    List.any_eq_true.mpr ⟨_, hruns, by simp⟩
  exact congrArg (fun t : State => Host.Outcome.next t.atOnce) (if_pos hany)

variable {t : State}
  (ht : (s.endUnwrap slot (s.cox.keks.any (·.1 == s.rd F.CIP_SLOT_KEKID slot)) ok material).afterUnwrap slot = t)
include ht

/-- No clear of the key encryption key waits, or another unwrap under it still runs. -/
theorem unwrapOwn_stays (hkeeps : s.rd F.CIP_SLOT_KEKID slot ∉ t.cox.kekClears ∨ t.kekRuns (s.rd F.CIP_SLOT_KEKID slot) = true) :
    s.unwrapOwn slot ok material = t := by
  rw [unwrapOwn, ht]
  refine if_neg ?_
  rw [Bool.and_eq_true, List.contains_iff_mem, Bool.not_eq_true', not_and_or, Bool.not_eq_false]
  exact hkeeps

/-- The last unwrap under a key encryption key lets the clear that waits for it be carried out. -/
theorem unwrapOwn_clears (hwaits : s.rd F.CIP_SLOT_KEKID slot ∈ t.cox.kekClears)
    (hlast : t.kekRuns (s.rd F.CIP_SLOT_KEKID slot) = false) :
    s.unwrapOwn slot ok material = t.kekCleared (s.rd F.CIP_SLOT_KEKID slot) := by
  rw [unwrapOwn, ht]
  refine if_pos ?_
  rw [Bool.and_eq_true, List.contains_iff_mem, Bool.not_eq_true']
  exact ⟨hwaits, hlast⟩

end

end Sys2Proof.Machine.State

section
open Sys2Proof.Machine Sys2Proof.Machine.State

/-! ### The statement of spec/09_inline_compression.md and spec/10_inline_cipher.md on key loads and streams -/

/-- Settles O45: each key operation by the state of its slot, and an unwrap by whether a clear of its key encryption key waits. -/
theorem keyLoadsComplete : Obligations.KeyLoadsComplete := by
  refine ⟨fun value s hkey hidle => ⟨fun hop => ⟨fun huse => ?_, fun hfree hbad => ?_, ?_⟩, fun hop => ⟨fun huse => ?_, fun hfree => ?_⟩,
    fun hop => ⟨fun hst => ?_, fun hst => ?_, fun hst hown => ?_⟩⟩, fun slot ok material s hruns => ⟨fun hkeeps => ?_, fun hwaits hlast => ?_⟩,
    fun vol cntlid s => rfl⟩
  · rw [exec_load hkey hidle hop, kload_inUse huse]
  · rw [exec_load hkey hidle hop, kload_badFormat hfree (by rw [FormatGood]; omega)]
  · rintro typ rfl hfree hformat htyp hslot
    rw [exec_load hkey hidle hop, kload_goodFormat hfree ⟨hformat, htyp, hslot⟩]
    rfl
  · rw [exec_clear hkey hidle hop, kclear_inUse huse]
  · rw [exec_clear hkey hidle hop, kclear_free hfree]
    rfl
  · rw [exec_prepare hkey hidle hop, kprepare_ready hst]
  · rw [exec_prepare hkey hidle hop, kprepare_failed hst]
  · rw [exec_prepare hkey hidle hop, kprepare_wrapped hst hown]
    rfl
  · rw [exec_unwrap hruns, unwrapOwn_stays rfl hkeeps]
  · rw [exec_unwrap hruns, unwrapOwn_clears rfl hwaits hlast]

end

/-! ### Frames and links of the switch

What a received frame comes to (R344 to R348, R350), and the rows of links, of the transmit side, of residue copies, buffer banks and
address replies (R346, R347, R349, R351 to R360, R362, R367, R369).
-/

namespace Sys2Proof.Machine.State

variable {s : State} {lport : Nat}

/-! ### Occurrences where no counter or sampler is set up (R490) -/

theorem countOpen_of_not_counting {base which unit n : Nat} (h : s.counting = false) : s.countOpen base which unit n = s :=
  if_neg (Bool.eq_false_iff.mp h)

/-- What is counted depends on the enable fields of the samplers alone, besides the values in effect. -/
theorem counting_congr {t : State} (heff : t.eff = s.eff) (hrd : ∀ k < 4, t.rd F.PMU_SAMP_EN k = s.rd F.PMU_SAMP_EN k) :
    t.counting = s.counting := by
  simp only [counting, is, List.any_cons, List.any_nil, heff, hrd 0 (by decide), hrd 1 (by decide), hrd 2 (by decide), hrd 3 (by decide)]

theorem rd_bump_self {f : Field} {n i j : Nat} (hs : s.regs.wf = true) :
    (s.bump f n i j).rd f i j = min (s.rd f i j + n) (2 ^ f.width - 1) := by
  have hpos : 0 < 2 ^ f.width := Nat.two_pow_pos _
  rw [bump, rd_wr_self hs, Nat.mod_eq_of_lt (by omega)]

theorem rd_bump_ne {f g : Field} {n i j k l : Nat} (hs : s.regs.wf = true) (hne : g.key k l ≠ f.key i j) :
    (s.bump f n i j).rd g k l = s.rd g k l := rd_wr_ne hs hne

/-- A dropped frame is counted in its own field alone. -/
theorem dropOne_of_not_counting {f : Field} {which unit : Nat} (hs : s.regs.wf = true) (hc : s.counting = false)
    (hf : ∀ k < 4, F.PMU_SAMP_EN.key k 0 ≠ f.key 0 0) : s.dropOne f which unit = s.bump f := by
  have hsame : (s.bump f).counting = s.counting := counting_congr rfl fun k hk => rd_bump_ne hs (hf k hk)
  exact countOpen_of_not_counting (hsame.trans hc)

theorem sampEn_key_ne_dropErr : ∀ k < 4, F.PMU_SAMP_EN.key k 0 ≠ F.SWC_DROP_ERR.key 0 0 := by decide

/-! ### Received frames (R344 to R348, R350) -/

/-- What an accepted frame comes to, by its body (R346, R348). -/
def takeFrame (s : State) (lport len : Nat) (vlan : Option Nat) : FrameBody → State
  | .skiff ip port ptag dscp ect => (s.admitFrame (32 + internalPort ip port ptag) 0 (s.classOf dscp) len (ip, port, ptag) ect).1
  | .arp target => if (s.entryFor lport vlan false target).isSome then s else s.dropOne F.SWC_DROP_OTHER 71 0x0000
  | .neighbour target => if (s.entryFor lport vlan true target).isSome then s else s.dropOne F.SWC_DROP_OTHER 71 0x0000
  | .ptp => if s.ptpPort lport then s else s.dropOne F.SWC_DROP_OTHER 71 0x0000
  | .pause => s
  | .other => s.dropOne F.SWC_DROP_OTHER 71 0x0000

section
variable {len mac : Nat} {ok : Bool} {vlan : Option Nat} {body : FrameBody}

/-- A port that is down or does not exist takes no frame. -/
theorem exec_frameReceive_closed (h : s.lportExists lport = false ∨ s.lportUp lport = false) :
    exec (.frameReceive lport len ok mac vlan body) s = .next s.atOnce := by
  have hshut : (!s.lportExists lport || !s.lportUp lport) = true := by simpa using h
  exact congrArg settled (if_pos hshut)

section
variable (hexists : s.lportExists lport = true) (hup : s.lportUp lport = true)
include hexists hup

theorem exec_frameReceive_bad (hbad : len < 64 ∨ 9216 < len ∨ ok = false) :
    exec (.frameReceive lport len ok mac vlan body) s = .next (s.dropOne F.SWC_DROP_ERR 70 0x0000).atOnce := by
  have hopen : ¬ (!s.lportExists lport || !s.lportUp lport) = true := by simp [hexists, hup]
  have hdrop : (decide (len < 64) || decide (9216 < len) || !ok) = true := by simpa [or_assoc] using hbad
  exact congrArg settled ((if_neg hopen).trans (if_pos hdrop))

theorem exec_frameReceive_accepted (hmin : 64 ≤ len) (hmax : len ≤ 9216) (hmac : s.acceptsMac lport mac body = true) :
    exec (.frameReceive lport len true mac vlan body) s = .next (s.takeFrame lport len vlan body).atOnce := by
  have hopen : ¬ (!s.lportExists lport || !s.lportUp lport) = true := by simp [hexists, hup]
  have hgood : ¬ (decide (len < 64) || decide (9216 < len) || !true) = true := by simp [hmin, hmax]
  have hours : ¬ (!s.acceptsMac lport mac body) = true := by simp [hmac]
  refine (congrArg settled ((if_neg hopen).trans ((if_neg hgood).trans (if_neg hours)))).trans ?_
  cases body <;> rfl

end

end

/-! ### Links (R38, R81, R94, R351) -/

theorem exec_linkStateChange_up (hexists : s.lportExists lport = true) (hdown : s.lportUp lport = false)
    (hgate : s.gateForced (lport / 4) = false) (hstage : s.stage = 5 ∨ s.ready = true) (hwatch : s.is F.CLK_STATUS_WATCH = false) :
    exec (.linkStateChange lport true) s =
      .next (((s.wrBit F.SWC_LINK_UP lport true).settleAddrs false).raise 140 (lportUnit lport)).atOnce := by
  have hmay : (s.lportExists lport && !s.lportUp lport && !s.gateForced (lport / 4) && (s.stage == 5 || s.ready) &&
      !s.is F.CLK_STATUS_WATCH) = true := by
    simpa [hexists, hdown, hgate, hwatch] using hstage
  exact congrArg settled (if_pos hmay)

/-! ### The transmit side (R355 to R360, R362, R367) -/

section
variable {ns : Nat}

theorem exec_portTransmit_closed (h : (s.pass ns).lportUp lport = false ∨ (s.pass ns).portOpen lport = false) :
    exec (.portTransmit lport ns) s = .next (s.pass ns).atOnce := by
  have hshut : (!(s.pass ns).lportUp lport || !(s.pass ns).portOpen lport) = true := by simpa using h
  exact congrArg settled (if_pos hshut)

theorem exec_portTransmit_sends {h : Held} (hup : (s.pass ns).lportUp lport = true) (hopen : (s.pass ns).portOpen lport = true)
    (hpick : ((s.pass ns).portPick lport).2 = some h) :
    exec (.portTransmit lport ns) s = .next (((s.pass ns).portPick lport).1.sendHeld lport h).atOnce := by
  have hmay : ¬ (!(s.pass ns).lportUp lport || !(s.pass ns).portOpen lport) = true := by simp [hup, hopen]
  refine (congrArg settled (if_neg hmay)).trans ?_
  have hpair : (s.pass ns).portPick lport = (((s.pass ns).portPick lport).1, some h) := Prod.ext rfl hpick
  rw [hpair]
  rfl

end

/-! ### Residue copies, banks and address replies (R346, R347, R349, R352, R355) -/

theorem exec_residueTimeout_some {h : Held} {n : Nat} (hoff : s.sw.residue.find? (·.1.dst == lport) = some (h, n)) :
    let u := { s with sw := { s.sw with residue := s.sw.residue.filter (·.1.id != h.id) } }
    exec (.residueTimeout lport) s =
      .next ((((u.dropOne F.SWC_DROP_RESID 69 0x0000).endCopy h.shared).showBuffer).raiseOnce 130 0 0x0000).atOnce := by
  show settled (actResidueTimeout lport s) = _
  rw [actResidueTimeout, hoff]
  rfl

/-- A bank in service is replaced by a spare, or the buffer loses its cells. -/
theorem exec_bankReplace {bank : Nat} (hbank : bank < 34) (hin : bank ∉ s.sw.banksOut) (hbanks : s.rd F.SWC_BUF_STAT_BANKS ≠ 0) :
    let u := { s with sw := { s.sw with banksOut := s.sw.banksOut ++ [bank] } }
    exec (.bankReplace bank) s = .next
      (if 0 < s.rd F.SPR_STATUS_BANKS then (u.wr F.SPR_STATUS_BANKS (u.rd F.SPR_STATUS_BANKS - 1)).raise 132 (bankUnit bank)
      else ((u.wr F.SWC_BUF_STAT_BANKS (u.rd F.SWC_BUF_STAT_BANKS - 1)).showBuffer).raise 133 (bankUnit bank)).atOnce := by
  have hmay : ¬ (decide (34 ≤ bank) || s.sw.banksOut.contains bank || decide (s.rd F.SWC_BUF_STAT_BANKS = 0)) = true := by
    simp [hbank, hin, hbanks]
  exact congrArg settled (if_neg hmay)

section
variable {vlan : Option Nat} {target a : Nat}

theorem exec_arpRequest_some (ha : s.entryFor lport vlan false target = some a) :
    exec (.arpRequest lport vlan target) s = .next ((s.emit (.addressReply a lport)).sendControl lport 64).atOnce := by
  show settled (actArpRequest lport vlan target s) = _
  rw [actArpRequest, ha]
  rfl

theorem exec_neighbourSolicitation_some (ha : s.entryFor lport vlan true target = some a) :
    exec (.neighbourSolicitation lport vlan target) s = .next ((s.emit (.addressReply a lport)).sendControl lport 90).atOnce := by
  show settled (actNeighbourSolicitation lport vlan target s) = _
  rw [actNeighbourSolicitation, ha]
  rfl

end

/-- An active entry that has been announced once or twice is announced again. -/
theorem exec_announceRepeat_due {entry : Nat} (hon : s.entryOn entry = true)
    (hmade : (s.sw.announced.filter (· == entry)).length ∈ [1, 2]) :
    exec (.announceRepeat entry) s = .next (s.announceEntry entry).atOnce := by
  refine settled_of_eq (if_pos ?_)
  simpa [hon] using hmade

end Sys2Proof.Machine.State

/-! ### Gate lists and PTP

The rows of the time gates (R361 to R363) and of the PTP clock (R364 to R366).
-/

namespace Sys2Proof.Machine.State

variable {s : State} {lport ns : Nat}

/-! ### Gate lists (R361 to R363) -/

/-- A cycle of a port's gate list begins: frames that have waited through a whole one and fit nowhere in it are dropped, the residue
queue is offered their cells, and every other frame has waited (R362). -/
def cycleBegins (u : State) (lport : Nat) : State :=
  let gone := u.sw.held.filter fun h => h.dst == lport && h.waited && !u.gateEverFits lport h.svc h.len
  let v := gone.foldl (fun t h => ((t.unhold h).dropOne F.SWC_DROP_GATE 72 0x0000).raiseOnce 134 0 0x0000) u
  let w := if gone.isEmpty then v else v.offerResidue lport 1024
  { w with sw := { w.sw with held := w.sw.held.map fun h => if h.dst = lport then { h with waited := true } else h } }

/-- The operational list of a port, with the one that is to follow it. -/
def gatesOf (u : State) (lport : Nat) : GateList := u.sw.gates.getD lport ⟨1000000, 0, none⟩

theorem exec_gateIntervalEnd_cycle (hport : lport < 32) (hon : (s.pass ns).is F.SCH_GCL_EN lport = true)
    (hbase : ((s.pass ns).gatesOf lport).base ≤ (s.pass ns).tod)
    (hstart : ((s.pass ns).tod - ((s.pass ns).gatesOf lport).base) % ((s.pass ns).gatesOf lport).cycle = 0) :
    exec (.gateIntervalEnd lport ns) s = .next ((s.pass ns).cycleBegins lport).atOnce := by
  have hbegins : ¬ (decide (32 ≤ lport) || !(s.pass ns).is F.SCH_GCL_EN lport ||
      decide ((s.pass ns).tod < ((s.pass ns).gatesOf lport).base) ||
      decide (((s.pass ns).tod - ((s.pass ns).gatesOf lport).base) % ((s.pass ns).gatesOf lport).cycle ≠ 0)) = true := by
    simp [hport, hon, hbase, hstart]
  exact congrArg settled (if_neg hbegins)

theorem exec_gateIntervalEnd_off (hoff : (s.pass ns).is F.SCH_GCL_EN lport = false) :
    exec (.gateIntervalEnd lport ns) s = .next (s.pass ns).atOnce := by
  exact congrArg settled (if_pos (by simp [hoff]))

theorem exec_gateListTakeover {c b x : Nat} (hport : lport < 32) (hnext : ((s.pass ns).gatesOf lport).next = some (c, b, x)) :
    exec (.gateListTakeover lport ns) s = .next
      (((((s.pass ns).setGates lport ⟨c, b, none⟩).wr F.SCH_GCL_PENDING 0 lport).wr F.SCH_GCL_OPER
        (1 - (s.pass ns).rd F.SCH_GCL_OPER lport) lport).raise 136 (lportUnit lport)).atOnce := by
  show settled (actGateListTakeover lport ns s) = _
  rw [gatesOf] at hnext
  simp only [actGateListTakeover, hnext, Nat.not_le.mpr hport, if_false]
  rfl

/-! ### PTP (R364 to R366) -/

/-- The first master that is announced becomes the chosen one, and none is replaced. -/
theorem chooseMaster_first {m : Master} (hmasters : s.ptp.masters = [m]) (hnone : s.ptp.chosen = none) :
    s.chooseMaster =
      { s with ptp := { s.ptp with chosen := some m, awaiting := none, sync := none } }.wr F.SCH_PTP_STAT_PORT m.lport := by
  rw [chooseMaster, hmasters, hnone]
  rfl

theorem exec_announce_first {ident rank domain : Nat} (hport : s.ptpPort lport = true) (hdomain : domain = s.ef F.SCH_PTP_CFG_DOMAIN)
    (hmasters : s.ptp.masters = []) (hnone : s.ptp.chosen = none) :
    exec (.announce lport ident rank domain) s = .next
      ({ s with ptp := { s.ptp with masters := [⟨rank, ident, lport⟩], chosen := some ⟨rank, ident, lport⟩, awaiting := none,
                                    sync := none } }.wr F.SCH_PTP_STAT_PORT lport).atOnce := by
  have hours : ¬ (!s.ptpPort lport || decide (domain ≠ s.ef F.SCH_PTP_CFG_DOMAIN)) = true := by simp [hport, hdomain]
  refine (congrArg settled (if_neg hours)).trans ?_
  rw [hmasters]
  exact settled_of_eq (chooseMaster_first rfl hnone)

section
variable {ident domain origin : Nat}

theorem exec_ptpSync_chosen {twoStep : Bool} (hours : (s.pass ns).fromChosen lport ident domain = true) :
    exec (.ptpSync lport ident domain origin twoStep ns) s = .next
      (if twoStep then { s.pass ns with ptp := { (s.pass ns).ptp with awaiting := some (s.pass ns).tod } }
      else (s.pass ns).synced lport origin (s.pass ns).tod).atOnce := by
  have hchosen : ¬ (!(s.pass ns).fromChosen lport ident domain) = true := by simp [hours]
  refine (congrArg settled (if_neg hchosen)).trans ?_
  cases twoStep <;> rfl

theorem exec_followUp_awaited {t2 : Nat} (hwait : s.ptp.awaiting = some t2) (hours : s.fromChosen lport ident domain = true) :
    exec (.followUp lport ident domain origin) s = .next (s.synced lport origin t2).atOnce := by
  show settled (actFollowUp lport ident domain origin s) = _
  rw [actFollowUp, hwait]
  exact settled_of_eq (if_pos hours)

theorem exec_delayResp_measured {sent received t1 t2 : Nat} (hsync : s.ptp.sync = some (t1, t2))
    (hours : s.fromChosen lport ident domain = true) :
    exec (.delayResp lport ident domain sent received) s = .next
      { s with ptp := { s.ptp with delay := (((t2 : Int) - t1) + ((received : Int) - sent)) / 2 } } := by
  show execDelayResp lport ident domain sent received s = _
  rw [execDelayResp, hsync]
  exact congrArg _ (if_pos hours)

end

/-- The masters left where the Syncs of the chosen one have stopped (log entry 149). -/
theorem exec_ptpSyncTimeout_some {c : Master} (hc : s.ptp.chosen = some c) :
    let left := s.ptp.masters.filter fun m => !(m.ident == c.ident && m.lport == c.lport)
    exec .ptpSyncTimeout s =
      .next (({ s with ptp := { s.ptp with near := 0, far := 0, masters := left } }.setLocked false).chooseMaster).atOnce := by
  show settled (actPtpSyncTimeout s) = _
  rw [actPtpSyncTimeout, hc]
  rfl

theorem exec_ptpSyncTimeout_none (hnone : s.ptp.chosen = none) : exec .ptpSyncTimeout s =
    .next (({ s with ptp := { s.ptp with near := 0, far := 0 } }.setLocked false).chooseMaster).atOnce := by
  show settled (actPtpSyncTimeout s) = _
  rw [actPtpSyncTimeout, hnone]
  rfl

end Sys2Proof.Machine.State

section
open Sys2Proof.Machine Sys2Proof.Machine.State

/-! ### The statements of spec/11_switch_and_scheduling.md -/

/-- Settles O26: a bad frame comes to its drop alone, and the drop to one bump of the count where nothing counts occurrences. -/
theorem badFrameOnlyCountsAnError : Obligations.BadFrameOnlyCountsAnError := by
  intro lport len mac ok vlan body s ⟨hregs, _⟩ hbad
  refine ⟨fun hexists hup => ⟨exec_frameReceive_bad hexists hup hbad, fun hcount hfatal => ?_⟩, exec_frameReceive_closed⟩
  have hdrop : s.dropOne F.SWC_DROP_ERR 70 0x0000 = s.bump F.SWC_DROP_ERR :=
    dropOne_of_not_counting hregs hcount sampEn_key_ne_dropErr
  refine ⟨s.bump F.SWC_DROP_ERR, ?_, rd_bump_self hregs, fun _ _ _ hne => rd_bump_ne hregs hne, rfl⟩
  rw [exec_frameReceive_bad hexists hup hbad, hdrop, atOnce_of_not_fatal (s := s.bump _) hfatal]

/-- Settles O25: `exec_frameReceive_accepted` has the bodies of a frame, and every other row its own lemma. -/
theorem framesAndLinksComplete : Obligations.FramesAndLinksComplete := by
  refine ⟨fun lport len mac vlan ip port ptag dscp ect s hexists hup hmin hmax hmac =>
      exec_frameReceive_accepted hexists hup hmin hmax hmac,
    fun lport len mac vlan target s hexists hup hmin hmax =>
      ⟨exec_frameReceive_accepted hexists hup hmin hmax, exec_frameReceive_accepted hexists hup hmin hmax,
        exec_frameReceive_accepted hexists hup hmin hmax, exec_frameReceive_accepted hexists hup hmin hmax,
        exec_frameReceive_accepted hexists hup hmin hmax⟩,
    fun lport s hexists hdown hgate hstage hwatch => exec_linkStateChange_up hexists hdown hgate hstage hwatch,
    fun lport s => rfl, fun lport ns s h => exec_portTransmit_closed h,
    fun lport ns s h hup hopen hpick => exec_portTransmit_sends hup hopen hpick,
    fun lport s h n hoff => exec_residueTimeout_some hoff, fun bank s hbank hin hbanks => ⟨fun hspare => ?_, fun hnone => ?_⟩,
    fun lport vlan target s a ha => exec_arpRequest_some ha, fun lport vlan target s a ha => exec_neighbourSolicitation_some ha,
    fun entry s hon hmade => exec_announceRepeat_due hon hmade⟩
  · rw [exec_bankReplace hbank hin hbanks, if_pos hspare]
  · rw [exec_bankReplace hbank hin hbanks, if_neg (by omega)]

/-- Settles O27: one lemma per row; a CHANGE is one choice. -/
theorem gateListsAndPtpComplete : Obligations.GateListsAndPtpComplete := by
  refine ⟨fun lport ns s hport =>
      ⟨fun hon hbase hstart => exec_gateIntervalEnd_cycle hport hon hbase hstart, exec_gateIntervalEnd_off⟩,
    fun lport s => (settles_of_ite_not rfl).congr Nat.not_le, fun lport ns s c b x hport hnext => exec_gateListTakeover hport hnext,
    fun lport ident rank domain s hport hdomain hmasters hnone => exec_announce_first hport hdomain hmasters hnone,
    fun lport ident domain origin ns s hours => ⟨exec_ptpSync_chosen hours, exec_ptpSync_chosen hours⟩,
    fun lport ident domain origin t2 s hwait hours => exec_followUp_awaited hwait hours,
    fun lport ident domain sent received t1 t2 s hsync hours => exec_delayResp_measured hsync hours,
    fun s hnone => exec_ptpSyncTimeout_none hnone, fun s c hc => exec_ptpSyncTimeout_some hc⟩

end

/-! ### What holds of the machine as a whole

What the invariants of `Kept0` say of a command, of a step and of the state after reset, and the record that every raise leaves
(R452, R480).
-/

namespace Sys2Proof.Machine

variable {s t : State} {c : Instr}

/-- On an empty queue the block idles (log entry 1). -/
theorem step_idle (h : s.pending = []) : step s = .next s := by rw [step, h]

/-- What is kept between the state whose queue has lost its front command and the state that the step answers. -/
theorem kept0_of_step (h : step s = .next t) : Kept0 { s with pending := s.pending.tail } t := by
  obtain ⟨u, hu, k⟩ := step_kept0 (s := s)
  cases hu.symm.trans h
  exact k

/-- A record that stands first in cox's event buffer is still there after event business that adds fewer records than the buffer holds. -/
theorem Calm.mem_buf {n : Nat} {r : EvRec} (h : Calm n s t) (hr : s.ev.buf[0]? = some r) (hn : n < 524288) : r ∈ t.ev.buf :=
  let ⟨_, _, hj⟩ := h.buf r 0 hr (by omega)
  List.mem_of_getElem? hj

namespace State

/-- What follows from a raise leaves its own record in the buffer (R480, R482). -/
theorem raise_recorded {ev unit detail : Nat} : (s.raise ev unit detail).Recorded ev unit := by
  obtain ⟨-, r, hr, hfields⟩ := raiseOne_calm (s := s) (ev := ev) (u := unit) (d := detail) (f := 0)
  have hfollow : (s.raiseOne ev unit detail 0).2.length * raiseBound 4 ≤ 3 * raiseBound 4 := Nat.mul_le_mul_right _ raiseOne_follow
  have hrest : Calm (3 * raiseBound 4 + 121) (s.raiseOne ev unit detail 0).1 (s.raise ev unit detail) := by
    rw [raise, raiseAll_one]
    exact (raiseAll_calm.mono hfollow).add settleSample_calm
  exact ⟨r, hrest.mem_buf hr (by decide), hfields⟩

end State

end Sys2Proof.Machine

section
open Sys2Proof.Machine Sys2Proof.Machine.State

/-! ### The statements about the machine as a whole -/

/-- Settles O4: the order of the logbook and its last SEQ are part of what `step_kept0` says every step keeps; neither looks
at the queue. -/
theorem stepKeepsLogbookInOrder : Obligations.StepKeepsLogbookInOrder := fun _ _ hs ht =>
  have k := kept0_of_step ht
  ⟨k.logInOrder hs, k.lastSeq⟩

/-- Settles O13, by `raise_recorded`. -/
theorem everyRaiseIsRecorded : Obligations.EveryRaiseIsRecorded := fun _ _ _ _ => raise_recorded

/-- Settles O2: `exec_kept0` and `step_kept0` give the next state and what is kept of the queue, of what was sent and of the free values.
That a command with nothing to do answers the state it ran on is log entry 4; what the block sends and the count of free values are log entry 6. -/
theorem everyCommandCompletes : Obligations.EveryCommandCompletes := by
  refine ⟨fun c s => ?_, fun s => ?_⟩
  · obtain ⟨t, ht, k⟩ := exec_kept0 (c := c) (Kept.refl s)
    exact ⟨t, ht, k.pending, k.out, k.free⟩
  · obtain ⟨t, ht, k⟩ := step_kept0 (s := s)
    exact ⟨t, ht, k.pending, k.out, k.free⟩

/-- Settles O1: a step is the dispatcher on the front command; the idle step is log entry 1. -/
theorem stepRunsFrontCommand : Obligations.StepRunsFrontCommand := ⟨fun _ _ _ => rfl, fun _ => step_idle⟩

/-- Settles O5: the stores, the logbook, the queue and `out` are empty at reset. That nothing has been sent is the model's choice,
log entry 6. -/
theorem resetMeetsTheInvariants : Obligations.ResetMeetsTheInvariants :=
  ⟨reset_canonical, ⟨rfl, Nat.zero_le _⟩, rfl, rfl⟩
end

/-! ### Power of a bay

The rows of a bay's ramp, power-good, fault timer, trips, FET temperature and feeds (R378 to R389, R393).
-/

namespace Sys2Proof.Machine.State

variable {s : State} {bay : Nat}

/-- Of an arm's condition on one of the 32 bays, the rest is left. -/
theorem bayGuard_iff (hb : bay < 32) {b : Bool} : (decide (bay < 32) && b) = true ↔ b = true := by
  rw [decide_eq_true hb, Bool.true_and]

/-- The ramp starts where every condition of the COOLING row is met (R378, R387, R388). -/
theorem exec_bayRampStart {a b period f : Nat} (hb : bay < 32) (hf : (s.measureFeeds a b).feedFor bay = some f) :
    let u := s.measureFeeds a b
    u.bayState bay = bCooling → (u.bayAt bay).seated = true → u.bay.released = true → u.boot.hold = 0 → u.stage ≠ 0xE →
    (u.bayAt bay).slot ≤ period →
    u.ef F.BAY_PCFG_EN bay = 1 → u.rd F.BAY_SLTCTL_PCC bay = 0 → u.fetAtLeast bay f (u.ef F.BAY_RETRY_RESTART_C) = false →
    exec (.bayRampStart bay a b period) s = .next (((u.wr F.BAY_PSTAT_FEED f bay).modBay bay fun x =>
      { x with
        gate := true
        slot := 0
        rampAt := u.now
        rampTime := 0
        timerTime := 0 }).toBay bay bRamp).atOnce := by
  intro u hcool hseat hreleased hhold hstage hslot hen hpcc hfet
  show settled (actBayRampStart bay a b period s) = _
  rw [actBayRampStart, hf]
  exact congrArg settled (if_pos (by simp [u, hb, hcool, hseat, hreleased, hhold, hstage, hslot, hen, hpcc, hfet]))

/-! Power-good (R379, R380). -/

/-- Power-good comes in QUALIFY, and the bay is ON. -/
theorem exec_powerGoodAssert (hb : bay < 32) (htimer : s.timerRuns bay = false) (hpg : s.is F.BAY_PSTAT_PG bay = false)
    (hq : s.bayState bay = bQualify) (hq' : (s.wr F.BAY_PSTAT_PG 1 bay).bayState bay = bQualify) :
    exec (.powerGoodAssert bay) s = .next ((s.wr F.BAY_PSTAT_PG 1 bay).toBay bay bOn).atOnce := by
  show settled (actPowerGoodAssert bay s) = _
  rw [actPowerGoodAssert, if_pos (by simp [hb, htimer, hpg, hq])]
  exact settled_of_eq (if_pos hq')

/-- It is withheld while the fault timer runs. -/
theorem exec_powerGoodAssert_withheld (htimer : s.timerRuns bay = true) : exec (.powerGoodAssert bay) s = .next s.atOnce := by
  show settled (actPowerGoodAssert bay s) = _
  rw [actPowerGoodAssert, if_neg (by simp [htimer])]
  rfl

theorem exec_powerGoodWithdraw (hb : bay < 32) (htimer : s.timerRuns bay = false) (hpg : s.is F.BAY_PSTAT_PG bay = true) :
    exec (.powerGoodWithdraw bay) s = .next
      (s.reactTo (if (s.withdraw bay).bayState bay = bOn then (s.withdraw bay).toBay bay bQualify else s.withdraw bay) bay).atOnce := by
  show settled (actPowerGoodWithdraw bay s) = _
  rw [actPowerGoodWithdraw, if_pos (by simp [hb, htimer, hpg])]
  rfl

/-! The FET's diode (R386). -/

section
variable {celsius : Int} (hb : bay < 32) (hsrc : s.ef F.BAY_PCFG_TSRC bay ≠ 0) (hgood : s.is F.BAY_THERM_DIODE_BAD bay = false)
include hb hsrc hgood

/-- A reading below −40 °C or above 200 °C is invalid. -/
theorem exec_diodeRead_invalid (h : celsius < -40 ∨ 200 < celsius) : exec (.diodeRead bay celsius) s = .next
    (((s.wr F.BAY_THERM_DIODE_BAD 1 bay).showTherm bay).bayEvent bay 6).atOnce := by
  show settled (actDiodeRead bay celsius s) = _
  rw [actDiodeRead, if_neg (by simp [hb, hsrc, hgood]), if_pos (by simpa using h)]
  rfl

theorem exec_diodeRead_valid (hlow : -40 ≤ celsius) (hhigh : celsius ≤ 200) :
    let u := (s.modBay bay fun b => { b with diode := some celsius }).showTherm bay
    exec (.diodeRead bay celsius) s = .next (if u.fetTooHot bay = true then u.reactTo (u.trip bay 3) bay else u).atOnce := by
  show settled (actDiodeRead bay celsius s) = _
  rw [actDiodeRead, if_neg (by simp [hb, hsrc, hgood]), if_neg (by simp; omega)]
  rfl

end

/-! The feeds (R387). -/

theorem exec_changeover {a b : Nat} (hb : bay < 32) :
    let u := s.measureFeeds a b
    let f := u.rd F.BAY_PSTAT_FEED bay
    u.bayState bay = bOn ∨ u.bayState bay = bQualify → u.goodNow f = false → u.goodNow (1 - f) = true →
    exec (.changeover bay a b) s = .next (u.enterChangeover bay).atOnce := by
  intro u f hstate hbad hother
  exact settled_of_eq (if_pos (by simpa [u, f, hb, hbad, hother] using hstate))

theorem exec_changeoverBreakEnd (hb : bay < 32) (h : s.bayState bay = bChangeover) :
    let u := (s.wr F.BAY_PSTAT_FEED (1 - s.rd F.BAY_PSTAT_FEED bay) bay).modBay bay fun b =>
      { b with
        gate := true
        stopWanted := false }
    let v := u.toBay bay (if u.is F.BAY_PSTAT_PG bay = true then bOn else bQualify)
    exec (.changeoverBreakEnd bay) s = .next (if (s.bayAt bay).stopWanted = true then v.stopBay bay else v).atOnce := by
  show settled (actChangeoverBreakEnd bay s) = _
  rw [actChangeoverBreakEnd, if_pos (by simp [hb, h])]
  rfl

end Sys2Proof.Machine.State

section
open Sys2Proof.Machine Sys2Proof.Machine.State

/-! ### The statement of spec/12_drive_bays_and_power.md on power -/

/-- Settles O46: a row that is one choice has, by `bayGuard_iff`, the rest of its arm's condition left; the others have a lemma each. That
CHANGEOVER and FEED_RETURN act from QUALIFY as well as from ON is log entry 47. -/
theorem bayPowerCommandsComplete : Obligations.BayPowerCommandsComplete := by
  intro bay s hb
  refine ⟨(settles_of_ite rfl).congr ?_, (settles_of_ite rfl).congr ?_, fun a b period f hf => exec_bayRampStart hb hf,
    fun htimer hpg hq hq' => exec_powerGoodAssert hb htimer hpg hq hq', fun htimer => exec_powerGoodAssert_withheld htimer,
    fun htimer hpg => exec_powerGoodWithdraw hb htimer hpg, (settles_of_ite rfl).congr ?_, settled_of_eq (if_pos hb),
    (settles_of_ite rfl).congr (bayGuard_iff hb), (settles_of_ite rfl).congr ?_, (settles_of_ite rfl).congr ?_,
    (does_of_ite rfl).congr ?_, rfl,
    fun celsius hsrc hgood => ⟨fun h => exec_diodeRead_invalid hb hsrc hgood h,
      fun hlow hhigh => exec_diodeRead_valid hb hsrc hgood hlow hhigh⟩,
    fun a b => exec_changeover hb, fun h => exec_changeoverBreakEnd hb h, (settles_of_ite rfl).congr ?_, (settles_of_ite rfl).congr ?_,
    settles_of_ite rfl⟩
  · rw [bayGuard_iff hb, decide_eq_true_iff]
  · rw [bayGuard_iff hb, decide_eq_true_iff]
  · rw [Bool.and_assoc, bayGuard_iff hb, Bool.and_eq_true, Bool.not_eq_true', List.contains_iff_mem]
  · rw [bayGuard_iff hb, List.contains_iff_mem]
  · rw [bayGuard_iff hb, decide_eq_true_iff]
  · rw [bayGuard_iff hb, decide_eq_true_iff]
  · rw [Bool.and_assoc, bayGuard_iff hb, Bool.and_eq_true, Bool.or_eq_true, decide_eq_true_iff, decide_eq_true_iff, decide_eq_true_iff]
  · rw [bayGuard_iff hb, decide_eq_true_iff]
end

/-! ### Entries of inbound rings

What the arbiter's next ring takes in, and what the oldest entry of a ring comes to (R402 to R408, R414, R416).
-/

namespace Sys2Proof.Machine

/-- The fields that a NOP must leave zero (R406, R407). -/
theorem nopFields_clean_iff {e : Entry} :
    (e.count != 0 || e.code != 0 || e.dlen != 0 || e.item != 0 || e.daddr != 0 || e.inline.any (· != 0)) = false ↔
      e.count = 0 ∧ e.code = 0 ∧ e.dlen = 0 ∧ e.item = 0 ∧ e.daddr = 0 ∧ ∀ b ∈ e.inline, b = 0 := by
  simp only [Bool.or_eq_false_iff, bne_eq_false_iff_eq, List.any_eq_false, bne_iff_ne, ne_eq, not_not, and_assoc]

namespace State

variable {s : State} {ring : Nat} {t : Taken}

/-- Only the ring that the arbiter visits next takes entries in (R414). -/
theorem settles_entryFetch {pi : Nat} {copies : List (Option Entry)} (hr : ring < 1024) :
    let u := s.newRound (coxRing ring)
    Settles (.entryFetch ring pi copies) s (u.arbNext (coxRing ring) = some ring)
      (((u.visit ring).takeCopies ring pi copies (u.rd F.WRG_RING_BURST ring + 1)).flushInvalid ring 64) :=
  settles_of_ite_next (congrArg settled (if_neg (Nat.not_le.mpr hr)))

/-- A NOP completes, as invalid where one of the fields that it must leave zero is not. -/
theorem exec_nop_front (h : s.front ring 0 = some t) : exec (.nop ring) s = .next (s.finish t
    (if (t.entry.count != 0 || t.entry.code != 0 || t.entry.dlen != 0 || t.entry.item != 0 || t.entry.daddr != 0 ||
      t.entry.inline.any (· != 0)) = true then 6 else 0) 0).atOnce := by
  show settled (actNop ring s) = _
  rw [actNop, h]
  rfl

/-! Register entries (R407, R408). -/

section
variable (h : s.front ring 1 = some t) (hcode : t.entry.code = 0) (hdlen : t.entry.dlen = 0) (hitem : t.entry.item < 2 ^ 24)
  (halign : t.entry.item % 4 = 0) (hdaddr : t.entry.daddr = 0) (hinline : ∀ b ∈ t.entry.inline, b = 0)
  (hopen : s.accessGated t.entry.item = false)
include h hcode hdlen hitem halign hdaddr hinline hopen

/-- A good read of one register completes with it. -/
theorem exec_regRead_one (hcount : t.entry.count = 1) :
    let a := (s.wakeFor t.entry.item).readReg t.entry.item
    exec (.regRead ring) s = .next (a.1.finish t 0 a.2).atOnce := by
  show settled (actRegRead ring s) = _
  rw [actRegRead, h]
  refine settled_of_eq ((if_neg ?_).trans ((if_neg ?_).trans ?_))
  · simpa [hcount, hcode, hdlen, halign, hdaddr] using And.intro hitem hinline
  · simp [hopen, hcount]
  · simp only [hcount]
    rfl

/-- A good read of two registers completes with both, the lower address in the low word. -/
theorem exec_regRead_two (hcount : t.entry.count = 2) (hopen' : s.accessGated (t.entry.item + 4) = false) :
    let a := (s.wakeFor t.entry.item).readReg t.entry.item
    let b := (a.1.wakeFor (t.entry.item + 4)).readReg (t.entry.item + 4)
    exec (.regRead ring) s = .next (b.1.finish t 0 (a.2 + 2 ^ 32 * b.2)).atOnce := by
  show settled (actRegRead ring s) = _
  rw [actRegRead, h]
  refine settled_of_eq ((if_neg ?_).trans ((if_neg ?_).trans ?_))
  · simpa [hcount, hcode, hdlen, halign, hdaddr] using And.intro hitem hinline
  · simp [hopen, hopen']
  · simp only [hcount, if_true]

end

/-- A good write of a register that is not gated completes with what the register then reads. -/
theorem exec_regWrite_good {w : State} {status : Nat} (h : s.front ring 2 = some t) (hcount : t.entry.count = 0) (hcode : t.entry.code = 0)
    (hdlen : t.entry.dlen = 0) (hitem : t.entry.item < 2 ^ 24) (halign : t.entry.item % 4 = 0) (hinline : ∀ b ∈ t.entry.inline, b = 0)
    (hw : (s.dropTaken fun x => x.ring == ring && x.idx == t.idx).accessWrite .ring t.entry.item (t.entry.daddr % 2 ^ 32)
      (t.entry.daddr / 2 ^ 32 % 2 ^ 32) = (w, status))
    (hready : w.ready = true) (hstatus : status ≠ 2) (hen : w.is F.WRG_RING_EN ring = true) :
    exec (.regWrite ring) s = .next (w.finish t status (w.readWord t.entry.item)).carryOn := by
  show execRegWrite ring s = _
  rw [execRegWrite, h]
  refine congrArg Host.Outcome.next ((if_neg ?_).trans ?_)
  · simpa [hcount, hcode, hdlen, halign] using And.intro hitem hinline
  · dsimp only
    rw [hw]
    simp [hready, hstatus, hen]

/-- EN of a running ring written 0 is a write of the ring's word 0 (R416). -/
theorem exec_ringShutdown {w0 : Word} (hr : ring < 1024) (hready : s.ready = true) (hen : s.is F.WRG_RING_EN ring = true)
    (hw : w0.getLsbD 31 = false) : exec (.ringShutdown ring w0) s = .next (s.writeRing ring 0xFFFFFFFF w0.toNat).carryOn :=
  congrArg Host.Outcome.next (if_pos (by rw [decide_eq_true hr, hready, hen, hw]; rfl))

/-! The end of a coalescing gap (R402). -/

section
variable {g : Nat × Bool} (h : s.wrg.gaps.find? (·.1 == ring) = some g)
include h

theorem exec_coalesceExpiry_used (hg : g.2 = true) : exec (.coalesceExpiry ring) s = .next
    (({ s with wrg := { s.wrg with gaps := s.wrg.gaps.map fun x => if x.1 = ring then (ring, false) else x } } : State).irq
      (s.rd F.WRG_RING_IVEC ring)).atOnce := by
  show settled (actCoalesceExpiry ring s) = _
  rw [actCoalesceExpiry, h]
  exact congrArg settled (if_pos hg)

theorem exec_coalesceExpiry_unused (hg : g.2 = false) : exec (.coalesceExpiry ring) s = .next
    ({ s with wrg := { s.wrg with gaps := s.wrg.gaps.filter fun (x : Nat × Bool) => x.1 != ring } } : State).atOnce := by
  show settled (actCoalesceExpiry ring s) = _
  rw [actCoalesceExpiry, h]
  exact congrArg settled (if_neg (by rw [hg]; decide))

end

end State

end Sys2Proof.Machine

section
open Sys2Proof.Machine Sys2Proof.Machine.State

/-! ### The statement of spec/13_work_rings.md on entries -/

/-- Settles O49: each row acts on the ring's oldest entry, with a lemma for what its fields make of it. -/
theorem ringEntriesComplete : Obligations.RingEntriesComplete := by
  refine ⟨fun ring pi copies s hr => settles_entryFetch hr, fun ring s t h => ⟨fun hclean => ?_, fun hbad => ?_⟩,
    fun ring s t h hcode hdlen hitem halign hdaddr hinline hopen =>
      ⟨fun hcount => exec_regRead_one h hcode hdlen hitem halign hdaddr hinline hopen hcount,
        fun hcount hopen' => exec_regRead_two h hcode hdlen hitem halign hdaddr hinline hopen hcount hopen'⟩,
    fun ring s t h hcount hcode hdlen hitem halign hinline hready hstatus hen =>
      exec_regWrite_good h hcount hcode hdlen hitem halign hinline rfl hready hstatus hen,
    fun ring w0 s hr hready hen hw => exec_ringShutdown hr hready hen hw,
    fun ring s g h => ⟨fun hg => exec_coalesceExpiry_used h hg, fun hg => exec_coalesceExpiry_unused h hg⟩⟩
  · rw [exec_nop_front h, if_neg (Bool.eq_false_iff.mp (nopFields_clean_iff.mpr hclean))]
  · rw [exec_nop_front h, if_pos (Bool.of_not_eq_false fun hzero => hbad (nopFields_clean_iff.mp hzero))]
end

/-! ### Changes of MSI-X Enable, and the identifiers of configuration space

What the INTx line does when MSI-X Enable changes (R431, R434, R438), and what a read of the identifiers shows (R422, R424).
-/

namespace Sys2Proof.Machine.State

variable {s : State}

/-! The line (R431, R438). -/

theorem lineWanted_of_msixOn (h : s.msixOn = true) : s.lineWanted = false := by
  rw [lineWanted, h]
  rfl

/-- A line that is not wanted is deasserted where it was asserted. -/
theorem settleLine_of_not_wanted (h : s.lineWanted = false) :
    s.settleLine = if s.is F.EPT_STATUS_INTA = true then (s.wr F.EPT_STATUS_INTA 0).sendInta else s := by
  rw [settleLine, h]
  cases s.is F.EPT_STATUS_INTA <;> rfl

theorem sendInta_regs : s.sendInta.regs = s.regs := by
  unfold sendInta
  dsimp only
  split <;> rfl

/-- The message of a deasserted line is sent where the last one sent asserted it, but not in D3hot. -/
theorem sendInta_out_of_deasserted (h : s.is F.EPT_STATUS_INTA = false) :
    s.sendInta.out = if s.ept.d3hot = false ∧ s.ept.intaSent = true then s.out ++ [.deassertInta] else s.out := by
  rw [sendInta, h]
  cases s.ept.d3hot <;> cases s.ept.intaSent <;> rfl

/-- With MSI-X Enable written 1 the line follows: deasserted, with its message where it was asserted. -/
theorem settleLine_msixEnabled (hs : s.regs.wf = true) :
    let u := (s.wr F.EPT_STATUS_MSIX 1).settleLine
    u.msixOn = true ∧ u.is F.EPT_STATUS_INTA = false ∧
      u.out = if s.is F.EPT_STATUS_INTA = true ∧ s.ept.d3hot = false ∧ s.ept.intaSent = true then s.out ++ [.deassertInta]
        else s.out := by
  have hon : (s.wr F.EPT_STATUS_MSIX 1).msixOn = true := beq_iff_eq.mpr (rd_wr_self hs)
  have hline : (s.wr F.EPT_STATUS_MSIX 1).is F.EPT_STATUS_INTA = s.is F.EPT_STATUS_INTA :=
    congrArg (· == 1) (rd_wr_ne hs (by decide))
  intro u
  have hu : u = _ := settleLine_of_not_wanted (lineWanted_of_msixOn hon)
  rw [hline] at hu
  by_cases hinta : s.is F.EPT_STATUS_INTA = true
  · have hs' : (s.wr F.EPT_STATUS_MSIX 1).regs.wf = true := wr_wf hs
    have hoff : ((s.wr F.EPT_STATUS_MSIX 1).wr F.EPT_STATUS_INTA 0).is F.EPT_STATUS_INTA = false :=
      beq_eq_false_iff_ne.mpr (by rw [rd_wr_self hs']; decide)
    have hkeep : ((s.wr F.EPT_STATUS_MSIX 1).wr F.EPT_STATUS_INTA 0).msixOn = true :=
      (congrArg (· == 1) (rd_wr_ne hs' (by decide))).trans hon
    rw [if_pos hinta] at hu
    rw [hu]
    refine ⟨?_, ?_, ?_⟩
    · rw [msixOn, is, rd, sendInta_regs]
      exact hkeep
    · rw [is, rd, sendInta_regs]
      exact hoff
    · rw [sendInta_out_of_deasserted hoff]
      exact if_congr (and_iff_right hinta).symm rfl rfl
  · rw [if_neg hinta] at hu
    rw [hu, if_neg fun h => hinta h.1]
    exact ⟨hon, hline.trans (Bool.eq_false_iff.mpr hinta), rfl⟩

/-! The command. -/

theorem exec_msixEnableChange_on (h : s.msixOn = false) :
    exec (.msixEnableChange true) s = .next ((s.movingVectors.foldl (fun t v => (t.setPend (t.pend - 2 ^ v)).requestVector v)
      (s.wr F.EPT_STATUS_MSIX 1).settleLine).raise 821 0x9400).atOnce := by
  show settled (actMsixEnableChange true s) = _
  rw [actMsixEnableChange, h]
  rfl

theorem exec_msixEnableChange_off (h : s.msixOn = true) :
    let u := { s.wr F.EPT_STATUS_MSIX 0 with ept := { s.ept with pba := [] } }
    let v := s.ept.pba.foldl (fun t v => if t.pend.testBit v = true then t else t.setPend (t.pend + 2 ^ v)) u
    exec (.msixEnableChange false) s = .next (v.settleLine.raise 821 0x9400).atOnce := by
  show settled (actMsixEnableChange false s) = _
  rw [actMsixEnableChange, h]
  rfl

theorem exec_msixEnableChange_same : exec (.msixEnableChange s.msixOn) s = .next s.atOnce :=
  congrArg settled (if_pos (beq_self_eq_true _))

/-! Identifiers of configuration space (R422, R424). -/

theorem exec_configurationRequest_recovering {req : CfgReq} (h : s.stage = 0xE) :
    exec (.configurationRequest req) s = .next (s.configure req).carryOn :=
  congrArg Host.Outcome.next (if_pos (by simp [recovering, h]))

/-- The doubleword at offset 0 is the identifiers. -/
theorem configure_readId : s.configure (.read 0) = s.emit (.cfgData 0 s.idWord) := rfl

theorem idWord_recovering (h : s.stage = 0xE) : s.idWord = 0x1F7C + 0x10000 * 0x7F32 :=
  if_pos (by rw [recovering, h]; rfl)

theorem idWord_unassigned (hr : s.ready = true) (h : s.rd F.EPT_ID_VENDOR = 0x0000 ∨ s.rd F.EPT_ID_VENDOR = 0xFFFF) :
    s.idWord = 0x1F7C + 0x10000 * 0x0032 :=
  (if_neg (by rw [recovering_of_ready hr]; decide)).trans (if_pos (by simpa using h))

theorem idWord_assigned (hr : s.ready = true) (h0 : s.rd F.EPT_ID_VENDOR ≠ 0x0000) (hF : s.rd F.EPT_ID_VENDOR ≠ 0xFFFF) :
    s.idWord = s.rd F.EPT_ID_VENDOR + 0x10000 * s.rd F.EPT_ID_DEVICE :=
  (if_neg (by rw [recovering_of_ready hr]; decide)).trans (if_neg (by simp [h0, hF]))

end Sys2Proof.Machine.State

section
open Sys2Proof.Machine Sys2Proof.Machine.State

/-! ### The statements of spec/14_steward_endpoint.md on MSI-X Enable and identifiers -/

/-- Settles O52: `settleLine_msixEnabled` is what the line does on the way to 1. -/
theorem msixEnableMovesPendingVectors : Obligations.MsixEnableMovesPendingVectors := fun _ ⟨hregs, _⟩ =>
  ⟨fun hoff => ⟨exec_msixEnableChange_on hoff, settleLine_msixEnabled hregs⟩, exec_msixEnableChange_off, exec_msixEnableChange_same⟩

/-- Settles O51: a read at offset 0 shows `idWord`, whose cases are R424's and, in recovery mode, those of R422's table. -/
theorem unassignedVendorIsReplaced : Obligations.UnassignedVendorIsReplaced := by
  refine fun s => ⟨fun hr h => ?_, fun hr h0 hF => ?_, fun h => ?_⟩
  · rw [exec_configurationRequest_ready hr, configure_readId, idWord_unassigned hr h]
  · rw [exec_configurationRequest_ready hr, configure_readId, idWord_assigned hr h0 hF]
  · rw [exec_configurationRequest_recovering h, configure_readId, idWord_recovering h]
end

/-! ### Vendor commands of cox

What a signed command comes to by whether its proof stands (R456), and the rows that are no signed command (R455, R457 to R460, R465, R470,
R471).
-/

namespace Sys2Proof.Machine.State

variable {s t : State} {sig : SigBlock} {c : Instr} {act busy : State → State} {r : Host.Outcome State Fault Refusal}
  {ask : Host.Outcome State Fault Refusal → Host.Outcome State Fault Refusal}

/-- The outcome of a row that is a request, where it is served and answers `t`. -/
theorem exec_served_of (h : exec c s = settled (ask r)) (hask : ask = s.asked busy) (hruns : s.ev.coxRuns = true)
    (hroom : s.canHold 15 askOwner 1 = true) (hr : r = .next t) : exec c s = .next t.atOnce := by
  subst hr
  exact exec_served h hask hruns hroom

/-! Signed commands (R456). -/

@[simp] theorem spend_roll : (s.spend sig).cox.roll = s.cox.roll := rfl

theorem signed_proven (h : s.signedOk sig = true) : s.signed sig act = act (s.spend sig) := if_pos h

theorem signed_unproven (h : s.signedOk sig = false) : s.signed sig act = ((s.spend sig).vendor vDenied).raise 908 0x0000 :=
  if_neg (Bool.eq_false_iff.mp h)

section
variable (hruns : s.ev.coxRuns = true) (hroom : s.canHold 15 askOwner 1 = true)
include hruns hroom

/-- A signed command whose proof stands acts on the state in which its challenge is spent. -/
theorem exec_proven (h : exec c s = settled (s.askVendor r)) (hr : r = .next (s.signed sig act)) (hok : s.signedOk sig = true) :
    exec c s = .next (act (s.spend sig)).atOnce := by
  rw [exec_served_of h rfl hruns hroom hr, signed_proven hok]

/-- One whose proof does not stand is denied with EV0908. -/
theorem exec_unproven (h : exec c s = settled (s.askVendor r)) (hr : r = .next (s.signed sig act)) (hbad : s.signedOk sig = false) :
    exec c s = .next (((s.spend sig).vendor vDenied).raise 908 0x0000).atOnce := by
  rw [exec_served_of h rfl hruns hroom hr, signed_unproven hbad]

/-- As `exec_proven`, for a row that lets the data path go on itself. -/
theorem exec_proven_onward (h : exec c s = s.askVendor (.next (s.signed sig act))) (hok : s.signedOk sig = true) :
    exec c s = .next (act (s.spend sig)) := by
  rw [h, askVendor, asked_served hruns hroom, signed_proven hok]

theorem exec_unproven_onward (h : exec c s = s.askVendor (.next (s.signed sig act))) (hbad : s.signedOk sig = false) :
    exec c s = .next (((s.spend sig).vendor vDenied).raise 908 0x0000) := by
  rw [h, askVendor, asked_served hruns hroom, signed_unproven hbad]

/-! Rows that are no signed command (R455). -/

theorem exec_logRead_count {first count : Nat} : exec (.logRead first count) s = .next
    (if (count = 0 || 256 < count) = true then s.vendor vInvalid else s.vendor vOk
      (((s.cox.log.reverse.filter fun r => first ≤ r.seq).take count).flatMap fun r =>
        [r.seq, r.time, r.start, r.kind, r.sev, r.flags, r.heat] ++ r.payload)).atOnce := by
  show settled (actLogRead first count s) = _
  rw [actLogRead, askVendor, asked_served hruns hroom, ← apply_ite Host.Outcome.next]
  rfl

/-- A bay that is not under sanitize shows progress 0. -/
theorem exec_sanitizeStatus : exec .sanitizeStatus s = .next (s.vendor vOk ((List.range 32).map fun b =>
    ((s.cox.sanitizing.find? (·.1 == b)).map (·.2)).getD 0)).atOnce := by
  rw [exec_served (c := .sanitizeStatus) rfl rfl hruns hroom]
  refine congrArg (fun l => Host.Outcome.next (s.vendor vOk l).atOnce) (List.map_congr_left fun b _ => ?_)
  cases s.cox.sanitizing.find? (·.1 == b) <;> rfl

/-! Signed commands whose proof stands (R458 to R460, R465, R470). -/

section
variable (hok : s.signedOk sig = true)
include hok

theorem exec_slotFill_proven {slot digest : Nat} :
    let u := s.spend sig
    let f := { u with fuses := { u.fuses with slots := u.fuses.slots.set slot digest } }
    exec (.slotFill sig slot digest) s = .next (
      if 3 < slot then u.vendor vInvalid
      else if s.fuses.slots.getD slot 0 ≠ 0 then u.vendor vRefused
      else ((f.logFuse 0x03 slot 0).vendor vOk).raise 905 0x0000).atOnce := by
  intro u f
  rw [exec_proven (c := .slotFill sig slot digest) hruns hroom rfl rfl hok]
  rfl

/-- SLOT_REVOKE is refused for the key slot of the active image and for the last live slot. -/
theorem exec_slotRevoke_proven {slot : Nat} :
    let u := s.spend sig
    let f := { u with fuses := { u.fuses with revoked := u.fuses.revoked.set slot true } }
    exec (.slotRevoke sig slot) s = .next (
      if 3 < slot then u.vendor vInvalid
      else if (s.activeCopy.map (fun c => Image.keyslot s.boot.nor (s.copyBase c)) = some slot || s.liveSlots = [slot]) = true then
        u.vendor vRefused
      else ((f.logFuse 0x04 slot 0).vendor vOk).raise 906 0x0000).atOnce := by
  intro u f
  rw [exec_proven (c := .slotRevoke sig slot) hruns hroom rfl rfl hok]
  rfl

section
variable {id nonce wrapped kek : Nat} {ok : Bool} (hid : id ≤ 3) (hnonce : nonce < 2 ^ 96) (hwrapped : wrapped < 2 ^ 256)
include hid hnonce hwrapped

theorem exec_kekLoad_proven :
    let u := s.spend sig
    let v := if s.cox.kekClears.contains id = true then u.kekCleared id else u
    exec (.kekLoad sig id nonce wrapped ok kek) s = .next (
      if s.fuses.ktk.isNone = true then u.vendor vRefused
      else if (!ok) = true then u.vendor vDenied
      else (({ v with cox := { v.cox with
        keks := v.cox.keks.filter (fun (e : Nat × Nat) => e.1 != id) ++ [(id, kek)] } } : State).syncKek.vendor vOk).raise 907 0x0000).atOnce := by
  intro u v
  rw [exec_proven (c := .kekLoad sig id nonce wrapped ok kek) hruns hroom rfl rfl hok,
    if_neg (by simp only [Bool.or_eq_true, decide_eq_true_eq]; omega)]
  rfl

end

theorem exec_kekClear_proven {id : Nat} (hid : id ≤ 3) :
    let u := s.spend sig
    exec (.kekClear sig id) s = .next (
      if s.kekRuns id = true then { u with cox := { u.cox with kekClears := addTo u.cox.kekClears id } } else u.kekCleared id).atOnce := by
  rw [exec_proven (c := .kekClear sig id) hruns hroom rfl rfl hok, if_neg (Nat.not_lt.mpr hid)]
  rfl

theorem exec_sanitize_proven {scope : Bool} {crew action p o pat : Nat} {bays lacks : List Nat} :
    exec (.sanitize sig scope crew bays action p o pat lacks) s =
      .next ((s.spend sig).startSanitize scope crew bays action p o pat lacks).carryOn := by
  rw [exec_proven_onward (c := .sanitize sig scope crew bays action p o pat lacks) hruns hroom rfl hok]

theorem exec_ktkProvision_proven {ktk : Nat} :
    let u := s.spend sig
    exec (.ktkProvision sig true ktk) s = .next (
      if s.fuses.ktk.isSome = true then u.vendor vRefused
      else ((({ u with fuses := { u.fuses with ktk := some ktk } } : State).logFuse 0x09 0 0).vendor vOk).raise 915 0x0000).atOnce := by
  intro u
  rw [exec_proven (c := .ktkProvision sig true ktk) hruns hroom rfl (if_neg (by decide)) hok]
  rfl

/-- ROLL_CANCEL is accepted while an activation runs that is not being undone (R465). -/
theorem exec_rollCancel_running {ok : Bool} {r : Roll} (hr : s.cox.roll = some r) (hback : r.back = false) :
    exec (.rollCancel sig ok) s = .next (((s.spend sig).vendor vOk).rollBack ok).carryOn := by
  rw [exec_proven_onward (c := .rollCancel sig ok) hruns hroom rfl hok, spend_roll, hr]
  exact congrArg Host.Outcome.next (if_neg (Bool.eq_false_iff.mp hback))

theorem exec_rollCancel_idle {ok : Bool} (hr : s.cox.roll = none) :
    exec (.rollCancel sig ok) s = .next ((s.spend sig).vendor vRefused) := by
  rw [exec_proven_onward (c := .rollCancel sig ok) hruns hroom rfl hok, spend_roll, hr]

end

end

/-! The Sanitize Status log page of a bay under sanitize (R471). -/

section
variable {bay progress : Nat} {e : Nat × Nat} (h : s.cox.sanitizing.find? (·.1 == bay) = some e)
include h

theorem sanitizing_any : ¬ (!s.cox.sanitizing.any (·.1 == bay)) = true := by
  rw [← List.isSome_find?, h]
  exact Bool.false_ne_true

variable (hruns : s.ev.coxRuns = true)
include hruns

theorem exec_sanitizePoll_ended {ok : Bool} :
    exec (.sanitizePoll bay progress (some ok)) s = .next (s.sanitizeEnds bay ok).carryOn := by
  show execSanitizePoll bay progress (some ok) s = _
  rw [execSanitizePoll, byCox_runs hruns, if_neg (sanitizing_any h)]

theorem exec_sanitizePoll_running : exec (.sanitizePoll bay progress none) s = .next
    { s with cox := { s.cox with
      sanitizing := s.cox.sanitizing.map fun (e : Nat × Nat) => if e.1 = bay then (bay, progress) else e } } := by
  show execSanitizePoll bay progress none s = _
  rw [execSanitizePoll, byCox_runs hruns, if_neg (sanitizing_any h)]

end

end Sys2Proof.Machine.State

section
open Sys2Proof.Machine Sys2Proof.Machine.State

/-! ### The statements of spec/15_cox_management.md on vendor commands -/

/-- Settles O54: the cases of `exec_slotFill_proven` and `exec_slotRevoke_proven`. The status of a slot number above 3 is log entry 152. -/
theorem keySlotsFillAndRevoke : Obligations.KeySlotsFillAndRevoke := by
  intro sig slot digest s hruns hroom hok
  refine ⟨fun h => ⟨?_, ?_⟩, fun h hempty => ?_, fun h hfilled => ?_, fun h hkeep => ?_, fun h hactive hlast => ?_⟩
  · rw [exec_slotFill_proven hruns hroom hok, if_pos h]
  · rw [exec_slotRevoke_proven hruns hroom hok, if_pos h]
  · rw [exec_slotFill_proven hruns hroom hok, if_neg (Nat.not_lt.mpr h), if_neg (not_not_intro hempty)]
  · rw [exec_slotFill_proven hruns hroom hok, if_neg (Nat.not_lt.mpr h), if_pos hfilled]
  · rw [exec_slotRevoke_proven hruns hroom hok, if_neg (Nat.not_lt.mpr h), if_pos (by simpa using hkeep)]
  · rw [exec_slotRevoke_proven hruns hroom hok, if_neg (Nat.not_lt.mpr h), if_neg (by simp [hactive, hlast])]

/-- Settles O55: a row is a request that `asked` serves, a signed one split by `signedOk`; what it makes of a proof that stands is its lemma
`…_proven`. The statuses of success and of an invalid request are log entry 152; a KEK_CLEAR that waits for an unwrap is R474. -/
theorem vendorCommandsComplete : Obligations.VendorCommandsComplete := by
  intro s hr hb
  refine ⟨fun endpoint => exec_served rfl rfl hr hb, fun first count => ⟨fun h => ?_, fun h1 h256 => ?_⟩, exec_sanitizeStatus hr hb,
    fun sig hbad => ⟨fun slot digest => ⟨exec_unproven hr hb rfl rfl hbad, exec_unproven hr hb rfl rfl hbad⟩,
      fun id nonce wrapped ok kek => ⟨exec_unproven hr hb rfl rfl hbad, exec_unproven hr hb rfl rfl hbad⟩,
      fun scope crew bays action p o pat lacks => exec_unproven_onward hr hb rfl hbad,
      fun ktk => exec_unproven hr hb rfl (if_neg (by decide)) hbad,
      fun ok => exec_unproven_onward hr hb rfl hbad⟩,
    fun sig ktk => exec_served_of rfl rfl hr hb (if_pos (by decide)),
    fun sig hok => ⟨fun id nonce wrapped kek hid hnonce hwrapped => ⟨fun hktk hclear => ?_, fun hktk => ?_, fun hktk ok => ?_⟩,
      fun id hid => ⟨fun hidle => ?_, fun hbusy => ?_⟩,
      fun scope crew bays action p o pat lacks => exec_sanitize_proven hr hb hok,
      fun ktk => ⟨fun hktk => ?_, fun hktk => ?_⟩,
      fun ok => ⟨fun r hroll hback => exec_rollCancel_running hr hb hok hroll hback,
        fun hroll => exec_rollCancel_idle hr hb hok hroll⟩⟩,
    fun bay progress ended e h => ⟨fun ok hended => hended ▸ exec_sanitizePoll_ended h hr,
      fun hended => hended ▸ exec_sanitizePoll_running h hr⟩⟩
  · rw [exec_logRead_count hr hb, if_pos (by simpa using h)]
  · rw [exec_logRead_count hr hb, if_neg (by simp; omega)]
  · rw [exec_kekLoad_proven hr hb hok hid hnonce hwrapped, if_neg (by simpa [Option.isSome_iff_ne_none] using hktk),
      if_neg (by decide), if_neg (by simpa using hclear)]
  · rw [exec_kekLoad_proven hr hb hok hid hnonce hwrapped, if_neg (by simpa [Option.isSome_iff_ne_none] using hktk),
      if_pos (by decide)]
  · rw [exec_kekLoad_proven hr hb hok hid hnonce hwrapped, if_pos (by rw [hktk]; rfl)]
  · rw [exec_kekClear_proven hr hb hok hid, if_neg (Bool.eq_false_iff.mp hidle)]
  · rw [exec_kekClear_proven hr hb hok hid, if_pos hbusy]
  · rw [exec_ktkProvision_proven hr hb hok, if_neg (by rw [hktk]; decide)]
  · rw [exec_ktkProvision_proven hr hb hok, if_pos hktk]
end

/-! ### Firmware update and the rolling activation

What each stage of an update comes to, and the end of an engine's swap and of the probation (R444, R461 to R466, R474, R509).
-/

namespace Sys2Proof.Machine.State

variable {s t : State}

section
variable (hruns : s.ev.coxRuns = true) (hroom : s.canHold 15 askOwner 1 = true)
include hruns hroom

/-! REQUEST_UPDATE and UPDATE_COMPONENT (R444, R461, R474). -/

theorem exec_requestUpdate_free {a : Nat} (h : s.cox.agent = none) : exec (.requestUpdate a) s = .next
    ((({ s.dropStage with cox := { s.dropStage.cox with agent := some a } } : State).setUpd 1).pldm 0x00).atOnce :=
  exec_served_of rfl rfl hruns hroom (by rw [h])

/-- One update at a time. -/
theorem exec_requestUpdate_taken {a b : Nat} (h : s.cox.agent = some b) (hne : a ≠ b) :
    exec (.requestUpdate a) s = .next (s.pldm 0x04).atOnce :=
  exec_served_of rfl rfl hruns hroom (by rw [h]; exact if_neg hne.symm)

theorem exec_updateComponent_agent {a stamp size : Nat} (h : s.cox.agent = some a) : exec (.updateComponent a stamp size) s = .next
    (if (stamp = (s.activeSequence + 1) % 2 ^ 32 && size ≤ s.longestImage) = true then (s.logUpdate 0 0).pldm 0x00 [0]
      else s.pldm 0x00 [1]).atOnce :=
  exec_served_of rfl rfl hruns hroom (by rw [if_neg (not_not_intro h), apply_ite Host.Outcome.next])

/-! TRANSFER_COMPLETE (R461, R185). -/

section
variable {image : List (Nat × Nat)} {a : Nat} (hagent : s.cox.agent = some a) (hstate : s.rd F.COX_UPD_STATE = 1)
include hagent hstate

theorem exec_transferComplete_staged (h : s.dropStage.takeBuffers 15 stageOwner (buffersFor (imageBytes image)) = (t, true)) :
    let c : Cells := image.foldl (fun c kv => c.put 0xFF kv.1 (kv.2 % 256)) []
    exec (.transferComplete image) s = .next ((({ t with cox := { t.cox with staged := c } } : State).setUpd 2).pldm 0x00).atOnce :=
  exec_served_of rfl rfl hruns hroom (by rw [if_neg (by simp [hagent, hstate]), h]; rfl)

theorem exec_transferComplete_noRoom (h : s.dropStage.takeBuffers 15 stageOwner (buffersFor (imageBytes image)) = (t, false)) :
    exec (.transferComplete image) s = .next (t.pldm 0x04).atOnce :=
  exec_served_of rfl rfl hruns hroom (by rw [if_neg (by simp [hagent, hstate]), h]; rfl)

end

/-! VERIFY_COMPLETE and APPLY_COMPLETE (R462). -/

theorem exec_verifyComplete_due {facts : CopyFacts} (h : s.rd F.COX_UPD_STATE = 2) : exec (.verifyComplete facts) s = .next (
    if (Image.check s.cox.staged 0 s.longestImage s.fuses facts = 0 && Image.sequence s.cox.staged 0 = s.activeSequence + 1) = true then
      ((((({ s with cox := { s.cox with stagedOk := true } } : State).setUpd 3).logUpdate 1 0).pldm 0x00 [0]).raise 900 0x0000)
    else (s.updateFails 1).pldm 0x00 [1]).atOnce :=
  exec_served_of rfl rfl hruns hroom (by rw [if_neg (not_not_intro h), apply_ite Host.Outcome.next])

theorem exec_applyComplete_due {facts : CopyFacts} (h : s.rd F.COX_UPD_STATE = 3) (hstaged : s.cox.stagedOk = true) :
    let c := s.inactiveCopy
    let u := s.programStaged c
    exec (.applyComplete facts) s = .next (
      if Image.check u.boot.nor (u.copyBase c) u.longestImage u.fuses facts = 0 then ((u.setUpd 4).logUpdate 2 0).pldm 0x00 [0]
      else ((u.eraseHeader c).updateFails 2).pldm 0x00 [1]).atOnce :=
  exec_served_of rfl rfl hruns hroom (by rw [if_neg (by simp [h, hstaged]), apply_ite Host.Outcome.next])

/-! ACTIVATE_FIRMWARE (R463, R464). -/

/-- An activation at the next start ends the update. -/
theorem exec_activateFirmware_deferred {a b : Nat} (h : s.rd F.COX_UPD_STATE = 4) : exec (.activateFirmware false a b) s = .next
    ((({ s with cox := { s.cox with agent := none } } : State).setUpd 0).dropStage.pldm 0x00).atOnce :=
  exec_served_of rfl rfl hruns hroom (by rw [if_neg (not_not_intro h)]; rfl)

/-- A roll begins where every condition of R463 holds. -/
theorem exec_activateFirmware_rolls {a b : Nat} (h : s.rd F.COX_UPD_STATE = 4) (hready : s.ready = true)
    (hpfail : s.rd F.HMP_PFAIL_STATE = 0) (hfault : s.seriousFault = false) (hspares : s.spares ≠ [])
    (hversion : s.ucField s.inactiveCopy 0 4 ≤ s.cox.ucVersion)
    (htwin : s.rd F.TWN_STATUS_STATE ≠ 2 ∨ a ∈ [s.ucField s.inactiveCopy 4 2, s.ucField s.inactiveCopy 6 2] ∨
      b ∈ [s.ucField s.inactiveCopy 4 2, s.ucField s.inactiveCopy 6 2]) :
    let u := { s with cox := { s.cox with roll := some ⟨s.inactiveCopy, s.spares, none, false⟩ } }
    exec (.activateFirmware true a b) s = .next
      (((((u.setUpd 5).wr F.COX_UPD_SWAPPED 0).logActivate s.inactiveCopy 1 0).pldm 0x00).raise 902 0x0000).atOnce := by
  refine exec_served_of rfl rfl hruns hroom ?_
  rw [if_neg (not_not_intro h)]
  refine (if_neg (by decide)).trans (if_pos ?_)
  have hshare : s.rd F.TWN_STATUS_STATE ≠ 2 ∨
      ∃ v ∈ [s.ucField s.inactiveCopy 4 2, s.ucField s.inactiveCopy 6 2], v = a ∨ v = b := by
    rcases htwin with h | h | h
    · exact .inl h
    · exact .inr ⟨a, h, .inl rfl⟩
    · exact .inr ⟨b, h, .inr rfl⟩
  simp only [hready, hpfail, hfault, hversion, List.isEmpty_eq_false_iff.mpr hspares, decide_true, Bool.not_false, Bool.and_self,
    Bool.true_and, Bool.or_eq_true, bne_iff_ne, List.any_eq_true, beq_iff_eq]
  exact hshare

end

/-! ENGINE_SWAP_COMPLETE and PROBATION_END (R464, R466, R499, R509). -/

section
variable {r : Roll} {e : Nat} (hr : s.cox.roll = some r) (he : r.leaving = some e) (hback : r.back = false)
include hr he hback

/-- An engine whose load passes its check becomes a spare. -/
theorem exec_engineSwapComplete_passed :
    let swapped : Roll := { r with leaving := none, newEngines := addTo r.newEngines e }
    let u := { s with cox := { s.cox with roll := some swapped } }.bump F.COX_UPD_SWAPPED
    exec (.engineSwapComplete true) s = .next (((u.logActivate r.copy 3 0).logActivate r.copy 4 0).setEngine e false true).atOnce := by
  show settled (actEngineSwapComplete true s) = _
  rw [actEngineSwapComplete, hr]
  dsimp only
  rw [he, hback]
  rfl

/-- One whose load fails it leaves the pool. -/
theorem exec_engineSwapComplete_failed :
    let kept : Roll := { r with leaving := none }
    let v := { s with cox := { s.cox with roll := some kept } }.bump F.COX_UPD_SWAPPED
    exec (.engineSwapComplete false) s = .next
      (warnSpares (s.spares.length + 1) (((v.logActivate r.copy 3 0).logActivate r.copy 4 1).raise 928 (0x1000 + e))).atOnce := by
  show settled (actEngineSwapComplete false s) = _
  rw [actEngineSwapComplete, hr]
  dsimp only
  rw [he, hback]
  rfl

end

theorem exec_probationEnd_due {r : Roll} (hr : s.cox.roll = some r) (h : s.rd F.COX_UPD_STATE = 6) :
    let u := { s with cox := { s.cox with roll := none, agent := none, ucVersion := s.versionIn r.copy 2 } }.dropStage
    exec .probationEnd s = .next ((((((u.wr F.BOOT_STATUS_ACTIVE (r.copy + 1)).wr F.COX_UPD_RUNCOPY (r.copy + 1)).wr F.COX_UPD_PEND 1).setUpd
      0).logActivate r.copy 6 0).raise 903 0x0000).atOnce := by
  show settled (actProbationEnd s) = _
  rw [actProbationEnd, hr]
  exact congrArg settled (if_pos h)

end Sys2Proof.Machine.State

section
open Sys2Proof.Machine Sys2Proof.Machine.State

/-! ### The statement of spec/15_cox_management.md on updates -/

/-- Settles O57: one lemma for each stage of an update and of a roll. The number of buffers that the staged image takes is log entry 138, and
the ACTIVATE records of phases 3 and 4 are log entry 156. -/
theorem updateCommandsComplete : Obligations.UpdateCommandsComplete := by
  intro s hr hb
  refine ⟨fun a hnone => exec_requestUpdate_free hr hb hnone, fun a b hagent hne => exec_requestUpdate_taken hr hb hagent hne,
    fun a stamp size hagent => ⟨fun hstamp hsize => ?_, fun hbad => ?_⟩,
    fun image a hagent hstate => ⟨fun t ht => exec_transferComplete_staged hr hb hagent hstate ht,
      fun t ht => exec_transferComplete_noRoom hr hb hagent hstate ht⟩,
    fun facts hstate => ⟨fun hcheck hseq => ?_, fun hbad => ?_⟩,
    fun facts hstate hstaged => ⟨fun hcheck => ?_, fun hbad => ?_⟩,
    fun a b hstate => ⟨exec_activateFirmware_deferred hr hb hstate, fun hready hpfail hfault hspares hversion htwin =>
      exec_activateFirmware_rolls hr hb hstate hready hpfail hfault hspares hversion htwin⟩,
    fun r e hroll hleaving hback =>
      ⟨exec_engineSwapComplete_passed hroll hleaving hback, exec_engineSwapComplete_failed hroll hleaving hback⟩,
    fun r hroll hstate => exec_probationEnd_due hroll hstate⟩
  · rw [exec_updateComponent_agent hr hb hagent, if_pos (by simp [hstamp, hsize])]
  · rw [exec_updateComponent_agent hr hb hagent, if_neg (by simp only [Bool.and_eq_true, decide_eq_true_eq]; omega)]
  · rw [exec_verifyComplete_due hr hb hstate, if_pos (by simp [hcheck, hseq])]
  · rw [exec_verifyComplete_due hr hb hstate, if_neg (by simpa [← not_and_or] using hbad)]
  · rw [exec_applyComplete_due hr hb hstate hstaged, if_pos hcheck]
  · rw [exec_applyComplete_due hr hb hstate hstaged, if_neg hbad]
end

/-! ### Attestation

What a request for measurements is answered with (R469).
-/

namespace Sys2Proof.Machine.State

variable {s : State} {q index nonce : Nat} {signed : Bool}

section
variable (hruns : s.ev.coxRuns = true) (hroom : s.canHold 15 askOwner 1 = true)
include hruns hroom

/-- Measurement blocks 1 to 7 are answered one at a time, signed where that is asked for. -/
theorem exec_getMeasurements_block (h1 : 1 ≤ index) (h7 : index ≤ 7) : exec (.getMeasurements q index signed nonce) s = .next (
    if signed = true then
      (s.spdmAnswer q 0x60 [s.measure index, s.fresh, Config.cryptoValue 3 (s.measure index) nonce s.fresh]).tick
    else s.spdmAnswer q 0x60 [s.measure index]).atOnce := by
  refine exec_served_of rfl rfl hruns hroom ?_
  rw [if_neg (by omega : index ≠ 0), if_neg (by omega : index ≠ 0xFF), if_pos h7]
  exact (if_neg Bool.false_ne_true).trans (apply_ite Host.Outcome.next _ _ _).symm

/-- There is no block above 7; 0xFF asks for all of them. -/
theorem exec_getMeasurements_unknown (h7 : 7 < index) (hall : index ≠ 0xFF) :
    exec (.getMeasurements q index signed nonce) s = .next (s.spdmAnswer q 0x7F [0x01]).atOnce := by
  refine exec_served_of rfl rfl hruns hroom ?_
  rw [if_neg (by omega : index ≠ 0), if_neg hall, if_neg (Nat.not_le.mpr h7)]
  rfl

end

end Sys2Proof.Machine.State

section
open Sys2Proof.Machine Sys2Proof.Machine.State

/-! ### The statement of spec/15_cox_management.md on attestation -/

/-- Settles O58: each row is a request that `asked` serves. The SPDM response and error codes are those of log entry 88, and the digests,
certificates and signatures are the values of log entry 71. -/
theorem spdmCommandsComplete : Obligations.SpdmCommandsComplete := by
  refine fun q s hr hb => ⟨exec_served rfl rfl hr hb, exec_served rfl rfl hr hb, exec_served rfl rfl hr hb, exec_served rfl rfl hr hb,
    exec_served rfl rfl hr hb, fun nonce => exec_served rfl rfl hr hb,
    fun slot nonce hslot => ⟨?_, ?_⟩,
    fun nonce => ⟨exec_served rfl rfl hr hb, exec_served rfl rfl hr hb,
      fun i h1 h7 => ⟨exec_getMeasurements_block hr hb h1 h7, exec_getMeasurements_block hr hb h1 h7⟩,
      fun i sg h7 hall => exec_getMeasurements_unknown hr hb h7 hall⟩⟩
  · rw [exec_served (c := .getCertificate q slot) rfl rfl hr hb, if_neg hslot]
  · rw [exec_served (c := .challenge q slot nonce) rfl rfl hr hb, if_neg hslot]
end

/-! ### Temperatures, handlings and the test port

The sensors' warning (R450, R451), the end of a handling (R489), and the boundary instructions while SYS_RST_N is low (R529).
-/

namespace Sys2Proof.Machine.State

variable {s : State}

/-! Sensor readings (R450, R451). -/

section
variable {die : List Int} {a b : Nat} (hruns : s.ev.coxRuns = true)
include hruns

/-- No reading reaches WARN, or the last warning is less than 60 s old. -/
theorem exec_sensorRead_quiet
    (h : (∀ t ∈ die, t < (s.ef F.COX_THERM_WARN : Int)) ∨ (∃ t, s.cox.warned = some t ∧ s.now < t + 60000000000)) :
    exec (.sensorRead die a b) s = .next (((s.storeTemps die).wr F.COX_HBMT_HB0 a).wr F.COX_HBMT_HB1 b).atOnce := by
  show settled (actSensorRead die a b s) = _
  rw [actSensorRead, byCox_runs hruns]
  refine congrArg settled (if_neg ?_)
  rcases h with hcool | ⟨t, hwarned, hrecent⟩
  · have hnone : (die.any fun t => (s.ef F.COX_THERM_WARN : Int) ≤ t) = false := by simpa using hcool
    rw [hnone]
    exact Bool.false_ne_true
  · simp [hwarned, Nat.not_le.mpr hrecent]

/-- A reading reaches WARN, and no warning of the last 60 s stands. -/
theorem exec_sensorRead_warns (hhot : ∃ t ∈ die, (s.ef F.COX_THERM_WARN : Int) ≤ t)
    (hdue : ∀ t, s.cox.warned = some t → t + 60000000000 ≤ s.now) :
    let u := ((s.storeTemps die).wr F.COX_HBMT_HB0 a).wr F.COX_HBMT_HB1 b
    exec (.sensorRead die a b) s =
      .next (({ u with cox := { u.cox with warned := some s.now } } : State).raise 912 0x0000).atOnce := by
  have hany : (die.any fun t => (s.ef F.COX_THERM_WARN : Int) ≤ t) = true := by simpa using hhot
  show settled (actSensorRead die a b s) = _
  rw [actSensorRead, byCox_runs hruns, hany]
  refine congrArg settled (if_pos ?_)
  cases hw : s.cox.warned with
  | none => simp only [Bool.and_self]
  | some t =>
    simp only [Bool.true_and, decide_eq_true_eq]
    exact hdue t hw

end

/-! Handlings (R489). -/

theorem does_evtFqDone {tag : Nat} : Does (.evtFqDone tag) s (∃ e ∈ s.ev.hand, e.tag = tag)
    ({ s with ev := { s.ev with hand := s.ev.hand.filter fun (e : FqEntry) => e.tag != tag } } : State).beginQueued :=
  (does_of_ite rfl).congr (by simp only [List.any_eq_true, beq_iff_eq])

theorem exec_handlingTimeout_none (h : s.ev.hand = []) : exec .handlingTimeout s = .next s := by
  show execHandlingTimeout s = _
  rw [execHandlingTimeout, h]

theorem exec_handlingTimeout_some {e : FqEntry} {rest : List FqEntry} (h : s.ev.hand = e :: rest) :
    exec .handlingTimeout s = .next ((s.endHandling e.tag).raise 58 0xF000).carryOn := by
  show execHandlingTimeout s = _
  rw [execHandlingTimeout, h]

end Sys2Proof.Machine.State

section
open Sys2Proof.Machine Sys2Proof.Machine.State

/-! ### The statement on temperatures, handlings, counters and the test port (spec/16_events_faults_counters.md) -/

/-- Settles O59: the counters and the test port do what their arms say; sensors and handlings have a lemma each. That BYPASS and CLAMP
capture 0, and what SAMPLE/PRELOAD and EXTEST capture, is log entry 102; that warnings lie a minute of elapsed time apart is log entry 38. -/
theorem eventAndTestPortCommandsComplete : Obligations.EventAndTestPortCommandsComplete := by
  refine ⟨fun sensor celsius s => (does_of_ite rfl).congr ?_,
    fun die a b s hr => ⟨exec_sensorRead_quiet hr, exec_sensorRead_warns hr⟩, fun tag s => does_evtFqDone,
    fun s => ⟨exec_handlingTimeout_none, fun e rest => exec_handlingTimeout_some⟩, fun s => ⟨rfl, rfl, rfl⟩,
    fun s => ⟨rfl, rfl, rfl, fun hlow => ⟨settled_of_eq (if_pos hlow), settled_of_eq (if_pos hlow)⟩, fun hhigh => ?_⟩⟩
  · rw [Bool.and_eq_true, decide_eq_true_iff, decide_eq_true_iff]
  · have hlow := Bool.eq_false_iff.mp hhigh
    exact ⟨settled_of_eq (if_neg hlow), settled_of_eq (if_neg hlow)⟩
end

/-! ### Spares, repairs and service life

What a spare's self-check, an engine's fault, an HBM row's repair and an interval of service life come to (R499 to R508).
-/

namespace Sys2Proof.Machine.State

variable {s : State}

/-! Stroke engines (R499 to R501). -/

theorem exec_spareSelfCheck_passes {e : Nat} : exec (.spareSelfCheck e true) s = .next s.atOnce := by
  show settled (actSpareSelfCheck e true s) = _
  rw [actSpareSelfCheck, Bool.not_true, Bool.and_false]
  rfl

section
variable {e : Nat} (he : e < 96)
include he

/-- A spare that fails its check leaves the pool. -/
theorem exec_spareSelfCheck_fails (h : s.isSpare e = true) : exec (.spareSelfCheck e false) s = .next
    (warnSpares s.spares.length ((s.setEngine e false false).raise 928 (0x1000 + e))).atOnce := by
  show settled (actSpareSelfCheck e false s) = _
  rw [actSpareSelfCheck, if_pos (by simp [he, h])]
  rfl

/-- With no activation running, a faulty engine leaves service and nothing is rolled back. -/
theorem exec_engineFault_noRoll {ok : Bool} (h : s.inService e = true) (hroll : s.cox.roll = none)
    (hroll' : (s.engineFails e).cox.roll = none) : exec (.engineFault e ok) s = .next (s.engineFails e).carryOn := by
  show execEngineFault e ok s = _
  rw [execEngineFault, if_neg (by simp [he, h]), hroll]
  dsimp only
  rw [hroll']
  rfl

end

/-! Repairs (R505 to R507). -/

theorem exec_sramSoftRepair_noCore {array row n : Nat} {isRow unc many ok : Bool} {use : ArrayUse} (h : array < 256) :
    exec (.sramSoftRepair array row isRow use n none unc many ok) s = .next (s.repairArray array row isRow use n).carryOn :=
  congrArg Host.Outcome.next (if_neg (Nat.not_le.mpr h))

section
variable {stack bank row mib : Nat}

/-- A row is repaired while the table has room for it. -/
theorem exec_hbmRowRepair_room (h : s.fuses.hbmRepairs.length < 64) :
    let u := { s with fuses := { s.fuses with hbmRepairs := s.fuses.hbmRepairs ++ [(stack, bank, row)] } }
    exec (.hbmRowRepair stack bank row mib true) s = .next
      ((u.wr F.SPR_REPAIR_HBM_FREE (63 - s.fuses.hbmRepairs.length)).raise 937 (0xB000 + stack)).atOnce := by
  intro u
  have hfree : 64 - u.fuses.hbmRepairs.length = 63 - s.fuses.hbmRepairs.length := by
    simp only [u, List.length_append, List.length_singleton]
    omega
  show settled (actHbmRowRepair stack bank row mib true s) = _
  rw [actHbmRowRepair, if_pos (by simp [h]), ← hfree]
  rfl

/-- A row that is not repaired and lies in no hamper retires nothing (log entry 137). -/
theorem exec_hbmRowRepair_noHamper (h : s.hamperAt mib = none) :
    exec (.hbmRowRepair stack bank row mib false) s = .next (s.raise 938 (0xB000 + stack)).atOnce := by
  show settled (actHbmRowRepair stack bank row mib false s) = _
  rw [actHbmRowRepair, h]
  rfl

theorem exec_hbmRowRepair_retires {hamper : Nat} (h : s.hamperAt mib = some hamper) :
    exec (.hbmRowRepair stack bank row mib false) s = .next
      ((({ s with spr := { s.spr with retired := s.spr.retired ++ [hamper] } } : State).showUse hamper).raise 938
        (0xB000 + stack)).atOnce := by
  show settled (actHbmRowRepair stack bank row mib false s) = _
  rw [actHbmRowRepair, h]
  rfl

end

/-! Service life (R508). -/

/-- Life used is saturated at 100 % and says so once, where it passes 90 %. -/
theorem exec_lifeUpdate {temp ms : Nat} :
    let acc := s.spr.lifeRest + ms * 10000 * 50 * 10 ^ 12 / (life50 temp * yearMs)
    let old := s.rd F.SPR_LIFE_USED
    let new := min 10000 (old + acc / 10 ^ 12)
    let u := { s with spr := { s.spr with lifeRest := acc % 10 ^ 12 } }.wr F.SPR_LIFE_USED new
    exec (.lifeUpdate temp ms) s = .next (if (old ≤ 9000 && 9000 < new) = true then u.raise 940 0x0000 else u).atOnce := rfl

end Sys2Proof.Machine.State

section
open Sys2Proof.Machine Sys2Proof.Machine.State

/-! ### The statement of spec/17_spares_and_service_life.md -/

/-- Settles O60: a lemma for each row that is more than one choice. That a row in no hamper retires nothing is log entry 137, and the
median of an even number of readings is log entry 39. -/
theorem spareAndLifeCommandsComplete : Obligations.SpareAndLifeCommandsComplete := by
  refine ⟨fun readings s => rfl, fun e s he hspare => ⟨exec_spareSelfCheck_passes, exec_spareSelfCheck_fails he hspare⟩,
    fun e ok s he hin hroll hroll' => exec_engineFault_noRoll he hin hroll hroll',
    fun p d s => (does_of_ite rfl).congr ?_,
    fun array row isRow use n unc many ok s h => exec_sramSoftRepair_noCore h,
    fun stack bank row mib s => ⟨exec_hbmRowRepair_room, exec_hbmRowRepair_noHamper, fun h hh => exec_hbmRowRepair_retires hh⟩,
    fun temp ms s => ⟨fun hold hnew => ?_, fun hno => ?_⟩⟩
  · simp only [Bool.and_eq_true, decide_eq_true_eq, Bool.not_eq_true', and_assoc]
  · rw [exec_lifeUpdate, if_pos (by rw [decide_eq_true hold, decide_eq_true hnew]; rfl)]
  · rw [exec_lifeUpdate, if_neg (by simp only [Bool.and_eq_true, decide_eq_true_eq]; omega)]
end
